-- ==== Sys2Proof/Word.lean ====
section
/-! DEFINITION. The plainest types of the block: bytes, register words, instants, unit numbers. -/

namespace Sys2Proof

/-- One byte of a message, a register table or a record (R6). -/
abbrev Byte := BitVec 8

/-- A byte string in increasing offset order. -/
abbrev Bytes := List Byte

/-- A BAR0 register is 32 bits wide (R302). -/
abbrev Word := BitVec 32

/-- An instant or a duration in ns (R9). -/
abbrev Time := Nat

/-- A table of values by unit index, sorted by index; an index that is not listed holds the unit's default. -/
abbrev Map (α : Type) := List (Nat × α)

/-- One microsecond in ns. -/
def us : Nat := 1000

/-- One millisecond in ns. -/
def ms : Nat := 1000000

/-- One second in ns. -/
def sec : Nat := 1000000000

/-- A colour or an RGB sample triple, each component a code. -/
structure Rgb where
  r : Nat
  g : Nat
  b : Nat
  deriving DecidableEq, Repr

/-- The black colour, also the reset background (R167). -/
def Rgb.black : Rgb := { r := 0, g := 0, b := 0 }

end Sys2Proof
end

