-- ==== Sys2Proof/Syntax/Message.lean ====
section
/-! DEFINITION. The Izent message a sender rings a mailbox with, and the names and codes of the commands (R317, R319). -/

namespace Sys2Proof

/-- One Izent message as the W16 fetches it (Table 11-6), with what its transfer meets. The command code is that of the row that carries it.
`data` are the data blocks its descriptors name, in message order, as the W16 reads them (R322), or as they follow in the stream of a network mailbox with the CRC each carries (R315).
`module` is what an optical module returns to a read of it, none where it does not acknowledge (R419). -/
structure Msg where
  magic : Nat := 0x5A49
  version : Nat := 1
  flags : Nat := 0
  length : Nat := 32
  status : Nat := 0
  session : Nat := 0
  sequence : Nat := 0
  tag : Nat := 0
  reserved : Nat := 0
  crc : Nat := 0
  payload : Bytes := []
  data : List Bytes := []
  dataCrc : List Nat := []
  readFails : Bool := false
  writeFails : Bool := false
  module : Option Bytes := none
  deriving DecidableEq, Repr

/-- The commands of the Izent interface, one per code of Tables 12-3 to 12-27. -/
inductive CmdKind where
  | systemIdentify | systemStatus | systemRestart | abort
  | layoutPropose | layoutCommit | layoutStore | layoutStoredCommit | layoutRead
  | streamOpen | streamClose | streamStatus | decodeStatus | sourceSet | sourceStatus
  | windowSet | windowGet | windowStatus | backgroundSet | blendSet | toneProfileSet | toneProfileGet
  | coefSet | coefGet | tileRecordsGet | glyphGet | safetyArm | safetyApply | safetyGet
  | lanternClear | lanternStatus | alertAck
  | headTimingSet | headTimingGet | headStatus | headEdidGet
  | encodeOpen | encodeSet | encodeClose | encodeStatus
  | timeBaseSet | timeSelectSet | timeAccept | timeConfigGet | timeStatus
  | portAddressSet | portAddressGet | laneSet | laneRead | laneModuleRead | mgmtSet
  | touchKeySet | touchModeSet | localActionSet | touchRebaseline | touchRead
  | sessionOpen | sessionClose | sessionList | sessionIdleSet | credentialSet | trustAnchorSet
  | deviceCertGet | doorRulesSet | doorRulesGet | debugUnlock | debugLock
  | updatePlan | updateRun | updateConfirm | updateFallback | updateStatus
  | recorderRead | recorderClear | recorderSubscribe | recorderFlush
  | domainSet | powerCapSet | domainStatus | healthRead
  | scanSubmit | scanResult | lanePrbsSet | lanePrbsRead | dramHashSet
  deriving DecidableEq, Repr

end Sys2Proof
end

