-- ==== Sys2Proof/Syntax/Display.lean ====
section
/-! DEFINITION. Operands of the register accesses and of the events of heads, memory, debug, start-up and repair. -/

namespace Sys2Proof

/-- What meets a register write: the DEV_HEALTH_EVENTS or mailbox status bits that hardware sets in the same cycle (R8), and, for a doorbell, the command code and message that stand in the request buffer. -/
structure WriteAux where
  hits : Nat := 0
  command : Nat := 0
  msg : Msg := {}
  deriving DecidableEq, Repr

/-- What a client sends in a TLS handshake (R313, R457): whether it offers the version, suite, group and scheme that the W16 takes, its share of secp384r1, its CertificateVerify and its Finished; and the hashes of the transcript up to ServerHello, to the W16's Finished, to the client's Certificate and to its CertificateVerify. -/
structure TlsClient where
  offers : Bool := true
  share : Bytes := []
  verify : Bytes := []
  finished : Bytes := []
  hello : Bytes := []
  upToServer : Bytes := []
  upToCert : Bytes := []
  upToVerify : Bytes := []
  deriving DecidableEq, Repr

/-- A block record of a firmware container (Table 19-3). -/
structure CipherBlock where
  cipher : Bytes := []
  tag : Bytes := []
  crc : Nat := 0
  deriving DecidableEq, Repr

/-- What the W16 read of a container: its header and its blocks (Tables 19-2, 19-3). -/
structure ContainerRead where
  header : Bytes := []
  blocks : List CipherBlock := []
  deriving DecidableEq, Repr

/-- An instruction of the test access port (R447, R449). -/
inductive JtagIns where
  | bypass | idcode | sample | extest | clamp | highz
  | halt (engine : Nat) | step (engine : Nat) | resume (engine : Nat)
  | other
  deriving DecidableEq, Repr

/-- A transfer of the debug master (R450). -/
structure DebugAccess where
  address : Nat
  write : Bool
  data : Nat
  deriving DecidableEq, Repr

/-- An edge at SYNC_IN (R211, R546): its direction, the error of its timestamp in ns, and the width of the pulse in ns. -/
structure SyncEdge where
  rising : Bool := true
  error : Int := 0
  width : Nat := 100
  deriving DecidableEq, Repr

/-- What AUX reads at a hot plug (R205): the sink's maximum lanes and link rate in DPCD encoding, whether it takes down-spread, and the EDID. -/
structure SinkInfo where
  maxLanes : Nat := 4
  maxRate : Nat := 0x1E
  ssc : Bool := false
  edid : Bytes := []
  deriving DecidableEq, Repr

/-- A copy that Lantern takes over its own path (R237): a safety window's descriptor, the blend program of a surface's leader, a tone-map profile, a coefficient set, the policies, the palettes. -/
inductive LanternCopy where
  | window (w : Nat)
  | program (leader : Nat)
  | tone (p : Nat)
  | coef (c : Nat)
  | policies
  | palettes
  deriving DecidableEq, Repr

/-- A latch instant of a commit group: its sync generator, and the copies of Lantern's that fail their check there (R37, R237). -/
structure Latch where
  sg : Nat
  bad : List LanternCopy := []
  deriving DecidableEq, Repr

/-- The slice of a CTU row as the engine codes it: its NAL unit with emulation prevention, the CTU columns that are coded intra, and the samples of the reference that the other CTUs' predictions read, interpolation taps included: CTU column, left, top, right and bottom edge (R258, R259). -/
structure CodedSlice where
  nal : Bytes := []
  intra : List Nat := []
  reads : List (Nat × Nat × Nat × Nat × Nat) := []
  deriving DecidableEq, Repr

/-- One CTU row as the engine can code it (R262): at QP_base, at the recode QP, and as the fallback. -/
structure CodedRow where
  base : CodedSlice := {}
  recode : CodedSlice := {}
  fallback : CodedSlice := {}
  deriving DecidableEq, Repr

/-- The coded forms of a picture: the parameter sets, its rows, and CONSUMER as the host ring holds it (R270). -/
structure CodedPicture where
  sets : List Bytes := []
  rows : List CodedRow := []
  consumer : Nat := 0
  deriving DecidableEq, Repr

/-- What a transfer serves, which decides the action of Tables 13-7 and 16-4: a protected word; pixels of a window; a unit of the picture that a context decodes, and one of its areas; the picture of an encode channel; the packet of a context with its extended sequence number; the samples of a line of an ST 2110-20 picture. -/
inductive TransferUse where
  | firmware
  | config (safety : Bool)
  | headTag (window : Nat)
  | lanternTag (window : Nat)
  | concealMap (context slot : Nat)
  | tileRecord (head frame tile : Nat)
  | pixels (window : Nat)
  | decode (context unit area : Nat)
  | encode (channel : Nat)
  | packet (context seq : Nat)
  | samples (context rtp line : Nat)
  | other
  deriving DecidableEq, Repr

/-- A DRAM transfer as its requester issues it (R374, R383): at most 64 bytes, within one 64-byte block, at a privilege level. -/
structure Arrival where
  requester : Nat
  address : Nat
  write : Bool := false
  data : Bytes := []
  level : Nat := 2
  use : TransferUse := .other
  deriving DecidableEq, Repr

/-- What the SECDED code finds in a read (R398, R399). -/
inductive EccResult where
  | clean
  | corrected
  | uncorrectable
  deriving DecidableEq, Repr

/-- What stands before a channel's arbiter at a grant instant: transfers that arrived since the last one, the banks that JESD209-5C's timing or a refresh keeps from starting one, and what a read of a protected region meets. -/
structure GrantInfo where
  arrivals : List Arrival := []
  blocked : List Nat := []
  ecc : EccResult := .clean
  deriving DecidableEq, Repr

/-- What the DRAM scrubber reads: how many blocks, and the errors in them by address, true where they cannot be corrected (R401, R402). -/
structure ScrubFinding where
  blocks : Nat := 1
  errors : List (Nat × Bool) := []
  deriving DecidableEq, Repr

/-- What a start-up step observes (R478): the package temperature in 0.1 °C, whether the step fails; images whose running slot, or other slot, fails R508; channels that do not train and rows that fail; SRAM arrays repaired with the count, decoder engines, scalers and domains that cannot be; journal pages whose CRC fails, by place; whether the copies of the safety configuration and of the security store are authentic. -/
structure StartObs where
  temp : Int := 0
  ok : Bool := true
  badRunning : List Nat := []
  badOther : List Nat := []
  trainFails : List Nat := []
  rowFails : List (Nat × Nat × Nat) := []
  repairs : List (Nat × Nat) := []
  badEngines : List Nat := []
  badScalers : List Nat := []
  badDomains : List Nat := []
  badPages : List Nat := []
  copyA : Bool := true
  copyB : Bool := true
  storeA : Bool := true
  storeB : Bool := true
  deriving DecidableEq, Repr

/-- What the SRAM scrub finds (R496): single-bit errors are corrected; an uncorrectable error fails a decoder engine, a scaler, or lies in another unit. -/
inductive SramFinding where
  | clean
  | engine (index : Nat)
  | scaler (index : Nat)
  | other
  deriving DecidableEq, Repr

end Sys2Proof
end

