-- ==== Sys2Proof/Syntax/Record.lean ====
section
/-! DEFINITION. The records the manual lays out byte by byte and that the W16 keeps or is given, as typed structures. Field names and ranges are those of the cited tables; Machine/Records.lean reads and writes their bytes. -/

namespace Sys2Proof

/-- Stream context record, Table 4-1 (R95). -/
structure StreamRec where
  context : Nat := 0
  kind : Nat := 0
  profile : Nat := 0
  level : Nat := 0
  bitDepth : Nat := 0
  sampling : Nat := 0
  packetization : Nat := 0
  clock : Nat := 0
  maxWidth : Nat := 0
  maxHeight : Nat := 0
  rateNum : Nat := 0
  rateDen : Nat := 1
  maxBitrate : Nat := 0
  flags : Nat := 0
  extId : Nat := 0
  payloadType : Nat := 0
  mediaClockRate : Nat := 90000
  mediaClockOffset : Nat := 0
  senderAcc : Nat := 0
  mclkTol : Nat := 0
  upstreamAllow : Nat := 0
  jitterDepth : Nat := 20000
  group : Bytes := []
  source : Bytes := []
  udpPort : Nat := 0
  portMask : Nat := 0
  vlan : Nat := 0
  ssrc : Nat := 0
  maxPktRate : Nat := 0
  deriving DecidableEq, Repr

/-- Internal source record, Table 4-7 (R121). -/
structure SourceRec where
  source : Nat := 0
  kind : Nat := 0
  pattern : Nat := 0
  bitDepth : Nat := 8
  width : Nat := 0
  height : Nat := 0
  rateNum : Nat := 0
  rateDen : Nat := 0
  head : Nat := 0
  verifyPeriod : Nat := 0
  colour : Rgb := Rgb.black
  stillCrc : Nat := 0
  deriving DecidableEq, Repr

/-- Window descriptor, Table 6-1 (R164). `head` 255 is unbound. -/
structure WindowDesc where
  window : Nat := 0
  head : Nat := 255
  kind : Nat := 0
  x : Int := 0
  y : Int := 0
  width : Nat := 8
  height : Nat := 8
  source : Nat := 0
  cropX : Nat := 0
  cropY : Nat := 0
  cropW : Nat := 8
  cropH : Nat := 8
  z : Nat := 0
  flags : Nat := 0
  planeAlpha : Nat := 0
  toneProfile : Nat := 0
  policy : Nat := 0
  scaleSet : Nat := 0
  void : Rgb := Rgb.black
  key : Rgb := Rgb.black
  hbX : Nat := 0
  hbY : Nat := 0
  hbW : Nat := 0
  hbH : Nat := 0
  deadline : Nat := 0
  deriving DecidableEq, Repr

/-- Scaler coefficient set, Table 6-4 (R175): 64 phases of 8 and of 6 taps, phase after phase. -/
structure CoefSet where
  tapsH : List Int
  tapsV : List Int
  deriving DecidableEq, Repr

/-- Tone-map profile, Table 6-5 (R179). Matrices are row-major, in units of 2⁻¹⁶. -/
structure ToneProfile where
  flags : Nat
  yOffset : Nat
  cOffset : Nat
  yuvM : List Int
  gamutM : List Int
  inLut : List Nat
  tone : List Nat
  outLut : List Nat
  deriving DecidableEq, Repr

/-- One step of a blend program, Table 6-7 (R186). -/
structure BlendStep where
  window : Nat
  op : Nat
  deriving DecidableEq, Repr

/-- Head timing record, Table 7-2 (R198). -/
structure TimingRec where
  head : Nat := 0
  mode : Nat := 0
  sg : Nat := 0
  gang : Nat := 0
  lanes : Nat := 0
  linkRate : Nat := 0
  bpc : Nat := 0
  flags : Nat := 0
  hActive : Nat := 0
  hFront : Nat := 0
  hSync : Nat := 0
  hBack : Nat := 0
  vActive : Nat := 0
  vFront : Nat := 0
  vSync : Nat := 0
  vBack : Nat := 0
  rateNum : Nat := 0
  rateDen : Nat := 0
  syncCfg : Nat := 0
  colorimetry : Nat := 0
  phaseOffset : Int := 0
  lanePolarity : Nat := 0
  deriving DecidableEq, Repr

/-- Freshness policy, Table 2-4 (R45); the values here are the table's defaults. -/
structure Policy where
  ageLimit : Nat := 2000000
  freezeLimit : Nat := 3000
  hbPeriod : Nat := 0
  concealPct : Nat := 25
  control : Nat := 0
  palette : Nat := 0
  recoverFrames : Nat := 3
  deriving DecidableEq, Repr

/-- Shutter palette, Table 8-1 (R227); the values here are SP0 of Table 8-2. -/
structure Palette where
  stripeA : Rgb := { r := 0x400, g := 0x400, b := 0x400 }
  stripeB : Rgb := { r := 0xC00, g := 0x800, b := 0x000 }
  badgeFg : Rgb := { r := 0xFFF, g := 0xFFF, b := 0xFFF }
  badgeBg : Rgb := { r := 0x000, g := 0x000, b := 0x000 }
  deriving DecidableEq, Repr

/-- Safety change entry, Table 8-5 (R233), its RECORD as bytes. -/
structure SafetyEntry where
  kind : Nat
  index : Nat
  record : Bytes
  deriving DecidableEq, Repr

/-- Encode channel record, Table 9-1 (R252). -/
structure EncodeRec where
  channel : Nat := 0
  format : Nat := 0
  input : Nat := 0
  head : Nat := 0
  window : Nat := 0
  down : Nat := 1
  rateDiv : Nat := 1
  x : Nat := 0
  y : Nat := 0
  width : Nat := 0
  height : Nat := 0
  quality : Nat := 0
  refreshPeriod : Nat := 0
  maxQpRaise : Nat := 0
  flags : Nat := 0
  cap : Nat := 0
  timeBase : Nat := 0
  extId : Nat := 0
  payloadType : Nat := 0
  ssrc : Nat := 0
  dest : Bytes := []
  udpPort : Nat := 0
  portMask : Nat := 0
  vlan : Nat := 0
  mtu : Nat := 0
  dscp : Nat := 0
  hopLimit : Nat := 0
  deriving DecidableEq, Repr

/-- Time base configuration record, Table 3-3 (R74). -/
structure BaseRec where
  base : Nat := 0
  source : Nat := 0
  profile : Nat := 0
  domainNumber : Nat := 0
  transport : Nat := 0
  logReqInterval : Int := 0
  portMask : Nat := 0
  lockThreshold : Nat := 1000
  lossTimeout : Nat := 6000
  holdRate : Nat := 100
  asymAllow : Nat := 0
  stepThreshold : Nat := 100000
  pulseNum : Nat := 0
  pulseDen : Nat := 0
  deriving DecidableEq, Repr

/-- Device time selection record, Table 3-5 (R80); the values here are those of first start. -/
structure SelectRec where
  mode : Nat := 0
  prefs : List Nat := [0, 1, 2, 255]
  revertHold : Nat := 60
  slewLimit : Nat := 10000000
  deriving DecidableEq, Repr

/-- Port address record, Table 12-15 (R360). -/
structure PortAddr where
  port : Nat := 0
  flags : Nat := 0
  vlan : Nat := 0
  ipv4 : Bytes := []
  prefix4 : Nat := 0
  prefix6 : Nat := 0
  gateway4 : Bytes := []
  ipv6 : Bytes := []
  gateway6 : Bytes := []
  deriving DecidableEq, Repr

/-- Lane configuration entry, Table 12-16 (R405). -/
structure LaneCfg where
  lane : Nat := 0
  rate : Nat := 0
  fec : Nat := 0
  flags : Nat := 0
  ingressNs : Int := 0
  egressNs : Int := 0
  deriving DecidableEq, Repr

/-- Entry of TOUCH_KEY_SET, Table 12-18 (R423). `group` 255 is unused. -/
structure KeyCfg where
  electrode : Nat := 0
  group : Nat := 255
  threshold : Nat := 50
  maxOn : Nat := 30
  deriving DecidableEq, Repr

/-- Local action table entry, Table 12-18 (R433). -/
structure ActionCfg where
  electrode : Nat := 0
  action : Nat := 0
  arg : Nat := 0
  deriving DecidableEq, Repr

/-- A door region (R438): base, count of 4 KiB granules, ATTR. -/
structure Region where
  base : Nat
  granules : Nat
  attr : Nat
  deriving DecidableEq, Repr

/-- The signed header of a firmware container, Table 19-2 (R506). -/
structure Container where
  image : Nat
  securityVersion : Nat
  version : Nat
  iface : Nat
  settingsFormat : Nat
  migrateFrom : Nat
  writesFrom : Nat
  confirmCriteria : Nat
  settleS : Nat
  plainLength : Nat
  blocks : Nat
  serial : Nat
  requires : List (Nat × Nat)
  deriving DecidableEq, Repr

end Sys2Proof
end

