-- ==== Sys2Proof/Syntax/Event.lean ====
section
/-! DEFINITION. Operands of the events that reach the W16 from its links, its pins and its measurements. -/

namespace Sys2Proof

/-- A PTP message (R71, R72). Times are ns of the PTP timescale; `corr` is the correctionField in ns; `rank` orders an Announce under the best master clock algorithm, the smaller the better. -/
inductive PtpBody where
  | announce (gm rank : Nat) (utcOffset : Int) (utcValid : Bool)
  | sync (twoStep : Bool) (origin : Int) (corr : Int)
  | followUp (origin : Int) (corr : Int)
  | delayResp (receipt : Int) (corr : Int)
  | pdelayReq
  | pdelayResp (twoStep : Bool) (receipt : Int) (corr : Int)
  | pdelayRespFollowUp (origin : Int) (corr : Int)
  | unsupported
  deriving DecidableEq, Repr

/-- A received PTP message: its domain, transport, sourcePortIdentity (80 bits) and sequence, the requestingPortIdentity of a response, and the error of its timestamp within R70's bound. -/
structure PtpMsg where
  domain : Nat
  transport : Nat
  sender : Nat
  seq : Nat
  requesting : Nat := 0
  error : Int := 0
  body : PtpBody
  deriving DecidableEq, Repr

/-- What a lane's receiver and module report (R407). -/
structure LaneCond where
  signal : Bool := false
  blockLock : Bool := false
  fecAlign : Bool := true
  hiBer : Bool := false
  localFault : Bool := false
  remoteFault : Bool := false
  los : Bool := false
  lpiRx : Bool := false
  fecCorrected : Nat := 0
  fecUncorrected : Nat := 0
  /-- Bits received since the last report, in order, for the PRBS checker (R415, R417). -/
  prbs : List Bool := []
  deriving DecidableEq, Repr

/-- A membership query heard on a port (R106, R107): address family 4 or 6, whether an older querier sent it, and the group, empty for a general query. -/
structure IgmpQuery where
  port : Nat
  family : Nat
  old : Bool
  group : Bytes
  deriving DecidableEq, Repr

end Sys2Proof
end

