-- ==== Sys2Proof/Syntax/Frame.lean ====
section
/-! DEFINITION. Received Ethernet frames, what their RTP packets hold, and decoding results. -/

namespace Sys2Proof

/-- The upstream capture time of a header extension or of an age-carrying message (Table 9-3): class, whether TB_LOCKED and BUDGET_CLIPPED are set, ALIVE, CAPTURE_TIME in the domain's time, CAPTURE_UNC. -/
structure CaptureExt where
  cls : Nat
  locked : Bool
  clipped : Bool
  alive : Nat
  capture : Int
  unc : Nat
  deriving DecidableEq, Repr

/-- A sample row segment of an ST 2110-20 packet (R117): line, first pixel, pixel count, and the samples, component by component of the segment's planes. -/
structure Segment where
  line : Nat
  offset : Nat
  length : Nat
  planes : List (List Nat)
  deriving DecidableEq, Repr

/-- The payload of an RTP packet, as the packetization of R116 cuts it. -/
inductive RtpPayload where
  | single (nal : Bytes)
  | aggregate (nals : List Bytes)
  | fragment (first last : Bool) (data : Bytes)
  | rows (segments : List Segment)
  | unsupported
  deriving DecidableEq, Repr

/-- An RTP packet as its context reads it (R112, R116, R120). `ext` is the capture-time element that EXT_ID names, `extBad` says that one is present and malformed; `hiSeq` is the extended sequence number of ST 2110-20, `bits` the length of the payload. -/
structure RtpPacket where
  payloadType : Nat
  marker : Bool
  seq : Nat
  hiSeq : Nat := 0
  ts : Nat
  ssrc : Nat
  ext : Option CaptureExt := none
  extBad : Bool := false
  bits : Nat
  payload : RtpPayload
  deriving DecidableEq, Repr

/-- A packet of a compound RTCP packet: a sender report with its SSRC, NTP seconds and fraction, and RTP time, or any other with its SSRC (R110). -/
inductive RtcpPacket where
  | senderReport (ssrc ntpSec ntpFrac rtp : Nat)
  | other (ssrc : Nat)
  deriving DecidableEq, Repr

def RtcpPacket.ssrc : RtcpPacket → Nat
  | .senderReport k _ _ _ => k
  | .other k => k

/-- A received Ethernet frame, from its destination address to the byte before its FCS. `error` is the error of its hardware timestamp in ns, within R70's bound. -/
structure Frame where
  lane : Nat
  bytes : Bytes
  fcsOk : Bool := true
  error : Int := 0
  deriving DecidableEq, Repr

/-- What a block of the current picture was predicted from (R151), in decoding order: the 16×16 area it lies in, and the source: areas of a reference slot; a substitute, by its place among the missing references; a read of the DRAM, by its offset from the start of the pool region (R157); or neighbouring areas of the picture itself. -/
inductive Read where
  | slot (area slot : Nat) (areas : List Nat)
  | substitute (area missing : Nat)
  | memory (area : Nat) (offset : Int)
  | own (area : Nat) (areas : List Nat)
  deriving DecidableEq, Repr

/-- How the data of a slice that the decoder took ends (R149, R157): the macroblocks or coding tree units completed; whether an error ended it; a write in the course of unit `k` at an offset from the start of the pool region, where one misses its slot. -/
structure SliceEnd where
  units : Nat
  error : Bool := false
  write : Option (Nat × Int) := none
  deriving DecidableEq, Repr

/-- Motion of a 16×16 area: vector and reference index (R150). -/
structure Motion where
  x : Int := 0
  y : Int := 0
  ref : Nat := 0
  deriving DecidableEq, Repr

/-- What decoding the slices of a picture gives, the samples as the codec's standard defines them: planes of the coded size, what deblocking and SAO then change in the picture as filled (R150), plane by plane a sample's place and its new value, and motion by 16×16 area. -/
structure DecodeResult where
  planes : List (List Nat) := []
  filtered : List (Map Nat) := []
  motion : List Motion := []
  slices : List SliceEnd := []
  reads : List Read := []
  deriving DecidableEq, Repr

end Sys2Proof
end

