-- ==== Sys2Proof/Syntax.lean ====
section
/-! DEFINITION. The commands and events of the block, one constructor per row of spec/opcode_table.json. `t` is the instant on the main reference count; `mb` the mailbox and `m` the message of an Izent command. -/

namespace Sys2Proof

/-- A command or event of the W16 (the rows of spec/opcode_table.json, in its order). -/
inductive Instr where
  /-- SYSTEM_IDENTIFY (R347): Command 0x0101 returns the identity record of Table 12-4. -/
  | systemIdentify (t : Time) (mb : Nat) (m : Msg)
  /-- SYSTEM_STATUS (R347): Command 0x0102 returns one snapshot of the device health registers. -/
  | systemStatus (t : Time) (mb : Nat) (m : Msg)
  /-- SYSTEM_RESTART (R348): Command 0x0103 answers and schedules a warm or cold restart from the boot ROM. -/
  | systemRestart (t : Time) (mb : Nat) (m : Msg)
  /-- ABORT (R334): Command 0x01FF ends the running or held commands of a mailbox, session or unit. -/
  | abort (t : Time) (mb : Nat) (m : Msg)
  /-- LAYOUT_PROPOSE (R279): Applies a layout document to a copy of the shadow, admits it and optionally stages it. -/
  | layoutPropose (t : Time) (mb : Nat) (m : Msg)
  /-- LAYOUT_COMMIT (R279): Admits the shadow, with an optional document applied first, and seals it on ACCEPT. -/
  | layoutCommit (t : Time) (mb : Nat) (m : Msg)
  /-- LAYOUT_STORE (R350): Checks a layout document and writes it to a NAND slot, or erases the slot. -/
  | layoutStore (t : Time) (mb : Nat) (m : Msg)
  /-- LAYOUT_STORED_COMMIT (R350): Commits the document held in a stored slot as LAYOUT_COMMIT does. -/
  | layoutStoredCommit (t : Time) (mb : Nat) (m : Msg)
  /-- LAYOUT_READ (R350): Writes the shadow, the active layout or a stored slot to host memory as a document. -/
  | layoutRead (t : Time) (mb : Nat) (m : Msg)
  /-- STREAM_OPEN (R95): Admits a stream context record with its parameter sets and enters JOINING. -/
  | streamOpen (t : Time) (mb : Nat) (m : Msg)
  /-- STREAM_CLOSE (R97): Moves a stream context to DRAINING. -/
  | streamClose (t : Time) (mb : Nat) (m : Msg)
  /-- STREAM_STATUS (R126): Returns state pairs and status records of stream contexts. -/
  | streamStatus (t : Time) (mb : Nat) (m : Msg)
  /-- DECODE_STATUS (R162): Returns state pairs and decode status records of compressed contexts. -/
  | decodeStatus (t : Time) (mb : Nat) (m : Msg)
  /-- SOURCE_SET (R121): Configures, replaces or unconfigures an internal source, loading a still image if given. -/
  | sourceSet (t : Time) (mb : Nat) (m : Msg)
  /-- SOURCE_STATUS (R352): Returns state pairs and status records of internal sources. -/
  | sourceStatus (t : Time) (mb : Nat) (m : Msg)
  /-- WINDOW_SET (R356): Writes window descriptors to the shadow. -/
  | windowSet (t : Time) (mb : Nat) (m : Msg)
  /-- WINDOW_GET (R356): Returns shadow, sealed or active window descriptors. -/
  | windowGet (t : Time) (mb : Nat) (m : Msg)
  /-- WINDOW_STATUS (R355): Returns the observed window status records. -/
  | windowStatus (t : Time) (mb : Nat) (m : Msg)
  /-- BACKGROUND_SET (R167): Writes a head background colour to the shadow. -/
  | backgroundSet (t : Time) (mb : Nat) (m : Msg)
  /-- BLEND_SET (R186): Writes a head blend program to the shadow. -/
  | blendSet (t : Time) (mb : Nat) (m : Msg)
  /-- TONE_PROFILE_SET (R179): Writes a tone-map profile to the shadow. -/
  | toneProfileSet (t : Time) (mb : Nat) (m : Msg)
  /-- TONE_PROFILE_GET (R354): Returns a shadow or active tone-map profile. -/
  | toneProfileGet (t : Time) (mb : Nat) (m : Msg)
  /-- COEF_SET (R175): Writes a scaler coefficient set to the shadow. -/
  | coefSet (t : Time) (mb : Nat) (m : Msg)
  /-- COEF_GET (R354): Returns a shadow or active coefficient set. -/
  | coefGet (t : Time) (mb : Nat) (m : Msg)
  /-- TILE_RECORDS_GET (R356): Copies one frame's tile records of a head to host memory. -/
  | tileRecordsGet (t : Time) (mb : Nat) (m : Msg)
  /-- GLYPH_GET (R229): Returns one glyph bitmap of the head or Lantern glyph ROM. -/
  | glyphGet (t : Time) (mb : Nat) (m : Msg)
  /-- SAFETY_ARM (R233): Holds a set of safety change entries as the pending arm. -/
  | safetyArm (t : Time) (mb : Nat) (m : Msg)
  /-- SAFETY_APPLY (R234): Checks and writes a pending arm as the new safety configuration. -/
  | safetyApply (t : Time) (mb : Nat) (m : Msg)
  /-- SAFETY_GET (R356): Returns one record of the safety configuration in force. -/
  | safetyGet (t : Time) (mb : Nat) (m : Msg)
  /-- LANTERN_CLEAR (R244): Clears a latched LANTERN reason or a device-wide Lantern fault. -/
  | lanternClear (t : Time) (mb : Nat) (m : Msg)
  /-- LANTERN_STATUS (R249): Returns the Lantern status records of heads. -/
  | lanternStatus (t : Time) (mb : Nat) (m : Msg)
  /-- ALERT_ACK (R356): Records an acknowledgement of a window's shown reason without changing a shutter. -/
  | alertAck (t : Time) (mb : Nat) (m : Msg)
  /-- HEAD_TIMING_SET (R219): Admits head timing records and starts the reference or format changes. -/
  | headTimingSet (t : Time) (mb : Nat) (m : Msg)
  /-- HEAD_TIMING_GET (R357): Returns stored head timing records. -/
  | headTimingGet (t : Time) (mb : Nat) (m : Msg)
  /-- HEAD_STATUS (R223): Returns head status records. -/
  | headStatus (t : Time) (mb : Nat) (m : Msg)
  /-- HEAD_EDID_GET (R205): Returns the EDID last read from a head's sink. -/
  | headEdidGet (t : Time) (mb : Nat) (m : Msg)
  /-- ENCODE_OPEN (R252): Admits and opens an encode channel. -/
  | encodeOpen (t : Time) (mb : Nat) (m : Msg)
  /-- ENCODE_SET (R253): Changes quality, cap, QP raise bound or region origin of an open channel. -/
  | encodeSet (t : Time) (mb : Nat) (m : Msg)
  /-- ENCODE_CLOSE (R274): Moves an encode channel to DRAINING. -/
  | encodeClose (t : Time) (mb : Nat) (m : Msg)
  /-- ENCODE_STATUS (R275): Returns encode channel status records. -/
  | encodeStatus (t : Time) (mb : Nat) (m : Msg)
  /-- TIME_BASE_SET (R74): Configures a time base and restarts it in ACQUIRING. -/
  | timeBaseSet (t : Time) (mb : Nat) (m : Msg)
  /-- TIME_SELECT_SET (R80): Sets the device time selection record. -/
  | timeSelectSet (t : Time) (mb : Nat) (m : Msg)
  /-- TIME_ACCEPT (R84): Accepts a disagreeing LOCKED base for selection. -/
  | timeAccept (t : Time) (mb : Nat) (m : Msg)
  /-- TIME_CONFIG_GET (R359): Returns the four base records and the selection record. -/
  | timeConfigGet (t : Time) (mb : Nat) (m : Msg)
  /-- TIME_STATUS (R93): Returns device time state and the status of each base. -/
  | timeStatus (t : Time) (mb : Nat) (m : Msg)
  /-- PORT_ADDRESS_SET (R360): Sets the IP addresses of a port. -/
  | portAddressSet (t : Time) (mb : Nat) (m : Msg)
  /-- PORT_ADDRESS_GET (R360): Returns port address records with MAC addresses. -/
  | portAddressGet (t : Time) (mb : Nat) (m : Msg)
  /-- LANE_SET (R405): Configures lanes, checked against the committed layout. -/
  | laneSet (t : Time) (mb : Nat) (m : Msg)
  /-- LANE_READ (R360): Returns lane records. -/
  | laneRead (t : Time) (mb : Nat) (m : Msg)
  /-- LANE_MODULE_READ (R419): Reads module management bytes over a lane's two-wire bus. -/
  | laneModuleRead (t : Time) (mb : Nat) (m : Msg)
  /-- MGMT_SET (R361): Sets the management port mask and TCP port for new connections. -/
  | mgmtSet (t : Time) (mb : Nat) (m : Msg)
  /-- TOUCH_KEY_SET (R423): Configures electrodes with group, threshold and maximum-on time. -/
  | touchKeySet (t : Time) (mb : Nat) (m : Msg)
  /-- TOUCH_MODE_SET (R424): Sets the mode of a key group. -/
  | touchModeSet (t : Time) (mb : Nat) (m : Msg)
  /-- LOCAL_ACTION_SET (R433): Writes local action table entries. -/
  | localActionSet (t : Time) (mb : Nat) (m : Msg)
  /-- TOUCH_REBASELINE (R430): Sets the baseline of the masked electrodes to their measurement. -/
  | touchRebaseline (t : Time) (mb : Nat) (m : Msg)
  /-- TOUCH_READ (R362): Returns electrode records. -/
  | touchRead (t : Time) (mb : Nat) (m : Msg)
  /-- SESSION_OPEN (R365): Issues a challenge or opens a session on a signed challenge. -/
  | sessionOpen (t : Time) (mb : Nat) (m : Msg)
  /-- SESSION_CLOSE (R326): Closes a session. -/
  | sessionClose (t : Time) (mb : Nat) (m : Msg)
  /-- SESSION_LIST (R364): Returns the open sessions. -/
  | sessionList (t : Time) (mb : Nat) (m : Msg)
  /-- SESSION_IDLE_SET (R326): Sets the session idle time. -/
  | sessionIdleSet (t : Time) (mb : Nat) (m : Msg)
  /-- CREDENTIAL_SET (R456): Installs or revokes a credential. -/
  | credentialSet (t : Time) (mb : Nat) (m : Msg)
  /-- TRUST_ANCHOR_SET (R364): Installs or removes a trust anchor certificate. -/
  | trustAnchorSet (t : Time) (mb : Nat) (m : Msg)
  /-- DEVICE_CERT_GET (R451): Writes the device certificate to host memory. -/
  | deviceCertGet (t : Time) (mb : Nat) (m : Msg)
  /-- DOOR_RULES_SET (R446): Installs new rules for door 0x28 or 0x47 under a new epoch. -/
  | doorRulesSet (t : Time) (mb : Nat) (m : Msg)
  /-- DOOR_RULES_GET (R438): Returns the rules in force at a door. -/
  | doorRulesGet (t : Time) (mb : Nat) (m : Msg)
  /-- DEBUG_UNLOCK (R448): Issues a challenge or unlocks debug on a signed challenge. -/
  | debugUnlock (t : Time) (mb : Nat) (m : Msg)
  /-- DEBUG_LOCK (R448): Locks debug. -/
  | debugLock (t : Time) (mb : Nat) (m : Msg)
  /-- UPDATE_PLAN (R511): Checks container headers and computes an activation order. -/
  | updatePlan (t : Time) (mb : Nat) (m : Msg)
  /-- UPDATE_RUN (R513): Starts staging and activating a planned update. -/
  | updateRun (t : Time) (mb : Nat) (m : Msg)
  /-- UPDATE_CONFIRM (R519): Confirms a pending update plan. -/
  | updateConfirm (t : Time) (mb : Nat) (m : Msg)
  /-- UPDATE_FALLBACK (R520): Starts the fallback of a running or pending plan. -/
  | updateFallback (t : Time) (mb : Nat) (m : Msg)
  /-- UPDATE_STATUS (R367): Returns the update status record. -/
  | updateStatus (t : Time) (mb : Nat) (m : Msg)
  /-- RECORDER_READ (R370): Writes journal records from a sequence to host memory. -/
  | recorderRead (t : Time) (mb : Nat) (m : Msg)
  /-- RECORDER_CLEAR (R537): Makes the operational journal unreadable up to the last recorded sequence. -/
  | recorderClear (t : Time) (mb : Nat) (m : Msg)
  /-- RECORDER_SUBSCRIBE (R370): Subscribes a network session to event messages. -/
  | recorderSubscribe (t : Time) (mb : Nat) (m : Msg)
  /-- RECORDER_FLUSH (R533): Flushes the PD_AON buffer to the NAND ring. -/
  | recorderFlush (t : Time) (mb : Nat) (m : Msg)
  /-- DOMAIN_SET (R472): Switches a power domain on or off under the dependency rules. -/
  | domainSet (t : Time) (mb : Nat) (m : Msg)
  /-- POWER_CAP_SET (R295): Sets the software power cap, checked against the committed layout. -/
  | powerCapSet (t : Time) (mb : Nat) (m : Msg)
  /-- DOMAIN_STATUS (R371): Returns power domain status records. -/
  | domainStatus (t : Time) (mb : Nat) (m : Msg)
  /-- HEALTH_READ (R371): Returns the health record. -/
  | healthRead (t : Time) (mb : Nat) (m : Msg)
  /-- SCAN_SUBMIT (R498): Queues a DRAM CRC job on the scan engine host unit. -/
  | scanSubmit (t : Time) (mb : Nat) (m : Msg)
  /-- SCAN_RESULT (R499): Returns the result of the latest scan job with a JOB_ID. -/
  | scanResult (t : Time) (mb : Nat) (m : Msg)
  /-- LANE_PRBS_SET (R415): Sets a lane's PRBS generator and checker, with optional error injection. -/
  | lanePrbsSet (t : Time) (mb : Nat) (m : Msg)
  /-- LANE_PRBS_READ (R417): Returns a lane's PRBS checker counts. -/
  | lanePrbsRead (t : Time) (mb : Nat) (m : Msg)
  /-- DRAM_HASH_SET (R377): Stores a DRAM hash profile for the next cold start. -/
  | dramHashSet (t : Time) (mb : Nat) (m : Msg)
  /-- REGISTER_WRITE (R7): A BAR0 write to a register without behaviour of its own stores or clears bits per its access code. -/
  | registerWrite (t : Time) (off : Nat) (val : Nat) (aux : WriteAux)
  /-- MBX_RESET (R308): A write of 1 to RESET aborts the mailbox's command, closes its session and clears it. -/
  | mbxReset (t : Time) (mb : Nat)
  /-- DEV_TIME_LO_READ (R303): A read of DEV_TIME_LO returns device time and latches the high half. -/
  | devTimeLoRead (t : Time)
  /-- EVR_DROPS_READ (R8): A read of EVR_DROPS returns and clears the drop count. -/
  | evrDropsRead (t : Time) (hits : Nat)
  /-- EVR_ENABLE (R309): Setting ENABLE from 0 to 1 zeroes the ring offsets and clears FAULT. -/
  | evrEnable (t : Time) (val : Nat)
  /-- EVR_CONSUMER_WRITE (R309): A write to EVR_CONSUMER is stored only if aligned and inside the ring. -/
  | evrConsumerWrite (t : Time) (val : Nat)
  /-- EVR_HOLDOFF_EXPIRY (R310): The interrupt hold-off ends and vector 16 is raised for any producer change. -/
  | evrHoldoffExpiry (t : Time)
  /-- MGMT_TCP_CONNECT (R314): A TCP connection to the management port is accepted as a network mailbox or closed as the ninth. -/
  | mgmtTcpConnect (t : Time) (address : Bytes)
  /-- TLS_HANDSHAKE (R457): A TLS handshake validates the client certificate and binds a role. -/
  | tlsHandshake (t : Time) (mb : Nat) (chain : List Bytes) (client : TlsClient)
  /-- MGMT_HANDSHAKE_TIMEOUT (R313): A handshake not complete 2 000 ms after connection is closed. -/
  | mgmtHandshakeTimeout (t : Time) (mb : Nat)
  /-- MGMT_CONNECTION_LOSS (R314): Loss of a management connection closes its session. -/
  | mgmtConnectionLoss (t : Time) (mb : Nat)
  /-- SESSION_IDLE_EXPIRY (R326): A session without a request for SESSION_IDLE closes. -/
  | sessionIdleExpiry (t : Time) (mb : Nat)
  /-- HELD_COMMAND_START (R332): A held command starts when its locks, drain, flip or READY allow, re-checking from check 9. -/
  | heldCommandStart (t : Time) (mb : Nat)
  /-- HOLD_TIMEOUT (R332): A command held for 10 s is answered ST_TIMEOUT. -/
  | holdTimeout (t : Time) (mb : Nat)
  /-- SAFETY_ARM_EXPIRY (R233): A pending safety arm is discarded when its expiry passes. -/
  | safetyArmExpiry (t : Time)
  /-- DEBUG_UNLOCK_EXPIRY (R448): Debug locks 3 600 s after an unrenewed unlock. -/
  | debugUnlockExpiry (t : Time)
  /-- AUTH_BACKOFF_END (R458): A 60 s authentication back-off ends. -/
  | authBackoffEnd (t : Time) (who : Nat)
  /-- ENTROPY_TEST_FAIL (R453): A failed entropy health test stops challenges and TLS handshakes. -/
  | entropyTestFail (t : Time)
  /-- ENTROPY_RETEST (R453): The entropy source is retested every 1 000 ms and service resumes on a pass. -/
  | entropyRetest (t : Time) (pass : Bool)
  /-- JTAG_INSTRUCTION (R447): An instruction is executed on the test access port, restricted while locked. -/
  | jtagInstruction (t : Time) (ins : JtagIns)
  /-- DEBUG_MEMORY_ACCESS (R450): The unlocked debug master issues a PL3 transfer through door 0x28. -/
  | debugMemoryAccess (t : Time) (acc : DebugAccess)
  /-- EPOCH_RETIRE (R445): The old epoch retires when its last in-flight transfer completes. -/
  | epochRetire (t : Time)
  /-- DEV_ALIVE_TICK (R303): Spire B increments DEV_ALIVE every 1 ms. -/
  | devAliveTick (t : Time)
  /-- RECONCILE (R342): Spire B compares intended and observed state of every unit every 10 ms. -/
  | reconcile (t : Time)
  /-- LATCH_INSTANT (R37): At t_f(n) − 500 µs each window latches its picture and is evaluated for frame n. -/
  | latchInstant (t : Time) (latch : Latch)
  /-- FRAME_START (R206): The first active pixel of frame n leaves the connector at t_f(n). -/
  | frameStart (t : Time) (head : Nat)
  /-- FRAME_END (R217): Frame n ends; underrun counts, HELD marks and sync steering are updated. -/
  | frameEnd (t : Time) (head : Nat)
  /-- LINE_DEADLINE (R216): At a line's composition deadline a window without its data is switched off for the frame. -/
  | lineDeadline (t : Time) (head : Nat) (line : Nat) (late : List Nat)
  /-- HEAD_PANIC (R215): A head raises or lowers panic as its fetch lead crosses 50 or 150 µs. -/
  | headPanic (t : Time) (head : Nat) (line : Option Nat)
  /-- SYNC_IN_EDGE (R211): A SYNC_IN edge is timestamped, validated and used by sync generators and TB2. -/
  | syncInEdge (t : Time) (inp : Nat) (edge : SyncEdge)
  /-- SYNC_PULSE_MISSED (R211): Three expected pulses pass without a valid pulse and the reference is lost. -/
  | syncPulseMissed (t : Time) (sg : Nat)
  /-- SYNC_TRIM_RELEASE (R209): AT_LIMIT clears after the trim has stayed inside its bound for 1 000 ms. -/
  | syncTrimRelease (t : Time) (sg : Nat)
  /-- HPD_CHANGE (R205): HPD assertion reads DPCD and EDID and starts training; deassertion stops pixels. -/
  | hpdChange (t : Time) (head : Nat) (level : Bool) (sink : SinkInfo)
  /-- IRQ_HPD (R197): A short pulse makes the head read link status and retrain on a lost link. -/
  | irqHpd (t : Time) (head : Nat) (lost : Bool)
  /-- LINK_TRAINING_DONE (R203): A training attempt ends with the link up, a fallback, or LINK_FAIL. -/
  | linkTrainingDone (t : Time) (head : Nat) (works : List (Nat × Nat))
  /-- LINK_RETRY_TIMER (R203): A head in LINK_FAIL retries training every 1 000 ms. -/
  | linkRetryTimer (t : Time) (head : Nat)
  /-- LANTERN_COMPARE_DONE (R241): Lantern finishes comparing frame n of a head. -/
  | lanternCompareDone (t : Time) (head : Nat) (frame : Nat) (seen : List (Nat × Nat)) (reports : List (Nat × Nat))
  /-- LANTERN_LATE (R241): A comparison not complete by the latch of frame n + 2 counts as a mismatch. -/
  | lanternLate (t : Time) (head : Nat) (frame : Nat)
  /-- LANTERN_RETRY (R244): An unlatched LANTERN reason clears 1 000 ms after activation. -/
  | lanternRetry (t : Time) (window : Nat)
  /-- LANTERN_SELFTEST (R246): Lantern runs its known-answer test every 1 000 ms. -/
  | lanternSelftest (t : Time) (pass : Bool)
  /-- LANTERN_DIAGNOSIS (R493): In the next blanking the scalers of a mismatched window are retested. -/
  | lanternDiagnosis (t : Time) (window : Nat) (failed : List Nat)
  /-- FRAME_RECEIVED (R108): A received Ethernet frame is filtered, deduplicated and passed to a context or consumed. -/
  | frameReceived (t : Time) (frame : Frame)
  /-- PRP_HOLD_EXPIRY (R111): A PRP frame held 1 µs is processed. -/
  | prpHoldExpiry (t : Time) (pair : Nat)
  /-- PRP_ENTRY_FORGET (R111): A source MAC entry is forgotten after 400 ms without a frame. -/
  | prpEntryForget (t : Time) (pair : Nat) (mac : Nat)
  /-- JUMP_HOLD_EXPIRY (R112): A held jump packet is dropped as MALFORMED after JITTER_DEPTH. -/
  | jumpHoldExpiry (t : Time) (context : Nat)
  /-- ACCESS_UNIT_DEADLINE (R113): An access unit is released incomplete at its jitter deadline. -/
  | accessUnitDeadline (t : Time) (context : Nat)
  /-- ST2110_PICTURE_DEADLINE (R118): An ST 2110-20 picture completes at its deadline with missing samples filled. -/
  | st2110PictureDeadline (t : Time) (context : Nat)
  /-- IGMP_QUERY (R106): A received membership query is answered, possibly falling back in version. -/
  | igmpQuery (t : Time) (query : IgmpQuery)
  /-- IGMP_REPORT_REPEAT (R106): A join report is sent again 1 000 ms after the first. -/
  | igmpReportRepeat (t : Time) (context : Nat)
  /-- PATTERN_PICTURE (R123): A PATTERN source generates one picture per period of device time. -/
  | patternPicture (t : Time) (source : Nat)
  /-- STILL_VERIFY_PERIOD (R123): A STILL queues a CRC verification job every VERIFY_PERIOD. -/
  | stillVerifyPeriod (t : Time) (source : Nat)
  /-- STILL_VERIFY_DONE (R497): A still verification ends with a new tag or STILL_CORRUPT. -/
  | stillVerifyDone (t : Time) (crc : Nat)
  /-- SCAN_JOB_DONE (R498): A host scan job completes with its CRC or STATE 4. -/
  | scanJobDone (t : Time) (refused : Bool)
  /-- CONFIG_AUDIT (R235): The safety configuration is audited every 100 ms and reloaded on a mismatch. -/
  | configAudit (t : Time) (corrupt : Bool) (copyOk : Bool)
  /-- DECODE_START (R129): A free decoder engine takes the next released access unit. -/
  | decodeStart (t : Time) (engine context : Nat)
  /-- DECODE_END (R152): Decoding of a picture ends; concealment, taint, time pairs and output follow. -/
  | decodeEnd (t : Time) (engine : Nat) (result : DecodeResult)
  /-- WORK_BUDGET_EXPIRY (R155): A picture's work budget runs out and the picture is output concealed. -/
  | workBudgetExpiry (t : Time) (engine : Nat) (result : DecodeResult)
  /-- TAG_WRITE_ACK (R27): A Naelto tag write is acknowledged and the picture is complete. -/
  | tagWriteAck (t : Time) (source : Nat)
  /-- NO_ENTRY_TIMER (R148): NO_ENTRY is recorded every 10 s in WAIT_ENTRY. -/
  | noEntryTimer (t : Time) (context : Nat)
  /-- CONTEXT_DRAIN_END (R97): A draining context finishes its work and is CLOSED. -/
  | contextDrainEnd (t : Time) (context : Nat)
  /-- ENCODE_PICTURE_DONE (R272): An encoded picture is sent or written to the host ring. -/
  | encodePictureDone (t : Time) (channel : Nat) (coded : CodedPicture)
  /-- ENCODE_DRAIN_END (R274): A draining channel releases its buffers and is CLOSED. -/
  | encodeDrainEnd (t : Time) (channel : Nat)
  /-- QP_RAISE_DECAY (R264): QP_RAISE falls by 6 per 1 000 ms when capacity returns. -/
  | qpRaiseDecay (t : Time)
  /-- PTP_MESSAGE (R76): A PTP message is received and steers, answers or updates a base. -/
  | ptpMessage (t : Time) (port : Nat) (msg : PtpMsg)
  /-- PTP_REQUEST_INTERVAL (R71): A base sends Delay_Req or Pdelay_Req at its interval. -/
  | ptpRequestInterval (t : Time) (base : Nat)
  /-- TIME_BASE_LOSS_TIMEOUT (R78): No accepted measurement for LOSS_TIMEOUT moves a base to HOLDOVER or FREE. -/
  | timeBaseLossTimeout (t : Time) (base : Nat)
  /-- TIME_SELECT_EVAL (R80): Every 1 ms the device time selection is evaluated on a snapshot of bases. -/
  | timeSelectEval (t : Time)
  /-- DRAM_GRANT (R385): A channel picks a requester and starts one transfer at a grant instant. -/
  | dramGrant (t : Time) (channel : Nat) (g : GrantInfo)
  /-- SLOT_TABLE_WRAP (R392): At a slot table wrap a pending shadow table takes effect. -/
  | slotTableWrap (t : Time) (channel : Nat)
  /-- DRAM_REFRESH (R396): A bank is refreshed, pulled in or postponed. -/
  | dramRefresh (t : Time) (channel : Nat) (bank : Nat) (busy : Bool)
  /-- DRAM_RETRAIN (R397): A channel retrains every 100 ms or after a 5 °C change. -/
  | dramRetrain (t : Time) (channel : Nat) (temp : Int) (ok : Bool)
  /-- DRAM_SCRUB (R401): The scrubber reads protected blocks and corrects single-bit errors. -/
  | dramScrub (t : Time) (found : ScrubFinding)
  /-- LANE_SIGNAL_CHANGE (R407): A change of signal, lock, BER or fault moves a lane between states. -/
  | laneSignalChange (t : Time) (lane : Nat) (cond : LaneCond)
  /-- LANE_STATE_TIMER (R407): A signal present for 1 ms or lock held for 10 ms advances the lane state. -/
  | laneStateTimer (t : Time) (lane : Nat)
  /-- LANE_FLAP_QUIET (R421): 1 000 ms without departure resumes LANE_UP and LANE_DOWN recording. -/
  | laneFlapQuiet (t : Time) (lane : Nat)
  /-- LANE_ADAPT_LIMIT (R411): An adapted value resting at a range end for 1 s is held and reported. -/
  | laneAdaptLimit (t : Time) (lane : Nat) (held : Bool)
  /-- LANE_EYE_CHECK (R412): EYE_FOM is updated every 10 ms and a low eye reported after 1 000 ms. -/
  | laneEyeCheck (t : Time) (lane : Nat) (height : Nat) (width : Nat)
  /-- LPI_IDLE_TIMER (R413): A transmitter idle 10 µs enters low-power idle. -/
  | lpiIdleTimer (t : Time) (lane : Nat)
  /-- MODABS_CHANGE (R420): A debounced module presence change is handled. -/
  | modabsChange (t : Time) (lane : Nat) (high : Bool)
  /-- MODULE_READ_DELAY (R420): 300 ms after insertion the module identity is read and recorded. -/
  | moduleReadDelay (t : Time) (lane : Nat) (bytes : Bytes)
  /-- TXFLT_CHANGE (R420): A module transmit fault forces the lane out of UP. -/
  | txfltChange (t : Time) (lane : Nat) (level : Bool)
  /-- TXDIS_CYCLE (R420): During a transmit fault TXDIS is pulsed 10 ms every 1 000 ms. -/
  | txdisCycle (t : Time) (lane : Nat)
  /-- MODULE_OVERCURRENT (R542): A module drawing over 1.5 W for 10 ms has its cage supply switched off. -/
  | moduleOvercurrent (t : Time) (lane : Nat)
  /-- TOUCH_SCAN_FRAME (R425): Each scan frame measures electrodes, tracks baselines and decides presses. -/
  | touchScanFrame (t : Time) (cm : List Nat)
  /-- KEY_MAX_ON_EXPIRY (R432): A key touched for MAX_ON is released STUCK and masked. -/
  | keyMaxOnExpiry (t : Time) (electrode : Nat)
  /-- KEY_UNMASK_TIMER (R432): A masked key quiet for 200 ms is unmasked and rebaselined. -/
  | keyUnmaskTimer (t : Time) (electrode : Nat)
  /-- NEGATIVE_DELTA_TIMER (R429): A negative delta lasting 200 ms resets the baseline. -/
  | negativeDeltaTimer (t : Time) (electrode : Nat)
  /-- ELECTRODE_FAULT_TIMER (R431): A measurement out of range for 1 000 ms enters or leaves a fault. -/
  | electrodeFaultTimer (t : Time) (electrode : Nat)
  /-- LOCAL_ACTION_START (R434): The local action session starts the next queued command. -/
  | localActionStart (t : Time)
  /-- FEED_VOLTAGE_CHANGE (R462): A feed crossing its limits changes condition and may cause a handover. -/
  | feedVoltageChange (t : Time) (a : Nat) (b : Nat) (elapsed : Nat)
  /-- FEED_QUALIFY_TIMER (R462): A feed in range for 100 ms becomes QUALIFIED and may take the load. -/
  | feedQualifyTimer (t : Time)
  /-- SWITCHING_CYCLE_END (R465): The holder copies its state to the standby at the end of each cycle. -/
  | switchingCycleEnd (t : Time) (copied : Bool)
  /-- FRONT_END_FAULT (R466): A holder's internal fault starts a handover. -/
  | frontEndFault (t : Time) (cause : Nat)
  /-- KA_CHANGE (R468): KA becomes present or absent and PD_AON changes source. -/
  | kaChange (t : Time) (mv : Nat)
  /-- DOMAIN_OFF_COMPLETE (R474): A shutting-down domain finishes its work and is off. -/
  | domainOffComplete (t : Time) (domain : Nat)
  /-- DOMAIN_ON_COMPLETE (R473): A switching-on domain passes self-test, loads and is on. -/
  | domainOnComplete (t : Time) (domain : Nat) (repairs : List (Nat × Nat)) (bad : List Nat) (ok : Bool)
  /-- DOMAIN_FAULT (R476): A regulator fault switches its domain and dependants off at once. -/
  | domainFault (t : Time) (domain : Nat) (cause : Nat)
  /-- SYS_RESET (R547): SYS_RESET_N low for 10 µs or longer resets the device until release. -/
  | sysReset (t : Time) (held : Nat)
  /-- PCIE_PERST (R482): PCIE_PERST_N resets only the PCIe endpoint and its sessions. -/
  | pciePerst (t : Time) (asserted : Bool)
  /-- START_UP (R478): From a qualified feed the device runs the start-up steps to READY. -/
  | startUp (t : Time) (obs : StartObs)
  /-- START_STEP_TIMEOUT (R480): A start-up step exceeding its bound restarts cold or enters FAULT. -/
  | startStepTimeout (t : Time) (stage : Nat)
  /-- RESTART_DELAY (R348): 1 ms after a restart response, sessions close and the boot ROM starts again. -/
  | restartDelay (t : Time)
  /-- PACE_SAMPLE (R484): Pace monitors are sampled every 1 ms and the adaptive voltage stepped. -/
  | paceSample (t : Time) (monitors : List (List Nat))
  /-- POWER_OVER_CAP (R487): Input power above the cap for 1 000 ms is recorded and flagged. -/
  | powerOverCap (t : Time) (mw : Nat)
  /-- DECODER_SELF_TEST (R491): An in-service decoder engine runs its known-answer decode every 10 s. -/
  | decoderSelfTest (t : Time) (engine : Nat) (pass : Bool)
  /-- SCALER_SELF_TEST (R491): Each in-service scaler runs a known-answer line every 1 000 ms. -/
  | scalerSelfTest (t : Time) (scaler : Nat) (pass : Bool)
  /-- SPIRE_LOCKSTEP (R494): A lockstep mismatch stops a Spire pair and recovers it. -/
  | spireLockstep (t : Time) (pair : Nat) (cause : Nat)
  /-- HOUSE_ENGINE_RELOAD (R495): A house engine abandoning three operations in 60 s is reloaded. -/
  | houseEngineReload (t : Time) (engine : Nat)
  /-- SHED_EVALUATION (R500): Every 100 ms shortfall conditions are evaluated and the next shedding action taken. -/
  | shedEvaluation (t : Time)
  /-- SHED_UNWIND (R502): After 10 s without shortfall one action is undone every 1 000 ms. -/
  | shedUnwind (t : Time)
  /-- UPDATE_STAGE_DONE (R513): An image is verified and written to its free slot. -/
  | updateStageDone (t : Time) (container : ContainerRead) (written : Bool)
  /-- SPIRE_A_SWITCH (R515): Spire A switches image once no command is in progress. -/
  | spireASwitch (t : Time)
  /-- COMP_ACTIVATION (R516): A COMP activation starts once no commit group has a pending flip. -/
  | compActivation (t : Time)
  /-- IMAGE_RUNNING (R514): An activated image reports running and the next image starts. -/
  | imageRunning (t : Time) (ok : Bool)
  /-- ACTIVATION_TIMEOUT (R514): An image not running within its bound starts the fallback. -/
  | activationTimeout (t : Time)
  /-- CONFIRM_DEADLINE (R519): A pending plan unconfirmed at its deadline falls back. -/
  | confirmDeadline (t : Time)
  /-- SELF_TEST_SETTLED (R521): Self-test criteria held for SETTLE_S confirm the plan. -/
  | selfTestSettled (t : Time)
  /-- FLUSH_TIMER (R533): 10 s after the last flush the buffer is flushed to NAND. -/
  | flushTimer (t : Time)
  /-- RECORDER_FLUSH_DONE (R533): A flush of the PD_AON buffer to the NAND ring completes. -/
  | recorderFlushDone (t : Time)
  /-- RATE_LIMIT_CLOSE (R554): A closing record of suppressed occurrences is made after 1 000 ms. -/
  | rateLimitClose (t : Time) (ty : Nat) (subject : Nat)
  /-- SYNTHESISER_LOCK_CHANGE (R213): A head's pixel clock synthesiser reports loss or return of lock, so a GANG_FOLLOWER loses its alignment or can re-align at the next leader frame. -/
  | synthesiserLockChange (t : Time) (head : Nat) (locked : Bool)
  /-- SPIRE_RECOVERY_DONE (R494): A Spire pair finishes its lockstep recovery within 50 ms and resumes serving commands, reconciliation, DEV_ALIVE and recorder flushes. -/
  | spireRecoveryDone (t : Time) (pair : Nat)
  /-- PTP_MASTER_LOSS (R73): The selected PTP port of a base loses its master and the instance steers from the other port of the PRP pair. -/
  | ptpMasterLoss (t : Time) (base : Nat) (port : Nat)
  /-- SRAM_SCRUB (R496): House engine 0 scrubs every SRAM array every 10 s, correcting single-bit errors; an uncorrectable error fails the unit under R491. -/
  | sramScrub (t : Time) (unit : SramFinding)
  deriving DecidableEq, Repr

end Sys2Proof
end

