-- ==== Sys2Proof/Machine/Bytes.lean ====
section
/-! DEFINITION. Byte strings, little-endian fields, the CRC-32C, tables by unit index, and small integer helpers. -/

namespace Sys2Proof.Machine

/-! Tables by unit index. -/

/-- The entry of index `k`, or the default. -/
def Map.get {α : Type} (d : α) : Map α → Nat → α
  | [], _ => d
  | (j, v) :: m, k => if j = k then v else Map.get d m k

/-- The entry of index `k`, if one is listed. -/
def Map.get? {α : Type} : Map α → Nat → Option α
  | [], _ => none
  | (j, v) :: m, k => if j = k then some v else Map.get? m k

/-- Set index `k` to `v`, keeping the table sorted. -/
def Map.set {α : Type} : Map α → Nat → α → Map α
  | [], k, v => [(k, v)]
  | (j, u) :: m, k, v =>
    if k < j then (k, v) :: (j, u) :: m
    else if j = k then (k, v) :: m
    else (j, u) :: Map.set m k v

/-- Forget index `k`. -/
def Map.del {α : Type} (m : Map α) (k : Nat) : Map α := m.filter fun e => e.1 != k

/-- Apply `f` to every listed entry. -/
def Map.mapV {α β : Type} (f : Nat → α → β) (m : Map α) : Map β := m.map fun e => (e.1, f e.1 e.2)

/-- Change index `k` by `f`. -/
def Map.upd {α : Type} (d : α) (m : Map α) (k : Nat) (f : α → α) : Map α := Map.set m k (f (Map.get d m k))

/-! Integers. -/

/-- ⌈x/y⌉ for `y` positive. -/
def cdiv (x y : Nat) : Nat := (x + y - 1) / y

/-- A fraction of naturals, for the sums of admission: nothing is rounded before a sum is compared. -/
structure Frac where
  num : Nat
  den : Nat := 1
  deriving DecidableEq, Repr

/-- The sum of two fractions. -/
def Frac.add (a b : Frac) : Frac :=
  if a.den = b.den then { num := a.num + b.num, den := a.den }
  else
    let m := Nat.lcm a.den b.den
    { num := a.num * (m / a.den) + b.num * (m / b.den), den := m }

/-- `k` times a fraction. -/
def Frac.times (k : Nat) (a : Frac) : Frac := { a with num := k * a.num }

/-- The sum of a list of fractions. -/
def Frac.sum (l : List Frac) : Frac := l.foldl Frac.add { num := 0 }

/-- `a` is below `b`. -/
def Frac.below (a b : Frac) : Bool := a.num * b.den < b.num * a.den

/-- The greatest of a list of fractions, 0 of an empty list. -/
def Frac.max (l : List Frac) : Frac := l.foldl (fun a b => if a.below b then b else a) { num := 0 }

/-- The first element of a list with the least value. -/
def leastBy {α : Type} (f : α → Frac) : List α → Option α
  | [] => none
  | x :: l => some (l.foldl (fun a b => if (f b).below (f a) then b else a) x)

/-- A fraction rounded up; it exceeds a whole number exactly when the fraction does. -/
def Frac.up (a : Frac) : Nat := cdiv a.num a.den

/-- `x` saturating at the largest value of `n` bytes. -/
def sat (n x : Nat) : Nat := min x (2 ^ (8 * n) - 1)

/-- An integer clipped to 0 and above. -/
def pos (x : Int) : Nat := x.toNat

/-- `x` clipped to [lo, hi]. -/
def clampI (lo hi x : Int) : Int := if x < lo then lo else if hi < x then hi else x

/-- `x` clipped to [lo, hi]. -/
def clampN (lo hi x : Nat) : Nat := if x < lo then lo else if hi < x then hi else x

/-- ⌊x/2ⁿ⌋ for a signed x. -/
def sar (x : Int) (n : Nat) : Int := x / (2 ^ n : Int)

/-- Bit `i` of `x`. -/
def bit (x i : Nat) : Bool := x / 2 ^ i % 2 == 1

/-- `x` with bit `i` set to `b`. -/
def setBit (x i : Nat) (b : Bool) : Nat :=
  if bit x i then (if b then x else x - 2 ^ i) else (if b then x + 2 ^ i else x)

/-- The bits of a list of flags, the first being bit 0. -/
def bitsOf : List Bool → Nat
  | [] => 0
  | b :: bs => (if b then 1 else 0) + 2 * bitsOf bs

/-- How many of the bits 0 … n − 1 of `x` are 1. -/
def popcount : Nat → Nat → Nat
  | 0, _ => 0
  | n + 1, x => x % 2 + popcount n (x / 2)

/-- Field [lo + n − 1 : lo] of `x`. -/
def field (x lo n : Nat) : Nat := x / 2 ^ lo % 2 ^ n

/-- The greatest element, 0 of an empty list. -/
def maxL (l : List Nat) : Nat := l.foldl max 0

/-- The sum of a list. -/
def sumL (l : List Nat) : Nat := l.foldl (· + ·) 0

/-- The first index of a list whose element satisfies `p`. -/
def findIdx? {α : Type} (p : α → Bool) (l : List α) : Option Nat :=
  (l.zipIdx.find? fun e => p e.1).map (·.2)

/-- The list without repeats, the first of each kept. -/
def dedup (l : List Nat) : List Nat := l.foldl (fun a x => if a.contains x then a else a ++ [x]) []

/-- Insert by key, after equals. -/
def insertBy {α : Type} (key : α → Nat) (x : α) : List α → List α
  | [] => [x]
  | y :: ys => if key x < key y then x :: y :: ys else y :: insertBy key x ys

/-- A list in increasing order of a key, equals in their order. -/
def sortBy {α : Type} (key : α → Nat) (l : List α) : List α := l.foldl (fun a x => insertBy key x a) []

/-! Byte strings (R6). -/

/-- `n` zero bytes. -/
def zeros (n : Nat) : Bytes := List.replicate n 0

/-- Little-endian bytes of the low `n` bytes of `v`. -/
def le : Nat → Nat → Bytes
  | 0, _ => []
  | n + 1, v => BitVec.ofNat 8 v :: le n (v / 256)

/-- Big-endian bytes of the low `n` bytes of `v`, for the protocols that use them. -/
def be (n v : Nat) : Bytes := (le n v).reverse

/-- Two's complement little-endian bytes of a signed value. -/
def leS (n : Nat) (v : Int) : Bytes := le n (v % (256 ^ n : Nat)).toNat

/-- The little-endian value of a byte string. -/
def ofLe : Bytes → Nat
  | [] => 0
  | b :: bs => b.toNat + 256 * ofLe bs

/-- The big-endian value of a byte string. -/
def ofBe (bs : Bytes) : Nat := ofLe bs.reverse

/-- Exactly `n` bytes: cut, or continued by zeros. -/
def fit (n : Nat) (bs : Bytes) : Bytes := bs.take n ++ zeros (n - bs.length)

/-- `n` bytes from offset `off`. -/
def sub (bs : Bytes) (off n : Nat) : Bytes := (bs.drop off).take n

/-- The little-endian field of `n` bytes at `off`. -/
def rd (bs : Bytes) (off n : Nat) : Nat := ofLe (sub bs off n)

/-- The big-endian field of `n` bytes at `off`. -/
def rdBe (bs : Bytes) (off n : Nat) : Nat := ofBe (sub bs off n)

/-- A value of `n` bytes taken as two's complement. -/
def toS (n v : Nat) : Int := if v < 2 ^ (8 * n - 1) then (v : Int) else (v : Int) - (2 ^ (8 * n) : Nat)

/-- The signed little-endian field of `n` bytes at `off`. -/
def rdS (bs : Bytes) (off n : Nat) : Int := toS n (rd bs off n)

/-- Cut a byte string into `k` pieces of `n` bytes. -/
def pieces (n : Nat) : Nat → Bytes → List Bytes
  | 0, _ => []
  | k + 1, bs => bs.take n :: pieces n k (bs.drop n)

/-- Zero padding of a byte string to a multiple of `n`. -/
def padTo (n : Nat) (bs : Bytes) : Bytes := bs ++ zeros ((n - bs.length % n) % n)

/-- One bit of the reflected CRC-32C. -/
def crcBit (c : Nat) : Nat := if c % 2 = 1 then (c / 2) ^^^ 0x82F63B78 else c / 2

/-- One byte of the reflected CRC-32C. -/
def crcByte (c : Nat) (b : Byte) : Nat :=
  crcBit (crcBit (crcBit (crcBit (crcBit (crcBit (crcBit (crcBit (c ^^^ b.toNat))))))))

/-- CRC-32C with initial value 0xFFFF_FFFF and final XOR 0xFFFF_FFFF (R317, R534). -/
def crc32c (bs : Bytes) : Nat := (bs.foldl crcByte 0xFFFFFFFF) ^^^ 0xFFFFFFFF

end Sys2Proof.Machine
end

