-- ==== Sys2Proof/Machine/Reserved.lean ====
section
/-! DEFINITION. Reserved bits of what the W16 writes for the host to read: the value read from them is undefined (R4), so each is a free value (log 36). -/

namespace Sys2Proof.Machine

/-- Whole bytes `o` to `o + n - 1`. -/
def spare (o n : Nat) : List (Nat × Nat) := (List.range n).map fun i => (o + i, 0xFF)

/-- The reserved bits of byte `i`, of a list of places with their bits. -/
def bitsAt (l : List (Nat × Nat)) (i : Nat) : Nat := ((l.find? fun e => e.1 == i).map (·.2)).getD 0

/-- The reserved bits of byte `i` of records of `n` bytes that begin at `o`. -/
def inRecords (o n : Nat) (l : List (Nat × Nat)) (i : Nat) : Nat := if i < o then 0 else bitsAt l ((i - o) % n)

/-- Those of a LIST: bytes 6 and 7 of its head, then records of `n` bytes (Table 12-1). -/
def inList (n : Nat) (l : List (Nat × Nat)) (i : Nat) : Nat := if i < 8 then bitsAt (spare 6 2) i else inRecords 8 n l i

/-- Those of PAIRS: a state pair, then a record of `n` bytes, for each unit (Tables 11-16, 12-1). -/
def inPairs (n : Nat) (l : List (Nat × Nat)) (i : Nat) : Nat := inList (16 + n) ((5, 0xF8) :: l.map fun e => (16 + e.1, e.2)) i

/-- Reserved bits of a window descriptor (Table 6-1). -/
def spareWindow : List (Nat × Nat) := (13, 0xFE) :: spare 14 2 ++ (25, 0xFC) :: (27, 0xF0) :: spare 31 1 ++ spare 38 2 ++ spare 46 2 ++ spare 60 4

/-- Of a head timing record (Table 7-2). -/
def spareTiming : List (Nat × Nat) := (3, 0xF0) :: (7, 0xE0) :: (30, 0xF0) :: (36, 0xF0) :: spare 37 3

/-- Of the registers that SYSTEM_STATUS copies (Table 11-2). -/
def spareHealth : List (Nat × Nat) := (0, 0xF0) :: spare 1 3 ++ (4, 0x80) :: spare 5 3 ++ (12, 0xF8) :: spare 13 3 ++ spare 26 2 ++ (28, 0xE0) :: (29, 0xF0) :: spare 30 2

/-- Of a safety record of a kind: a policy (Table 2-4), a palette (Table 8-1), or HEAD_PALETTE (Table 8-5). -/
def spareSafety (kind : Nat) : List (Nat × Nat) :=
  match kind with
  | 0 => [(13, 0xFC), (14, 0xF8)]
  | 1 => spare 1 1 ++ spare 26 6
  | _ => []

/-- The reserved bits of byte `i` of the ST_OK payload of a command, by its code (Tables 12-3 to 12-27). `req` is the request's payload. -/
def spareOk (code : Nat) (req p : Bytes) (i : Nat) : Nat :=
  match code with
  | 0x0101 => bitsAt (spare 17 3 ++ spare 58 6) i
  | 0x0102 => bitsAt spareHealth i
  | 0x01FF => bitsAt (spare 6 2) i
  | 0x0201 | 0x0301 | 0x0305 | 0x0501 | 0x0601 | 0x0602 | 0x0803 => bitsAt (spare 92 4) i
  | 0x0202 | 0x0204 => if i < 112 then bitsAt (spare 92 4 ++ spare 110 2) i else inRecords 112 8 (spare 6 2) i
  | 0x0303 => inPairs 64 [(3, 0xE0)] i
  | 0x0304 => inPairs 56 ((3, 0xF0) :: spare 47 1 ++ spare 52 4) i
  | 0x0306 => inPairs 16 (spare 3 1) i
  | 0x0402 => inList 64 spareWindow i
  | 0x0403 => inPairs 32 ((4, 0x01) :: (5, 0xE0) :: (6, 0xF0) :: spare 14 2 ++ (28, 0x80) :: spare 29 1) i
  | 0x0407 => bitsAt ((1, 0xFC) :: spare 6 2) i
  | 0x0409 => bitsAt (spare 1 3) i
  | 0x040A => bitsAt (spare 20 4) i
  | 0x040C => bitsAt (spare 2 2) i
  | 0x040D => bitsAt (spare 92 4 ++ spare 100 4) i
  | 0x040E => if i < 8 then bitsAt (spare 4 4) i else bitsAt (spareSafety (rd req 0 1)) (i - 8)
  | 0x0410 => inPairs 48 ((3, 0xF0) :: spare 14 2 ++ spare 46 2) i
  | 0x0411 => bitsAt (spare 1 3) i
  | 0x0502 => if (sub p ((i - 8) / 40 * 40 + 9) 39).all (· == 0) then bitsAt (spare 6 2) i else inList 40 spareTiming i
  | 0x0503 => inPairs 64 ((3, 0xE0) :: spare 7 1 ++ spare 14 2 ++ spare 28 4 ++ spare 46 2 ++ spare 62 2) i
  | 0x0504 => bitsAt ((2, 0xF0) :: spare 3 1) i
  | 0x0604 => inPairs 32 ((3, 0xFE) :: spare 7 1) i
  | 0x0704 => bitsAt (spare 133 3) i
  | 0x0705 => if i < 16 then bitsAt ((2, 0xFE) :: spare 3 1) i else inPairs 56 ((2, 0xC0) :: spare 3 1 ++ spare 45 3) (i - 16)
  | 0x0802 => inList 56 ((1, 0xFC) :: spare 10 2 ++ spare 54 2) i
  | 0x0804 => inList 32 ((4, 0xE0) :: spare 5 1) i
  | 0x0905 => inList 8 ((2, 0xFC) :: spare 3 1) i
  | 0x0A01 => bitsAt (spare 5 3 ++ spare 12 4) i
  | 0x0A03 => inList 24 (spare 6 2) i
  | 0x0A09 => if i < 4 then bitsAt (spare 2 2) i else if i + 4 < p.length then inRecords 4 16 ((13, 0xF0) :: spare 14 2) i else 0
  | 0x0A0A => bitsAt (spare 4 4) i
  | 0x0B01 => bitsAt (spare 3 1 ++ spare 12 4) i
  | 0x0B05 => if i < 16 then bitsAt (spare 4 4) i else inRecords 16 16 (spare 2 2) i
  | 0x0D03 => inPairs 8 ((2, 0xFE) :: spare 3 1 ++ spare 6 2) i
  | 0x0D04 => bitsAt ((7, 0xF0) :: (22, 0xC0) :: spare 23 1 ++ spare 42 22) i
  | 0x0E01 => bitsAt (spare 1 3) i
  | 0x0E02 => bitsAt (spare 3 1 ++ spare 12 4) i
  | 0x0E04 => bitsAt (spare 17 7) i
  | _ => 0

/-- The same by status: a refusal carries a verdict record, another failure the error detail (R321). -/
def spareBits (code status : Nat) (req p : Bytes) (i : Nat) : Nat :=
  match status with
  | 0 => spareOk code req p i
  | 3 => bitsAt (spare 92 4) i
  | _ => 0

/-- Bytes with the bits `mask` of each place taken from the free values `f`. -/
def withSpare (f : Nat → Byte) (mask : Nat → Nat) (bs : Bytes) : Bytes :=
  bs.mapIdx fun i b => (b &&& ~~~(BitVec.ofNat 8 (mask i))) ||| (f i &&& BitVec.ofNat 8 (mask i))

end Sys2Proof.Machine
end

