-- ==== Sys2Proof/Machine/Derived.lean ====
section
/-! DEFINITION. Quantities the manual derives from a record or a packet alone. -/

namespace Sys2Proof

open Machine (cdiv)

/-- H.264 or H.265. -/
def StreamRec.compressed (d : StreamRec) : Bool := d.kind != 2

/-- Policing rates of R102: bits in 10⁻⁹ bit per ns, packets in 10⁻¹⁰ packet per ns. -/
def StreamRec.bitRate (d : StreamRec) : Nat := d.maxBitrate * 1100

def StreamRec.pktRateMax (d : StreamRec) : Nat := if d.maxPktRate = 0 then cdiv (d.maxBitrate * 1000) 9600 else d.maxPktRate

def StreamRec.depthNs (d : StreamRec) : Nat := (d.jitterDepth + 10000) * 1000

/-- A segment covers pixel x of line y. -/
def Segment.covers (g : Segment) (x y : Nat) : Bool := g.line == y && g.offset ≤ x && x < g.offset + g.length

/-- Bytes of a jitter buffer (R113). -/
def StreamRec.jitterBytes (d : StreamRec) : Nat :=
  cdiv (cdiv (d.maxBitrate * 1100 * (d.jitterDepth + 10000)) 8000000) 65536 * 65536

def RtpPacket.seqOf (p : RtpPacket) (wide : Bool) : Nat := if wide then p.hiSeq * 65536 + p.seq else p.seq

end Sys2Proof

namespace Sys2Proof.Machine

/-- `x` rounded up to a multiple of `n`. -/
def roundUp (n x : Nat) : Nat := cdiv x n * n

/-- The ports that a PORT_MASK selects. -/
def portsOf (mask : Nat) : List Nat := (List.range 16).filter fun k => bit mask k

/-- 2 × b_src (R288). -/
def bSrc2 (d : StreamRec) : Nat :=
  if d.kind != 2 then (if d.bitDepth = 8 then 3 else 6)
  else if d.sampling = 1 then (if d.bitDepth = 8 then 6 else 12)
  else (if d.bitDepth = 8 then 4 else 8)

/-- Bytes of a frame buffer of W64 × H64 samples at half of `b2` bytes each (*Admission*, ADM_POOL_MEMORY). -/
def frameBytes (w h b2 : Nat) : Nat := roundUp 4096 (cdiv (roundUp 64 w * roundUp 64 h * b2) 2)

end Sys2Proof.Machine
end

