-- ==== Sys2Proof/Config.lean ====
section
/-! DEFINITION. What each device fixes and the values the manual leaves open. None of these constants has a body: nothing can be proved of their values. -/

namespace Sys2Proof

/-- Free values, one fresh word per index; the state holds the index of the next one. -/
opaque Config.free : Nat → BitVec 64

/-- Reserved bits of what the W16 writes (R4): the count of requests, the mailbox, the place. -/
opaque Config.reserved : Nat → Nat → Nat → BitVec 8

/-- What the manual does not state of an event message's header: the mailbox, its SEQUENCE, the place (R316). -/
opaque Config.eventHead : Nat → Nat → Nat → BitVec 8

/-- Reserved bits of a BAR0 register as a read returns them (R4): the count of free values, the offset. -/
opaque Config.barSpare : Nat → Nat → BitVec 32

/-- DEV_SERIAL, 64 bits, per device (R24). -/
opaque Config.serial : BitVec 64

/-- The firmware root and debug authority public keys in the boot ROM (R451), each of 97 bytes. -/
opaque Config.rootKey : BitVec 776
opaque Config.debugKey : BitVec 776

/-- The update key by KEY_SALT (Table 16-6); how it is derived from the device-unique key is not stated. -/
opaque Config.updateKey : List (BitVec 8) → BitVec 256

/-- The PCIe Vendor ID assigned to Paltik (R25). -/
opaque Config.pciVendor : BitVec 16

/-- Paltik's JEP106 manufacturer code (R447). -/
opaque Config.jep106 : BitVec 11

/-- The 48-bit base MAC address in OTP without its low four bits, which are zero (R404). -/
opaque Config.macBase : BitVec 44

/-- The clock identity of the W16's PTP instances (IEEE 1588): the manual does not state it. -/
opaque Config.clockIdentity : BitVec 64

/-- Fields of the IP headers of frames for which the manual states no value: DSCP with ECN, TTL or hop limit, identification. -/
opaque Config.dscp : BitVec 8
opaque Config.ttl : BitVec 8
opaque Config.ipId : BitVec 16

/-- The MAC address of a unicast neighbour. -/
opaque Config.neighbourMac : List (BitVec 8) → BitVec 48

/-- The rate of the hold oscillator against the main reference, 10⁻¹²; the model bounds it by the rated drift of R75. -/
opaque Config.holdRate : Int

/-- A glyph bitmap of a ROM: ROM 0 the heads', 1 Lantern's; the glyph's code; the byte's place (R229). -/
opaque Config.glyph : Nat → Nat → Nat → Byte

/-- The SESSION identifier of the local action session (R327). -/
opaque Config.localSession : BitVec 32

/-- Taps of the default coefficient sets CS0–CS3 (R175): set, place in the record's order. -/
opaque Config.coefTap : Nat → Nat → BitVec 12

/-- Entries of the default tone-map profile (R179): field (0 FLAGS, 1 Y_OFFSET, 2 C_OFFSET, 3 YUV_M, 4 GAMUT_M, 5 IN_LUT, 6 TONE, 7 OUT_LUT) and place. -/
opaque Config.toneEntry : Nat → Nat → BitVec 24

end Sys2Proof
end

