-- ==== Sys2Proof/Machine/Events.lean ====
section
/-! DEFINITION. Event types (Table 20-2, R530) and the coding of payloads (R531). -/

namespace Sys2Proof.Machine

/-- SHUTTER_CHANGE. -/
def evShutterChange : Nat := 0x0201
/-- SEQ_DISCONTINUITY. -/
def evSeqDiscontinuity : Nat := 0x0202
/-- FUTURE_CAPTURE. -/
def evFutureCapture : Nat := 0x0203
/-- TIME_STATE_CHANGE. -/
def evTimeStateChange : Nat := 0x0301
/-- TIME_SWITCH. -/
def evTimeSwitch : Nat := 0x0302
/-- GM_CHANGE. -/
def evGmChange : Nat := 0x0303
/-- TIME_ALIGN. -/
def evTimeAlign : Nat := 0x0304
/-- TIME_DISAGREE. -/
def evTimeDisagree : Nat := 0x0305
/-- ENVELOPE_VIOLATION. -/
def evEnvelopeViolation : Nat := 0x0401
/-- JOIN_COMPAT. -/
def evJoinCompat : Nat := 0x0402
/-- SSRC_CHANGE. -/
def evSsrcChange : Nat := 0x0403
/-- STILL_CORRUPT. -/
def evStillCorrupt : Nat := 0x0404
/-- DECODE_ERROR. -/
def evDecodeError : Nat := 0x0501
/-- WORK_OVERRUN. -/
def evWorkOverrun : Nat := 0x0502
/-- REF_SUBSTITUTED. -/
def evRefSubstituted : Nat := 0x0503
/-- HASH_MISMATCH. -/
def evHashMismatch : Nat := 0x0504
/-- SEI_FAULT. -/
def evSeiFault : Nat := 0x0505
/-- DPB_OVERFLOW. -/
def evDpbOverflow : Nat := 0x0506
/-- WRITE_CLAMPED. -/
def evWriteClamped : Nat := 0x0507
/-- JOIN_COMPLETE. -/
def evJoinComplete : Nat := 0x0508
/-- NO_ENTRY. -/
def evNoEntry : Nat := 0x0509
/-- COLOUR_CHANGE. -/
def evColourChange : Nat := 0x050A
/-- CROP_EXCEEDS. -/
def evCropExceeds : Nat := 0x0601
/-- FLIP. -/
def evFlip : Nat := 0x0602
/-- LINK_UP. -/
def evLinkUp : Nat := 0x0701
/-- LINK_DOWN. -/
def evLinkDown : Nat := 0x0702
/-- LINK_FALLBACK. -/
def evLinkFallback : Nat := 0x0703
/-- EDID_CHANGE. -/
def evEdidChange : Nat := 0x0704
/-- SYNC_STATE_CHANGE. -/
def evSyncStateChange : Nat := 0x0705
/-- SYNC_AT_LIMIT. -/
def evSyncAtLimit : Nat := 0x0706
/-- FORMAT_CHANGE. -/
def evFormatChange : Nat := 0x0707
/-- UNDERRUN. -/
def evUnderrun : Nat := 0x0708
/-- LANTERN_MISMATCH. -/
def evLanternMismatch : Nat := 0x0801
/-- LANTERN_LATE. -/
def evLanternLate : Nat := 0x0802
/-- LANTERN_LATCHED. -/
def evLanternLatched : Nat := 0x0803
/-- LANTERN_CLEARED. -/
def evLanternCleared : Nat := 0x0804
/-- LANTERN_SELFTEST_FAIL. -/
def evLanternSelftestFail : Nat := 0x0805
/-- LANTERN_DOMAIN_LOST. -/
def evLanternDomainLost : Nat := 0x0806
/-- SAFE_FAULT_CHANGE. -/
def evSafeFaultChange : Nat := 0x0807
/-- SAFETY_ARMED. -/
def evSafetyArmed : Nat := 0x8801
/-- SAFETY_APPLIED. -/
def evSafetyApplied : Nat := 0x8802
/-- SAFETY_CONFIG_RESTORED. -/
def evSafetyConfigRestored : Nat := 0x8803
/-- SAFETY_CONFIG_AUDIT. -/
def evSafetyConfigAudit : Nat := 0x8804
/-- ENCODE_CLIPPED. -/
def evEncodeClipped : Nat := 0x0901
/-- ENCODE_AT_LIMIT. -/
def evEncodeAtLimit : Nat := 0x0902
/-- ENCODE_DROP. -/
def evEncodeDrop : Nat := 0x0903
/-- STATE_MISMATCH. -/
def evStateMismatch : Nat := 0x0B01
/-- STATE_MISMATCH_CLEARED. -/
def evStateMismatchCleared : Nat := 0x0B02
/-- ALERT_ACKNOWLEDGED. -/
def evAlertAcknowledged : Nat := 0x0C01
/-- ECC_CORRECTED. -/
def evEccCorrected : Nat := 0x0D01
/-- ECC_UNCORRECTABLE. -/
def evEccUncorrectable : Nat := 0x0D02
/-- DRAM_ROW_REMAPPED. -/
def evDramRowRemapped : Nat := 0x0D03
/-- DRAM_ROW_REPAIRED. -/
def evDramRowRepaired : Nat := 0x0D04
/-- DRAM_BLOCK_RETIRED. -/
def evDramBlockRetired : Nat := 0x0D05
/-- DRAM_TRAIN_FAIL. -/
def evDramTrainFail : Nat := 0x0D06
/-- LANE_UP. -/
def evLaneUp : Nat := 0x0E01
/-- LANE_DOWN. -/
def evLaneDown : Nat := 0x0E02
/-- LANE_FLAP. -/
def evLaneFlap : Nat := 0x0E03
/-- MODULE_INSERTED. -/
def evModuleInserted : Nat := 0x0E04
/-- MODULE_REMOVED. -/
def evModuleRemoved : Nat := 0x0E05
/-- MODULE_TX_FAULT. -/
def evModuleTxFault : Nat := 0x0E06
/-- LANE_EYE_LOW. -/
def evLaneEyeLow : Nat := 0x0E07
/-- LANE_AT_LIMIT. -/
def evLaneAtLimit : Nat := 0x0E08
/-- FEC_UNCORRECTED. -/
def evFecUncorrected : Nat := 0x0E09
/-- KEY_PRESS. -/
def evKeyPress : Nat := 0x0F01
/-- KEY_RELEASE. -/
def evKeyRelease : Nat := 0x0F02
/-- KEY_STUCK. -/
def evKeyStuck : Nat := 0x0F03
/-- KEY_UNMASKED. -/
def evKeyUnmasked : Nat := 0x0F04
/-- PROXIMITY. -/
def evProximity : Nat := 0x0F05
/-- TOUCH_REBASELINED. -/
def evTouchRebaselined : Nat := 0x0F06
/-- TOUCH_ELECTRODE_FAULT. -/
def evTouchElectrodeFault : Nat := 0x0F07
/-- LOCAL_ACTION. -/
def evLocalAction : Nat := 0x0F08
/-- SESSION_OPENED. -/
def evSessionOpened : Nat := 0x9001
/-- SESSION_CLOSED. -/
def evSessionClosed : Nat := 0x9002
/-- AUTH_FAILED. -/
def evAuthFailed : Nat := 0x9003
/-- AUTH_BACKOFF. -/
def evAuthBackoff : Nat := 0x9004
/-- TLS_FAILED. -/
def evTlsFailed : Nat := 0x9005
/-- CREDENTIAL_CHANGED. -/
def evCredentialChanged : Nat := 0x9006
/-- TRUST_ANCHOR_CHANGED. -/
def evTrustAnchorChanged : Nat := 0x9007
/-- COMMISSIONING_CLOSED. -/
def evCommissioningClosed : Nat := 0x9008
/-- COMMISSIONING_REOPENED. -/
def evCommissioningReopened : Nat := 0x9009
/-- DOOR_RULES_CHANGED. -/
def evDoorRulesChanged : Nat := 0x900A
/-- DOOR_DENIED. -/
def evDoorDenied : Nat := 0x900B
/-- DEBUG_UNLOCKED. -/
def evDebugUnlocked : Nat := 0x900C
/-- DEBUG_LOCKED. -/
def evDebugLocked : Nat := 0x900D
/-- DEBUG_DENIED. -/
def evDebugDenied : Nat := 0x900E
/-- ENTROPY_FAIL. -/
def evEntropyFail : Nat := 0x900F
/-- SECURITY_STORE_LOST. -/
def evSecurityStoreLost : Nat := 0x9010
/-- FEED_QUALIFIED. -/
def evFeedQualified : Nat := 0x1101
/-- FEED_LOST. -/
def evFeedLost : Nat := 0x1102
/-- FEED_HANDOVER. -/
def evFeedHandover : Nat := 0x1103
/-- FEED_LINK_FAULT. -/
def evFeedLinkFault : Nat := 0x1104
/-- KA_CHANGE. -/
def evKaChange : Nat := 0x1105
/-- POWER_FAIL_WARNING. -/
def evPowerFailWarning : Nat := 0x1106
/-- DOMAIN_CHANGE. -/
def evDomainChange : Nat := 0x1107
/-- DOMAIN_FAULT. -/
def evDomainFault : Nat := 0x1108
/-- START_FAILED. -/
def evStartFailed : Nat := 0x1109
/-- RESET_CAUSE. -/
def evResetCause : Nat := 0x110A
/-- START_COMPLETE. -/
def evStartComplete : Nat := 0x110B
/-- DOMAIN_AT_LIMIT. -/
def evDomainAtLimit : Nat := 0x1201
/-- POWER_OVER_CAP. -/
def evPowerOverCap : Nat := 0x1202
/-- SRAM_REPAIRED. -/
def evSramRepaired : Nat := 0x1203
/-- UNIT_FAILED. -/
def evUnitFailed : Nat := 0x1204
/-- SPARE_SWAP. -/
def evSpareSwap : Nat := 0x1205
/-- DECODE_UNPLACED. -/
def evDecodeUnplaced : Nat := 0x1206
/-- SPIRE_LOCKSTEP. -/
def evSpireLockstep : Nat := 0x1207
/-- UNIT_RELOADED. -/
def evUnitReloaded : Nat := 0x1208
/-- SHED_STEP. -/
def evShedStep : Nat := 0x1209
/-- SHED_RELEASE. -/
def evShedRelease : Nat := 0x120A
/-- SHED_EXHAUSTED. -/
def evShedExhausted : Nat := 0x120B
/-- UPDATE_FAILED. -/
def evUpdateFailed : Nat := 0x9301
/-- UPDATE_ACTIVATED. -/
def evUpdateActivated : Nat := 0x9302
/-- UPDATE_CONFIRMED. -/
def evUpdateConfirmed : Nat := 0x9303
/-- UPDATE_FALLBACK. -/
def evUpdateFallback : Nat := 0x9304
/-- SETTINGS_MIGRATED. -/
def evSettingsMigrated : Nat := 0x9305
/-- ROLLBACK_ADVANCED. -/
def evRollbackAdvanced : Nat := 0x9306
/-- IMAGE_INVALID. -/
def evImageInvalid : Nat := 0x9307
/-- IMAGE_SLOT_SWITCHED. -/
def evImageSlotSwitched : Nat := 0x9308
/-- RECORDS_LOST. -/
def evRecordsLost : Nat := 0x1401
/-- JOURNAL_CLEARED. -/
def evJournalCleared : Nat := 0x8C01

/-- A payload value: `n` little-endian bytes of a number, or a byte string of its own size (Table 20-3). -/
def pvPlace (acc : Bytes) (size : Nat) (bytes : Bytes) : Bytes := padTo size acc ++ bytes

/-- Append unsigned values of the given sizes, each at the next multiple of its size (R531). -/
def payload : List (Nat × Int) → Bytes → Bytes
  | [], acc => acc
  | (n, v) :: vs, acc => payload vs (pvPlace acc n (leS n v))

/-- An unsigned value of one byte: reason, state, kind, role, action, mode, cause. -/
def p1 (v : Nat) : Nat × Int := (1, sat 1 v)
/-- A unit index, status, identifier or short bitmask. -/
def p2 (v : Nat) : Nat × Int := (2, sat 2 v)
/-- A count, CRC, sequence, epoch, session, age or duration. -/
def p4 (v : Nat) : Nat × Int := (4, sat 4 v)
/-- A frame number, device-time instant or address. -/
def p8 (v : Nat) : Nat × Int := (8, v)
/-- A signed time. -/
def p8s (v : Int) : Nat × Int := (8, v)

end Sys2Proof.Machine
end

