-- ==== Sys2Proof/Machine/State/Stream.lean ====
section
/-! DEFINITION. The state of stream contexts, of decoding, and of internal sources (*What counts as live*, *Stream ingest*, *Video decoding*). -/

namespace Sys2Proof.Machine

/-- Naelto tag, Table 2-1 (R27). CAPTURE_TIME is kept signed so that a mapped time before the epoch is exact. -/
structure Tag where
  source : Nat := 0
  flags : Nat := 0
  alive : Nat := 0
  capture : Int := 0
  advance : Nat := 0
  complete : Nat := 0
  unc : Nat := 0
  cls : Nat := 2
  info : Nat := 0
  hbValid : Nat := 0
  hb : List Nat := [0, 0, 0, 0]
  slot : Nat := 0xFFFF
  conceal : Nat := 0
  deriving DecidableEq, Repr

/-- A completed picture with pixels: its tag, its concealment map as the list of set blocks (R28), its colour description and its sample planes in raster order. Sampling 0 is 4:2:0, 1 is 4:2:2, 2 is RGB 4:4:4. -/
structure Picture where
  tag : Tag
  width : Nat
  height : Nat
  depth : Nat
  sampling : Nat
  fullRange : Bool := false
  map : List Nat := []
  planes : List (List Nat) := []
  /-- The heartbeat rectangles assigned when it completed (R52). -/
  hbRects : Map (Nat × Nat × Nat × Nat) := []
  deriving DecidableEq, Repr

/-- A time pair (R152). -/
structure TimePair where
  capture : Int
  unc : Nat
  cls : Nat
  locked : Bool
  deriving DecidableEq, Repr

/-- A capture time mapped at a mapping instant (R87–R91). -/
structure Mapped where
  pair : TimePair
  base : Nat
  degraded : Bool
  deriving DecidableEq, Repr

/-- A hardware timestamp of R70 in device time, with D_0 and D_1 of that instant (R66). -/
structure Stamp where
  at_ : Nat
  d : List Int := [0, 0]
  deriving DecidableEq, Repr

/-- A sender report kept under R88: NTP time in 2⁻³² ns of the PTP timescale, RTP time, whether it may map (R90), whether its UTC offset came from the other base (R89), its arrival in device time. -/
structure SenderReport where
  ntp : Int
  rtp : Nat
  usable : Bool
  otherBase : Bool
  arrival : Nat
  deriving DecidableEq, Repr

/-- A packet held in a jitter buffer (R113): its extended sequence number, and its arrival. -/
structure Held where
  seq : Nat
  arrival : Stamp
  pkt : RtpPacket
  deriving DecidableEq, Repr

/-- A released access unit (R124). `order` counts releases over the device (R129). -/
structure AccessUnit where
  rtp : Nat
  arrival : Stamp
  incomplete : Bool
  degraded : Bool
  nals : List Bytes
  order : Nat
  deriving DecidableEq, Repr

/-- An ST 2110-20 picture in assembly (R118): its received segments, newest last, the sequence numbers held (R112), its earliest arrival, and the frame buffer of the context's pool that it is written into, none where none was free. `old` marks one that was begun before the sequence state was last reset (R109, R112). -/
structure Assembly where
  rtp : Nat
  arrival : Stamp
  slot : Option Nat := none
  firstSeq : Nat
  lastSeq : Nat
  seqs : List Nat
  marker : Bool
  outside : Bool
  ext : Option CaptureExt
  extSeen : Bool
  segments : List Segment
  old : Bool
  deriving DecidableEq, Repr

/-- States of a stream context (Table 4-3). -/
inductive CtxState where
  | closed | joining | active | draining
  deriving DecidableEq, Repr

/-- Join states (Table 5-6). -/
inductive JoinState where
  | idle | waitEntry | recovering | showing
  deriving DecidableEq, Repr

/-- What a VUI says that the W16 uses: the colour description and range, field_seq_flag, the reorder depth and max_dec_frame_buffering of its bitstream restrictions (R132, R144, Table 5-9). -/
structure Vui where
  colour : List Nat := [2, 2, 2]
  fullRange : Bool := false
  fieldSeq : Bool := false
  reorder : Option Nat := none
  buffering : Option Nat := none
  deriving DecidableEq, Repr

/-- An H.264 sequence parameter set; log2Num and log2Poc are the widths of frame_num and pic_order_cnt_lsb, mbs and rows the size in macroblocks and map units, crop left, right, top, bottom. -/
structure AvcSps where
  id : Nat
  profile : Nat
  constraints : Nat
  level : Nat
  chroma : Nat
  depthY : Nat
  depthC : Nat
  log2Num : Nat
  pocType : Nat
  log2Poc : Nat
  deltaZero : Bool
  offNonRef : Int
  offBottom : Int
  offRef : List Int
  refs : Nat
  gaps : Bool
  mbs : Nat
  rows : Nat
  framesOnly : Bool
  crop : List Nat
  vui : Vui
  deriving DecidableEq, Repr

/-- An H.264 picture parameter set. -/
structure AvcPps where
  id : Nat
  sps : Nat
  cabac : Bool
  bottomPoc : Bool
  refs0 : Nat
  refs1 : Nat
  groups : Nat
  weighted : Bool
  bipred : Nat
  deblock : Bool
  redundant : Bool
  deriving DecidableEq, Repr

/-- A slice header of H.264: where it starts, its type (0 P, 1 B, 2 I), numbering, reference list sizes and modifications, and marking. -/
structure AvcSlice where
  idr : Bool
  refIdc : Nat
  first : Nat
  ty : Nat
  pps : AvcPps
  sps : AvcSps
  num : Nat
  lsb : Nat
  deltaBottom : Int
  delta0 : Int
  delta1 : Int
  active0 : Nat
  active1 : Nat
  mods0 : List (Nat × Nat)
  mods1 : List (Nat × Nat)
  noOutput : Bool
  longRef : Bool
  mmco : Option (List (Nat × Nat × Nat))
  deriving DecidableEq, Repr

/-- A short-term reference picture set of H.265: differences of picture order count with whether the current picture uses each, the preceding pictures first. -/
structure RefSet where
  neg : List (Int × Bool) := []
  pos : List (Int × Bool) := []
  deriving DecidableEq, Repr

/-- An H.265 sequence parameter set; `minCb` and `log2Ctb` are the logarithms of the least coding block and of the tree block, `tools` whether scaling lists, asymmetric partitions and PCM are enabled, `exts` its range, multilayer, 3D and SCC extension flags, the last three numbers those of sub-layer HighestTid. -/
structure HevcSps where
  id : Nat
  tier : Bool
  profile : Nat
  compat : Nat
  level : Nat
  chroma : Nat
  width : Nat
  height : Nat
  crop : List Nat
  depthY : Nat
  depthC : Nat
  log2Poc : Nat
  minCb : Nat
  log2Ctb : Nat
  tools : List Bool
  sets : List RefSet
  longs : List (Nat × Bool)
  longPresent : Bool
  sao : Bool
  mvp : Bool
  vui : Vui
  exts : List Bool
  buffering : Nat
  reorder : Nat
  latency : Nat
  deriving DecidableEq, Repr

/-- An H.265 picture parameter set; `cols` and `rows` are the sizes of tile columns and rows in coding tree units, empty where spacing is uniform, `skip` whether transform skip is enabled, `deblock` whether a slice may override the deblocking and whether it is off. -/
structure HevcPps where
  id : Nat
  sps : Nat
  dependent : Bool
  outputFlag : Bool
  extra : Nat
  cabacInit : Bool
  refs0 : Nat
  refs1 : Nat
  initQp : Int
  skip : Bool
  chromaQp : Bool
  weighted : Bool
  bipred : Bool
  sync : Bool
  tiles : Nat × Nat
  uniform : Bool
  cols : List Nat
  rows : List Nat
  loopSlices : Bool
  deblock : Bool × Bool
  lists : Bool
  ext : Bool
  deriving DecidableEq, Repr

/-- A slice segment header of H.265; `ty` is 0 B, 1 P, 2 I, `refs` the entries of its first reference list, `qp` its SliceQpY, `address` counts coding tree units in raster order, `longs` are the low order counts of long-term references with whether each is used and, where given, how far its most significant bits lie. -/
structure HevcSlice where
  nal : Nat
  tid : Nat
  dependent : Bool
  address : Nat
  first : Bool
  pps : HevcPps
  sps : HevcSps
  noOutput : Bool
  output : Bool
  lsb : Nat
  set : RefSet
  longs : List (Nat × Bool × Option Nat)
  ty : Nat
  refs : Nat
  qp : Int
  deriving DecidableEq, Repr

/-- A slice header as the codec of its context reads it. -/
inductive SliceHead where
  | avc (h : AvcSlice)
  | hevc (h : HevcSlice)
  deriving DecidableEq, Repr

/-- The parameter sets that a decoder keeps by identifier (R136), those that are active, and the numbering it carries from picture to picture (ITU-T H.264 8.2.1 and H.265 8.3.1). -/
structure Decoder where
  /-- Parameter sets by identifier. Reset: none. -/
  avcSps : Map AvcSps := []
  avcPps : Map AvcPps := []
  hevcVps : Map Bytes := []
  hevcSps : Map HevcSps := []
  hevcPps : Map HevcPps := []
  /-- The active SPS (R136). Reset: none. -/
  avc : Option AvcSps := none
  hevc : Option HevcSps := none
  /-- H.264: frame_num of the previous reference picture and of the previous picture, and the FrameNumOffset of the latter. Reset: 0. -/
  refNum : Nat := 0
  lastNum : Nat := 0
  numOffset : Nat := 0
  /-- Order count of the previous reference picture: most and least significant parts. Reset: 0. -/
  pocMsb : Int := 0
  pocLsb : Nat := 0
  /-- H.265: the next IRAP picture begins a sequence, as the first one or the one after an end of sequence does. Reset: yes. -/
  begins : Bool := true
  /-- RASL pictures that follow are associated with an IRAP picture that begins a sequence (R147). Reset: no. -/
  dropRasl : Bool := false
  /-- Order counts of RASL pictures discarded in this sequence (R153). Reset: none. -/
  rasl : List Int := []
  deriving DecidableEq, Repr

/-- A reference picture that is in no slot: one that never arrived or was removed (R143, R153), or a frame that a permitted gap in frame_num infers (`inferred`). `named` says that a substitute stands for it (R154), `eff` is that of the substitute, none for mid-grey. -/
structure Missing where
  poc : Int
  num : Nat := 0
  long : Option Nat := none
  inferred : Bool := false
  named : Bool := false
  eff : Option TimePair := none
  deriving DecidableEq, Repr

/-- What an SPS says of its pictures: PROFILE as Table 4-2 codes it, none where Table 5-2 refuses it; level_idc, and the level as R133 compares it; conformance window and coded size; sample depth; colour; reorder depth, latency limit and picture buffers of the bumping conditions (R132, R133, R137, R144). -/
structure SeqInfo where
  profile : Option Nat := none
  level : Nat := 0
  compared : Nat := 0
  left : Nat := 0
  top : Nat := 0
  width : Nat := 16
  height : Nat := 16
  codedWidth : Nat := 16
  codedHeight : Nat := 16
  depth : Nat := 8
  colour : List Nat := [2, 2, 2]
  fullRange : Bool := false
  reorder : Nat := 0
  latency : Option Nat := none
  buffers : Nat := 16
  deriving DecidableEq, Repr

/-- A picture as its access unit describes it. -/
structure PicInfo where
  /-- Headers of the slices that can be decoded, in order. -/
  slices : List SliceHead := []
  seq : SeqInfo := {}
  /-- Its join kind: 0 none, 1 IDR or IRAP, 2 recovery point (Table 5-6). -/
  join : Nat := 0
  /-- It begins a coded video sequence. -/
  begins : Bool := false
  /-- Pending pictures are discarded at it (R144). -/
  discards : Bool := false
  /-- A valid age-carrying message (R159). -/
  sei : Option CaptureExt := none
  /-- Decoded picture hash: its kind and the values of the components (R160). -/
  hash : Option (Nat × List Nat) := none
  poc : Int := 0
  /-- H.264: frame_num. -/
  num : Nat := 0
  /-- The standard outputs this picture. -/
  output : Bool := true
  /-- An end of sequence or of stream follows it (R144). -/
  ends : Bool := false
  deriving DecidableEq, Repr

/-- A slot of a reference pool with its marks (Table 5-5), its time pairs (R152) and its content. -/
structure Slot where
  current : Bool := false
  shortTerm : Bool := false
  longTerm : Bool := false
  pending : Bool := false
  latest : Bool := false
  /-- HELD_SG0–HELD_SG3. -/
  held : Nat := 0
  poc : Int := 0
  /-- H.264: frame_num. -/
  num : Nat := 0
  longIdx : Nat := 0
  /-- Coded video sequence the picture belongs to. -/
  cvs : Nat := 0
  /-- Pictures decoded since it waits for output (R144). -/
  latency : Nat := 0
  /-- It is the recovery point picture of a join (R147). -/
  recovery : Bool := false
  width : Nat := 0
  height : Nat := 0
  depth : Nat := 8
  planes : List (List Nat) := []
  /-- Motion data by 16×16 area (Table 5-4). -/
  motion : List Motion := []
  /-- Taint map: tainted 16×16 areas (R151). -/
  taint : List Nat := []
  own : Option TimePair := none
  taintPair : Option TimePair := none
  eff : Option TimePair := none
  /-- The time base of the mapping, and its locked bit, at the mapping instant. -/
  base : Nat := 0
  flags : Nat := 0
  rtp : Nat := 0
  /-- Decoded in SEI mode, and the ALIVE of its valid age-carrying message (R159). -/
  seiMode : Bool := false
  sei : Option Nat := none
  /-- Colour description and full-range flag (R140). -/
  colour : List Nat := [2, 2, 2]
  fullRange : Bool := false
  deriving DecidableEq, Repr

/-- A picture whose decoding is in progress. -/
structure Decoding where
  context : Nat
  slot : Nat
  started : Time
  au : AccessUnit
  info : PicInfo
  /-- The unit whose write a door refused, which ends the picture there, and the areas that read what a door refused (R443). -/
  refusedUnit : Option Nat := none
  refusedAreas : List Nat := []
  deriving DecidableEq, Repr

/-- A stream context SC0–SC255. -/
structure Ctx where
  /-- State (Table 4-3). Reset: CLOSED. -/
  state : CtxState := .closed
  /-- Declared record, 96 bytes (Table 4-1). Reset: DESIGN CHOICE the record's defaults (log 13). -/
  decl : StreamRec := {}
  /-- Parameter sets of STREAM_OPEN, up to 1 024 bytes (R95). Reset: none. -/
  ps : Bytes := []
  /-- Stream engine serving the context (R99). Reset: DESIGN CHOICE 0 (log 13). -/
  engine : Nat := 0
  /-- Decoder engine serving the context, 255 if not placed (R128). Reset: 255. -/
  decoder : Nat := 255
  /-- INTENDED of the state pair (R340). Reset: 0. -/
  intended : Bool := false
  /-- Since when it drains, main reference count (R97). Reset: 0. -/
  drainSince : Time := 0
  /-- When it entered JOINING, main reference count (R106). Reset: 0. -/
  joinedAt : Time := 0
  /-- The join reports have been sent a second time (R106). Reset: no. -/
  reported : Bool := false
  /-- Locked SSRC (R109). Reset: none. -/
  ssrc : Option Nat := none
  /-- When a packet of the locked SSRC last came, main reference count (R109). Reset: 0. -/
  ownAt : Time := 0
  /-- The one other SSRC whose packets pass since then: the SSRC, since when no packet of a third has passed, and when its last one did, main reference count (R109). Reset: none. -/
  other : Option (Nat × Time × Time) := none
  /-- When a frame last arrived on LAN A and LAN B, main reference count (Table 4-8). Reset: never. -/
  lanA : Option Time := none
  lanB : Option Time := none
  /-- The sender report kept (R88). Reset: none. -/
  report : Option SenderReport := none
  /-- LAST_ARRIVAL (Table 4-8). Reset: 0. -/
  lastArrival : Nat := 0
  /-- Counters of Table 4-8, saturating. Reset: 0. -/
  pictures : Nat := 0
  packets : Nat := 0
  lost : Nat := 0
  late : Nat := 0
  dup : Nat := 0
  prpDiscards : Nat := 0
  policed : Nat := 0
  filtered : Nat := 0
  malformed : Nat := 0
  envelopeDrops : Nat := 0
  lostMarkers : Nat := 0
  wrongLan : Nat := 0
  resyncs : Nat := 0
  /-- Token buckets of R102: tokens in units of 10⁻⁹ bit and packet, and when they were last filled. Index 0 the bits, k + 1 the packets of port k. Reset: full at the opening. -/
  buckets : Map (Nat × Time) := []
  /-- Highest extended sequence S (R112). Reset: none. -/
  high : Option Nat := none
  /-- The jump packet held aside, with its port's arrival on the main reference count (R112). Reset: none. -/
  jump : Option (Held × Time) := none
  /-- Jitter buffer in sequence order (R113). Reset: empty. -/
  jitter : List Held := []
  /-- The packet after the previous access unit (R113). Reset: none released. -/
  nextSeq : Option Nat := none
  /-- The previous access unit or ST 2110-20 picture ended with its marker-bit packet (R115, R118). Reset: no. -/
  prevMarker : Bool := false
  /-- A DEGRADED request for the next picture (R124). Reset: no. -/
  degraded : Bool := false
  /-- ST 2110-20 pictures in assembly, earliest RTP timestamp first (R118). Reset: none. -/
  assembly : List Assembly := []
  /-- RTP timestamp of the last picture completed or released (R115, R118). Reset: none. -/
  lastRtp : Option Nat := none
  /-- RTP timestamp of the last output picture inside the envelope (R100). Reset: none. -/
  rateRtp : Option Nat := none
  /-- The count of R31. Reset: none before the first picture. -/
  alive : Option (Nat × Nat) := none
  /-- The tag of the previous picture with pixels (R32). Reset: none. -/
  prevTag : Option Tag := none
  /-- Completed pictures, newest first, with the instant of completion on the main reference count; the two latest are kept (R37). Reset: none. -/
  complete : List (Time × Picture) := []
  /-- Tags issued whose write is not yet acknowledged, oldest first (R27, R145). Reset: none. -/
  unacked : List Picture := []
  /-- The most recent tag, markers included (R30, R58). Reset: none. -/
  lastTag : Option Tag := none
  /-- No tag with pixels has completed since the last OUT_OF_ENVELOPE marker (R58). Reset: no. -/
  ooe : Bool := false
  /-- Join state (Table 5-6). Reset: IDLE. -/
  join : JoinState := .idle
  /-- When it entered WAIT_ENTRY or last recorded NO_ENTRY, main reference count (R148). Reset: 0. -/
  waitSince : Time := 0
  /-- A picture outside the envelope put it into WAIT_ENTRY, so that every picture writes a marker until a join point passes (R137). Reset: no. -/
  envWait : Bool := false
  /-- frame_num or picture order count of the recovery point that is awaited in decoding order (R147). Reset: none. -/
  recoverTo : Option Int := none
  /-- References that are in no slot (R153, R154). Reset: none. -/
  missing : List Missing := []
  /-- Parameter sets and numbering (R136). Reset: as Decoder. -/
  dec : Decoder := {}
  /-- Released access units queued, oldest first (R130). Reset: none. -/
  queue : List AccessUnit := []
  /-- N, the slots of its pool (R139). Reset: 0. -/
  slots : Nat := 0
  /-- Skipping non-reference pictures (R130). Reset: no. -/
  skipping : Bool := false
  /-- Access units are discarded because every bound window of the context is shed (R501). Reset: no. -/
  discarding : Bool := false
  /-- The reference pool (R139). Reset: no slot. -/
  pool : List Slot := []
  /-- The coded video sequence in progress; the model's own count. Reset: 0. -/
  cvs : Nat := 0
  /-- Fields of Table 5-9. Reset: 0; colour 2, unspecified. -/
  seiMode : Bool := false
  hdrInfo : Bool := false
  hashPresent : Bool := false
  fullRange : Bool := false
  profile : Nat := 0
  level : Nat := 0
  width : Nat := 0
  height : Nat := 0
  bitDepth : Nat := 8
  colour : List Nat := [2, 2, 2]
  picturesOut : Nat := 0
  concealed : Nat := 0
  substitutions : Nat := 0
  syntaxErrors : Nat := 0
  overruns : Nat := 0
  hashMismatches : Nat := 0
  dpbOverflows : Nat := 0
  seiFaults : Nat := 0
  clampedWrites : Nat := 0
  reorder : Nat := 0
  skipped : Nat := 0
  queueDrops : Nat := 0
  /-- Heartbeat rectangles by slot of the latest sealed commit (R51, R52): x, y, width, height. Reset: none. -/
  hbSlots : Map (Nat × Nat × Nat × Nat) := []
  deriving DecidableEq, Repr

/-- A source MAC entry of a PRP pair (R111): H, the accepted numbers of its window, and its last frame. -/
structure PrpEntry where
  mac : Nat
  high : Nat
  seen : List Nat
  lastAt : Time
  deriving DecidableEq, Repr

/-- A frame held for PRP ordering (R111): its timestamp, with D_0 and D_1 of that instant. -/
structure PrpHeld where
  stamp : Int
  d : List Int := [0, 0]
  at_ : Time
  frame : Frame
  deriving DecidableEq, Repr

/-- A PRP pair (P2k, P2k+1). -/
structure PrpPair where
  entries : List PrpEntry := []
  held : List PrpHeld := []
  /-- The latest timestamp delivered by each port, and that of the latest frame processed. -/
  lastA : Option Int := none
  lastB : Option Int := none
  done : Option Int := none
  deriving DecidableEq, Repr

/-- An internal source IS0–IS15. -/
structure Source where
  /-- Configured record, 32 bytes (Table 4-7); KIND 0 is not configured. Reset: KIND 0. -/
  decl : SourceRec := {}
  /-- INTENDED of the state pair. Reset: 0. -/
  intended : Bool := false
  /-- VERIFY_FAILED (Table 12-8). Reset: no. -/
  verifyFailed : Bool := false
  /-- Pictures generated so far under the configuration (R123). Reset: 0. -/
  count : Nat := 0
  /-- ALIVE_SEQ of the last tag of the configuration (R31). Reset: 0. -/
  alive : Nat := 0
  /-- Tag of the previous picture (R32). Reset: none. -/
  prevTag : Option Tag := none
  /-- Completed pictures, newest first (R37). Reset: none. -/
  complete : List (Time × Picture) := []
  /-- Tags issued whose write is not yet acknowledged (R27). Reset: none. -/
  unacked : List Picture := []
  /-- Device time of the instant that periods are counted from, ns (R123, R555). Reset: 0. -/
  origin : Nat := 0
  /-- Periods used since then. Reset: 0. -/
  ticks : Nat := 0
  /-- Device time at which the verification that runs was queued (R123). Reset: none. -/
  queuedAt : Option Nat := none
  /-- The image as loaded, as samples (R123). Reset: none. -/
  image : List (List Nat) := []
  deriving DecidableEq, Repr

/-- A buffer detached from its context (R98): context, its number there, its size in bytes, the HELD marks it carries. -/
structure Detached where
  context : Nat
  slot : Nat
  bytes : Nat
  held : Nat
  deriving DecidableEq, Repr

/-- Ingest and decoding. -/
structure Streams where
  /-- Stream contexts (R95). Reset: see each field of Ctx. -/
  ctx : Map Ctx := []
  /-- Internal sources (R121). Reset: see each field of Source. -/
  src : Map Source := []
  /-- PRP pairs (R111). Reset: no entry. -/
  prp : Map PrpPair := []
  /-- Buffers detached under R98. Reset: none. -/
  detached : List Detached := []
  /-- Ports on which an older querier is heard: port, address family, 4 or 6, and until when, main reference count (R107). Reset: none. -/
  compat : List (Nat × Nat × Time) := []
  /-- Releases of access units so far (R129). Reset: 0; the model's own count. -/
  releases : Nat := 0
  /-- The picture each decoder engine works on (R129). Reset: none. -/
  working : Map Decoding := []
  /-- Write and read window of each decoder engine: the context whose pool region it holds, and the bytes of the region (R157). Reset: none. -/
  windows : Map (Nat × Nat) := []
  deriving DecidableEq, Repr

end Sys2Proof.Machine
end

