-- ==== Sys2Proof/Machine/State/Comp.lean ====
section
/-! DEFINITION. The state of composition, heads, sync generators, shutters and Lantern (*Composition*, *Display heads and timing*, *Shutter and Lantern*). -/

namespace Sys2Proof.Machine

/-- One copy of every setting that shapes composed pixels (R189). An index that is not listed holds the value of first start. -/
structure Settings where
  /-- Window descriptors W0–W1023 (Table 6-1). Reset: DESIGN CHOICE every window unbound with the record's defaults (log 16). -/
  windows : Map WindowDesc := []
  /-- Background colours by head (R167). Reset: 0, 0, 0. -/
  bgs : Map Rgb := []
  /-- Blend programs by head (Table 6-7). Reset: DESIGN CHOICE no step (log 16). -/
  blends : Map (List BlendStep) := []
  /-- Tone-map profiles TP0–TP63 (Table 6-5). Reset: the Paltik default (R179). -/
  tones : Map ToneProfile := []
  /-- Coefficient sets CS0–CS31 (Table 6-4). Reset: CS0–CS3 Paltik defaults, CS4–CS31 as CS0 (R175). -/
  coefs : Map CoefSet := []
  deriving DecidableEq, Repr

/-- The safety configuration (R232). -/
structure SafetyCfg where
  /-- Freshness policies FP0–FP63 (Table 2-4). Reset: the table's defaults. -/
  policies : Map Policy := []
  /-- Shutter palettes SP0–SP7 (Table 8-1). Reset: Table 8-2. -/
  palettes : Map Palette := [(1, { stripeA := Rgb.black, stripeB := { r := 0xE00, g := 0, b := 0 } })]
  /-- HEAD_PALETTE. Reset: 0 (R228). -/
  headPalette : Nat := 0
  /-- Generation count (R235). Reset: DESIGN CHOICE 0 (log 17). -/
  generation : Nat := 0
  deriving DecidableEq, Repr

/-- A pending arm (R233): ARM_ID, the session that holds it, the entries with their CRC, and the expiry instant in device time. -/
structure Arm where
  id : Nat
  session : Nat
  entries : List SafetyEntry
  crc : Nat
  expiry : Nat
  deriving DecidableEq, Repr

/-- A sealed commit that waits for a group's flip (R191): its settings, its COMMIT_SEQ, its seal instant on the main reference count and in device time, and the flip frame numbers given by head (R207). -/
structure Sealed where
  set : Settings
  seq : Nat
  at_ : Time
  sealDt : Nat
  frames : List (Nat × Nat) := []
  deriving DecidableEq, Repr

/-- A commit group: the heads of one sync generator (R190). -/
structure Group where
  /-- The active copy (R189). Reset: as Settings. -/
  act : Settings := {}
  /-- The safety configuration that its heads and Lantern use (R47, R237). Reset: as SafetyCfg. -/
  safety : SafetyCfg := {}
  /-- The sealed commit that waits for its flip (R193). Reset: none. -/
  next : Option Sealed := none
  /-- Lantern's own copy of the settings of safety windows (R237). Reset: as Settings. -/
  lanSet : Settings := {}
  /-- Lantern's own copy of the safety configuration (R237). Reset: as SafetyCfg. -/
  lanSafety : SafetyCfg := {}
  /-- Lantern's copies that failed their CRC-32C (R237). Reset: none. -/
  lanBad : List LanternCopy := []
  deriving DecidableEq, Repr

/-- What a window has at run time: the latched picture, its reasons, its counters (R37–R64, R216, R217, R243, R244). -/
structure Win where
  /-- The latched picture (R37). Reset: none. -/
  latched : Option Picture := none
  /-- The tag of the picture that it would latch next met an uncorrectable error (R399). Reset: no. -/
  badTag : Bool := false
  /-- A door refused pixels of the frame to a head fetch port, so they cannot be complete at their deadline (R443). Reset: no. -/
  refused : Bool := false
  /-- The frame last evaluated, in the numbering of the window's head (Table 12-10). Reset: 0. -/
  frame : Nat := 0
  /-- Active window-scope reasons, bit k for code k (Table 2-5). Reset: 0. -/
  active : Nat := 0
  /-- The recorded reason (R64), which the frame shows. Reset: 0. -/
  shown : Nat := 0
  /-- Pass counters of STALE, FROZEN, CONCEALED, TIME and UNDERRUN (R60, R217). Reset: 0. -/
  passes : Map Nat := []
  /-- A_w of the last frame (R43), µs. Reset: 0. -/
  ageUs : Nat := 0
  /-- FREEZE_MS of Table 12-10. Reset: 0. -/
  freezeMs : Nat := 0
  /-- N_c of the last frame (R55). Reset: 0. -/
  concealed : Nat := 0
  /-- HB_LAST, none if empty (R53, R54). Reset: empty. -/
  hbLast : Option Nat := none
  /-- HB_TIME, device time (R53). Reset: 0. -/
  hbTime : Nat := 0
  /-- The next latched picture sets HB_LAST and HB_TIME (R53). Reset: yes. -/
  hbNew : Bool := true
  /-- Binding instant, main reference count (R192). Reset: 0. -/
  bindAt : Time := 0
  /-- The SOURCE that the flips so far have bound it to (R192). Reset: none, unbound. -/
  bound : Option Nat := none
  /-- Heads on which the window is switched off in this frame, with the line from which (R216). Reset: none. -/
  offAt : Map Nat := []
  /-- It was switched off in the last frame (Table 12-10). Reset: no. -/
  offLast : Bool := false
  /-- Consecutive underrun frames (R216, R217). Reset: 0. -/
  run : Nat := 0
  /-- When UNDERRUN was last recorded in the run, main reference count (R216). Reset: none. -/
  runAt : Option Time := none
  /-- UNDERRUN becomes active with the next frame (R217). Reset: no. -/
  underrunDue : Bool := false
  /-- The window is shed (R501). Reset: no. -/
  shed : Bool := false
  /-- A mismatch was found and LANTERN is not active yet (R243). Reset: no. -/
  mismatch : Bool := false
  /-- LANTERN is latched by its third activation (R244). Reset: no. -/
  lanternLatched : Bool := false
  /-- LANTERN is latched by a device-wide fault (R246). Reset: no. -/
  lanternFault : Bool := false
  /-- t_f from which the retry interval counts (R243, R244). Reset: 0. -/
  lanternAt : Nat := 0
  /-- t_f of the activations of the last 60 s (R244). Reset: none. -/
  lanternActs : List Nat := []
  /-- A LANTERN_CLEAR takes effect at the next latch instant (R244). Reset: no. -/
  lanternClear : Bool := false
  /-- A cleared LANTERN has not yet had a clean comparison of content (R247). Reset: no. -/
  unproven : Bool := false
  /-- A mismatch awaits its diagnosis, by a test of the scalers that served the window in its frame (R493). Reset: none. -/
  diagnose : Option (List Nat) := none
  /-- Lantern's count of consecutive skip frames (R239, R242). Reset: 0. -/
  skipRun : Nat := 0
  deriving DecidableEq, Repr

/-- One tile record, Table 2-3 (R44). -/
structure TileRec where
  age : Nat
  oldest : Nat
  contrib : Nat
  state : Nat
  flagsOr : Nat
  crc : Nat
  deriving DecidableEq, Repr

/-- A scaler assignment (R176, R556): its group, window, gang row, the window's head, crop and clipped rectangle on that row, and its scalers. -/
structure Assign where
  group : Nat
  window : Nat
  row : Nat
  head : Nat
  crop : List Nat
  rect : List Int
  scalers : List Nat
  deriving DecidableEq, Repr

/-- A frame of a head as Lantern compares it (R238–R242): its number, t_f, L and U(n), whether device time was trusted at its latch instant, the head's record, its reason and readout, the safety windows that meet the head with what they showed, T_w of each, Lantern's copies, the observed SAFE_CRC of each tile that meets one, and the tiles that are skipped. -/
structure Compared where
  frame : Nat
  tf : Nat
  lp : Nat
  u : Nat
  trusted : Bool
  timing : TimingRec
  reason : Nat
  readout : Nat
  windows : List (WindowDesc × Win × Nat)
  set : Settings
  safety : SafetyCfg
  bad : List LanternCopy
  observed : List (Nat × Nat)
  skips : List Nat
  assigns : List Assign
  deriving DecidableEq, Repr

/-- What Lantern found in a frame of one head, until the frame is compared on every head of the surface (R243, R247): the head, the frame and its t_f, the differing tiles with the expected and the observed CRC, the safety windows with whether they showed content, the windows of a decision mismatch, whether it was late, and the scaler assignments of the frame. -/
structure Finding where
  head : Nat
  frame : Nat
  tf : Nat
  timing : TimingRec
  diffs : List (Nat × Nat × Nat)
  windows : List (WindowDesc × Bool)
  decision : List Nat
  late : Bool
  assigns : List Assign
  deriving DecidableEq, Repr

/-- One head H0–H15. -/
structure Head where
  /-- The last accepted timing record, kept in NAND (R198). Reset: none. -/
  stored : Option TimingRec := none
  /-- The record that times the head now (R198). Reset: none, a disabled head. -/
  timing : Option TimingRec := none
  /-- A format change is in progress and the main stream is stopped (R219). Reset: no. -/
  stopped : Bool := false
  /-- The next frame is the first of a new format (R219). Reset: no. -/
  first : Bool := false
  /-- RETIMING stands for a format change (R219). Reset: no. -/
  reformat : Bool := false
  /-- Device time before which the head starts no frame of the group (R214, R219). Reset: 0. -/
  notBefore : Nat := 0
  /-- The head has latched a frame that has not started. Reset: no. -/
  due : Bool := false
  /-- The head scans a frame. Reset: no. -/
  scanning : Bool := false
  /-- Number of the next frame to scan, 48 bits (R207). Reset: 0. -/
  nextFrame : Nat := 0
  /-- t_f of the current frame (Table 7-5). Reset: 0. -/
  tf : Nat := 0
  /-- L of the current frame, 2⁻³² ns (R38). Reset: 0. -/
  lp : Nat := 0
  /-- D_0 and D_1 at t_f of the current frame, ns (R266). Reset: 0. -/
  dBases : List Int := [0, 0]
  /-- DISC_FRAME (R207). Reset: none. -/
  disc : Option Nat := none
  /-- The next frame follows a break in scanning (R207). Reset: no. -/
  broken : Bool := false
  /-- HPD is asserted (R205). Reset: DESIGN CHOICE no (log 18). -/
  hpd : Bool := false
  /-- The trained link: lanes and rate (Table 7-5). Reset: none. -/
  link : Option (Nat × Nat) := none
  /-- FALLBACK_ACTIVE (R203). Reset: 0. -/
  fallback : Bool := false
  /-- Since when a training attempt runs, main reference count (R203). Reset: none. -/
  training : Option Time := none
  /-- Since when the head is in LINK_FAIL, main reference count (R203). Reset: not. -/
  failed : Option Time := none
  /-- The main stream is sent from a frame boundary on (R204). Reset: no. -/
  sending : Bool := false
  /-- The sink has been set to DPCD power state D3 (R196, R221). Reset: no. -/
  d3 : Bool := false
  /-- DPCD receiver capabilities as last read (R205): maximum lanes, maximum rate, down-spread. Reset: none. -/
  sink : Option (Nat × Nat × Bool) := none
  /-- EDID as last read (R205). Reset: none. -/
  edid : Bytes := []
  /-- Device time at which it was read (Table 12-11). Reset: 0. -/
  edidAt : Nat := 0
  /-- t_on of STARTING, RETIMING and UPDATING while active (Table 2-5, R231). Reset: none. -/
  starting : Option Nat := none
  retiming : Option Nat := none
  updating : Option Nat := none
  /-- The recorded head-scope reason (R64). Reset: 0. -/
  reason : Nat := 0
  /-- STARTING is due from the first frame (R222). Reset: no. -/
  startDue : Bool := false
  /-- A commit has included the head since power-up (R222, R557). Reset: no. -/
  included : Bool := false
  /-- UNDERRUN_FRAMES, 32 bits saturating (R216). Reset: 0. -/
  underrunFrames : Nat := 0
  /-- PANICS, 32 bits saturating (R215). Reset: 0. -/
  panics : Nat := 0
  /-- Panic is raised (R215). Reset: no. -/
  panic : Bool := false
  /-- TRAININGS, 16 bits saturating. Reset: 0. -/
  trainings : Nat := 0
  /-- LINK_LOSSES, 16 bits saturating. Reset: 0. -/
  linkLosses : Nat := 0
  /-- A follower that has lost its alignment runs on its own timing (R213): t_f of its next frame. Reset: none. -/
  own : Option Nat := none
  /-- The frame period of that timing, ns (R213). Reset: 0. -/
  span : Nat := 0
  /-- Its leader has started a frame since it can align again (R214). Reset: no. -/
  rejoin : Bool := false
  /-- e of the current frame of a follower, signed ns (R208). Reset: 0. -/
  e : Int := 0
  /-- The pixel clock synthesiser is locked (R213). Reset: yes. -/
  synth : Bool := true
  /-- Frames since the follower has been aligned again, while RETIMING stands (R213, R214). Reset: none. -/
  realigned : Option Nat := none
  /-- The tile record ring: the last four frames with their records (R44). Reset: empty. -/
  ring : List (Nat × List TileRec) := []
  /-- Frames that Lantern has to compare, oldest first (R241). Reset: none. -/
  toCompare : List Compared := []
  /-- Lantern has compared the frame that is being scanned (R241). Reset: no. -/
  early : Bool := false
  /-- Fields of Table 8-6. Reset: 0; no frame; no mismatch. -/
  late : Bool := false
  lastCompared : Option Nat := none
  framesCompared : Nat := 0
  tilesCompared : Nat := 0
  mismatchTiles : Nat := 0
  decisionMismatches : Nat := 0
  skippedTiles : Nat := 0
  lateFrames : Nat := 0
  latches : Nat := 0
  lastMismatch : Option Nat := none
  deriving DecidableEq, Repr

/-- States of a sync generator (Table 7-4). -/
inductive SyncState where
  | free | acquiring | locked | hold
  deriving DecidableEq, Repr

/-- A sync generator SG0–SG3. -/
structure Gen where
  /-- State (Table 7-4). Reset: FREE. -/
  state : SyncState := .free
  /-- It makes frames. Reset: no. -/
  running : Bool := false
  /-- t_f of the next frame, or of the frame that is scanned, device time (R38). Reset: 0. -/
  tf : Nat := 0
  /-- t_f on the main reference count, with its fraction in units of 1/RATE_NUM ns (R210): of the current frame, or of the next where FREE_RUN has made it. Reset: 0. -/
  tfClk : Nat := 0
  frac : Nat := 0
  /-- FREE_RUN has made t_f of the next frame (R210). Reset: no. -/
  free : Bool := false
  /-- t_f of the frame that started last since the generator started, device time (R208). Reset: none. -/
  cur : Option Nat := none
  /-- The latest end of the latched frame on the group's heads, device time (R206, R214). Reset: 0. -/
  endAt : Nat := 0
  /-- The interval to the frame that steering has fixed last, ns (R209, R213). Reset: 0. -/
  span : Nat := 0
  /-- L, 2⁻³² ns (R38). Reset: 0. -/
  lp : Nat := 0
  /-- The next frame has latched (R37). Reset: no. -/
  latched : Bool := false
  /-- U(n) of the latched frame (R41). Reset: 0. -/
  u : Nat := 0
  /-- What the latch instant of the frame saw for the encoder (R265, R266): per base TB0 and TB1 0 while it is followed and U_b otherwise, which of them are LOCKED, and whether device time follows a LOCKED one. Reset: 0. -/
  uBases : List Nat := [0, 0]
  locked : Nat := 0
  trusted : Bool := false
  /-- e of the current frame, signed ns (R208). Reset: 0. -/
  e : Int := 0
  /-- The pixel clock's trim, 10⁻⁹ (R209). Reset: 0. -/
  trim : Int := 0
  /-- AT_LIMIT (R209). Reset: 0. -/
  atLimit : Bool := false
  /-- Since when the trim lies inside its bound, main reference count (R209). Reset: none. -/
  insideSince : Option Time := none
  /-- Consecutive frames with |e| > L (Table 7-4). Reset: 0. -/
  bigRun : Nat := 0
  /-- The last valid pulse, device time (R211). Reset: none known. -/
  pulse : Option Nat := none
  /-- The pulses of a run that is not valid yet, newest first (R211). Reset: none. -/
  pulses : List Nat := []
  /-- SPURIOUS_PULSES, 16 bits saturating (R211). Reset: 0. -/
  spurious : Nat := 0
  /-- It jumps at the end of the frame in progress (R214). Reset: no. -/
  jump : Bool := false
  /-- It has jumped and waits for a frame with |e| ≤ 500 ns (R214). Reset: no. -/
  jumped : Bool := false
  /-- Lock is reported at the next frame boundary (R214, R219). Reset: no. -/
  lockNext : Bool := false
  deriving DecidableEq, Repr

/-- A format change in progress (R219, R220): its records, its seal instant, which heads have ended their frame and when, which of them train, and when training ended, on the main reference count. -/
structure FormatSet where
  recs : List TimingRec
  sealedAt : Time
  ended : Map Time := []
  train : List Nat := []
  ready : Map Time := []
  /-- The groups whose first new frame has not started. -/
  groups : List Nat
  /-- The groups whose first new frame has latched (R220). -/
  latched : List Nat := []
  /-- t_r has been fixed and the new records are in force. -/
  started : Bool := false
  deriving DecidableEq, Repr

/-- A picture that a frame holds (R37, R141): source, slot, window, the head and frame that hold it, whether Lantern reads it, and whether its buffer has been detached (R98). -/
structure Hold where
  source : Nat
  slot : Nat
  window : Nat
  head : Nat
  frame : Nat
  safety : Bool
  detached : Bool := false
  deriving DecidableEq, Repr

/-- A declaration of a stream context that waits to open (R339, R558): its record, parameter sets and placement, and the COMMIT_SEQ of the commit whose first flip it waits for; it also waits until a running or draining instance is gone. -/
structure Reopen where
  decl : StreamRec
  ps : Bytes
  engine : Nat
  decoder : Nat
  slots : Nat
  flip : Option Nat
  deriving DecidableEq, Repr

/-- What the shadow holds beside the settings: declarations of contexts with their parameter sets, internal sources and encode channels that a staged document names, none for a close (R279). -/
structure Staged where
  ctx : Map (Option (StreamRec × Bytes)) := []
  src : Map SourceRec := []
  enc : Map (Option EncodeRec) := []
  deriving DecidableEq, Repr

/-- Composition and display. -/
structure Comp where
  /-- The shadow copy (R189). Reset: as Settings. -/
  shadow : Settings := {}
  /-- The settings of the latest sealed commit, the committed layout. Reset: as Settings. -/
  committed : Settings := {}
  /-- LAYOUT_ID of the latest sealed commit, 32 bits. Reset: DESIGN CHOICE 0 (log 16). -/
  layoutId : Nat := 0
  /-- COMMIT_SEQ of the latest commit, 32 bits. Reset: DESIGN CHOICE 0 (log 16). -/
  commitSeq : Nat := 0
  /-- The commit groups by sync generator (R190). Reset: as Group. -/
  groups : Map Group := []
  /-- The windows at run time. Reset: as Win. -/
  wins : Map Win := []
  /-- The heads H0–H15. Reset: as Head. -/
  heads : Map Head := []
  /-- The sync generators SG0–SG3. Reset: as Gen. -/
  gens : Map Gen := []
  /-- Format changes in progress (R219). Reset: none. -/
  formats : List FormatSet := []
  /-- Scaler assignments (R556). Reset: none. -/
  assigns : List Assign := []
  /-- Pictures held for display and for Lantern (R141). Reset: none. -/
  holds : List Hold := []
  /-- Contexts that wait to open (R339, R558). Reset: none. -/
  reopens : List Reopen := []
  /-- Encode channels that wait for the drain of their last instance, with engine, LEVEL and TIER (R274). Reset: none. -/
  reEnc : List (EncodeRec × Nat × Nat × Nat) := []
  /-- The shadow's contexts, sources and channels that differ from those open (R279). Reset: none. -/
  staged : Staged := {}
  /-- The safety configuration in force (R232). Reset: as SafetyCfg, the values of first start. -/
  safety : SafetyCfg := {}
  /-- The two NAND copies with whether each is valid (R235). Reset: DESIGN CHOICE both as first start (log 17). -/
  copyA : SafetyCfg := {}
  copyB : SafetyCfg := {}
  copyAOk : Bool := true
  copyBOk : Bool := true
  /-- The in-service copy of the safety configuration is intact (R235). Reset: yes. -/
  cfgIntact : Bool := true
  /-- CONFIG_RESTORED (R235). Reset: 0. -/
  restored : Bool := false
  /-- The pending arm (R233). Reset: none. -/
  arm : Option Arm := none
  /-- SELFTEST_FAIL of Lantern (R246). Reset: 0. -/
  selftestFail : Bool := false
  /-- DOMAIN_LOST of Lantern (R246). Reset: 0. -/
  domainLost : Bool := false
  /-- When Lantern's next self-test is due, main reference count (R246). Reset: 0. -/
  selftestDue : Time := 0
  /-- Frames compared on some heads of a surface and not yet on all (R243). Reset: none. -/
  findings : List Finding := []
  /-- A self-test has passed since the device-wide fault arose and PD_LANTERN is back (R246). Reset: no. -/
  selftestPassed : Bool := false
  /-- Stored layouts by slot 0–63, kept in NAND (R350). Reset: every slot empty. -/
  stored : Map Bytes := []
  /-- A COMP image activation in progress: for each head that has switched, t_f of its frame u and whether it has shown content again (R516). Reset: none. -/
  compActive : Option (List (Nat × Nat × Bool)) := none
  deriving DecidableEq, Repr

end Sys2Proof.Machine
end

