-- ==== Sys2Proof/Machine/State/Dram.lean ====
section
/-! DEFINITION. The state of the in-package DRAM and of its controller (*Memory system and arbitration*). -/

namespace Sys2Proof.Machine

/-- A transfer in a channel's queues (R380): as issued, with the epoch it took at its initiator door (R444) and when it was issued on the main reference count. -/
structure Transfer where
  op : Arrival
  epoch : Nat := 0
  since : Time := 0
  deriving DecidableEq, Repr

/-- A change of slot owners that waits for a wrap (R392): the commit group, its latch instant on the main reference count, none before the flip, the slots that its ports and the tag port need, Lantern's demand from the group, and the tickets that its flip sets (R388). -/
structure SlotShadow where
  group : Nat
  latchedAt : Option Time := none
  need : Map Nat := []
  lantern : Frac := { num := 0 }
  tickets : Map Nat := []
  /-- Channels whose table has taken it. -/
  taken : List Nat := []
  deriving DecidableEq, Repr

/-- One channel C0–C15. -/
structure Channel where
  /-- Queued transfers, oldest first; those to one bank are its bank queue (R380). Reset: empty. -/
  queue : List Transfer := []
  /-- Transfers held back at the fabric, in the order of their issue (R380). Reset: none. -/
  held : List Transfer := []
  /-- Its last retraining could not centre a signal (R397). Reset: no. -/
  trainFailed : Bool := false
  /-- Open row by bank (R381). Reset: DESIGN CHOICE all closed (log 27). -/
  openRow : Map Nat := []
  /-- Consecutive transfers to the open row by bank (R381). Reset: 0. -/
  rowRun : Map Nat := []
  /-- The last bank that received an activate (R381). Reset: DESIGN CHOICE 15, so that the order starts at bank 0 (log 27). -/
  lastActivate : Nat := 15
  /-- LFSR, 16 bits, none before the first draw, when it holds its seed (R386). Reset: the seed 0x9E37 ⊕ (c × 0x0101). -/
  lfsr : Option Nat := none
  /-- Grants of steps 3–5 since the last grant of step 2 (R385). Reset: 0. -/
  sinceWaiter : Nat := 0
  /-- Grants of steps 2–5 in the quota window, and those of high-priority requesters among them (R387). Reset: 0. -/
  window : Nat := 0
  high : Nat := 0
  /-- Slot owners of S0–S62, a slot not listed is free (R389). Reset: DESIGN CHOICE all free (log 27). -/
  owners : Map Nat := []
  /-- Lantern's demand, bytes/s, from each commit group whose layout the table serves (R391). Reset: 0. -/
  lantern : Map Frac := []
  /-- Requesters with a carried slot (R390). Reset: none. -/
  carried : List Nat := []
  /-- The number of the slot, counted since the wraps began, in which a grant of step 1 was last made for its owner (R389). Reset: none. -/
  servedSlot : Option Nat := none
  /-- The slot of the last grant instant; the slots since then have not been judged for a carry (R390). Reset: 0. -/
  slotSeen : Nat := 0
  /-- When the channel last trained, main reference count, and the package temperature then, 0.1 °C (R397). Reset: 0. -/
  trainedAt : Time := 0
  trainTemp : Int := 0
  /-- Refreshes by bank that are postponed (positive) or pulled in (negative) (R396). Reset: 0. -/
  refresh : Map Int := []
  deriving DecidableEq, Repr

/-- A row of a bank of a channel. -/
structure RowId where
  channel : Nat
  bank : Nat
  row : Nat
  deriving DecidableEq, Repr

/-- A hash profile (R377): its number, and the masks of a custom one. -/
structure HashProfile where
  profile : Nat := 1
  masks : List Nat := []
  deriving DecidableEq, Repr

/-- Correctable errors of a row by scrub pass (R402): the pass and its instant on the main reference count. -/
structure RowErrors where
  row : RowId
  passes : List (Nat × Time)
  deriving DecidableEq, Repr

/-- The DRAM. -/
structure Dram where
  /-- Contents by DRAM address, in canonical form: addresses rising, no byte that an unlisted address reads as. Reset: nothing listed. -/
  mem : List Host.Cell := []
  /-- Channels C0–C15. Reset: see each field of Channel. -/
  channels : Map Channel := []
  /-- Tickets by requester, 1 if not listed (R388). Reset: DESIGN CHOICE those of a layout without demand (log 27). -/
  tickets : Map Nat := [(30, 51), (31, 51), (32, 26), (33, 26), (34, 26), (35, 26), (36, 128), (37, 13), (38, 255), (39, 102)]
  /-- Slot tables that wait for their wrap (R392). Reset: none. -/
  shadows : List SlotShadow := []
  /-- Hash profile in force (R377). Reset: profile 1. -/
  hash : HashProfile := {}
  /-- Hash profile kept in NAND for the next cold start (R373). Reset: profile 1. -/
  hashStored : HashProfile := {}
  /-- Banks whose post-package repair is spent, by channel and bank (R402). Reset: none. -/
  repaired : List (Nat × Nat) := []
  /-- Rows marked for post-package repair at the next start-up (R402). Reset: none. -/
  marked : List RowId := []
  /-- Rows remapped to spare rows (R402). Reset: none. -/
  remapped : List RowId := []
  /-- Retired blocks of 512 KiB, by number (R402). Reset: none. -/
  retired : List Nat := []
  /-- Correctable errors seen by the scrubber (R402). Reset: none. -/
  errors : List RowErrors := []
  /-- Next address that the scrubber reads, and its pass (R401). Reset: DESIGN CHOICE the first protected byte, pass 0 (log 27). -/
  scrubAt : Nat := 0x700000000
  scrubPass : Nat := 0
  /-- Tile records whose read meets an uncorrectable error, by head, frame and tile (R399). Reset: none. -/
  badTiles : List (Nat × Nat × Nat) := []
  /-- Training values are kept from an earlier start (R348, R397). Reset: none. -/
  trained : Bool := false
  /-- The last transfer that was granted, and the data that a read returned, none if it was refused or in error. Reset: none. -/
  last : Option Transfer := none
  lastData : Option Bytes := none
  deriving DecidableEq, Repr

/-- Bytes of the pool that admission may use (R402). -/
def Dram.poolLimit (d : Dram) : Nat := 30064771072 - 524288 * (d.retired.filter fun b => b < 57344).length

end Sys2Proof.Machine
end

