-- ==== Sys2Proof/Machine/State/Encode.lean ====
section
/-! DEFINITION. The state of the encoder (*Encoding*). -/

namespace Sys2Proof.Machine

/-- States of an encode channel (Table 9-5). -/
inductive EncState where
  | closed | starting | running | draining
  deriving DecidableEq, Repr

/-- The time pair of a CTU row (R265). -/
structure RowPair where
  capture : Int
  cls : Nat
  locked : Bool
  unbounded : Bool
  deriving DecidableEq, Repr

/-- A copied frame in a copy buffer (R254, R255, R265–R267): its head frame number and t_f, the averaged codes in raster order, BPC and COLORIMETRY of the head, the pairs of its rows, the contributing windows with the ALIVE_SEQ each latched, the reason shown in each tile of the region, and what TIME_BASE was at the latch instant and at t_f. -/
structure Copy where
  frame : Nat
  tf : Nat
  pixels : List Rgb
  bpc : Nat
  colorimetry : Nat
  pairs : List RowPair
  windows : List (Nat × Nat)
  reasons : List ((Nat × Nat) × Nat)
  unc : Nat
  locked : Bool
  d : Int
  deriving DecidableEq, Repr

/-- A picture that the engine codes: its copy, the record and the QP_RAISE that it started with, and for H.265 the converted planes (R256). -/
structure Coding where
  copy : Copy
  decl : EncodeRec
  raise : Nat
  planes : List (List Nat)
  deriving DecidableEq, Repr

/-- An encode channel EC0–EC31. -/
structure EncChan where
  /-- State (R274). Reset: CLOSED. -/
  state : EncState := .closed
  /-- Declared record, 64 bytes (Table 9-1). Reset: DESIGN CHOICE the record's defaults (log 19). -/
  decl : EncodeRec := {}
  /-- INTENDED of the state pair (R340). Reset: 0. -/
  intended : Bool := false
  /-- Engine, 255 if not placed (R251). Reset: 255. -/
  engine : Nat := 255
  /-- QP_RAISE and AT_LIMIT (R264). Reset: 0. -/
  raise : Nat := 0
  atLimit : Bool := false
  /-- LEVEL and TIER (R257). Reset: 0. -/
  level : Nat := 0
  tier : Nat := 0
  /-- Counters of Table 9-5, saturating. Reset: 0. -/
  pictures : Nat := 0
  clipped : Nat := 0
  recoded : Nat := 0
  drops : Nat := 0
  ringDrops : Nat := 0
  txDrops : Nat := 0
  lastBits : Nat := 0
  /-- A copy that has not started coding, and the copy that is coded (R273). Reset: none. -/
  waiting : Option Copy := none
  coding : Option Coding := none
  /-- The IDR picture has been coded (R258). Reset: no. -/
  coded : Bool := false
  /-- Picture order count of the next picture (R258). Reset: 0. -/
  poc : Nat := 0
  /-- The parameter sets that it sent last, as a decoder reads them (R258). Reset: none. -/
  dec : Decoder := {}
  /-- Pairs of the rows of the last coded picture (R265). Reset: none. -/
  pairs : List RowPair := []
  /-- Stripe k that the next picture codes (R259, R260). Reset: 0. -/
  stripe : Nat := 0
  /-- The next picture is the first of its refresh cycle (R259). Reset: yes. -/
  cycleStart : Bool := true
  /-- ALIVE of the last picture, 32 bits (R267). Reset: 0. -/
  alive : Nat := 0
  /-- What that picture showed (R267). Reset: nothing. -/
  windows : List (Nat × Nat) := []
  reasons : List ((Nat × Nat) × Nat) := []
  /-- Next RTP sequence number, extended to 32 bits. Reset: DESIGN CHOICE 0 (log 19). -/
  seq : Nat := 0
  /-- PRODUCER of the host ring (R270). Reset: 0. -/
  producer : Nat := 0
  /-- Since when it drains, on the main reference count (R274). Reset: 0. -/
  drainSince : Time := 0
  deriving DecidableEq, Repr

/-- The encoder. -/
structure Encoder where
  /-- The channels EC0–EC31. Reset: see each field of EncChan. -/
  chan : Map EncChan := []
  /-- Sequence number of the next redundancy trailer of each PRP pair, 16 bits (R269). Reset: DESIGN CHOICE 0 (log 19). -/
  prpSeq : Map Nat := []
  /-- DROPS of some channel has increased since the last evaluation of a shortfall (Table 18-3). Reset: no. -/
  dropped : Bool := false
  deriving DecidableEq, Repr

end Sys2Proof.Machine
end

