-- ==== Sys2Proof/Machine/State/Health.lean ====
section
/-! DEFINITION. The state of supervision, repair, shedding and the scan engine's jobs (*The Izent interface*, *Ageing, repair and background work*). -/

namespace Sys2Proof.Machine

/-- Spire B's comparison of one unit (R342): since when it disagrees, in device time and on the main reference count, and what has been reported. -/
structure Compare where
  kind : Nat
  unit : Nat
  sinceDt : Nat
  since : Time
  reportedAt : Option Time := none
  persistent : Bool := false
  /-- The intended configuration has been applied once more. -/
  applied : Bool := false
  deriving DecidableEq, Repr

/-- A job of the scan engine's host unit (R498). -/
structure ScanJob where
  id : Nat
  start : Nat
  length : Nat
  submitted : Nat
  deriving DecidableEq, Repr

/-- The result SCAN_RESULT reports for a JOB_ID (Table 12-27): the submission it belongs to, its STATE 1–4, RESULT_ALIVE, CRC and DONE_TIME. -/
structure ScanResult where
  submitted : Nat
  state : Nat
  alive : Nat := 0
  crc : Nat := 0
  doneTime : Nat := 0
  deriving DecidableEq, Repr

/-- Supervision, repair, shedding and scan jobs. -/
structure Health where
  /-- Units that disagree (R342). Reset: none. -/
  compares : List Compare := []
  /-- Failed decoder engines, kept in NAND (R488). Reset: none. -/
  failedEngines : List Nat := []
  /-- Failed scalers, kept in NAND (R488). Reset: none. -/
  failedScalers : List Nat := []
  /-- Decoder engines in service (R490). Reset: DE0–DE7 and DE9–DE16. -/
  engines : List Nat := List.range 8 ++ (List.range 8).map (· + 9)
  /-- Scalers in service (R490). Reset: SU0–SU95. -/
  scalers : List Nat := List.range 96
  /-- When each decoder engine and each scaler was last tested, main reference count (R491). Reset: none. -/
  engineTested : Map Time := []
  scalerTested : Map Time := []
  /-- When Spire B last compared, when it last evaluated a shortfall, and when the pace was last sampled, main reference count (R342, R484, R500). Reset: none. -/
  comparedAt : Option Time := none
  evaluatedAt : Option Time := none
  sampledAt : Option Time := none
  /-- Failed scalers whose assignments move at the next latch instants, each with the spare that takes them (R491). Reset: none. -/
  swaps : List (Nat × Option Nat) := []
  /-- Spire pairs that recover, 0 = Spire A, 1 = Spire B (R494). Reset: none. -/
  recovering : List Nat := []
  /-- Recoveries by pair and instant on the main reference count (R494). Reset: none. -/
  recoveries : List (Nat × Time) := []
  /-- Abandoned operations by house engine and instant on the main reference count (R495). Reset: none. -/
  abandoned : List (Nat × Time) := []
  /-- The background activities are suspended (R501). Reset: no. -/
  bgSuspended : Bool := false
  /-- Encoder quality actions taken and not undone (R501). Reset: 0. -/
  qpSteps : Nat := 0
  /-- Shed windows, the last shed first (R501). Reset: none. -/
  shed : List Nat := []
  /-- SHED_EXHAUSTED has been recorded for the shortfall that stands (R501). Reset: no. -/
  exhausted : Bool := false
  /-- Shortfall conditions seen since the last evaluation, Table 18-3 (R500). Reset: 0. -/
  conditions : Nat := 0
  /-- When a shortfall was last evaluated, on the main reference count (R502). Reset: 0. -/
  shortfallAt : Time := 0
  /-- When an action was last undone, on the main reference count (R502). Reset: 0. -/
  unwoundAt : Time := 0
  /-- Queue of the host unit, the running job first (R498). Reset: empty. -/
  jobs : List ScanJob := []
  /-- The job at the head of the queue is running (R498, R501). Reset: no. -/
  scanBusy : Bool := false
  /-- Results by JOB_ID (R499). Reset: none. -/
  results : Map ScanResult := []
  /-- RESULT_ALIVE, 32 bits (R499). Reset: 0. -/
  resultAlive : Nat := 0
  /-- Submissions so far, to tell jobs of one JOB_ID apart. Reset: 0; the model's own count. -/
  submissions : Nat := 0
  /-- Queue of the still unit: internal sources, the running verification first (R497). Reset: empty. -/
  stillJobs : List Nat := []
  deriving DecidableEq, Repr

end Sys2Proof.Machine
end

