-- ==== Sys2Proof/Machine/State/Izent.lean ====
section
/-! DEFINITION. The state of BAR0, the mailboxes, the sessions and the event ring (*The Izent interface*). -/

namespace Sys2Proof.Machine

/-- DEV_STATE (Table 11-2). -/
inductive DevState where
  | boot | starting | ready | fault | powerFail
  deriving DecidableEq, Repr

/-- STATE of a mailbox (Table 11-3). -/
inductive MbxState where
  | idle | taking | running | held
  deriving DecidableEq, Repr

/-- Why a command is held (R332). -/
inductive HoldCause where
  | locks | drain | flip | ready | switching
  deriving DecidableEq, Repr

/-- A command in progress or held on a mailbox, with its doorbell instant on the main reference count and its doorbell order. -/
structure Job where
  kind : CmdKind
  msg : Msg
  since : Time
  /-- The doorbell instant in device time (R9, R234). -/
  rung : Nat := 0
  order : Nat
  cause : Option HoldCause := none
  deriving DecidableEq, Repr

/-- A response: its header fields that are not constants, and the fields of its payload (R317). Reserved bits stand as 0 here; what is written in them is free (log 36). -/
structure Rsp where
  command : Nat
  status : Nat
  session : Nat
  sequence : Nat
  tag : Nat
  payload : Bytes
  deriving DecidableEq, Repr

/-- A challenge issued on a mailbox (R365): its identifier, its nonce, when it was issued, and whether DEBUG_UNLOCK asked for it. -/
structure Challenge where
  id : Nat
  nonce : Bytes
  since : Time
  debug : Bool
  deriving DecidableEq, Repr

/-- A management connection (R314). -/
structure Conn where
  address : Bytes
  since : Time
  /-- The role the client certificate binds, once the handshake is complete (R457). -/
  role : Option Nat := none
  /-- The credential whose key that certificate carries (R457). -/
  cred : Nat := 0
  /-- That key. -/
  key : Bytes := []
  /-- The application traffic secrets of the client and of the W16 (R452, RFC 8446). -/
  secrets : Bytes × Bytes := ([], [])
  /-- Event messages sent so far on the connection (R316). -/
  evSeq : Nat := 0
  /-- Event messages discarded (R316). -/
  discarded : Nat := 0
  deriving DecidableEq, Repr

/-- One mailbox: MB0–MB15 at 0–15, NM0–NM7 at 16–23, the local action session's at 24 (R304, R314, R327). -/
structure Mailbox where
  /-- MBX_REQ_LO, 32 bits (Table 11-3). Reset: 0. -/
  reqLo : Nat := 0
  /-- MBX_REQ_HI, 32 bits (Table 11-3). Reset: 0. -/
  reqHi : Nat := 0
  /-- MBX_RSP_LO, 32 bits (Table 11-3). Reset: 0. -/
  rspLo : Nat := 0
  /-- MBX_RSP_HI, 32 bits (Table 11-3). Reset: 0. -/
  rspHi : Nat := 0
  /-- Request address latched at the doorbell, 64 bits (R305). Reset: 0. -/
  reqAddr : Nat := 0
  /-- Response address latched at the doorbell, 64 bits (R305). Reset: 0. -/
  rspAddr : Nat := 0
  /-- MBX_STATUS.STATE, 2 bits (Table 11-3). Reset: IDLE. -/
  state : MbxState := .idle
  /-- MBX_STATUS.REQ_TAKEN (Table 11-3). Reset: 0. -/
  reqTaken : Bool := false
  /-- MBX_STATUS.DONE (Table 11-3). Reset: 0. -/
  done : Bool := false
  /-- MBX_STATUS.OVERRUN (Table 11-3). Reset: 0. -/
  overrun : Bool := false
  /-- MBX_STATUS.ADDR_FAULT (Table 11-3). Reset: 0. -/
  addrFault : Bool := false
  /-- MBX_LAST_SEQ, 32 bits (R318). Reset: 0. -/
  lastSeq : Nat := 0
  /-- MBX_CONTROL.IRQ_ENABLE (Table 11-3). Reset: 1. -/
  irqEnable : Bool := true
  /-- MBX_DONE_COUNT, 32 bits (Table 11-3). Reset: 0. -/
  doneCount : Nat := 0
  /-- MBX_COMMAND, 16 bits (Table 11-3). Reset: 0. -/
  command : Nat := 0
  /-- The command in progress or held (R306). Reset: none. -/
  job : Option Job := none
  /-- The one further message a network mailbox has read (R314). Reset: none. -/
  next : Option (CmdKind × Msg) := none
  /-- The last response written (R307). Reset: none. -/
  rsp : Option Rsp := none
  /-- The open challenge (R365). Reset: none. -/
  challenge : Option Challenge := none
  /-- A reset waits for a command past its commit point (R308). Reset: no. -/
  resetting : Bool := false
  /-- The management connection of a network mailbox (R314). Reset: none. -/
  conn : Option Conn := none
  deriving DecidableEq, Repr

/-- An open session (R324, R325). -/
structure Session where
  id : Nat
  role : Nat
  mailbox : Nat
  opened : Nat
  lastRequest : Nat
  /-- When its last request came, on the main reference count (R326). -/
  lastAt : Time
  cred : Nat
  /-- Journals subscribed to (R316). -/
  journals : Nat := 0
  deriving DecidableEq, Repr

/-- The event ring's registers (Table 11-4). -/
structure EventRing where
  /-- EVR_BASE_LO, 32 bits. Reset: 0. -/
  baseLo : Nat := 0
  /-- EVR_BASE_HI, 32 bits. Reset: 0. -/
  baseHi : Nat := 0
  /-- EVR_SIZE.LOG2, 5 bits. Reset: 16. -/
  log2 : Nat := 16
  /-- EVR_CONTROL.ENABLE. Reset: 0. -/
  enable : Bool := false
  /-- EVR_CONTROL.OPERATIONAL. Reset: 1. -/
  operational : Bool := true
  /-- EVR_CONTROL.AUDIT. Reset: 0. -/
  audit : Bool := false
  /-- EVR_CONTROL.HOLDOFF, 10 bits, µs. Reset: 0. -/
  holdoff : Nat := 0
  /-- EVR_PRODUCER, 32 bits. Reset: 0. -/
  producer : Nat := 0
  /-- EVR_CONSUMER, 32 bits. Reset: 0. -/
  consumer : Nat := 0
  /-- EVR_DROPS, 32 bits. Reset: 0. -/
  drops : Nat := 0
  /-- EVR_STATUS.FAULT. Reset: 0. -/
  fault : Bool := false
  /-- When vector 16 was last raised, on the main reference count (R310). Reset: never. -/
  raisedAt : Option Time := none
  /-- EVR_PRODUCER has changed since vector 16 was last raised (R310). Reset: no. -/
  pendingIrq : Bool := false
  deriving DecidableEq, Repr

/-- BAR0 and the Izent interface. -/
structure Izent where
  /-- DEV_STATE (Table 11-2). Reset: BOOT. -/
  devState : DevState := .boot
  /-- DEV_ALIVE, 32 bits (Table 11-2). Reset: 0. -/
  alive : Nat := 0
  /-- DEV_HEALTH_EVENTS, 3 bits (Table 11-2). Reset: 0. -/
  healthEvents : Nat := 0
  /-- DEV_TIME_HI, the value latched by the last read of DEV_TIME_LO, 32 bits (Table 11-2). Reset: 0. -/
  timeHi : Nat := 0
  /-- The value the last read of DEV_TIME_LO or EVR_DROPS returned, 32 bits (R8, R303). Reset: 0; the model's own record of the read. -/
  lastRead : Nat := 0
  /-- The mailboxes (Table 11-3). Reset: see each field of Mailbox. -/
  mbx : Map Mailbox := []
  /-- The event ring (Table 11-4). Reset: see each field of EventRing. -/
  ring : EventRing := {}
  /-- The open sessions, oldest first (R324). Reset: none. -/
  sessions : List Session := []
  /-- Session identifiers used in this power cycle (R324). Reset: none. -/
  usedIds : List Nat := []
  /-- SESSION_IDLE, s (R326). Reset: 300. -/
  idle : Nat := 300
  /-- Doorbells so far, which orders held commands (R332). Reset: 0. -/
  orderCount : Nat := 0
  /-- MSI-X table, 32 entries of 16 bytes, as words by offset (R302). Reset: 0 and the vector control words masked, PRESUMED (log 33). -/
  msixTable : Map Nat := []
  /-- MSI-X pending bits (R302). Reset: 0. -/
  msixPending : Nat := 0
  deriving DecidableEq, Repr

end Sys2Proof.Machine
end

