-- ==== Sys2Proof/Machine/State/Lanes.lean ====
section
/-! DEFINITION. The state of the serial lanes and of the ports (*Serial lanes*). -/

namespace Sys2Proof.Machine

/-- Lane states (Table 14-2). -/
inductive LaneState where
  | disabled | noSignal | noBlockLock | up
  deriving DecidableEq, Repr

/-- One lane and its port. -/
structure Lane where
  /-- Configuration entry in force, kept in NAND (R405). Reset: RATE 0. -/
  cfg : LaneCfg := {}
  /-- State (R407). Reset: DISABLED. -/
  state : LaneState := .disabled
  /-- What the receiver last reported since it started (R407, R408). Reset: nothing received. -/
  seen : LaneCond := {}
  /-- A signal is present at the receiver (R407). Reset: no. -/
  signal : Bool := false
  /-- Block lock, FEC alignment, hi_ber clear, no Local and no Remote Fault, all held (R407). Reset: no. -/
  locked : Bool := false
  /-- Since when the condition that leads to the next state holds, main reference count (R407). Reset: none. -/
  since : Option Time := none
  /-- FCS_ERRORS, 32 bits saturating (R409). Reset: 0. -/
  fcsErrors : Nat := 0
  /-- FEC_CORRECTED, 32 bits saturating (R409). Reset: 0. -/
  fecCorrected : Nat := 0
  /-- FEC_UNCORRECTED, 32 bits saturating (R409). Reset: 0. -/
  fecUncorrected : Nat := 0
  /-- RX_FRAMES, 32 bits saturating (R409). Reset: 0. -/
  rxFrames : Nat := 0
  /-- TX_FRAMES, 32 bits saturating (R409). Reset: 0. -/
  txFrames : Nat := 0
  /-- LINK_DOWNS, 32 bits saturating (R409). Reset: 0. -/
  linkDowns : Nat := 0
  /-- Departures from UP in the last 1 000 ms, main reference count (R421). Reset: none. -/
  departures : List Time := []
  /-- LANE_UP and LANE_DOWN are withheld after a LANE_FLAP (R421). Reset: no. -/
  flapping : Bool := false
  /-- A module is present, debounced (R418). Reset: DESIGN CHOICE no (log 23). -/
  present : Bool := false
  /-- When the module was inserted, main reference count, while its identity is unread (R420). Reset: none. -/
  insertedAt : Option Time := none
  /-- Module loss of signal, RX_LOS (R418). Reset: 0. -/
  los : Bool := false
  /-- Module transmit fault, TX_FAULT (R420). Reset: 0. -/
  txFault : Bool := false
  /-- When the last TXDIS pulse of a transmit fault began, main reference count (R420). Reset: none. -/
  txdisPulse : Option Time := none
  /-- LPI_RX_ACTIVE (R413). Reset: 0. -/
  lpiRx : Bool := false
  /-- LPI_TX_ACTIVE (R413). Reset: 0. -/
  lpiTx : Bool := false
  /-- EYE_FOM, height and width (R412). Reset: 0. -/
  eyeHeight : Nat := 0
  eyeWidth : Nat := 0
  /-- LANE_EYE_LOW stands (R412). Reset: no. -/
  eyeLow : Bool := false
  /-- Since when the height is low, or, while LANE_EYE_LOW stands, both values are above their limits, main reference count (R412). Reset: none. -/
  eyeSince : Option Time := none
  /-- Since when the width is low, main reference count (R412). Reset: none. -/
  widthSince : Option Time := none
  /-- An adapted value is held at its bound (R411). Reset: no. -/
  atLimit : Bool := false
  /-- PRBS pattern and mode (R415). Reset: 0, off. -/
  prbsPattern : Nat := 0
  prbsMode : Nat := 0
  /-- BITS and ERRORS, 64 bits, and LOCKED of the checker (R417). Reset: 0. -/
  prbsBits : Nat := 0
  prbsErrors : Nat := 0
  prbsLocked : Bool := false
  /-- The checker's last 31 bits, the latest in bit 0; error-free bits in a row before LOCKED; which of the last 1 024 bits were in error (R417). Reset: 0, 0, none. -/
  prbsReg : Nat := 0
  prbsRun : Nat := 0
  prbsErrs : List Bool := []
  /-- Bits that the generator was told to invert, one in each 1 024-bit block, since the pattern was set (R417). Reset: 0. -/
  inject : Nat := 0
  /-- Port address record, kept in NAND (R360). Reset: DESIGN CHOICE no address (log 23). -/
  address : PortAddr := {}
  deriving DecidableEq, Repr

/-- The lanes. -/
structure Lanes where
  /-- NL0–NL15 (R403). Reset: see each field of Lane. -/
  lane : Map Lane := []
  deriving DecidableEq, Repr

end Sys2Proof.Machine
end

