-- ==== Sys2Proof/Machine/State/Power.lean ====
section
/-! DEFINITION. The state of the feeds, the domains and start-up (*Power feeds, domains and start-up*). -/

namespace Sys2Proof.Machine

/-- Conditions of a feed (Table 17-1). -/
inductive FeedCond where
  | lost | present | qualified
  deriving DecidableEq, Repr

/-- States of a power domain (R371). -/
inductive DomState where
  | off | switchingOn | on | shuttingDown
  deriving DecidableEq, Repr

/-- One feed and its front-end. -/
structure Feed where
  /-- Voltage, mV (Table 12-26). Reset: DESIGN CHOICE 0 (log 28). -/
  mv : Nat := 0
  /-- Condition (R462). Reset: LOST. -/
  cond : FeedCond := .lost
  /-- Since when it lies within 8.0–20.0 V, on the main reference count (R462). Reset: not. -/
  inRange : Option Time := none
  /-- The front-end reports an internal fault (R463). Reset: no. -/
  fault : Bool := false
  deriving DecidableEq, Repr

/-- One power domain. -/
structure Domain where
  /-- State (R371). Reset: off; PD_AON on. -/
  state : DomState := .off
  /-- Intended on, kept in NAND (R471). Reset: on. -/
  intended : Bool := true
  /-- When the state was entered, on the main reference count. Reset: 0. -/
  since : Time := 0
  /-- VOLTAGE_MV (Table 12-25). Reset: DESIGN CHOICE 0 (log 28). -/
  mv : Nat := 0
  /-- AT_LIMIT (R485). Reset: 0. -/
  atLimit : Bool := false
  /-- When the loop last stepped, on the main reference count (R485). Reset: never. -/
  steppedAt : Option Time := none
  /-- Since when the loop stays below V_MAX, on the main reference count (R485). Reset: none. -/
  belowSince : Option Time := none
  /-- Pace ratio of the last sample, 1/1 000 (R484). Reset: DESIGN CHOICE 1 000 (log 28). -/
  pace : Nat := 1000
  deriving DecidableEq, Repr

/-- Power feeds, domains, resets and start-up. -/
structure Power where
  /-- FEED_A at 0, FEED_B at 1 (R462). Reset: see each field of Feed. -/
  feeds : Map Feed := []
  /-- The front-end that holds, 0 = FE_A, 1 = FE_B (R463). Reset: none. -/
  holder : Option Nat := none
  /-- FEED_ILK: high while FE_B holds (R464). Reset: DESIGN CHOICE low (log 28). -/
  ilk : Bool := false
  /-- Consecutive cycles whose copy the standby received, up to 4 (R465). Reset: 0. -/
  copies : Nat := 0
  /-- Consecutive cycles whose copy it missed, up to 4 (R465). Reset: 0. -/
  missed : Nat := 0
  /-- FEED_LINK_FAULT stands (R465). Reset: no. -/
  linkFault : Bool := false
  /-- KA voltage, mV (R468). Reset: DESIGN CHOICE 0 (log 28). -/
  kaMv : Nat := 0
  /-- KA is present (R468). Reset: absent. -/
  kaPresent : Bool := false
  /-- Since when KA lies within 2.7–5.5 V, on the main reference count (R468). Reset: not. -/
  kaSince : Option Time := none
  /-- PF_WARN (R469). Reset: 0. -/
  pfWarn : Bool := false
  /-- t_w of the power-fail warning, on the main reference count (R469). Reset: none. -/
  pfAt : Option Time := none
  /-- The domains by index (R371). Reset: see each field of Domain. -/
  domains : Map Domain := []
  /-- HANDOVERS, 32 bits, since first start (R466). Reset: 0. -/
  handovers : Nat := 0
  /-- t_s: when the running start-up began, on the main reference count (R478). Reset: none. -/
  startedAt : Option Time := none
  /-- Steps of Table 17-3 that the running start-up has ended (R478). Reset: 0. -/
  stage : Nat := 0
  /-- When the running step began, on the main reference count (R480). Reset: 0. -/
  stageAt : Time := 0
  /-- The running or last start is warm (R477). Reset: cold. -/
  warm : Bool := false
  /-- When DEV_STATE last became READY, on the main reference count. Reset: 0. -/
  readyAt : Time := 0
  /-- Reset cause code and device time of the reset, recorded at the next start (R481). Reset: code 0 at time 0. -/
  resetCause : Option (Nat × Nat) := some (0, 0)
  /-- Start-up failures in succession (R480). Reset: 0. -/
  startFailures : Nat := 0
  /-- The next start is cold whatever R477's other conditions say (SYSTEM_RESTART MODE 1, brown-out, start-up failure). Reset: no. -/
  forceCold : Bool := false
  /-- PD_AON has stayed powered since the device was last READY (R477). Reset: no. -/
  aonKept : Bool := false
  /-- A restart that a response has announced: its mode and its instant on the main reference count (R348). Reset: none. -/
  restart : Option (Nat × Time) := none
  /-- PCIE_PERST_N is asserted (R482). Reset: DESIGN CHOICE no (log 28). -/
  perst : Bool := false
  /-- CAP_MW, the software power cap, mW (R295). Reset: DESIGN CHOICE 118 000 (log 28). -/
  capMw : Nat := 118000
  /-- INPUT_MW, mW (Table 12-26). Reset: DESIGN CHOICE 0 (log 28). -/
  inputMw : Nat := 0
  /-- Since when INPUT_MW exceeds CAP_MW, on the main reference count (R487). Reset: not. -/
  overSince : Option Time := none
  /-- Since when INPUT_MW is at or below CAP_MW, on the main reference count (R487). Reset: not. -/
  underSince : Option Time := none
  /-- AT_LIMIT of the power cap (R487). Reset: 0. -/
  capAtLimit : Bool := false
  /-- TJ_MAX, signed, 0.1 °C (Table 12-26). Reset: DESIGN CHOICE 0 (log 28). -/
  tjMax : Int := 0
  /-- TJ_AVG, 0.1 °C (Table 12-26). Reset: DESIGN CHOICE 0 (log 28). -/
  tjAvg : Nat := 0
  /-- Cage supplies switched off for overcurrent, by lane (R542). Reset: none. -/
  cageOff : List Nat := []
  deriving DecidableEq, Repr

end Sys2Proof.Machine
end

