-- ==== Sys2Proof/Machine/State/Protection.lean ====
section
/-! DEFINITION. The state of the doors, of debug and of the security store (*Protection and security*). -/

namespace Sys2Proof.Machine

/-- A credential (R456): its role and the 97 bytes of its key. -/
structure Credential where
  id : Nat
  role : Nat
  key : Bytes
  deriving DecidableEq, Repr

/-- The security store (R454), kept in NAND. -/
structure SecStore where
  /-- Installed credentials, at most 64 (R456). Reset: none. -/
  creds : List Credential := []
  /-- Trust anchors by slot 0–3 (R364). Reset: none. -/
  anchors : Map Bytes := []
  /-- Rules of door 0x28 (R440). Reset: no region. -/
  debugRules : List Region := []
  /-- Rules of door 0x47 (R440). Reset: the one region of first start. -/
  hostRules : List Region := [{ base := 0, granules := 0xFFFFFFFF, attr := 0x0600 }]
  /-- Management port mask, 16 bits (R361). Reset: DESIGN CHOICE 0, no port listens (log 26). -/
  portMask : Nat := 0
  /-- MGMT_TCP_PORT, 16 bits (R313). Reset: 7416. -/
  tcpPort : Nat := 7416
  /-- SESSION_IDLE as stored, s (R326, R454). Reset: 300. -/
  idle : Nat := 300
  /-- Generation count of the store's copies (R454). Reset: DESIGN CHOICE 0 (log 26). -/
  generation : Nat := 0
  deriving DecidableEq, Repr

/-- Failed authentications of one mailbox, or of one source address above 0xFFFF (R458), with their instants, and the end of a back-off. -/
structure AuthRec where
  who : Nat
  fails : List Time := []
  blockedUntil : Option Time := none
  deriving DecidableEq, Repr

/-- Instructions of the test access port (R447, R449). -/
inductive Jtag where
  | bypass | idcode | sample | extest | clamp | highz
  | halt (engine : Nat) | stepEngine (engine : Nat) | resume (engine : Nat)
  | other
  deriving DecidableEq, Repr

/-- The working state of CTR_DRBG: key and V (R452, NIST SP 800-90A). -/
structure Drbg where
  key : Nat := 0
  v : Nat := 0
  deriving DecidableEq, Repr

/-- Protection and security. -/
structure Protection where
  /-- The device-wide epoch, 32 bits (R444). Reset: 1. -/
  epoch : Nat := 1
  /-- The epoch that is retiring (R444). Reset: none. -/
  retiring : Option Nat := none
  /-- Installation instant of the current epoch, on the main reference count (R444). Reset: 0. -/
  installedAt : Time := 0
  /-- Rules in force at the firmware-managed doors 0x00–0x27, 0x40, 0x41, 0x42, 0x46 (R438). Reset: DESIGN CHOICE, a door not listed lets every level read and write the whole map, and PL0–PL2 execute (log 26). -/
  fwRules : Map (List Region) := []
  /-- Rules of the retiring epoch at the doors the change replaced (R444). Reset: none. -/
  oldRules : Map (List Region) := []
  /-- The security store (R454). Reset: see each field of SecStore. -/
  store : SecStore := {}
  /-- The store's two copies in NAND (R454). Reset: as SecStore. -/
  storeA : SecStore := {}
  storeB : SecStore := {}
  /-- When debug was last unlocked or renewed, on the main reference count; none while locked (R448). Reset: locked. -/
  unlockedAt : Option Time := none
  /-- The sticky DENIED bit of the debug port status (R450). Reset: 0. -/
  denied : Bool := false
  /-- The instruction in force at the test access port (R447). Reset: PRESUMED IDCODE (log 26). -/
  tap : Jtag := .idcode
  /-- The data register that IDCODE selects, as the port shifts it out; none under another instruction (R447). Reset: DESIGN CHOICE none, nothing has been shifted (log 26). -/
  tapData : Option Nat := none
  /-- Engines halted by debug, by index: 0 Spire A, 2–17 stream engines, 18–25 sequencers, 26–29 house engines (R449). Reset: none. -/
  halted : List Nat := []
  /-- The last word a debug read returned, none if refused (R450). Reset: none. -/
  debugData : Option Nat := none
  /-- The entropy source passes its health tests (R453). Reset: yes. -/
  entropyOk : Bool := true
  /-- Authentication failures and back-offs (R458). Reset: none. -/
  auth : List AuthRec := []
  /-- Debug has been unlocked since the last restart (R461). Reset: no. -/
  wasUnlocked : Bool := false
  /-- The device certificate, written to NAND at manufacture (R451). Reset: DESIGN CHOICE, empty (log 26). -/
  deviceCert : Bytes := []
  /-- DEV_SERIAL in OTP, 64 bits (R24). Reset: the device's, a free value. -/
  serial : Nat := Config.serial.toNat
  /-- Public keys in the boot ROM, 97 bytes each (R448, R451). Reset: the device's, free values. -/
  rootKey : Bytes := be 97 Config.rootKey.toNat
  debugKey : Bytes := be 97 Config.debugKey.toNat
  /-- The random generator, once it has been seeded since power-up (R452). Reset: not. -/
  drbg : Option Drbg := none
  deriving DecidableEq, Repr

end Sys2Proof.Machine
end

