-- ==== Sys2Proof/Machine/State/Recorder.lean ====
section
/-! DEFINITION. The state of the event recorder (*Event recorder*). -/

namespace Sys2Proof.Machine

/-- One record of a journal (Table 20-1). LENGTH is the payload's length. -/
structure Entry where
  ty : Nat
  time : Nat
  seq : Nat
  payload : Bytes
  deriving DecidableEq, Repr

/-- A 4 KiB page of the NAND ring (R534). -/
structure Page where
  audit : Bool
  firstSeq : Nat
  time : Nat
  crc : Nat
  recs : List Entry
  deriving DecidableEq, Repr

/-- A rate-limited event of one subject (R554): when it was last recorded, on the main reference count, and what is suppressed since. -/
structure RateEntry where
  ty : Nat
  subject : Nat
  lastAt : Time
  suppressed : Nat := 0
  time : Nat := 0
  payload : Bytes := []
  deriving DecidableEq, Repr

/-- The event recorder. -/
structure Recorder where
  /-- The PD_AON buffer, both journals, oldest first; bytes of header and payload count against 256 KiB (R532). Reset: empty. -/
  buf : List Entry := []
  /-- NAND pages of both journals, oldest first (R534). Reset: none written. -/
  nand : List Page := []
  /-- Last SEQUENCE of the operational journal, 32 bits (R529). Reset: 0, so the first record carries 1. -/
  seqOp : Nat := 0
  /-- Last SEQUENCE of the audit journal, 32 bits (R529). Reset: 0. -/
  seqAudit : Nat := 0
  /-- CLEARED_TO of the operational journal, 32 bits (R537). Reset: 0, nothing cleared. -/
  clearedTo : Nat := 0
  /-- Operational records dropped and not yet reported by RECORDS_LOST (R532). Reset: 0. -/
  dropped : Nat := 0
  /-- A flush in progress and how many buffer records it writes (R533). Reset: none. -/
  flushing : Option Nat := none
  /-- When the last flush completed, on the main reference count (R533). Reset: 0. -/
  lastFlush : Time := 0
  /-- Rate limiting of events per event and subject (R554). Reset: none. -/
  rate : List RateEntry := []
  deriving DecidableEq, Repr

end Sys2Proof.Machine
end

