-- ==== Sys2Proof/Machine/State/Time.lean ====
section
/-! DEFINITION. The state of the time bases and of device time (*Device time and network time*). Counters are in units of 10⁻¹² ns, so that a frequency in units of 10⁻¹² moves them exactly. -/

namespace Sys2Proof.Machine

/-- States of a time base (Table 3-4, Table 3-7). -/
inductive BaseState where
  | disabled | free | acquiring | locked | holdover
  deriving DecidableEq, Repr

/-- States of device time (R67). -/
inductive DtState where
  | following (b : Nat)
  | hold
  | free
  deriving DecidableEq, Repr

/-- What a PTP port has learnt from one master (R71, R73). `rank` orders masters under the profile's best master clock algorithm, the smaller the better. -/
structure Master where
  port : Nat
  /-- The sourcePortIdentity of its Announce, 80 bits. -/
  clockId : Nat
  gm : Nat
  rank : Nat
  utcOffset : Int
  utcValid : Bool
  deriving DecidableEq, Repr

/-- A PTP port of an instance (R71, R73): its measured delay and its open exchanges. -/
structure PtpPort where
  delay : Int := 0
  /-- Two-step Sync awaiting its Follow_Up: sequence, receipt in the base's time, correction. -/
  sync : Option (Nat × Int × Int) := none
  /-- The latest Sync's own measurement (t2 − t1) for the E2E delay. -/
  ms : Int := 0
  /-- An open delay request: sequence and its transmission in the base's time (R66). -/
  req : Option (Nat × Int) := none
  /-- A two-step Pdelay_Resp awaiting its follow-up: sequence, t2, t4. -/
  resp : Option (Nat × Int × Int) := none
  /-- Sequence of the next request. -/
  nextSeq : Nat := 0
  deriving DecidableEq, Repr

/-- One time base. -/
structure Base where
  /-- Configuration record, Table 3-3 (R74). Reset: SOURCE 0 with the table's defaults, SOURCE 4 for TB3. -/
  cfg : BaseRec := {}
  /-- State, Table 3-4 (R78). Reset: DISABLED; TB3 HOLDOVER. -/
  state : BaseState := .disabled
  /-- The base's 64-bit counter, 10⁻¹² ns (R65). Reset: DESIGN CHOICE 0 (log 12). -/
  count : Int := 0
  /-- Servo frequency adjustment FREQ_ADJ, signed 32 bits, 10⁻¹² (R76, Table 3-7). Reset: 0. -/
  freq : Int := 0
  /-- The last 16 accepted offsets, newest first (R79). Reset: none. -/
  accepted : List Int := []
  /-- t_a, device time of the last accepted measurement, ns (R79). Reset: 0. -/
  anchor : Nat := 0
  /-- E_ts of the port of the last accepted measurement, ns (R79). Reset: DESIGN CHOICE 4 (log 12). -/
  ets : Nat := 4
  /-- Consecutive accepted measurements within LOCK_THRESHOLD (R78). Reset: 0. -/
  goodRun : Nat := 0
  /-- Consecutive accepted measurements beyond 4 × LOCK_THRESHOLD (R78). Reset: 0. -/
  badRun : Nat := 0
  /-- Consecutive measurements beyond 10 × LOCK_THRESHOLD (R76). Reset: 0. -/
  farRun : Nat := 0
  /-- The base has been LOCKED since it was enabled (R78). Reset: no. -/
  everLocked : Bool := false
  /-- When the base last entered LOCKED, main reference count (R81). Reset: 0. -/
  lockedAt : Time := 0
  /-- When a measurement was last accepted or the wait for one began, main reference count (R78). Reset: 0. -/
  heardAt : Time := 0
  /-- DISAGREE (R84). Reset: 0. -/
  disagree : Bool := false
  /-- A TIME_ACCEPT holds (R84). Reset: no. -/
  acceptance : Bool := false
  /-- Valid currentUtcOffset of the latest accepted Announce that carried one, s (R89). Reset: none. -/
  utc : Option Int := none
  /-- currentUtcOffset of the latest Announce and its valid flag (R72). Reset: 0, not valid. -/
  utcSeen : Int := 0
  /-- UTC_VALID of the latest Announce (Table 3-7). Reset: 0. -/
  utcValid : Bool := false
  /-- IGNORED_COUNT, 16 bits saturating (R72). Reset: 0. -/
  ignored : Nat := 0
  /-- GM_IDENTITY, 64 bits (Table 3-7). Reset: 0. -/
  gm : Nat := 0
  /-- ACTIVE_PORT (Table 3-7). Reset: 255, none. -/
  activePort : Nat := 255
  /-- Masters heard on each port (R71). Reset: none. -/
  masters : List Master := []
  /-- The PTP ports of the instance (R73). Reset: none used. -/
  ports : Map PtpPort := []
  /-- TB2's pulse grid: the TB2 time of its fixing pulse, 10⁻¹² ns (R78). Reset: not fixed. -/
  grid : Option Int := none
  /-- M_3 of R79: U_dt when TB3 last left LOCKED; none while TB3 has not been LOCKED since PD_AON was powered. Reset: none. -/
  m3 : Option Nat := none
  deriving DecidableEq, Repr

/-- Device time and its selection. -/
structure TimeState where
  /-- The main reference oscillator's count, ns; the axis on which every command's instant stands. Reset: 0, DESIGN CHOICE (log 2). -/
  clk : Time := 0
  /-- Device time, 10⁻¹² ns (R65). Reset: DESIGN CHOICE 0, nothing saved in NAND (log 12). -/
  dt : Int := 0
  /-- State of device time (R67). Reset: FREE (R69). -/
  state : DtState := .free
  /-- The base device time last followed or follows (R81). Reset: DESIGN CHOICE 0 (log 12); unused in FREE. -/
  base : Nat := 0
  /-- Frequency of device time while FOLLOWING and carried into HOLD, 10⁻¹² (R67). Reset: 0. -/
  freq : Int := 0
  /-- U_h, U_dt at the entry to HOLD, ns (R85). Reset: 0. -/
  uh : Nat := 0
  /-- t_h, device time of the entry to HOLD, ns (R85). Reset: 0. -/
  th : Nat := 0
  /-- TIME_UNSET (R69). Reset: 0 (Table 11-2), set by a start without TB3. -/
  unset : Bool := false
  /-- Device time has stepped in this power cycle (R68). Reset: no. -/
  stepped : Bool := false
  /-- A LAYOUT_COMMIT has sealed in this power cycle (R68). Reset: no. -/
  committed : Bool := false
  /-- Device time selection record, Table 3-5 (R80), kept in NAND. Reset: the values of first start. -/
  sel : SelectRec := {}
  /-- Last valid currentUtcOffset either PTP base has accepted since power-up, s (R89). Reset: none. -/
  utcAny : Option Int := none
  /-- The time bases TB0–TB3 (R65). Reset: see each field of Base. -/
  bases : Map Base := []
  deriving DecidableEq, Repr

end Sys2Proof.Machine
end

