-- ==== Sys2Proof/Machine/State/Touch.lean ====
section
/-! DEFINITION. The state of the touch front-end and of the local actions (*Console touch keys*). -/

namespace Sys2Proof.Machine

/-- STATE of an electrode (Table 12-18). -/
inductive KeyState where
  | released | touched | masked
  deriving DecidableEq, Repr

/-- One electrode TK0–TK63. -/
structure Electrode where
  /-- Configuration, kept in NAND (R423). Reset: unused. -/
  cfg : KeyCfg := {}
  /-- Baseline B, fF (R423). Reset: DESIGN CHOICE 0 (log 24). -/
  baseline : Nat := 0
  /-- C_m of the last scan frame, fF (R422). Reset: DESIGN CHOICE 0 (log 24). -/
  cm : Nat := 0
  /-- STATE (Table 12-18). Reset: released. -/
  state : KeyState := .released
  /-- Since when it is touched, main reference count (R432). Reset: 0. -/
  touchedAt : Time := 0
  /-- PROXIMITY (R424). Reset: 0. -/
  proximity : Bool := false
  /-- In fault (R431). Reset: no. -/
  fault : Bool := false
  /-- Consecutive frames that meet the condition to release (R426) or to change PROXIMITY (R424). Reset: 0. -/
  run : Nat := 0
  /-- Since when Δ < −⌊P/2⌋ (R429), main reference count. Reset: not. -/
  negSince : Option Time := none
  /-- Since when |Δ| ≤ ⌊P/4⌋ while masked (R432), main reference count. Reset: not. -/
  quietSince : Option Time := none
  /-- Since when C_m lies on the other side of 4–160 pF (R431), main reference count. Reset: not. -/
  rangeSince : Option Time := none
  /-- C_m summed over the first scan frames (R428). Reset: 0. -/
  sum : Nat := 0
  /-- MAX_ON has passed in a scan frame that may still end with the release (R426, R432). Reset: no. -/
  maxOnDue : Bool := false
  /-- TOUCH_REBASELINE sets B in the next scan frame (R430). Reset: no. -/
  rebase : Bool := false
  deriving DecidableEq, Repr

/-- One key group. -/
structure KeyGroup where
  /-- Mode: 0 NORMAL, 1 GLOVE, 2 HOVER (R424). Reset: DESIGN CHOICE NORMAL (log 24). -/
  mode : Nat := 0
  /-- A mode that takes effect at the next scan frame (R424). Reset: none. -/
  nextMode : Option Nat := none
  /-- The touched key (R425). Reset: none. -/
  key : Option Nat := none
  /-- The candidate of the last scan frame (R425). Reset: none. -/
  candidate : Option Nat := none
  deriving DecidableEq, Repr

/-- A local action that waits or runs (R434): electrode, action 1 or 2, argument, reason shown at the press. -/
structure LocalAct where
  electrode : Nat
  action : Nat
  arg : Nat
  reason : Nat
  deriving DecidableEq, Repr

/-- The touch front-end and the local actions. -/
structure Touch where
  /-- Electrodes (R422). Reset: see each field of Electrode. -/
  el : Map Electrode := []
  /-- Key groups (R424). Reset: see each field of KeyGroup. -/
  grp : Map KeyGroup := []
  /-- Scan frames since PD_HOUSE came on, up to 16 (R428). Reset: 0. -/
  frames : Nat := 0
  /-- When the last scan frame ended, main reference count (R422). Reset: 0. -/
  scannedAt : Time := 0
  /-- Local action table, kept in NAND (R433). Reset: no action. -/
  actions : Map ActionCfg := []
  /-- Actions that wait, oldest first, at most 8 (R434). Reset: none. -/
  queue : List LocalAct := []
  /-- The action whose command runs or is held (R434). Reset: none. -/
  running : Option LocalAct := none
  deriving DecidableEq, Repr

end Sys2Proof.Machine
end

