-- ==== Sys2Proof/Machine/State/Update.lean ====
section
/-! DEFINITION. The state of firmware update (*Firmware update*). -/

namespace Sys2Proof.Machine

/-- PLAN_STATE (Table 12-23). -/
inductive PlanState where
  | none | planned | running | confirmPending | done | fallenBack | failed
  deriving DecidableEq, Repr

/-- The settings that an image owns, as they stood when it was activated under MIGRATE_ONCE (Table 19-1, R523). An image's fallback takes back its own fields only. -/
structure Owned where
  stored : Map Bytes
  timings : Map (Option TimingRec)
  lanes : Map LaneCfg
  addresses : Map PortAddr
  bases : Map BaseRec
  sel : SelectRec
  intended : Map Bool
  store : SecStore
  safety : SafetyCfg
  tones : Map ToneProfile
  coefs : Map CoefSet
  keys : Map KeyCfg
  actions : Map ActionCfg
  deriving DecidableEq, Repr

/-- One image and its slots (R504). `state` is STATE of Table 12-23. -/
structure Image where
  /-- Running version (R504). Reset: DESIGN CHOICE version 0 with interface 0 that accepts every interface (log 31). -/
  running : Container := { image := 0, securityVersion := 0, version := 0, iface := 0, settingsFormat := 0, migrateFrom := 0, writesFrom := 0xFFFF, confirmCriteria := 0, settleS := 10, plainLength := 1, blocks := 1, serial := 0, requires := List.replicate 8 (0, 0xFFFF) }
  /-- Staged version (R513). Reset: none. -/
  staged : Option Container := .none
  /-- Fallback version (R514). Reset: none. -/
  fallback : Option Container := .none
  /-- STATE 0–4 (Table 12-23). Reset: 0. -/
  state : Nat := 0
  /-- The running slot passes R508 (R525). Reset: yes. -/
  good : Bool := true
  /-- Format of the settings in force (R511). Reset: DESIGN CHOICE 0 (log 31). -/
  settings : Nat := 0
  /-- Snapshot of its settings and their format, kept until confirmation (R523). Reset: none. -/
  snapshot : Option (Nat × Owned) := .none
  deriving DecidableEq, Repr

/-- Firmware update. -/
structure Update where
  /-- The images by code (R504). Reset: see each field of Image. -/
  images : Map Image := []
  /-- PLAN_ID of the last plan, 16 bits (Table 12-23). Reset: 0. -/
  planId : Nat := 0
  /-- The PLAN_IDs given so far, so that each is new (R511); the model's own field. Reset: none. -/
  usedPlans : List Nat := []
  /-- PLAN_STATE (Table 12-23). Reset: NONE. -/
  planState : PlanState := .none
  /-- Headers of the plan's containers (R511). Reset: none. -/
  plan : List Container := []
  /-- Host address and length of each image's container (R513). Reset: none. -/
  sources : Map (Nat × Nat) := []
  /-- Activation order (R512). Reset: empty. -/
  order : List Nat := []
  /-- MIGRATION of UPDATE_RUN: 0 MIGRATE_ONCE, 1 DUAL_KEEP (R523). Reset: 0. -/
  migration : Nat := 0
  /-- CONFIRM_S, s (R519). Reset: 0. -/
  confirmS : Nat := 0
  /-- Images staged so far (R513). Reset: 0. -/
  stagedCount : Nat := 0
  /-- Images activated so far, in ORDER (R514). Reset: none. -/
  activated : List Nat := []
  /-- The image whose activation is in progress and since when, on the main reference count (R514). Reset: none. -/
  activating : Option (Nat × Time) := .none
  /-- A SPIRE_A activation is due and waits for the command in progress (R515). Reset: no. -/
  spireDue : Bool := false
  /-- Since when Spire A switches, on the main reference count (R515). Reset: not. -/
  spireSwitch : Option Time := .none
  /-- A COMP activation is due (R516). Reset: no. -/
  compDue : Bool := false
  /-- The plan restarts the device itself because it contains BOOT2 (R518). Reset: no. -/
  restarting : Bool := false
  /-- Cause of a fallback in progress, 0 DEADLINE, 1 COMMAND, 2 ACTIVATION_FAILED, 3 RESTART (R520). Reset: none. -/
  falling : Option Nat := .none
  /-- CONFIRM_DEADLINE, device time, 0 if none (Table 12-23). Reset: 0. -/
  deadline : Nat := 0
  /-- Confirm time that remained at a reset, ns (R522). Reset: none. -/
  remaining : Option Nat := .none
  /-- Since when every self-test criterion holds, on the main reference count (R521). Reset: 0. -/
  settledFrom : Time := 0
  /-- Heads that read RUNNING when UPDATE_RUN answered (R521). Reset: none. -/
  headsRunning : List Nat := []
  /-- Lanes that read UP when UPDATE_RUN answered (R521). Reset: none. -/
  lanesUp : List Nat := []
  /-- A session request has executed on a PCIe mailbox since the count started (R521). Reset: no. -/
  requested : Bool := false
  /-- The anti-rollback counter, 0–127 in OTP (R524). Reset: 0. -/
  counter : Nat := 0
  /-- The image in progress, 0xFF if none (Table 12-23). Reset: 255. -/
  current : Nat := 255
  /-- The plan is staged by the boot ROM under R526 and needs no confirmation. Reset: no. -/
  bootRom : Bool := false
  deriving DecidableEq, Repr

end Sys2Proof.Machine
end

