-- ==== Sys2Proof/Machine/State.lean ====
section
/-! DEFINITION. The whole state of the W16, with its reasons to stop and the state after reset. -/

namespace Sys2Proof.Machine

/-- Why a step can stop with a fault. -/
inductive Fault where
  /-- A command or event names a unit that the W16 does not have (a mailbox above 24, a head above 15, and so on). Raised by the meanings that take a unit number. Safe: the model stops where no hardware step exists. -/
  | noSuchUnit
  deriving DecidableEq, Repr

/-- Why a command can have no meaning. -/
inductive Refusal where
  /-- The command named has no meaning in the model. Raised only by the dispatcher. Safe. -/
  | notModelled (mnemonic : String)
  deriving DecidableEq, Repr

/-- A frame that a head sends on its main link (Table 7-1): its number, its record, whose totals, porches, sync widths, polarities and depth are the main stream attributes, the trained lanes and rate, the spread and the lanes inverted, whether the attributes signal sRGB, the VSC SDP's BT.2020 RGB, the HDR static metadata InfoFrame's EOTF code, and the output codes in raster order. -/
structure SentFrame where
  head : Nat
  frame : Nat
  timing : TimingRec
  lanes : Nat
  rate : Nat
  ssc : Bool
  inverted : Nat
  srgb : Bool
  vsc2020 : Bool
  eotf : Option Nat
  pixels : List Rgb
  deriving DecidableEq, Repr

/-- What the latest step sent out of the package. -/
structure Out where
  /-- MSI-X vectors raised, in order (R312). -/
  msix : List Nat := []
  /-- Writes to host memory: host address and bytes, in order (R307, R310, R345). -/
  host : List (Nat × Bytes) := []
  /-- Ethernet frames sent: port and payload (R104, R106, R71, R269). -/
  frames : List (Nat × Bytes) := []
  /-- Frames sent on the main links of the heads (R196, R204, R206). -/
  video : List SentFrame := []
  /-- Tag and map writes issued into the Naelto region: the record of Table 2-1, and the map of R28 where the picture has pixels. -/
  tags : List (Bytes × Bytes) := []
  /-- Event messages handed to TLS: mailbox and record (R316). -/
  events : List (Nat × Bytes) := []
  /-- Data blocks that follow a response on a network mailbox: mailbox, data and its CRC (R315, R345). -/
  blocks : List (Nat × Bytes) := []
  /-- Host address of an event ring write that the host link's door refused, until its DOOR_DENIED is recorded (R443). -/
  ringDenied : Option Nat := none
  /-- Level of the SAFE_FAULT ball, true for high, which is deasserted (R248). Reset: low, as the W16 is not READY. -/
  safeFaultHigh : Bool := false
  deriving DecidableEq, Repr

/-- The state of the W16. -/
structure State where
  time : TimeState := {}
  izent : Izent := {}
  recorder : Recorder := {}
  prot : Protection := {}
  power : Power := {}
  health : Health := {}
  upd : Update := {}
  streams : Streams := {}
  comp : Comp := {}
  enc : Encoder := {}
  lanes : Lanes := {}
  touch : Touch := {}
  dram : Dram := {}
  /-- What the latest step sent out. Reset: nothing. -/
  out : Out := {}
  /-- Index of the next free value. The model's own field. Reset: DESIGN CHOICE 0 (log 5). -/
  freeCtr : Nat := 0
  /-- Commands that wait, first in, first out. The model's own field. Reset: empty. -/
  pending : List Instr := []
  deriving DecidableEq, Repr

/-- The machine right after reset: every field at the value that its docstring names. What a start then does is START_UP's. -/
def State.reset : State := {}

end Sys2Proof.Machine
end

