-- ==== Sys2Proof/Machine/Ops.lean ====
section
/-! DEFINITION. The shared operations: time, the event recorder with the event ring, units by index, and free values. -/

namespace Sys2Proof.Machine

/-! Units by index. -/

def State.ctx (s : State) (c : Nat) : Ctx := Map.get {} s.streams.ctx c
def State.setCtx (s : State) (c : Nat) (x : Ctx) : State := { s with streams := { s.streams with ctx := Map.set s.streams.ctx c x } }
def State.src (s : State) (i : Nat) : Source := Map.get {} s.streams.src i
def State.setSrc (s : State) (i : Nat) (x : Source) : State := { s with streams := { s.streams with src := Map.set s.streams.src i x } }
def State.lane (s : State) (k : Nat) : Lane := Map.get { cfg := { lane := k }, address := { port := k } } s.lanes.lane k
def State.setLane (s : State) (k : Nat) (x : Lane) : State := { s with lanes := { s.lanes with lane := Map.set s.lanes.lane k x } }
def State.mbx (s : State) (m : Nat) : Mailbox := Map.get {} s.izent.mbx m
def State.setMbx (s : State) (m : Nat) (x : Mailbox) : State := { s with izent := { s.izent with mbx := Map.set s.izent.mbx m x } }
def State.dom (s : State) (d : Nat) : Domain := Map.get { state := if d = 0 then .on else .off } s.power.domains d
def State.setDom (s : State) (d : Nat) (x : Domain) : State := { s with power := { s.power with domains := Map.set s.power.domains d x } }
def State.feed (s : State) (f : Nat) : Feed := Map.get {} s.power.feeds f
def State.setFeed (s : State) (f : Nat) (x : Feed) : State := { s with power := { s.power with feeds := Map.set s.power.feeds f x } }
def State.image (s : State) (i : Nat) : Image := Map.get {} s.upd.images i
def State.setImage (s : State) (i : Nat) (x : Image) : State := { s with upd := { s.upd with images := Map.set s.upd.images i x } }
def State.el (s : State) (e : Nat) : Electrode := Map.get { cfg := { electrode := e } } s.touch.el e
def State.setEl (s : State) (e : Nat) (x : Electrode) : State := { s with touch := { s.touch with el := Map.set s.touch.el e x } }
def State.grp (s : State) (g : Nat) : KeyGroup := Map.get {} s.touch.grp g
def State.setGrp (s : State) (g : Nat) (x : KeyGroup) : State := { s with touch := { s.touch with grp := Map.set s.touch.grp g x } }

/-- At least `n` ns have passed since the power-fail warning was raised (R469). -/
def State.pastFail (s : State) (n : Nat) : Bool := match s.power.pfAt with | some t => t + n ≤ s.time.clk | none => false

/-- A domain is on (R17). After a power-fail warning domains 4–9 are off from 50 µs on, and all but PD_AON from 3 ms on (R469). -/
def State.domOn (s : State) (d : Nat) : Bool :=
  (s.dom d).state == .on && !(4 ≤ d && d ≤ 9 && s.pastFail (50 * us)) && !(d != 0 && s.pastFail (3 * ms))

/-- The base TBb; TB3's SOURCE is HOLD and it is in HOLDOVER while device time follows no LOCKED base (R78). -/
def TimeState.base? (ts : TimeState) (b : Nat) : Base :=
  Map.get (if b = 3 then { cfg := { base := 3, source := 4 }, state := .holdover } else { cfg := { base := b } }) ts.bases b
def State.base (s : State) (b : Nat) : Base := s.time.base? b
def State.setBase (s : State) (b : Nat) (x : Base) : State := { s with time := { s.time with bases := Map.set s.time.bases b x } }

/-! Time. -/

/-- One ns in the units of the counters. -/
def tu : Nat := 1000000000000

/-- Device time in ns, an unsigned 64-bit count (R9). -/
def TimeState.now (ts : TimeState) : Nat := (ts.dt / (tu : Int)).toNat % 18446744073709551616
def State.now (s : State) : Nat := s.time.now
/-- The time of base b in ns. -/
def State.baseNow (s : State) (b : Nat) : Int := (s.base b).count / (tu : Int)

/-- D_b in the counters' units (R66). -/
def TimeState.dRaw (ts : TimeState) (b : Nat) : Int := ts.dt - (ts.base? b).count
/-- D_b in ns, exact to 1 ns (R66). -/
def State.dB (s : State) (b : Nat) : Int := (s.time.dRaw b) / (tu : Int)

/-- The hold oscillator's deviation, within its rated drift of 100 ns/s (R75). -/
def holdDev : Int := clampI (-100000) 100000 Config.holdRate

/-- D after the followed base has advanced by `db`: device time slews it toward 0 by 50 ns per ms of device time, until it is 50 ns (R83). Device time ahead of its base advances by 20 000/20 001 of `db`, and behind it by 20 000/19 999. -/
def slew (db x : Int) : Int :=
  let lim : Int := 50 * (tu : Int)
  if x > lim then max (x - db / 20001) lim
  else if x < -lim then min (x + db / 19999) (-lim)
  else x

/-- A base's counter after `d` ns of the main reference; in HOLDOVER and for TB3 it runs on the hold oscillator (R65, R78). -/
def Base.run (b : Base) (d : Nat) : Base :=
  let f := b.freq + (if b.state = .holdover then holdDev else 0)
  { b with count := b.count + (d : Int) * ((tu : Int) + f) }

/-- Device time and the bases after `d` ns of the main reference (R65, R67, R83). TB3 follows device time while it is LOCKED (Table 3-1). -/
def TimeState.run (ts : TimeState) (d : Nat) : TimeState :=
  let bases := Map.set (Map.set (Map.set (Map.set ts.bases 0 ((ts.base? 0).run d)) 1 ((ts.base? 1).run d)) 2 ((ts.base? 2).run d)) 3 ((ts.base? 3).run d)
  let dt := match ts.state with
    | .following b => (Map.get {} bases b).count + slew ((Map.get {} bases b).count - (ts.base? b).count) (ts.dRaw b)
    | .hold => ts.dt + (d : Int) * ((tu : Int) + ts.freq + holdDev)
    | .free => ts.dt + (d : Int) * (tu : Int)
  let b3 := Map.get {} bases 3
  let bases := if b3.state = .locked then Map.set bases 3 { b3 with count := dt } else bases
  { ts with clk := ts.clk + d, dt := dt, bases := bases }

/-- Advance to instant `t` of the main reference; an instant that has passed changes nothing. The outputs of the previous step are over, and its event messages are sent. -/
def State.tick (s : State) (t : Time) : State :=
  { s with time := s.time.run (t - s.time.clk), out := {} }

def State.clk (s : State) : Time := s.time.clk

/-! Free values. -/

/-- The next free value (log 5). -/
def State.fresh (s : State) : BitVec 64 := Config.free s.freeCtr
def State.useFree (s : State) : State := { s with freeCtr := s.freeCtr + 1 }
def State.useFrees (s : State) (n : Nat) : State := { s with freeCtr := s.freeCtr + n }

/-- `n` bytes that nothing constrains (log 5). -/
def State.freeBytes (s : State) (n : Nat) : Bytes := (List.range n).map fun i => (Config.free (s.freeCtr + i)).setWidth 8

/-! Outputs. -/

/-- The vector control word of a vector in the MSI-X table masks it; so after reset (log 33). -/
def State.masked (s : State) (v : Nat) : Bool := bit (Map.get 1 s.izent.msixTable (16 * v + 12)) 0

/-- Raise an MSI-X vector (R312); one that is masked becomes pending (log 33). -/
def State.raise (s : State) (v : Nat) : State :=
  { s with out := { s.out with msix := s.out.msix ++ [v] }, izent := { s.izent with msixPending := if s.masked v then setBit s.izent.msixPending v true else s.izent.msixPending } }
def State.hostWrite (s : State) (addr : Nat) (bs : Bytes) : State := { s with out := { s.out with host := s.out.host ++ [(addr, bs)] } }
def State.send (s : State) (port : Nat) (bs : Bytes) : State := { s with out := { s.out with frames := s.out.frames ++ [(port, bs)] } }

/-! Doors (R441). -/

/-- A door with these rules permits an access of `kind` (0 read, 1 write, 2 execute) at privilege level `pl` to the address. -/
def doorAllows (rules : List Region) (pl kind addr : Nat) : Bool :=
  rules.any fun r => r.base ≤ addr && addr < r.base + r.granules * 4096 && bit r.attr (3 * pl + kind)

/-- The 4 KiB granules that `n` bytes from `addr` touch (R442). -/
def granules (addr n : Nat) : List Nat :=
  (List.range ((addr + (n - 1)) / 4096 - addr / 4096 + 1)).map fun i => max addr ((addr / 4096 + i) * 4096)

/-- The doors of Table 16-3. -/
def doorExists (d : Nat) : Bool := d ≤ 0x28 || (0x40 ≤ d && d ≤ 0x47)

/-- The mapped ranges of Table 16-1 up to NAND, and host memory (R436). -/
def fabricRanges : List (Nat × Nat) :=
  [(0, 0x800000), (0x1000000000, 0x10000), (0x1100000000, 0x100), (0x1100100000, 0x100), (0x1100200000, 0x10), (0x1100300000, 0x20), (0x1200000000, 0x1000), (0x8000000000000000, 0xFFFFFFFF)]

/-- Rules of a firmware-managed door that has none listed: PL0–PL2 have every access, PL3 reads and writes, to all that the door guards (log 26). The check-byte and spare regions are the DRAM controller's alone (R375). -/
def openRules (d : Nat) : List Region :=
  let all (l : List (Nat × Nat)) : List Region := l.map fun e => { base := e.1, granules := e.2, attr := 0x7FF }
  match d with
  | 0x40 => all [(0, 0x7E0000)]
  | 0x41 => all [(0x1200000000, 0x1000)]
  | 0x42 => all [(0x1100000000, 0x100)]
  | 0x46 => all [(0x1000000000, 0x10000)]
  | _ => all fabricRanges

/-- The rules in force at a door (R438–R440). -/
def State.rulesOf (s : State) (d : Nat) : List Region :=
  match d with
  | 0x28 => s.prot.store.debugRules
  | 0x47 => s.prot.store.hostRules
  | 0x43 => [{ base := 0x1100100000, granules := 256, attr := 0x1B }]
  | 0x44 => []
  | 0x45 => [{ base := 0x1100300000, granules := 32, attr := 0x05 }]
  | _ => Map.get (openRules d) s.prot.fwRules d

/-- The rules of a door for transfers of an epoch (R444). -/
def State.rulesAt (s : State) (epoch d : Nat) : List Region :=
  if s.prot.retiring == some epoch then Map.get (s.rulesOf d) s.prot.oldRules d else s.rulesOf d

/-- The target door of a fabric address, and the address that it checks (Table 16-1, Table 16-3). -/
def targetDoor (a : Nat) : Option (Nat × Nat) :=
  if a < 2 ^ 35 then some (0x40, a)
  else if 2 ^ 63 ≤ a && a < 2 ^ 64 then some (0x47, a - 2 ^ 63)
  else if 0x1000000000 ≤ a && a < 0x1010000000 then some (0x46, a)
  else if 0x1100000000 ≤ a && a < 0x1100100000 then some (0x42, a)
  else if 0x1100100000 ≤ a && a < 0x1100200000 then some (0x43, a)
  else if 0x1100200000 ≤ a && a < 0x1100210000 then some (0x44, a)
  else if 0x1100300000 ≤ a && a < 0x1100320000 then some (0x45, a)
  else if 0x1200000000 ≤ a && a < 0x1201000000 then some (0x41, a)
  else none

/-- The initiator door of `initiator` refuses a transfer, with the address: one that its rules do not permit, or that no range of the map holds (R436, R441). -/
def State.initiatorRefused (s : State) (initiator level kind a : Nat) : Option (Nat × Nat) :=
  if (targetDoor a).isNone || !doorAllows (s.rulesOf initiator) level kind a then some (initiator, a) else none

/-- The target door refuses a transfer. The doors of Spire B's memory and of the boot ROM look at the initiator too (R439). -/
def State.targetRefused (s : State) (initiator level kind a : Nat) : Option (Nat × Nat) :=
  match targetDoor a with
  | none => none
  | some (d, x) => if doorAllows (s.rulesOf d) level kind x && (d != 0x43 || initiator = 31) && (d != 0x45 || initiator = 30 || initiator = 31) then none else some (d, x)

/-- The host link's door permits every transfer of an access (R441, R442). -/
def State.hostAllows (s : State) (kind addr n : Nat) : Bool :=
  (granules addr n).all fun a => doorAllows s.prot.store.hostRules 3 kind a

/-- The address of the first transfer of an access that the host link's door refuses. -/
def State.hostRefused (s : State) (kind addr n : Nat) : Option Nat :=
  (granules addr n).find? fun a => !doorAllows s.prot.store.hostRules 3 kind a

/-! The event recorder. -/

/-- Bytes a record takes in the buffer (R528). -/
def Entry.size (e : Entry) : Nat := 16 + e.payload.length
def Entry.audit (e : Entry) : Bool := bit e.ty 15

/-- A record as it stands in the ring and in event messages (Table 20-1). -/
def Entry.bytes (e : Entry) : Bytes := le 2 e.ty ++ le 2 e.payload.length ++ le 8 e.time ++ le 4 e.seq ++ e.payload

/-- The sequence number after `n` (R529). -/
def nextSeq (n : Nat) : Nat := if n ≥ 0xFFFFFFFF then 1 else n + 1

/-- Bytes of the PD_AON buffer in use (R532). -/
def Recorder.used (r : Recorder) : Nat := sumL (r.buf.map Entry.size)

/-- Bytes of the ring, its base in host memory. -/
def EventRing.size (e : EventRing) : Nat := 2 ^ e.log2
def EventRing.base (e : EventRing) : Nat := e.baseLo + e.baseHi * 2 ^ 32

/-- Bytes the ring can take before the 8 that stay free (R310). -/
def EventRing.room (e : EventRing) : Nat := (e.consumer + e.size - e.producer - 1) % e.size + 1 - 8

/-- EVR_PRODUCER changed: vector 16 is raised unless the hold-off runs (R310). -/
def State.ringChanged (s : State) : State :=
  let e := s.izent.ring
  let ready := match e.raisedAt with
    | none => true
    | some t => decide (t + e.holdoff * us ≤ s.clk)
  if ready then
    ({ s with izent := { s.izent with ring := { e with raisedAt := some s.clk, pendingIrq := false } } }).raise 16
  else { s with izent := { s.izent with ring := { e with pendingIrq := true } } }

/-- A ring write fails at the host link's door: FAULT is set, ENABLE cleared, vector 19 raised (R309, R312). -/
def State.ringFault (s : State) (addr n : Nat) : State :=
  ({ s with izent := { s.izent with ring := { s.izent.ring with fault := true, enable := false } }, out := { s.out with ringDenied := s.hostRefused 1 addr n } }).raise 19

/-- Padding and record bytes reach the ring; the producer follows (R309, R310). -/
def State.ringPut (s : State) (pad bs : Bytes) (at_ : Nat) : State :=
  let r := s.izent.ring
  let s := if pad.isEmpty then s else s.hostWrite (r.base + r.producer) pad
  let s := s.hostWrite (r.base + at_) bs
  ({ s with izent := { s.izent with ring := { r with producer := (at_ + bs.length) % r.size } } }).ringChanged

/-- Write a record into the event ring, or count it as dropped (R310). -/
def State.ringWrite (s : State) (e : Entry) : State :=
  let r := s.izent.ring
  if !r.enable || !(if e.audit then r.audit else r.operational) then s
  else
    let bs := padTo 8 e.bytes
    let rest := r.size - r.producer
    let pad := if bs.length ≤ rest then [] else if rest < 16 then zeros rest else le 2 0 ++ le 2 (rest - 16) ++ zeros (rest - 4)
    if pad.length + bs.length > r.room then { s with izent := { s.izent with ring := { r with drops := (r.drops + 1) % 2 ^ 32 } } }
    else
      let at_ := if pad.isEmpty then r.producer % r.size else 0
      if !(pad.isEmpty || s.hostAllows 1 (r.base + r.producer) pad.length) then s.ringFault (r.base + r.producer) pad.length
      else if !s.hostAllows 1 (r.base + at_) bs.length then s.ringFault (r.base + at_) bs.length
      else s.ringPut pad bs at_

/-- A message header with its CRC, then the payload (Table 11-6). -/
def wire (flags command status session seq tag reserved : Nat) (payload : Bytes) (magic version length : Nat) : Bytes × Nat :=
  let head (crc : Nat) : Bytes := le 2 magic ++ le 1 version ++ le 1 flags ++ le 4 length ++ le 2 command ++ le 2 status ++ le 4 session ++ le 4 seq ++ le 4 tag ++ le 4 reserved ++ le 4 crc
  let crc := crc32c (head 0 ++ payload)
  (head crc ++ payload, crc)

/-- An event message to a session (R316): FLAGS[2] is 1, COMMAND 0, SESSION that of the session (DEDUCED, log 6). Reserved bits, STATUS and TAG are free values `f`. -/
def eventMessage (f : Nat → Byte) (session seq : Nat) (e : Entry) : Bytes :=
  (wire (4 + 8 * ((f 3).toNat / 8)) 0 (ofLe [f 10, f 11]) session seq (ofLe [f 20, f 21, f 22, f 23]) (ofLe [f 24, f 25, f 26, f 27]) e.bytes 0x5A49 1 (32 + e.bytes.length)).1

/-- Deliver a record to one session, if it subscribed to the record's journal (R316). A connection with more than 1 MiB waiting discards it. -/
def State.deliverTo (s : State) (e : Entry) (x : Session) : State :=
  let m := s.mbx x.mailbox
  match m.conn with
  | none => s
  | some c =>
    if !bit x.journals (if e.audit then 1 else 0) then s
    else if sumL ((s.out.events.filter fun w => w.1 == x.mailbox).map fun w => w.2.length) > 1048576 then s.setMbx x.mailbox { m with conn := some { c with discarded := sat 4 (c.discarded + 1) } }
    else
      let seq := (c.evSeq + 1) % 2 ^ 32
      let s := s.setMbx x.mailbox { m with conn := some { c with evSeq := seq } }
      { s with out := { s.out with events := s.out.events ++ [(x.mailbox, eventMessage (Config.eventHead x.mailbox seq) x.id seq e)] } }

/-- Deliver a record to the sessions (R316). -/
def State.deliver (s : State) (e : Entry) : State := s.izent.sessions.foldl (fun s x => s.deliverTo e x) s

/-- Events whose records start a flush (R533); every audit record does too. -/
def flushTypes : List Nat := [evDomainFault, evUnitFailed, evSpireLockstep, evEccUncorrectable, evLanternMismatch, evLanternLatched, evStartFailed, evPowerFailWarning]

/-- A flush starts, or the one in progress is extended to what the buffer now holds (R533). While Spire B recovers, flushes pause (R494). -/
def State.startFlush (s : State) : State :=
  { s with recorder := { s.recorder with flushing := some s.recorder.buf.length } }

/-- Record an event of type `ty` at device time `time` with an encoded payload (R528–R533). -/
def State.recordRaw (s : State) (ty time : Nat) (bs : Bytes) : State :=
  let bs := padTo 4 bs
  let audit := bit ty 15
  let r := s.recorder
  if !audit && r.used + 16 + bs.length > 262144 - 16384 then { s with recorder := { r with dropped := r.dropped + 1 } }
  else
    let seq := nextSeq (if audit then r.seqAudit else r.seqOp)
    let e : Entry := { ty := ty, time := time, seq := seq, payload := bs }
    let r := if audit then { r with buf := r.buf ++ [e], seqAudit := seq } else { r with buf := r.buf ++ [e], seqOp := seq }
    let s := { s with recorder := r }
    let s := if audit || flushTypes.contains ty || r.used ≥ 196608 then s.startFlush else s
    (s.ringWrite e).deliver e

/-- Record an event whose values all have a number coding. -/
def State.recordAt (s : State) (ty time : Nat) (vals : List (Nat × Int)) : State := s.recordRaw ty time (payload vals [])

/-- Record an event of this instant. -/
def State.record (s : State) (ty : Nat) (vals : List (Nat × Int)) : State := s.recordAt ty s.now vals

/-- Record an occurrence of a rate-limited event of a subject, or suppress it (R554). -/
def State.recordLimited (s : State) (ty subject : Nat) (vals : List (Nat × Int)) : State :=
  let r := s.recorder
  let bs := payload vals []
  let others := r.rate.filter fun e => !(e.ty == ty && e.subject == subject)
  match r.rate.find? fun e => e.ty == ty && e.subject == subject with
  | none => ({ s with recorder := { r with rate := { ty := ty, subject := subject, lastAt := s.clk } :: others } }).recordRaw ty s.now (pvPlace bs 4 (le 4 1))
  | some e =>
    if e.lastAt + 1000 * ms ≤ s.clk then
      ({ s with recorder := { r with rate := { ty := ty, subject := subject, lastAt := s.clk } :: others } }).recordRaw ty s.now (pvPlace bs 4 (le 4 (sat 4 (e.suppressed + 1))))
    else
      { s with recorder := { r with rate := { e with suppressed := e.suppressed + 1, time := s.now, payload := bs } :: others } }

/-- DOOR_DENIED for a transfer of an epoch refused at a door (R443): initiator, level, kind, address. -/
def State.doorDenied (s : State) (door initiator level kind addr epoch : Nat) : State :=
  s.recordLimited evDoorDenied initiator [p2 door, p2 initiator, p1 level, p1 kind, p8 addr, p4 epoch]

/-- The host link's door refuses an access of the PCIe host DMA: DOOR_DENIED (R443). -/
def State.hostDenied (s : State) (kind addr n : Nat) : State :=
  match s.hostRefused kind addr n with
  | some a => s.doorDenied 0x47 38 3 kind a s.prot.epoch
  | none => s

/-- The reasons LOCAL_ACTION carries where no command ended: 0 done, 1 QUEUE_FULL, 2 PENDING, 3 NOT_READY. -/
def State.recordLocal (s : State) (k action status cause commitSeq : Nat) : State :=
  s.record evLocalAction [p2 k, p1 action, p2 status, p1 cause, p4 commitSeq]

/-- The command of the local action session ends (R434). -/
def State.localEnded (s : State) (status : Nat) (payload : Bytes) : State :=
  match s.touch.running with
  | none => s
  | some r => ({ s with touch := { s.touch with running := none } }).recordLocal r.electrode r.action status 0 (if r.action = 1 && status = 0 then rd payload 104 4 else 0)

end Sys2Proof.Machine
end

