-- ==== Sys2Proof/Machine/Units.lean ====
section
/-! DEFINITION. Composition and display units by index, the state of a head, and the self-test count of an update plan (R222, R521, Table 7-5, Table 19-4). -/

namespace Sys2Proof

/-- ENABLE of a head timing record (Table 7-2). -/
def TimingRec.enabled (r : TimingRec) : Bool := Machine.bit r.flags 4

end Sys2Proof

namespace Sys2Proof.Machine

/-! Units by index. -/

def State.grpC (s : State) (g : Nat) : Group := Map.get {} s.comp.groups g
def State.setGrpC (s : State) (g : Nat) (x : Group) : State := { s with comp := { s.comp with groups := Map.set s.comp.groups g x } }
def State.win (s : State) (w : Nat) : Win := Map.get {} s.comp.wins w
def State.setWin (s : State) (w : Nat) (x : Win) : State := { s with comp := { s.comp with wins := Map.set s.comp.wins w x } }
def State.head (s : State) (h : Nat) : Head := Map.get {} s.comp.heads h
def State.setHead (s : State) (h : Nat) (x : Head) : State := { s with comp := { s.comp with heads := Map.set s.comp.heads h x } }
def State.gen (s : State) (g : Nat) : Gen := Map.get {} s.comp.gens g
def State.setGen (s : State) (g : Nat) (x : Gen) : State := { s with comp := { s.comp with gens := Map.set s.comp.gens g x } }

/-- The domain of a head. -/
def headDomain (h : Nat) : Nat := if h < 8 then 12 else 13

/-- A head is on: its record enables it and PD_DISP and PD_COMP are on (R222, R557). -/
def State.headOn (s : State) (h : Nat) : Bool :=
  (match (s.head h).timing with | some r => r.enabled | none => false) && s.domOn (headDomain h) && s.domOn 10

/-- The heads of the W16. -/
def allHeads : List Nat := List.range 16

/-- STATE of a head (Table 7-5). A head with a link that has not been tried yet counts as TRAINING. -/
def State.headState (s : State) (h : Nat) : Nat :=
  let x := s.head h
  if !s.headOn h then 0
  else if x.stopped then 3
  else if !x.hpd then 5
  else if x.failed.isSome then 4
  else if x.link.isSome then 2
  else 1

/-! The self-test of an update plan (R521). -/

/-- The activation in progress is that of image `i` (R514). -/
def State.activating (s : State) (i : Nat) : Bool := match s.upd.activating with | some a => a.1 == i | none => false

/-- The criteria of the plan: the OR over its images (R521). -/
def State.criteria (s : State) : Nat := s.upd.plan.foldl (fun a x => a ||| x.confirmCriteria) 0

/-- Events that break criteria 1 and 3 (Table 19-4). -/
def breaks1 : List Nat := [evSpireLockstep, evUnitReloaded, evUnitFailed]
def breaks3 : List Nat := [evLanternMismatch, evLanternLate, evLanternSelftestFail]

/-- A criterion of the plan does not hold, by the units' states or by the records made between `a` and `b` (Table 19-4). -/
def criterionBroken (a b : State) : Bool :=
  let c := b.criteria
  let made := (b.recorder.buf.drop a.recorder.buf.length).map Entry.ty
  (bit c 0 && b.izent.devState != .ready) || (bit c 1 && made.any breaks1.contains) || (bit c 2 && b.health.compares.any Compare.persistent) ||
  (bit c 3 && made.any breaks3.contains) || (bit c 4 && b.upd.headsRunning.any fun h => b.headState h != 2) || (bit c 5 && b.upd.lanesUp.any fun k => (b.lane k).state != .up)

/-- A criterion that breaks restarts the count (R521). -/
def settleCount (a b : State) : State :=
  if b.upd.planState == .confirmPending && criterionBroken a b then { b with upd := { b.upd with settledFrom := b.clk, requested := false } } else b

end Sys2Proof.Machine
end

