-- ==== Sys2Proof/Machine/Flags.lean ====
section
/-! DEFINITION. DEV_FLAGS and DEV_HEALTH_EVENTS (Table 11-2), and the frame of every event: time advances, the event has its effect, the health events follow. -/

namespace Sys2Proof.Machine

/-- An adaptive loop holds a bound (R486). -/
def State.anyAtLimit (s : State) : Bool :=
  (s.power.domains.any fun d => d.2.atLimit) || s.power.capAtLimit ||
  (s.lanes.lane.any fun l => l.2.atLimit) || (s.enc.chan.any fun c => c.2.atLimit) || (s.comp.gens.any fun g => g.2.atLimit) || (s.touch.el.any fun e => e.2.fault) ||
  s.dram.channels.any fun c => c.2.trainFailed

/-- Bits of DEV_FLAGS other than SAFE_FAULT (Table 11-2). -/
def State.flagBits (s : State) : Nat :=
  bitsOf [s.comp.restored, false, s.time.unset, s.health.compares.any (fun c => c.reportedAt.isSome), s.anyAtLimit,
    s.health.bgSuspended || s.health.qpSteps != 0 || !s.health.shed.isEmpty, s.upd.planState == .confirmPending]

/-- Set bits of DEV_HEALTH_EVENTS; vector 17 follows bit 0 or 1, vector 18 bit 2 (R312). -/
def State.setHealth (s : State) (state flags safe : Bool) : State :=
  let h := s.izent.healthEvents
  let n := bitsOf [bit h 0 || state, bit h 1 || flags, bit h 2 || safe]
  let s' := { s with izent := { s.izent with healthEvents := n } }
  let s' := if (state && !bit h 0) || (flags && !bit h 1) then s'.raise 17 else s'
  if safe && !bit h 2 then s'.raise 18 else s'

/-- Causes of SAFE_FAULT, in the order of R247. -/
def State.safeCauses (s : State) : Nat :=
  let any (p : Win → Bool) : Bool := s.comp.wins.any fun e => p e.2
  bitsOf [any Win.mismatch, any (fun w => bit w.active 7), any Win.unproven, s.comp.selftestFail || s.comp.domainLost, s.izent.devState != .ready]

/-- The SAFE_FAULT ball is high: deasserted, with PD_AON powered (R248). -/
def State.safeFaultBall (s : State) : Bool := s.domOn 0 && s.safeCauses == 0

/-- The ball takes its level (R248). -/
def State.drive (s : State) : State := { s with out := { s.out with safeFaultHigh := s.safeFaultBall } }

/-- What follows any change from `a` to `b`: SAFE_FAULT_CHANGE where the pin changes and its level (R248), and the bits of DEV_HEALTH_EVENTS. -/
def settle (a b : State) : State :=
  let moved := (a.safeCauses != 0) != (b.safeCauses != 0)
  let b := if moved then b.record evSafeFaultChange [p2 b.safeCauses] else b
  let b := match b.out.ringDenied with
    | some x => ({ b with out := { b.out with ringDenied := none } }).doorDenied 0x47 38 3 1 x b.prot.epoch
    | none => b
  (settleCount a b.drive).setHealth (a.izent.devState != b.izent.devState) (a.flagBits != b.flagBits) moved

/-- An event at instant `t` whose effect is `f`. -/
def run (t : Time) (s : State) (f : State → State) : Host.Outcome State Fault Refusal :=
  .next (settle (s.tick t) (f (s.tick t)))

/-- An event that names a unit: `ok` says that the unit exists. -/
def runIf (ok : Bool) (t : Time) (s : State) (f : State → State) : Host.Outcome State Fault Refusal :=
  if ok then run t s f else .fault .noSuchUnit

end Sys2Proof.Machine
end

