-- ==== Sys2Proof/Machine/Frames.lean ====
section
/-! DEFINITION. The Ethernet frames that the W16 builds: addresses, IP and UDP headers, membership reports, address answers, PTP messages and PRP trailers, each in the byte order of its own standard (R6, R71, R104, R106, R111, R269). The layouts are those of the standards the manual names (PRESUMED, log 38). -/

namespace Sys2Proof.Machine

/-- The MAC address of port `k` (R404). -/
def macOf (k : Nat) : Bytes := be 6 (Config.macBase.toNat * 16 + k)

/-- Ones' complement sum of 16-bit words, folded. -/
def onesSum : Bytes → Nat
  | a :: b :: bs => let n := a.toNat * 256 + b.toNat + onesSum bs; n % 65536 + n / 65536
  | [a] => a.toNat * 256
  | [] => 0

/-- The Internet checksum (RFC 1071). -/
def inetSum (bs : Bytes) : Nat := let n := onesSum bs; 65535 - (n % 65536 + n / 65536)

/-- An Ethernet II frame without its FCS, tagged where the VLAN is not 0, padded to the least size. -/
def ether (dst src : Bytes) (vlan ty : Nat) (body : Bytes) : Bytes :=
  fit 6 dst ++ fit 6 src ++ (if vlan = 0 then [] else be 2 0x8100 ++ be 2 vlan) ++ be 2 ty ++ body ++ zeros (46 - body.length)

/-- The multicast MAC address of a group (RFC 1112, RFC 2464); a unicast neighbour's is not the W16's to choose, so it is a free value. -/
def macFor (v6 : Bool) (a : Bytes) : Bytes :=
  if v6 then (if a.headD 0 == 0xFF then [0x33, 0x33] ++ sub a 12 4 else be 6 (Config.neighbourMac a).toNat)
  else if (a.headD 0).toNat / 16 = 14 then [0x01, 0x00, 0x5E, a.getD 1 0 &&& 0x7F] ++ sub a 2 2 else be 6 (Config.neighbourMac a).toNat

/-- An IPv4 packet: TOS, TTL, protocol, options, addresses. -/
def ip4 (tos ttl proto : Nat) (opts src dst body : Bytes) : Bytes :=
  let head (sum : Nat) : Bytes :=
    [BitVec.ofNat 8 (0x45 + opts.length / 4), BitVec.ofNat 8 tos] ++ be 2 (20 + opts.length + body.length) ++ be 2 Config.ipId.toNat ++ be 2 0x4000 ++
    [BitVec.ofNat 8 ttl, BitVec.ofNat 8 proto] ++ be 2 sum ++ fit 4 src ++ fit 4 dst ++ opts
  head (inetSum (head 0)) ++ body

/-- An IPv6 packet. -/
def ip6 (tos hop proto : Nat) (src dst body : Bytes) : Bytes :=
  be 4 (0x60000000 + tos * 1048576) ++ be 2 body.length ++ [BitVec.ofNat 8 proto, BitVec.ofNat 8 hop] ++ fit 16 src ++ fit 16 dst ++ body

/-- The pseudo-header that UDP and ICMPv6 checksums cover. -/
def pseudo (v6 : Bool) (src dst : Bytes) (proto n : Nat) : Bytes :=
  if v6 then fit 16 src ++ fit 16 dst ++ be 4 n ++ be 4 proto else fit 4 src ++ fit 4 dst ++ be 2 proto ++ be 2 n

/-- A UDP datagram with its checksum. -/
def udp (v6 : Bool) (src dst : Bytes) (sport dport : Nat) (body : Bytes) : Bytes :=
  let head (sum : Nat) : Bytes := be 2 sport ++ be 2 dport ++ be 2 (8 + body.length) ++ be 2 sum
  let sum := inetSum (pseudo v6 src dst 17 (8 + body.length) ++ head 0 ++ body)
  head (if sum = 0 then 65535 else sum) ++ body

/-- An ICMP or IGMP message: its checksum stands at offset 2. -/
def icmp (extra : Bytes) (ty code : Nat) (body : Bytes) : Bytes :=
  let m (sum : Nat) : Bytes := [BitVec.ofNat 8 ty, BitVec.ofNat 8 code] ++ be 2 sum ++ body
  m (inetSum (extra ++ m 0))

/-- An ICMPv6 message between two addresses. -/
def icmp6 (src dst : Bytes) (ty : Nat) (body : Bytes) : Bytes := icmp (pseudo true src dst 58 (4 + body.length)) ty 0 body

/-- A port's IP address of a family, zeros where it has none (R360). -/
def Lane.ip (l : Lane) (v6 : Bool) : Bytes :=
  if v6 then (if bit l.address.flags 1 then fit 16 l.address.ipv6 else zeros 16) else (if bit l.address.flags 0 then fit 4 l.address.ipv4 else zeros 4)

/-- A frame of the W16 crosses the ball of a lane that is UP; the transmitter wakes for it (R408, R413). -/
def State.transmit (s : State) (k : Nat) (bs : Bytes) : State :=
  let l := s.lane k
  if l.state = .up then (s.setLane k { l with txFrames := sat 4 (l.txFrames + 1), lpiTx := false }).send k bs else s

/-- An IP packet of a port, from the port's address. -/
def State.ipFrame (s : State) (k vlan : Nat) (v6 : Bool) (dst : Bytes) (tos ttl proto : Nat) (body : Bytes) : Bytes :=
  let src := (s.lane k).ip v6
  ether (macFor v6 dst) (macOf k) vlan (if v6 then 0x86DD else 0x0800) (if v6 then ip6 tos ttl proto src dst body else ip4 tos ttl proto [] src dst body)

/-! Address answers (R104). -/

/-- The answer to an ARP request for the port's address. -/
def State.arpReply (s : State) (k vlan : Nat) (mac ip : Bytes) : Bytes :=
  ether mac (macOf k) vlan 0x0806 (be 2 1 ++ be 2 0x0800 ++ [6, 4] ++ be 2 2 ++ macOf k ++ (s.lane k).ip false ++ fit 6 mac ++ fit 4 ip)

/-- A neighbour advertisement, solicited, that overrides (RFC 4861). -/
def State.neighbourReply (s : State) (k vlan : Nat) (mac ip : Bytes) : Bytes :=
  let me := (s.lane k).ip true
  ether mac (macOf k) vlan 0x86DD (ip6 0 255 58 me ip (icmp6 me ip 136 (be 4 0x60000000 ++ me ++ [2, 1] ++ macOf k)))

/-- The answer to an echo request; `r` is the request from its identifier on. -/
def State.echoReply (s : State) (k vlan : Nat) (v6 : Bool) (mac ip r : Bytes) : Bytes :=
  let me := (s.lane k).ip v6
  ether mac (macOf k) vlan (if v6 then 0x86DD else 0x0800)
    (if v6 then ip6 Config.dscp.toNat Config.ttl.toNat 58 me ip (icmp6 me ip 129 r) else ip4 Config.dscp.toNat Config.ttl.toNat 1 [] me ip (icmp [] 0 0 r))

/-! Membership reports (R106, R107). -/

/-- What a membership message says: a join, a leave, or the answer to a query. -/
inductive Report where
  | join | leave | answer
  deriving DecidableEq, Repr

/-- The record type of IGMPv3 and MLDv2: a join or leave changes the mode, an answer states it (DEDUCED, log 38). -/
def Report.recordType (r : Report) (ssm : Bool) : Nat :=
  match r with
  | .join => if ssm then 3 else 4
  | .leave => 3
  | .answer => if ssm then 1 else 2

/-- Sources that a report names: SOURCE in INCLUDE mode; a leave is TO_INCLUDE with an empty list. -/
def Report.sources (r : Report) (ssm : Bool) (src : Bytes) : List Bytes := if ssm && r != .leave then [src] else []

/-- A report in the version of an older querier: report or leave of IGMPv2, report or done of MLDv1, any-source. -/
def State.oldReport (s : State) (k vlan : Nat) (v6 : Bool) (r : Report) (group : Bytes) : Bytes :=
  let me := (s.lane k).ip v6
  let leave := r == .leave
  if v6 then
    let dst : Bytes := if leave then [0xFF, 0x02] ++ zeros 13 ++ [2] else fit 16 group
    ether (macFor true dst) (macOf k) vlan 0x86DD (ip6 0 1 0 me dst ([58, 0, 5, 2, 0, 0, 1, 0] ++ icmp6 me dst (if leave then 132 else 131) (zeros 4 ++ fit 16 group)))
  else
    let dst : Bytes := if leave then [224, 0, 0, 2] else fit 4 group
    ether (macFor false dst) (macOf k) vlan 0x0800 (ip4 0xC0 1 2 [148, 4, 0, 0] me dst (icmp [] (if leave then 0x17 else 0x16) 0 (fit 4 group)))

/-- A report of IGMPv3 or MLDv2 with one record. -/
def State.newReport (s : State) (k vlan : Nat) (v6 ssm : Bool) (r : Report) (group src : Bytes) : Bytes :=
  let me := (s.lane k).ip v6
  let w := if v6 then 16 else 4
  let l := r.sources ssm src
  let body : Bytes := zeros 2 ++ be 2 1 ++ [BitVec.ofNat 8 (r.recordType ssm), 0] ++ be 2 l.length ++ fit w group ++ l.flatMap (fit w)
  if v6 then
    let dst : Bytes := [0xFF, 0x02] ++ zeros 13 ++ [0x16]
    ether (macFor true dst) (macOf k) vlan 0x86DD (ip6 0 1 0 me dst ([58, 0, 5, 2, 0, 0, 1, 0] ++ icmp6 me dst 143 body))
  else ether (macFor false [224, 0, 0, 22]) (macOf k) vlan 0x0800 (ip4 0xC0 1 2 [148, 4, 0, 0] me [224, 0, 0, 22] (icmp [] 0x22 0 body))

/-! PTP (R71). -/

/-- The PTP messages that a slave-only instance sends. -/
inductive PtpKind where
  | delayReq | pdelayReq | pdelayResp | pdelayRespFollowUp
  deriving DecidableEq, Repr

def PtpKind.type : PtpKind → Nat
  | .delayReq => 1 | .pdelayReq => 2 | .pdelayResp => 3 | .pdelayRespFollowUp => 10

/-- Event messages are timestamped. -/
def PtpKind.event (k : PtpKind) : Bool := k.type < 8

/-- The W16's port identity on port `k`: its clock identity, then the port's number from 1 (IEEE 1588). -/
def portIdentity (k : Nat) : Nat := Config.clockIdentity.toNat * 65536 + k + 1

/-- A PTP timestamp: 48 bits of seconds, 32 bits of ns. -/
def ptpStamp (t : Int) : Bytes := be 6 (t / 1000000000).toNat ++ be 4 (t % 1000000000).toNat

/-- A message of an instance: its domain, its sequence, the timestamp it carries and the port identity it answers. -/
def ptpBytes (kind : PtpKind) (domain port seq : Nat) (stamp : Int) (requesting : Nat) : Bytes :=
  let body : Bytes := ptpStamp stamp ++ (match kind with | .delayReq => [] | .pdelayReq => zeros 10 | _ => be 10 requesting)
  [BitVec.ofNat 8 kind.type, 0x12] ++ be 2 (34 + body.length) ++ [BitVec.ofNat 8 domain, 0] ++ be 2 (if kind = .pdelayResp then 0x0200 else 0) ++ zeros 12 ++
  be 10 (portIdentity port) ++ be 2 seq ++ [if kind = .delayReq then 1 else 5, 0x7F] ++ body

/-- The frame of a PTP message: TRANSPORT 0 Ethernet, 1 UDP/IPv4, 2 UDP/IPv6 (Table 3-3). -/
def State.ptpFrame (s : State) (transport port : Nat) (kind : PtpKind) (bs : Bytes) : Bytes :=
  let peer := kind != .delayReq
  let p := if kind.event then 319 else 320
  let vlan := (s.lane port).address.vlan
  match transport with
  | 0 => ether (if peer then [0x01, 0x80, 0xC2, 0x00, 0x00, 0x0E] else [0x01, 0x1B, 0x19, 0x00, 0x00, 0x00]) (macOf port) 0 0x88F7 bs
  | 1 =>
    let dst : Bytes := if peer then [224, 0, 0, 107] else [224, 0, 1, 129]
    s.ipFrame port vlan false dst Config.dscp.toNat Config.ttl.toNat 17 (udp false ((s.lane port).ip false) dst p p bs)
  | _ =>
    let dst : Bytes := if peer then [0xFF, 0x02] ++ zeros 13 ++ [0x6B] else [0xFF, 0x0E] ++ zeros 12 ++ [0x01, 0x81]
    s.ipFrame port vlan true dst Config.dscp.toNat Config.ttl.toNat 17 (udp true ((s.lane port).ip true) dst p p bs)

/-! PRP (R111, R269). -/

/-- A frame with the redundancy control trailer of IEC 62439-3: sequence, LAN identifier 0xA or 0xB with the LSDU size, suffix. -/
def withTrailer (bs : Bytes) (vlan seq : Nat) (lanB : Bool) : Bytes :=
  let lsdu := bs.length - (if vlan = 0 then 14 else 18) + 6
  bs ++ be 2 seq ++ be 2 ((if lanB then 0xB000 else 0xA000) + lsdu % 4096) ++ be 2 0x88FB

end Sys2Proof.Machine
end

