-- ==== Sys2Proof/Machine/Time.lean ====
section
/-! DEFINITION. Time bases, device time and its selection, PTP (*Device time and network time*). -/

namespace Sys2Proof.Machine

/-- STATE codes of Table 3-7. -/
def BaseState.code : BaseState → Nat
  | .disabled => 0 | .free => 1 | .acquiring => 2 | .locked => 3 | .holdover => 4

/-- STATE codes of device time (Table 12-13). -/
def DtState.code : DtState → Nat
  | .following _ => 0 | .hold => 1 | .free => 2

/-- The largest 32-bit bound. -/
def maxU : Nat := 0xFFFFFFFF

/-- M_b: the largest |offset| among the last 16 accepted measurements (R79). -/
def Base.m (b : Base) : Nat := maxL (b.accepted.map Int.natAbs)

/-- U of a holdover that began at `from_` with `m`, saturating (R79, R85). -/
def growth (rate m from_ now : Nat) : Nat := sat 4 (m + cdiv (rate * (now - from_)) 1000000000)

/-- U_b at device time `at_` for TB0–TB2 (R79). Of a base in ACQUIRING that has accepted no measurement yet, the manual gives no M_b and no t_a: the model takes 0 for both (DESIGN CHOICE, log 12). -/
def Base.u (b : Base) (at_ : Nat) : Nat :=
  match b.state with
  | .disabled => maxU
  | .free => maxU
  | _ => sat 4 (growth b.cfg.holdRate b.m b.anchor at_ + 2 * b.ets + b.cfg.asymAllow)

/-- HOLD_RATE that applies in HOLD: that of the selected base (R85). -/
def State.holdRate (s : State) : Nat := (s.base s.time.base).cfg.holdRate

/-- U_dt at device time `at_` (R85). -/
def State.uDt (s : State) (at_ : Nat) : Nat :=
  match s.time.state with
  | .following b => sat 4 ((s.base b).u at_ + (s.dB b).natAbs)
  | .hold => growth s.holdRate s.time.uh s.time.th at_
  | .free => 0

/-- U_b at device time `at_`, TB3 included (R79). -/
def State.uB (s : State) (b at_ : Nat) : Nat :=
  if b = 3 then
    match (s.base 3).state, (s.base 3).m3 with
    | .locked, _ => s.uDt at_
    | _, some m => growth (s.base 3).cfg.holdRate m (s.base 3).anchor at_
    | _, none => maxU
  else (s.base b).u at_

/-- Device time is FOLLOWING `b` and `b` is LOCKED. -/
def State.followsLocked (s : State) (b : Nat) : Bool := s.time.state == .following b && (s.base b).state == .locked

/-- The selected time base is in its locked state (R86). -/
def State.trusted (s : State) : Bool := s.followsLocked 0 || s.followsLocked 1

/-- Device time may still step (R68). -/
def State.alignOpen (s : State) : Bool := !s.time.stepped && !s.time.committed

/-- TB3 is LOCKED exactly while device time follows a LOCKED TB0, TB1 or TB2 (R78, R82); `u` is U_dt just before. -/
def State.settleTb3 (s : State) (u : Nat) : State :=
  let l := s.followsLocked 0 || s.followsLocked 1 || s.followsLocked 2
  let x := s.base 3
  if l && x.state != .locked then
    ((s.setBase 3 { x with state := .locked, everLocked := true, lockedAt := s.clk, count := s.time.dt, freq := s.time.freq }).record evTimeStateChange [p2 3, p1 x.state.code, p1 3])
  else if !l && x.state == .locked then
    ((s.setBase 3 { x with state := .holdover, m3 := some u, anchor := s.now, count := s.time.dt, freq := s.time.freq }).record evTimeStateChange [p2 3, p1 3, p1 4])
  else s

/-- A base takes a state (R78, R84, R94). -/
def State.baseTo (s : State) (b : Nat) (st : BaseState) : State :=
  let x := s.base b
  if x.state = st then s
  else
    let u := s.uDt s.now
    let far := (s.dB b).natAbs > s.time.sel.slewLimit
    let x' := match st with
      | .locked => { x with state := st, everLocked := true, lockedAt := s.clk, badRun := 0, acceptance := false, disagree := !s.alignOpen && far }
      | .acquiring => { x with state := st, goodRun := 0, acceptance := false, disagree := false }
      | .free => { x with state := st, acceptance := false, disagree := false, grid := none }
      | _ => { x with state := st, acceptance := false, disagree := false }
    let s := (s.setBase b x').record evTimeStateChange [p2 b, p1 x.state.code, p1 st.code]
    let s := if x'.disagree then s.record evTimeDisagree [p2 b, p8s (s.dB b)] else s
    s.settleTb3 u

/-- Device time takes a state (R67, R94). TIME_SWITCH is recorded wherever FOLLOWING begins, also of the base last followed; an entry to HOLD names no followed base and is no switch (DEDUCED, log 12). -/
def State.dtTo (s : State) (st : DtState) : State :=
  if s.time.state = st then s
  else
    let u := s.uDt s.now
    let old := s.time.state
    let s' : State := match st with
      | .following b => { s with time := { s.time with state := st, base := b, freq := (s.base b).freq, unset := false } }
      | .hold => { s with time := { s.time with state := st, uh := u, th := s.now } }
      | .free => { s with time := { s.time with state := st } }
    let s' := if old.code = st.code then s' else s'.record evTimeStateChange [p2 255, p1 old.code, p1 st.code]
    let s' := match st with
      | .following b => s'.record evTimeSwitch [p2 b, p8s (s'.dB b)]
      | _ => s'
    s'.settleTb3 u

/-- A measurement of base `b` is accepted or not (R76). -/
def Base.accepts (x : Base) (off : Int) : Bool :=
  off.natAbs ≤ 10 * x.cfg.lockThreshold || x.farRun + 1 ≥ 4

/-- The servo's frequency after a measurement: the gains are not given, so it is a free value within ±200 ppm (R76). -/
def servoFreq (w : BitVec 64) : Int := clampI (-200000000) 200000000 (w.toInt)

/-- One measurement of base `b`: acceptance, the servo, a step in ACQUIRING, and the states it leads to (R76, R78, R79). TB2 never steps. -/
def State.measure (s : State) (b : Nat) (off : Int) (ets : Nat) : State :=
  let x := s.base b
  if x.state = .disabled then s
  else if !x.accepts off then s.setBase b { x with farRun := x.farRun + 1 }
  else
    let s := if x.state = .free || x.state = .holdover then s.baseTo b .acquiring else s
    let x := s.base b
    let lt := x.cfg.lockThreshold
    let steps := x.state == .acquiring && b != 2 && off.natAbs > x.cfg.stepThreshold
    let f := servoFreq s.fresh
    let x := { x with
      farRun := if off.natAbs ≤ 10 * lt then 0 else x.farRun + 1
      goodRun := if off.natAbs ≤ lt then x.goodRun + 1 else 0
      badRun := if off.natAbs > 4 * lt then x.badRun + 1 else 0
      accepted := (off :: x.accepted).take 16
      anchor := s.now, ets := ets, heardAt := s.clk, freq := f
      count := if steps then x.count - off * (tu : Int) else x.count }
    let s := (s.setBase b x).useFree
    let s := if s.time.state = .following b then { s with time := { s.time with freq := f } } else s
    if x.state = .acquiring && x.goodRun ≥ 16 then s.baseTo b .locked
    else if x.state = .locked && x.badRun ≥ 4 then s.baseTo b .acquiring
    else s

/-! PTP (R71–R73). -/

/-- Delay mechanism P2P of a profile (Table 3-2). -/
def profileP2P (p : Nat) : Bool := p == 1 || p == 2 || p == 3

/-- PTP messages of a port reach the bases: PD_STREAM and the port's PD_NET domain are on, and the lane is UP (R77, R408). -/
def State.ptpPort (s : State) (port : Nat) : Bool :=
  s.domOn 6 && s.domOn (if port < 8 then 4 else 5) && (s.lane port).state == .up

/-- The master the best master clock algorithm selects: the smallest rank, then clock identity, then port (R71). -/
def bestMaster (ms : List Master) : Option Master :=
  ms.foldl (fun a m => match a with
    | none => some m
    | some b => if m.rank < b.rank || (m.rank == b.rank && (m.clockId < b.clockId || (m.clockId == b.clockId && m.port < b.port))) then some m else some b) none

/-- E_ts of a port (R70). -/
def State.etsOf (s : State) (port : Nat) : Nat := if (s.lane port).cfg.fec = 1 then 8 else 4

/-- A receive timestamp moved to the reference plane (R70, R410), device time ns. -/
def State.rxStamp (s : State) (port : Nat) (err : Int) : Int :=
  (s.now : Int) + clampI (-(s.etsOf port)) (s.etsOf port) err - (s.lane port).cfg.ingressNs

/-- A transmit timestamp moved to the reference plane (R70, R410); its error, within E_ts, is a free value of the port. -/
def State.txStamp (s : State) (port : Nat) : Int :=
  (s.now : Int) + clampI (-(s.etsOf port)) (s.etsOf port) (Config.free (s.freeCtr + port)).toInt + (s.lane port).cfg.egressNs

/-- The same in the time of base `b` at this instant (R66). -/
def State.txStampB (s : State) (b port : Nat) : Int := s.txStamp port - s.dB b

/-- A grandmaster identity as an event carries it: its octets in the order of the PTP message (Table 20-3). -/
def pId (x : Nat) : Nat × Int := p8 (ofLe (be 8 x))

/-- The master that a port hears: the best of those on the port (R71, R73). -/
def Base.masterOn (x : Base) (port : Nat) : Option Master := bestMaster (x.masters.filter fun y => y.port == port)

/-- The sender is the master that the port hears; time messages of any other clock are not taken (R71). -/
def Base.hears (x : Base) (port sender : Nat) : Bool := match x.masterOn port with | some m => m.clockId == sender | none => false

/-- The base re-selects its master; a change of grandmaster, the first one apart, is recorded and unlocks the base (R73, R78, R94). An Announce counts as accepted while its sender is the selected master, and what the newly selected master last announced applies at once (DEDUCED, log 12). -/
def State.reselect (s : State) (b : Nat) : State :=
  let x := s.base b
  match bestMaster x.masters with
  | none => s.setBase b { x with activePort := 255 }
  | some m =>
    let s' := s.setBase b { x with activePort := m.port, gm := m.gm, utcSeen := m.utcOffset, utcValid := m.utcValid, utc := if m.utcValid then some m.utcOffset else x.utc }
    let s' := if m.utcValid then { s' with time := { s'.time with utcAny := some m.utcOffset } } else s'
    if m.gm = x.gm || x.gm = 0 then s'
    else
      let s' := s'.record evGmChange [p2 b, pId x.gm, pId m.gm]
      if x.state = .locked then s'.baseTo b .acquiring else s'

/-- A finished offset measurement on a port: only the active port steers (R73). -/
def State.ptpOffset (s : State) (b port : Nat) (ms : Int) : State :=
  let x := s.base b
  let pp := Map.get {} x.ports port
  if x.activePort = port then s.measure b (ms - pp.delay) (s.etsOf port) else s

/-- One PTP message at one base that listens on the port (R71–R73, R76). -/
def State.ptpAt (s : State) (b port : Nat) (m : PtpMsg) : State :=
  let x := s.base b
  let rx := s.rxStamp port m.error
  let rxB := rx - s.dB b
  let pp := Map.get {} x.ports port
  let put (s : State) (pp : PtpPort) : State := s.setBase b { s.base b with ports := Map.set (s.base b).ports port pp }
  let p2p := profileP2P x.cfg.profile
  match m.body with
  | .unsupported => s.setBase b { x with ignored := sat 2 (x.ignored + 1) }
  | .announce gm rank off valid =>
    let e : Master := { port := port, clockId := m.sender, gm := gm, rank := rank, utcOffset := off, utcValid := valid }
    (s.setBase b { x with masters := e :: x.masters.filter fun y => !(y.port == port && y.clockId == m.sender) }).reselect b
  | .sync false origin corr =>
    if !x.hears port m.sender then s
    else
      let d := rxB - origin - corr
      (put s { pp with ms := d }).ptpOffset b port d
  | .sync true _ corr => if !x.hears port m.sender then s else put s { pp with sync := some (m.seq, rxB, corr) }
  | .followUp origin corr =>
    match pp.sync with
    | some (q, r, c) =>
      if q = m.seq && x.hears port m.sender then
        let d := r - origin - corr - c
        (put s { pp with sync := none, ms := d }).ptpOffset b port d
      else s
    | none => s
  | .delayResp receipt corr =>
    match pp.req with
    | some (q, t3) =>
      if q = m.seq && !p2p && m.requesting == portIdentity port && x.hears port m.sender then put s { pp with req := none, delay := (pp.ms + (receipt - t3 - corr)) / 2 } else s
    | none => s
  | .pdelayReq =>
    if p2p then
      let answer (s : State) (k : PtpKind) (stamp : Int) : State := s.transmit port (s.ptpFrame x.cfg.transport port k (ptpBytes k x.cfg.domainNumber port m.seq stamp m.sender))
      (answer (answer s .pdelayResp rxB) .pdelayRespFollowUp (s.txStampB b port)).useFrees 16
    else s
  | .pdelayResp two receipt corr =>
    match pp.req with
    | some (q, t1) =>
      if q = m.seq && p2p && m.requesting == portIdentity port then
        if two then put s { pp with resp := some (m.seq, receipt, rxB) }
        else put s { pp with req := none, delay := (rxB - t1 - corr) / 2 }
      else s
    | none => s
  | .pdelayRespFollowUp origin corr =>
    match pp.req, pp.resp with
    | some (q, t1), some (r, t2, t4) =>
      if q = m.seq && r = m.seq && m.requesting == portIdentity port then put s { pp with req := none, resp := none, delay := ((t4 - t1) - (origin - t2) - corr) / 2 } else s
    | _, _ => s

/-- A base's instance takes messages of this domain and transport on this port (R71, R74). -/
def Base.listens (x : Base) (port : Nat) (m : PtpMsg) : Bool :=
  x.cfg.source == 1 && bit x.cfg.portMask port && x.cfg.domainNumber == m.domain && x.cfg.transport == m.transport

/-- PTP_MESSAGE (R76): the message reaches each base that listens. -/
def execPtpMessage (t : Time) (port : Nat) (m : PtpMsg) (s : State) : Host.Outcome State Fault Refusal :=
  runIf (port < 16) t s fun s =>
    if !s.ptpPort port then s
    else
      let s := if (s.base 0).listens port m then s.ptpAt 0 port m else s
      if (s.base 1).listens port m then s.ptpAt 1 port m else s

/-- PTP_REQUEST_INTERVAL (R71): Delay_Req or Pdelay_Req on the base's ports, stamped at the ball with the wake complete (R414). -/
def execPtpRequestInterval (t : Time) (b : Nat) (s : State) : Host.Outcome State Fault Refusal :=
  runIf (b < 2) t s fun s =>
    if (s.base b).cfg.source != 1 then s
    else State.useFrees (n := 16) <| (List.range 16).foldl (fun s port =>
      let x := s.base b
      if bit x.cfg.portMask port && s.ptpPort port then
        let pp := Map.get {} x.ports port
        let k : PtpKind := if profileP2P x.cfg.profile then .pdelayReq else .delayReq
        let s := s.setBase b { x with ports := Map.set x.ports port { pp with req := some (pp.nextSeq, s.txStampB b port), resp := none, nextSeq := (pp.nextSeq + 1) % 65536 } }
        s.transmit port (s.ptpFrame x.cfg.transport port k (ptpBytes k x.cfg.domainNumber port pp.nextSeq 0 0))
      else s) s

/-- PTP_MASTER_LOSS (R73): the port's masters are forgotten and the instance steers from another port without a change of state. -/
def execPtpMasterLoss (t : Time) (b port : Nat) (s : State) : Host.Outcome State Fault Refusal :=
  runIf (b < 2 && port < 16) t s fun s =>
    let x := s.base b
    (s.setBase b { x with masters := x.masters.filter fun y => y.port != port }).reselect b

/-- TIME_BASE_LOSS_TIMEOUT (R78): no accepted measurement for LOSS_TIMEOUT. -/
def execTimeBaseLossTimeout (t : Time) (b : Nat) (s : State) : Host.Outcome State Fault Refusal :=
  runIf (b < 3) t s fun s =>
    let x := s.base b
    if (x.state = .acquiring || x.state = .locked) && x.heardAt + x.cfg.lossTimeout * ms ≤ s.clk then
      s.baseTo b (if x.everLocked then .holdover else .free)
    else s

/-- One pulse at the base's SYNC_IN with its timestamp in device time: it fixes TB2's grid or measures against it (R78). -/
def State.tb2Pulse (s : State) (stamp : Int) : State :=
  let x := s.base 2
  let p : Int := (stamp - s.dB 2) * (tu : Int)
  match x.grid with
  | none => s.setBase 2 { x with grid := some p }
  | some g =>
    let per : Int := (x.cfg.pulseDen : Int) * 1000000000 * (tu : Int)
    let k : Int := (2 * (p - g) * (x.cfg.pulseNum : Int) + per) / (2 * per)
    let inst : Int := g + k * per / (x.cfg.pulseNum : Int)
    s.measure 2 ((p - inst) / (tu : Int)) 2

/-! Selection (R68, R80–R84). -/

/-- A base qualifies for device time (R81, R84). -/
def State.qualifies (s : State) (b : Nat) : Bool :=
  let x := s.base b
  b < 3 && x.state == .locked && ((s.dB b).natAbs ≤ s.time.sel.slewLimit || x.acceptance || s.alignOpen)

/-- The bases that may be selected, in order of preference: all of PREF in AUTO, PREF0 in MANUAL (R81). -/
def State.prefs (s : State) : List Nat :=
  (if s.time.sel.mode = 1 then s.time.sel.prefs.take 1 else s.time.sel.prefs).filter (· != 255)

/-- The base the selection names now; a return to a base of higher preference waits for REVERT_HOLD (R81). Where the followed base drops out, and from HOLD, there is nothing to return from, so the first base that qualifies is taken at once (DEDUCED, log 12). -/
def State.select (s : State) : Option Nat :=
  let l := s.prefs.filter s.qualifies
  let waits (b : Nat) : Bool := s.time.sel.revertHold = 0 || s.clk < (s.base b).lockedAt + s.time.sel.revertHold * sec
  match s.time.state with
  | .following c => if l.contains c then l.find? fun b => b == c || !waits b else l.head?
  | _ => l.head?

/-- Instants of frames and pulses, which the step does not move, read on the new scale of device time (R206, R211; DESIGN CHOICE, log 18). -/
def State.shiftFrames (s : State) (d : Int) : State :=
  let mv (n : Nat) : Nat := ((n : Int) + d).toNat
  let gen (x : Gen) : Gen := { x with tf := mv x.tf, cur := x.cur.map mv, endAt := mv x.endAt, pulse := x.pulse.map mv, pulses := x.pulses.map mv }
  let head (x : Head) : Head := { x with tf := mv x.tf, notBefore := mv x.notBefore, own := x.own.map mv }
  { s with comp := { s.comp with gens := Map.mapV (fun _ x => gen x) s.comp.gens, heads := Map.mapV (fun _ x => head x) s.comp.heads } }

/-- A sync generator in LOCK_PTP loses its reference when device time steps: a LOCKED one enters HOLD, and one in HOLD jumps after the frame in progress (R212, R214). -/
def State.ptpStep (s : State) : State :=
  (List.range 4).foldl (fun s g =>
    let x := Map.get {} s.comp.gens g
    let ptp := s.comp.heads.any fun h => match h.2.timing with | some r => r.sg == g && r.mode == 2 && bit r.flags 4 | none => false
    let set (y : Gen) : State := { s with comp := { s.comp with gens := Map.set s.comp.gens g y } }
    if !ptp || !x.running then s
    else if x.state = .locked then (set { x with state := .hold, bigRun := 0, jump := true, jumped := false }).record evSyncStateChange [p2 g, p2 0xFFFF, p1 2, p1 3, p8s x.e]
    else if x.state = .hold then set { x with jump := true, jumped := false, lockNext := false }
    else s) s

/-- SLEW_LIMIT begins to count: a base that is LOCKED beyond it is judged (R68, R84; DEDUCED, log 12). -/
def State.judgeBases (s : State) : State :=
  (List.range 3).foldl (fun s b =>
    let x := s.base b
    if x.state = .locked && !x.disagree && !x.acceptance && (s.dB b).natAbs > s.time.sel.slewLimit then
      (s.setBase b { x with disagree := true }).record evTimeDisagree [p2 b, p8s (s.dB b)]
    else s) s

/-- Device time steps onto base `b` (R68). A pending confirm deadline moves with it (R519). -/
def State.align (s : State) (b : Nat) : State :=
  let d := s.dB b
  let s := { s with time := { s.time with dt := (s.base b).count, stepped := true } }
  let s := if s.upd.deadline = 0 then s else { s with upd := { s.upd with deadline := ((s.upd.deadline : Int) - d).toNat } }
  ((s.record evTimeAlign [p2 b, p8s d]).shiftFrames (-d)).ptpStep.judgeBases

/-- DISAGREE clears when |D_b| falls to SLEW_LIMIT while LOCKED (R84). -/
def State.clearAgree (s : State) (b : Nat) : State :=
  let x := s.base b
  if x.disagree && (s.dB b).natAbs ≤ s.time.sel.slewLimit then s.setBase b { x with disagree := false } else s

/-- TIME_SELECT_EVAL (R80–R84, R68): one evaluation on one snapshot of the bases. -/
def execTimeSelectEval (t : Time) (s : State) : Host.Outcome State Fault Refusal :=
  run t s fun s =>
    let s := ((s.clearAgree 0).clearAgree 1).clearAgree 2
    match s.select with
    | none =>
      let tb3 := s.time.sel.mode = 1 && s.prefs = [3]
      let held (s : State) : State := if tb3 then { s with time := { s.time with base := 3 } } else s
      match s.time.state with
      | .following _ => held (s.dtTo .hold)
      | .hold => held s
      | .free => if tb3 then held (s.dtTo .hold) else s
    | some b =>
      if s.time.state = .following b then s
      else (if s.alignOpen then s.align b else s).dtTo (.following b)

/-- The effect of an accepted record on its base (R74, R78). -/
def State.setBaseCfg (s : State) (r : BaseRec) : State :=
  let b := r.base
  let x := s.base b
  let u := s.uDt s.now
  if b = 3 then s.setBase 3 { x with cfg := r }
  else if r.source = 0 then
    ((s.setBase b { x with cfg := r, masters := [], ports := [], activePort := 255, everLocked := false }).baseTo b .disabled).settleTb3 u
  else
    let was := x.state
    let x := { x with cfg := r, masters := [], ports := [], activePort := 255, goodRun := 0, badRun := 0, farRun := 0, heardAt := s.clk
                      everLocked := x.everLocked && was != .disabled, grid := none, acceptance := false, disagree := false
                      count := if b = 2 then s.time.dt else x.count }
    (s.setBase b x).baseTo b .acquiring

end Sys2Proof.Machine
end

