-- ==== Sys2Proof/Machine/Freshness.lean ====
section
/-! DEFINITION. Naelto tags: the mapping of capture times, the alive sequence, heartbeat CRCs, ages (*What counts as live*, R27–R43, R52, R87–R91). -/

namespace Sys2Proof.Machine

/-! The mapping of capture times. -/

/-- The mapping base of a context's clock (*Mapping capture times*). -/
def State.mapBase (s : State) (clock : Nat) : Option Nat :=
  if clock = 1 then some 0
  else if clock = 2 then some 1
  else if clock = 3 then
    if s.followsLocked 0 then some 0 else if s.followsLocked 1 then some 1
    else if (s.base 0).state = .locked then some 0 else if (s.base 1).state = .locked then some 1 else some 0
  else none

/-- The base device time follows, 0 in FREE (R90, R122). -/
def State.infoBase (s : State) : Nat := if s.time.state = .free then 0 else s.time.base

/-- The ARRIVAL fallback (R90), which also sets DEGRADED. -/
def State.arrivalMap (s : State) (arrival : Int) (allow : Nat) : Mapped :=
  { pair := { capture := arrival - allow, unc := 0, cls := 2, locked := false }, base := s.infoBase, degraded := true }

/-- CAPTURE_UNC of a mapping through base `b` at the mapping instant (R87). -/
def State.mapUnc (s : State) (b : Nat) : Nat := if s.time.state = .following b then 0 else s.uB b s.now

/-- A base that maps capture times (R90). -/
def State.mapsThrough (s : State) (b : Nat) : Bool := (s.base b).state != .free && (s.base b).state != .disabled

/-- t_m of R87: the latest value of a 32-bit media clock of `rate` Hz not later than `limit` ns of the base. -/
def extendStamp (rtp offset rate : Nat) (limit : Int) : Int :=
  let c : Int := limit * (rate : Int) / 1000000000
  let c' := c - (c - ((rtp : Int) - offset)) % (4294967296 : Int)
  c' * 1000000000 / (rate : Int)

/-- A hardware timestamp with D_0 and D_1 of its own instant (R66). -/
def State.stampOf (s : State) (at_ : Nat) : Stamp := { at_ := at_, d := [s.dB 0, s.dB 1] }

/-- A timestamp converted into base `b` with D_b of its instant (R66). -/
def Stamp.in_ (x : Stamp) (b : Nat) : Int := (x.at_ : Int) - x.d.getD b 0

/-- The earlier of two arrivals. -/
def Stamp.earlier (x y : Stamp) : Stamp := if y.at_ < x.at_ then y else x

/-- A PTP_STAMPED capture time through base `b` (R87). -/
def State.ptpMap (s : State) (d : StreamRec) (b rtp : Nat) (arrival : Stamp) : Mapped :=
  { pair := { capture := extendStamp rtp d.mediaClockOffset d.mediaClockRate (arrival.in_ b) + s.dB b, unc := s.mapUnc b, cls := 0, locked := (s.base b).state == .locked }, base := b, degraded := false }

/-- A signed 32-bit difference. -/
def diff32 (a b : Nat) : Int := toS 4 ((((a : Int) - b) % (4294967296 : Int)).toNat)

/-- A SENDER_MAPPED capture time through base `b` (R88). -/
def State.senderMap (s : State) (d : StreamRec) (b rtp : Nat) (r : SenderReport) : Mapped :=
  let dl := diff32 rtp r.rtp
  let f := d.mediaClockRate
  { pair := { capture := (r.ntp * f + dl * 1000000000 * 4294967296) / ((f : Int) * 4294967296) + s.dB b
              unc := sat 4 (d.senderAcc + cdiv (dl.natAbs * 1000000000 * d.mclkTol) (f * 1000000) + cdiv 1000000000 f + s.mapUnc b)
              cls := 1, locked := (s.base b).state == .locked }
    base := b, degraded := r.otherBase }

/-- A capture time that an upstream W16 carried, through base `b`; the weaker class and the sum of the uncertainties (R35, R91). -/
def State.extMap (s : State) (b : Nat) (e : CaptureExt) : Mapped :=
  let lk := (s.base b).state == .locked
  { pair := { capture := e.capture + s.dB b, unc := sat 4 (e.unc + s.mapUnc b), cls := max e.cls (if lk then 0 else 1), locked := lk }, base := b, degraded := false }

/-- The capture time of a picture at its mapping instant (R87–R91): carried upstream, PTP-stamped, or mapped by sender report. -/
def State.mapCapture (s : State) (c : Ctx) (rtp : Nat) (arrival : Stamp) (ext : Option CaptureExt) : Mapped :=
  let d := c.decl
  match s.mapBase d.clock with
  | none => s.arrivalMap arrival.at_ d.upstreamAllow
  | some b =>
    if !s.mapsThrough b then s.arrivalMap arrival.at_ d.upstreamAllow
    else match ext with
      | some e => s.extMap b e
      | none =>
        if d.kind = 2 || bit d.flags 0 then s.ptpMap d b rtp arrival
        else match c.report with
          | none => s.arrivalMap arrival.at_ d.upstreamAllow
          | some r => if !r.usable || r.arrival + 30 * sec < arrival.at_ then s.arrivalMap arrival.at_ d.upstreamAllow else s.senderMap d b rtp r

/-! Heartbeat CRCs (R52). -/

/-- The samples of a rectangle of a plane whose lines have `w` samples. -/
def rectOf (plane : List Nat) (w x y rw rh : Nat) : List Nat :=
  (List.range rh).flatMap fun j => (plane.drop ((y + j) * w + x)).take rw

/-- Samples as 16-bit little-endian values. -/
def samples16 (l : List Nat) : Bytes := l.flatMap (le 2)

/-- The samples of a heartbeat rectangle in the order of R52. -/
def Picture.hbSamples (p : Picture) (x y w h : Nat) : List Nat :=
  let pl (i : Nat) := p.planes.getD i []
  if p.sampling = 2 then
    (List.range h).flatMap fun j => (List.range w).flatMap fun i =>
      let k := (y + j) * p.width + x + i
      [(pl 0).getD k 0, (pl 1).getD k 0, (pl 2).getD k 0]
  else
    let cy := if p.sampling = 0 then y / 2 else y
    let ch := if p.sampling = 0 then h / 2 else h
    rectOf (pl 0) p.width x y w h ++ rectOf (pl 1) (p.width / 2) (x / 2) cy (w / 2) ch ++ rectOf (pl 2) (p.width / 2) (x / 2) cy (w / 2) ch

/-- HB_VALID and the four CRCs of a picture under a slot assignment (R52). -/
def Picture.heartbeat (p : Picture) (slots : Map (Nat × Nat × Nat × Nat)) : Nat × List Nat :=
  let one (i : Nat) : Option Nat :=
    match Map.get? slots i with
    | some (x, y, w, h) => if x + w ≤ p.width && y + h ≤ p.height then some (crc32c (samples16 (p.hbSamples x y w h))) else none
    | none => none
  (bitsOf ((List.range 4).map fun i => (one i).isSome), (List.range 4).map fun i => (one i).getD 0)

/-! The tag. -/

/-- A complete tag and what it records: a sequence discontinuity with the old ALIVE_SEQ, a future capture with CAPTURE_TIME as mapped. -/
structure Tagged where
  tag : Tag
  discontinuity : Bool
  future : Bool
  old : Nat := 0
  mapped : Int := 0
  deriving DecidableEq, Repr

/-- Form the tag of a picture with pixels (R27–R34). `flags` are the flags that the caller already knows; `alive` is ALIVE_SEQ, or none where the picture is handled as REPEATED (R159). -/
def formTag (source : Nat) (prev : Option Tag) (alive : Option Nat) (m : TimePair) (base : Nat) (flags slot now : Nat) (map : List Nat) (hb : Nat × List Nat) : Tagged :=
  let cFlag := setBit flags 0 (bit flags 0 || !map.isEmpty)
  let future := m.capture > (now : Int)
  let fresh (a : Nat) : Tag :=
    { source := source, alive := a, capture := if future then (now : Int) else m.capture, advance := now, complete := now
      unc := m.unc, cls := m.cls, info := base + (if m.locked then 4 else 0)
      flags := setBit (setBit cFlag 4 (m.cls == 2)) 2 (bit cFlag 2 || future)
      hbValid := hb.1, hb := hb.2, slot := slot, conceal := map.length }
  match prev with
  | none => { tag := fresh (alive.getD 0), discontinuity := false, future := future, mapped := m.capture }
  | some p =>
    let a := alive.getD p.alive
    let d := (((a : Int) - p.alive) % (4294967296 : Int)).toNat
    if d = 0 then
      { tag := { fresh a with capture := p.capture, unc := p.unc, cls := p.cls, info := p.info, advance := p.advance
                              flags := setBit (setBit (setBit cFlag 1 true) 4 (p.cls == 2)) 2 (bit cFlag 2 || future) }
        discontinuity := false, future := future, mapped := m.capture }
    else { tag := fresh a, discontinuity := d ≥ 2147483648, future := future, old := p.alive, mapped := m.capture }

/-- A tag as it stands in the Naelto region (Table 2-1), its reserved bits 0. -/
def Tag.bytes (g : Tag) : Bytes :=
  le 2 g.source ++ le 2 g.flags ++ le 4 g.alive ++ leS 8 g.capture ++ le 8 g.advance ++ le 8 g.complete ++ le 4 g.unc ++ le 1 g.cls ++ le 1 g.info ++ le 1 g.hbValid ++ [0] ++
  (List.range 4).flatMap (fun i => le 4 (g.hb.getD i 0)) ++ le 2 g.slot ++ le 2 g.conceal ++ zeros 4

/-- The reserved bits of a tag. -/
def spareTag : List (Nat × Nat) := (1, 0xFE) :: (2, 0x80) :: (3, 0xFF) :: (37, 0xF8) :: (38, 0xF0) :: spare 39 1 ++ spare 60 4

/-- A concealment map as 288 bytes (R28). -/
def mapBytes (map : List Nat) : Bytes := (List.range 288).map fun i => BitVec.ofNat 8 (bitsOf ((List.range 8).map fun j => map.contains (8 * i + j)))

/-- A tag write is issued into the Naelto region, with the concealment map of a picture (R27, R28); its reserved bits are free values (R4, log 36). -/
def State.writeTag (s : State) (g : Tag) (map : Bytes) : State :=
  { s with out := { s.out with tags := s.out.tags ++ [(withSpare (Config.reserved s.freeCtr (256 + g.source)) (bitsAt spareTag) g.bytes, map)] } }

/-- A marker tag (R29, R30): no pixels, one flag. The manual states no value for its other fields, so they are free values (log 5); HB_VALID is 0 (R52). -/
def markerTag (source flag now : Nat) (f : Nat → BitVec 64) : Tag :=
  let cls := (f 4).toNat % 3
  { source := source, flags := setBit (setBit 0 flag true) 4 (cls == 2), alive := (f 0).toNat % 4294967296, capture := ((f 1).toNat : Int), advance := (f 2).toNat, complete := now
    unc := (f 3).toNat % 4294967296, cls := cls, info := (f 4).toNat / 4 % 8, hbValid := 0, hb := (List.range 4).map fun i => (f (5 + i)).toNat % 4294967296, slot := 0xFFFF, conceal := 0 }

/-- A marker tag of context `c` is written (R30): OUT_OF_ENVELOPE, flag 3, or LOST, flag 6. It is the context's most recent tag and never a picture (R58). -/
def State.writeMarker (s : State) (c flag : Nat) : State :=
  let g := markerTag c flag s.now fun i => Config.free (s.freeCtr + i)
  ((s.setCtx c { s.ctx c with lastTag := some g, ooe := (s.ctx c).ooe || flag == 3 }).writeTag g []).useFrees 9

/-- A LOST marker that counts in LOST_MARKERS (R115). -/
def State.lostMarker (s : State) (c : Nat) : State := (s.setCtx c { s.ctx c with lostMarkers := sat 4 ((s.ctx c).lostMarkers + 1) }).writeMarker c 6

/-- The most recent tag of a context is an OUT_OF_ENVELOPE marker (R58). -/
def Ctx.lastOoe (c : Ctx) : Bool := match c.lastTag with | some g => bit g.flags 3 | none => false

/-- Record what a tag's forming found: the old and new ALIVE_SEQ of a discontinuity, the mapped CAPTURE_TIME and COMPLETE_TIME of a future capture (R32, R34, Table 20-3). -/
def State.recordTagged (s : State) (g : Tagged) : State :=
  let s := if g.discontinuity then s.record evSeqDiscontinuity [p2 g.tag.source, p4 g.old, p4 g.tag.alive] else s
  if g.future then s.record evFutureCapture [p2 g.tag.source, p8 g.mapped.toNat, p8 g.tag.complete] else s

/-- ALIVE_SEQ as the W16 counts it from RTP timestamps (R31), 0 with the first picture (R32). Where a context leaves SEI mode, the count goes on from the message's last value: the manual names no other (DESIGN CHOICE, log 37). -/
def Ctx.countAlive (c : Ctx) (rtp : Nat) : Nat :=
  match c.alive with
  | none => 0
  | some (a, r) => if r = rtp then a else (a + 1) % 4294967296

/-- A picture outside the envelope (R101). -/
def State.outOfEnvelope (s : State) (c : Nat) : State :=
  ((s.setCtx c { s.ctx c with envelopeDrops := sat 4 ((s.ctx c).envelopeDrops + 1) }).writeMarker c 3).recordLimited evEnvelopeViolation c [p2 c]

/-- The rate test of R100 against the previous picture inside the envelope. -/
def Ctx.rateOk (c : Ctx) (rtp : Nat) : Bool :=
  match c.rateRtp with
  | none => true
  | some r => diff32 rtp r ≥ ((90000 * c.decl.rateDen / c.decl.rateNum : Nat) : Int) - 1

/-- A picture of a context is tagged; its tag write is issued (R27, R145). -/
def State.issueTag (s : State) (c : Nat) (p : Picture) (alive : Option Nat) (m : Mapped) (flags : Nat) (rtp : Nat) : State :=
  let x := s.ctx c
  let flags := setBit flags 2 (bit flags 2 || m.degraded)
  let g := formTag c x.prevTag alive m.pair m.base flags p.tag.slot s.now p.map (p.heartbeat x.hbSlots)
  let s := (s.recordTagged g).writeTag g.tag (mapBytes p.map)
  let x := s.ctx c
  s.setCtx c { x with unacked := x.unacked ++ [{ p with tag := g.tag, hbRects := x.hbSlots }], prevTag := some g.tag, rateRtp := some rtp, alive := some (g.tag.alive, rtp)
                      picturesOut := sat 4 (x.picturesOut + 1), concealed := if bit g.tag.flags 0 then sat 4 (x.concealed + 1) else x.concealed }

/-- The completed pictures that a latch may still take once one more is complete: those of this instant, and the latest before it (R37). -/
def latchable (now : Time) (p : Picture) (l : List (Time × Picture)) : List (Time × Picture) := (now, p) :: l.filter (fun e => e.1 == now) ++ (l.filter fun e => e.1 != now).take 1

/-- A picture as it completes, its heartbeat CRCs those of the slot assignment of that instant (R52). -/
def Picture.completed (p : Picture) (slots : Map (Nat × Nat × Nat × Nat)) : Picture :=
  let hb := p.heartbeat slots
  { p with tag := { p.tag with hbValid := hb.1, hb := hb.2 }, hbRects := slots }

/-- The tag write `p` of a context is acknowledged (R27, R141). -/
def Ctx.acked (x : Ctx) (now : Time) (p : Picture) (ps : List Picture) : Ctx :=
  { x with unacked := ps, complete := latchable now (if x.hbSlots = p.hbRects then p else p.completed x.hbSlots) x.complete, ooe := false
           pool := x.pool.zipIdx.map fun e => { e.1 with latest := e.2 == p.tag.slot } }

/-- Every tag write of a context is acknowledged: the decoder waits for them before it frees a slot (R143). -/
def State.ackCtx (s : State) (c : Nat) : State :=
  s.setCtx c (((s.ctx c).unacked).foldl (fun (x : Ctx) p => x.acked s.clk p (x.unacked.drop 1)) (s.ctx c))

/-- TAG_WRITE_ACK (R27): the oldest issued tag of a source is acknowledged and its picture is complete; its slot carries LATEST (R141). SOURCE 0–255 are contexts, 256–271 internal sources. -/
def execTagWriteAck (t : Time) (source : Nat) (s : State) : Host.Outcome State Fault Refusal :=
  runIf (source < 272) t s fun s =>
    if source < 256 then
      let x := s.ctx source
      match x.unacked with
      | [] => s
      | p :: ps => s.setCtx source (x.acked s.clk p ps)
    else
      let x := s.src (source - 256)
      match x.unacked with
      | [] => s
      | p :: ps => s.setSrc (source - 256) { x with unacked := ps, complete := latchable s.clk p x.complete }

/-! Ages (R38–R43). -/

/-- T(n, r) for a line period in 2⁻³² ns (R38, R39). -/
def rowInstant (tf lp row : Nat) : Nat := tf + cdiv (64 * row * lp) 4294967296

/-- Contribution age in ns (R41). -/
def ageNs (g : Tag) (at_ u : Nat) : Int := (at_ : Int) - g.capture + g.unc + u

/-- Age in µs (R41, R43). -/
def ageUs (g : Tag) (at_ u : Nat) : Nat := if g.unc ≥ maxU then maxU else sat 4 (cdiv (ageNs g at_ u).toNat 1000)

/-- The trusted-time check of a latched picture (R36). -/
def Tag.trusted (g : Tag) (selected : Bool) : Bool := g.cls == 0 && bit g.info 2 && selected

end Sys2Proof.Machine
end

