-- ==== Sys2Proof/Machine/Lanes.lean ====
section
/-! DEFINITION. Serial lanes: states, events, eye, low-power idle, cages, PRBS (*Serial lanes*). -/

namespace Sys2Proof.Machine

/-- STATE codes of Table 12-17. -/
def LaneState.code : LaneState → Nat
  | .disabled => 0 | .noSignal => 1 | .noBlockLock => 2 | .up => 3

/-- The PD_NET domain of a lane (Table 1-5). -/
def laneDomain (k : Nat) : Nat := if k < 8 then 4 else 5

/-- A lane may leave DISABLED: RATE ≠ 0, its domain on, no PRBS pattern (R407). -/
def State.laneEnabled (s : State) (k : Nat) : Bool :=
  (s.lane k).cfg.rate != 0 && s.domOn (laneDomain k) && (s.lane k).prbsPattern == 0

/-! Pattern generator and checker (R415–R417). -/

/-- The places of the two terms of each pattern's polynomial (R415). -/
def prbsTaps : Nat → Nat × Nat
  | 1 => (7, 6)
  | 2 => (9, 5)
  | 3 => (15, 14)
  | _ => (31, 28)

/-- The next bit of a pattern, from the last 31 bits with the latest in bit 0. -/
def prbsNext (p reg : Nat) : Bool := bit reg ((prbsTaps p).1 - 1) != bit reg ((prbsTaps p).2 - 1)

/-- The last 31 bits after one more. -/
def prbsShift (reg : Nat) (b : Bool) : Nat := (2 * reg + bitsOf [b]) % 2 ^ 31

/-- The next `n` bits of a pattern. -/
def prbsBits (p : Nat) : Nat → Nat → List Bool
  | _, 0 => []
  | reg, n + 1 => prbsNext p reg :: prbsBits p (prbsShift reg (prbsNext p reg)) n

/-- The checker compares one received bit (R417). Before it is LOCKED it predicts each bit from those received, and a run of zeros predicts nothing; from then on it runs on its own bits, so that one inverted bit is one error (DEDUCED, log 23). -/
def Lane.check (l : Lane) (b : Bool) : Lane :=
  let want := prbsNext l.prbsPattern l.prbsReg
  if l.prbsLocked then
    let errs := ((b != want) :: l.prbsErrs).take 1024
    let lost := decide (256 ≤ errs.count true)
    { l with prbsReg := prbsShift l.prbsReg want, prbsBits := sat 8 (l.prbsBits + 1), prbsErrors := sat 8 (l.prbsErrors + bitsOf [b != want])
             prbsErrs := if lost then [] else errs, prbsLocked := !lost, prbsRun := 0 }
  else
    let run := if b == want && l.prbsReg % 2 ^ (prbsTaps l.prbsPattern).1 != 0 then l.prbsRun + 1 else 0
    { l with prbsReg := prbsShift l.prbsReg b, prbsRun := run, prbsLocked := 256 ≤ run, prbsErrs := [] }

/-- A checker that starts anew (R416, R417). -/
def Lane.checkFrom (l : Lane) : Lane := { l with prbsBits := 0, prbsErrors := 0, prbsLocked := false, prbsReg := 0, prbsRun := 0, prbsErrs := [] }

/-- LANE_UP and LANE_DOWN are withheld: the lane flapped, and 1 000 ms have not passed without a departure (R421). -/
def Lane.silent (l : Lane) (clk : Time) : Bool := l.flapping && l.departures.any fun d => clk < d + 1000 * ms

/-- A departure from UP with its cause, counted, and recorded unless the lane flaps (R409, R421). -/
def State.laneDeparts (s : State) (k : Nat) (st : LaneState) (cause : Nat) : State :=
  let l := s.lane k
  let deps := s.clk :: l.departures.filter fun d => s.clk < d + 1000 * ms
  let flaps := deps.length > 10
  let quiet := l.silent s.clk
  let s' := s.setLane k { l with state := st, since := none, linkDowns := sat 4 (l.linkDowns + 1), departures := deps, flapping := quiet || flaps, lpiTx := false, lpiRx := false }
  let s' := if quiet || flaps then s' else s'.record evLaneDown [p2 k, p1 cause]
  if flaps && !quiet then s'.record evLaneFlap [p2 k, p4 deps.length] else s'

/-- A lane takes a state. -/
def State.laneTo (s : State) (k : Nat) (st : LaneState) (cause : Nat) : State :=
  let l := s.lane k
  if l.state = st then s
  else if l.state = .up then s.laneDeparts k st cause
  else if st = .up then
    let s' := s.setLane k { l with state := st, since := none }
    if l.silent s.clk then s' else s'.record evLaneUp [p2 k]
  else s.setLane k { l with state := st, since := none }

/-- A lane follows its configuration, its domain and its PRBS pattern (R407). -/
def State.laneRefresh (s : State) (k : Nat) : State :=
  if !s.laneEnabled k then
    let s := s.laneTo k .disabled 8
    s.setLane k { s.lane k with eyeHeight := 0, eyeWidth := 0, seen := {}, signal := false, locked := false }
  else if (s.lane k).state = .disabled then s.laneTo k .noSignal 8
  else s

/-- Every lane of a PD_NET domain follows it. -/
def State.lanesRefresh (s : State) : State := (List.range 16).foldl (fun s k => s.laneRefresh k) s

/-- The receiver sees a signal (R407, R418, R542). -/
def State.laneSignal (s : State) (k : Nat) (c : LaneCond) : Bool :=
  c.signal && (s.lane k).present && !(s.lane k).los && !s.power.cageOff.contains k

/-- The conditions of UP (R407, R420). -/
def Lane.lockOf (l : Lane) (c : LaneCond) : Bool :=
  c.blockLock && (l.cfg.fec != 1 || c.fecAlign) && !c.hiBer && !c.localFault && !c.remoteFault && !l.txFault

/-- The first cause found, in the order of R421, of a departure with this signal. -/
def Lane.causeOf (l : Lane) (c : LaneCond) (signal : Bool) : Nat :=
  if !c.blockLock then 0 else if l.cfg.fec = 1 && !c.fecAlign then 1 else if c.hiBer then 2
  else if c.localFault then 3 else if c.remoteFault then 4 else if signal && l.txFault then 7 else 5

/-- When a condition began to hold that now does, if it still does. -/
def heldFrom (clk : Time) (before now : Bool) (since : Option Time) : Option Time :=
  if now then (if before then since else some clk) else none

/-- A lane follows what its receiver, its module and its cage report (R407, R418, R420). -/
def State.judgeLane (s : State) (k : Nat) : State :=
  let l := s.lane k
  let sig := s.laneSignal k l.seen
  let lock := l.lockOf l.seen
  let s := s.setLane k { l with
    signal := sig, locked := lock
    since := match l.state with
      | .noSignal => heldFrom s.clk l.signal sig l.since
      | .noBlockLock => heldFrom s.clk l.locked lock l.since
      | _ => none }
  match l.state with
  | .up => if !sig then s.laneTo k .noSignal (l.causeOf l.seen sig) else if !lock then s.laneTo k .noBlockLock (l.causeOf l.seen sig) else s
  | .noBlockLock => if !sig then s.laneTo k .noSignal 5 else s
  | _ => s

/-- LANE_SIGNAL_CHANGE (R407, R409, R413, R417): what the receiver and the module report. -/
def execLaneSignalChange (t : Time) (k : Nat) (c : LaneCond) (s : State) : Host.Outcome State Fault Refusal :=
  runIf (k < 16) t s fun s =>
    let l := s.lane k
    let l := if bit l.prbsMode 1 && l.prbsPattern != 0 then c.prbs.foldl Lane.check l else l
    let s := s.setLane k { l with
      seen := c, los := c.los, lpiRx := c.lpiRx && l.state == .up && bit l.cfg.flags 2 && l.cfg.fec == 0
      fecCorrected := sat 4 (l.fecCorrected + c.fecCorrected), fecUncorrected := sat 4 (l.fecUncorrected + c.fecUncorrected) }
    let s := if c.fecUncorrected = 0 then s else s.recordLimited evFecUncorrected k [p2 k]
    if s.laneEnabled k then s.judgeLane k else s

/-- LANE_STATE_TIMER (R407): a signal present for 1 ms, or lock held for 10 ms. -/
def execLaneStateTimer (t : Time) (k : Nat) (s : State) : Host.Outcome State Fault Refusal :=
  runIf (k < 16) t s fun s =>
    let l := s.lane k
    match l.state, l.since with
    | .noSignal, some t0 =>
      if t0 + ms ≤ s.clk then
        let s := s.laneTo k .noBlockLock 5
        s.setLane k { s.lane k with since := if l.locked then some s.clk else none }
      else s
    | .noBlockLock, some t0 => if t0 + 10 * ms ≤ s.clk then s.laneTo k .up 0 else s
    | _, _ => s

/-- LANE_FLAP_QUIET (R421): 1 000 ms without a departure. -/
def execLaneFlapQuiet (t : Time) (k : Nat) (s : State) : Host.Outcome State Fault Refusal :=
  runIf (k < 16) t s fun s =>
    let l := s.lane k
    if l.flapping && !l.silent s.clk then s.setLane k { l with flapping := false, departures := [] } else s

/-- LANE_ADAPT_LIMIT (R411): a value held at its bound for 1 s, or released. -/
def execLaneAdaptLimit (t : Time) (k : Nat) (held : Bool) (s : State) : Host.Outcome State Fault Refusal :=
  runIf (k < 16) t s fun s =>
    let l := s.lane k
    if l.state = .disabled || l.atLimit = held then s
    else (s.setLane k { l with atLimit := held }).record evLaneAtLimit [p2 k, p1 (if held then 0 else 1)]

/-- A condition has held for 1 000 ms (R412). -/
def heldSecond (clk : Time) : Option Time → Bool
  | some x => decide (x + 1000 * ms ≤ clk)
  | none => false

/-- LANE_EYE_CHECK (R412): EYE_FOM is updated; an eye that stays low in height or in width for 1 000 ms is reported, and so is one that has stayed above both limits for as long. -/
def execLaneEyeCheck (t : Time) (k h w : Nat) (s : State) : Host.Outcome State Fault Refusal :=
  runIf (k < 16) t s fun s =>
    let l := s.lane k
    if l.state = .disabled || l.state = .noSignal then s.setLane k { l with eyeHeight := 0, eyeWidth := 0, eyeSince := none, widthSince := none }
    else
      let h := min h 255
      let w := min w 127
      let from_ (now : Bool) (x : Option Time) : Option Time := if now then some (x.getD s.clk) else none
      let x := from_ (if l.eyeLow then h > 40 && w > 24 else h < 40) l.eyeSince
      let y := from_ (!l.eyeLow && w < 24) l.widthSince
      let due := heldSecond s.clk x || heldSecond s.clk y
      let s := s.setLane k { l with eyeHeight := h, eyeWidth := w, eyeLow := if due then !l.eyeLow else l.eyeLow
                                    eyeSince := if due then none else x, widthSince := if due then none else y }
      if due then s.record evLaneEyeLow [p2 k, p1 (if l.eyeLow then 1 else 0)] else s

/-- LPI_IDLE_TIMER (R413): the transmitter enters low-power idle after 10 µs with no frame queued. -/
def execLpiIdleTimer (t : Time) (k : Nat) (s : State) : Host.Outcome State Fault Refusal :=
  runIf (k < 16) t s fun s =>
    let l := s.lane k
    if l.state = .up && bit l.cfg.flags 1 && l.cfg.fec = 0 then s.setLane k { l with lpiTx := true } else s

/-- MODABS_CHANGE (R418, R420, R421, R542), debounced. -/
def execModabsChange (t : Time) (k : Nat) (high : Bool) (s : State) : Host.Outcome State Fault Refusal :=
  runIf (k < 16) t s fun s =>
    let l := s.lane k
    if high then
      if !l.present then s
      else
        let s := s.setLane k { l with present := false, insertedAt := none, txFault := false, txdisPulse := none, seen := {}, signal := false, locked := false }
        let s := s.record evModuleRemoved [p2 k]
        if l.state = .disabled then s else s.laneTo k .noSignal 6
    else if l.present then s
    else
      let s := { s.setLane k { l with present := true, insertedAt := some s.clk } with power := { s.power with cageOff := s.power.cageOff.filter (· != k) } }
      if s.laneEnabled k then s.judgeLane k else s

/-- The module identity of MODULE_INSERTED (Table 20-3): identifier, vendor name and part number of the bytes read, and the free value of its reserved bytes (log 36). -/
def moduleIdentity (free : Nat) (bs : Bytes) : Bytes := fit 1 bs ++ le 3 free ++ fit 16 (sub bs 20 16) ++ fit 16 (sub bs 40 16)

/-- MODULE_READ_DELAY (R420): 300 ms after the insertion the identity is read and recorded. -/
def execModuleReadDelay (t : Time) (k : Nat) (bs : Bytes) (s : State) : Host.Outcome State Fault Refusal :=
  runIf (k < 16) t s fun s =>
    let l := s.lane k
    match l.insertedAt with
    | some t0 =>
      if t0 + 300 * ms ≤ s.clk then ((s.setLane k { l with insertedAt := none }).recordRaw evModuleInserted s.now (pvPlace (le 2 k) 36 (moduleIdentity s.fresh.toNat bs))).useFree else s
    | none => s

/-- TXFLT_CHANGE (R420): a transmit fault of a module that is present. -/
def execTxfltChange (t : Time) (k : Nat) (level : Bool) (s : State) : Host.Outcome State Fault Refusal :=
  runIf (k < 16) t s fun s =>
    let l := s.lane k
    if !l.present || l.txFault = level then s
    else
      let s := (s.setLane k { l with txFault := level, txdisPulse := none }).record evModuleTxFault [p2 k, p1 (if level then 0 else 1)]
      if s.laneEnabled k then s.judgeLane k else s

/-- TXDIS_CYCLE (R420): a 10 ms pulse begins every 1 000 ms while the fault stands. -/
def execTxdisCycle (t : Time) (k : Nat) (s : State) : Host.Outcome State Fault Refusal :=
  runIf (k < 16) t s fun s =>
    let l := s.lane k
    if !l.txFault then s
    else match l.txdisPulse with
      | none => s.setLane k { l with txdisPulse := some s.clk }
      | some t0 => if t0 + 1000 * ms ≤ s.clk then s.setLane k { l with txdisPulse := some s.clk } else s

/-- The generator drives its pattern: it is set, and the lane has a rate and its domain (R415, R418). -/
def State.generates (s : State) (k : Nat) : Bool :=
  (s.lane k).prbsPattern != 0 && bit (s.lane k).prbsMode 0 && (s.lane k).cfg.rate != 0 && s.domOn (laneDomain k)

/-- The level of SFPk_TXDIS (R418, R420). A lane that generates a pattern transmits, though it reads DISABLED for data (DEDUCED, log 23). -/
def State.txdis (s : State) (k : Nat) : Bool :=
  let l := s.lane k
  (l.state == .disabled && !s.generates k) || !l.present ||
  (match l.txdisPulse with | some t0 => decide (s.clk < t0 + 10 * ms) | none => false)

/-- The level of SFPk_RATESEL0 and SFPk_RATESEL1 (R418). -/
def State.rateSel (s : State) (k : Nat) : Bool := (s.lane k).cfg.rate == 2

/-- What the transmitter of a lane drives onto its line (R408, R413, R415). -/
inductive LineOut where
  /-- Frames and idle between them. -/
  | frames
  /-- Low-power idle. -/
  | lpi
  | remoteFault
  | idle
  /-- A pattern, with one bit inverted in each of its next blocks. -/
  | prbs (pattern invert : Nat)
  deriving DecidableEq, Repr

/-- R408, R413 and R415 together. A lane that receives nothing has no block lock. -/
def State.drives (s : State) (k : Nat) : LineOut :=
  let l := s.lane k
  if s.generates k then .prbs l.prbsPattern l.inject
  else if l.state == .up then (if l.lpiTx then .lpi else .frames)
  else if l.seen.localFault || !l.seen.blockLock then .remoteFault
  else .idle

/-- MODULE_OVERCURRENT (R542): the cage supply goes off and the lane goes down with cause MODULE_REMOVED. -/
def execModuleOvercurrent (t : Time) (k : Nat) (s : State) : Host.Outcome State Fault Refusal :=
  runIf (k < 16) t s fun s =>
    let s := { s with power := { s.power with cageOff := k :: s.power.cageOff.filter (· != k) } }
    if (s.lane k).state = .disabled then s else s.laneTo k .noSignal 6

/-- The effect of an accepted LANE_SET entry (R406, R416). -/
def State.applyLane (s : State) (c : LaneCfg) : State :=
  let k := c.lane
  let l := s.lane k
  let restart := l.cfg.rate != c.rate || l.cfg.fec != c.fec
  let l' := { l with cfg := c, lpiTx := l.lpiTx && bit c.flags 1, lpiRx := l.lpiRx && bit c.flags 2 }
  let l' := if restart then { l' with prbsPattern := 0, prbsMode := 0, inject := 0, seen := {}, signal := false, locked := false }.checkFrom else l'
  let s := s.setLane k l'
  if restart then (s.laneTo k .disabled 8).laneRefresh k else s

/-- The effect of LANE_PRBS_SET (R415–R417). -/
def State.applyPrbs (s : State) (k pattern mode inject : Nat) : State :=
  let l := s.lane k
  let anew := pattern = 0 || bit mode 1 && !bit l.prbsMode 1
  let l' := { l with prbsPattern := pattern, prbsMode := mode, inject := if pattern = 0 then 0 else if pattern = l.prbsPattern then l.inject + inject else inject
                     prbsLocked := l.prbsLocked && bit mode 1 }
  (s.setLane k (if anew then l'.checkFrom else l')).laneRefresh k

end Sys2Proof.Machine
end

