-- ==== Sys2Proof/Machine/Bits.lean ====
section
/-! DEFINITION. Reading bit strings: fields, Exp-Golomb codes, NAL units and their escape bytes. The notations are those of ITU-T H.264 and H.265 (PRESUMED, log 39). -/

namespace Sys2Proof.Machine

/-- A reader of bits, the most significant first. It fails at the end of its string and on a value that the syntax does not allow. -/
abbrev Rd := StateT (List Bool) Option

def byteBits (b : Byte) : List Bool := (List.range 8).map fun i => bit b.toNat (7 - i)

def bitString (bs : Bytes) : List Bool := bs.flatMap byteBits

def ofBits (l : List Bool) : Nat := l.foldl (fun a b => 2 * a + b.toNat) 0

/-- u(n). -/
def rdU (n : Nat) : Rd Nat := fun l => if (l.take n).length = n then some (ofBits (l.take n), l.drop n) else none

/-- u(1) as a flag. -/
def rdFlag : Rd Bool := return (← rdU 1) == 1

/-- ue(v). -/
def rdUe : Rd Nat := fun l =>
  let z := (l.takeWhile (!·)).length
  if z > 31 then none else (rdU (z + 1) (l.drop z)).map fun e => (e.1 - 1, e.2)

/-- se(v). -/
def rdSe : Rd Int := return (let k := (← rdUe); if k % 2 = 1 then (((k + 1) / 2 : Nat) : Int) else -((k / 2 : Nat) : Int))

/-- The syntax allows what was read. -/
def rdCheck (ok : Bool) : Rd Unit := fun l => if ok then some ((), l) else none

/-- ue(v) up to `n`. -/
def rdUeMax (n : Nat) : Rd Nat := do
  let v ← rdUe
  rdCheck (v ≤ n)
  return v

/-- `n` times. -/
def rdRep {α : Type} : Nat → Rd α → Rd (List α)
  | 0, _ => return []
  | n + 1, r => return (← r) :: (← rdRep n r)

/-- What a condition makes present, or its default. -/
def rdIf {α : Type} (c : Bool) (r : Rd α) (d : α) : Rd α := if c then r else return d

/-- more_rbsp_data: something stands before the trailing bits. -/
def rdMore : Rd Bool := fun l => some (decide (1 < (l.reverse.dropWhile (!·)).length), l)

/-- rbsp_trailing_bits: a 1, then zeros only. -/
def rdTrailing : Rd Unit := fun l => if l.head? == some true && l.tail.all (!·) then some ((), []) else none

/-- Run a reader on a byte string. -/
def readBytes {α : Type} (r : Rd α) (bs : Bytes) : Option α := (r (bitString bs)).map (·.1)

/-- A payload without its emulation prevention bytes; `z` zero bytes came before. -/
def unescape : Nat → Bytes → Bytes
  | _, [] => []
  | z, b :: bs => if z ≥ 2 && b == 3 then unescape 0 bs else b :: unescape (if b = 0 then z + 1 else 0) bs

/-- The NAL units of an Annex B byte stream, each after the start code 00 00 00 01; `skip` bytes of a start code are still to pass. -/
def annexB : Nat → Bytes → Bytes → List Bytes
  | _, acc, [] => [acc]
  | skip + 1, acc, _ :: bs => annexB skip acc bs
  | 0, acc, b :: bs => if b == 0 && bs.take 3 == [0, 0, 1] then acc :: annexB 3 [] bs else annexB 0 (acc ++ [b]) bs

/-- The NAL units that parameter sets of STREAM_OPEN hold (R353). -/
def annexBUnits (bs : Bytes) : List Bytes := (annexB 0 [] bs).drop 1

end Sys2Proof.Machine
end

