-- ==== Sys2Proof/Machine/Avc.lean ====
section
/-! DEFINITION. What the decoder reads of an H.264 stream beside its samples: parameter sets, slice headers, picture order counts, reference lists, marking (R132–R136, R144, R147, R153). The syntax and the processes are those of ITU-T H.264 (PRESUMED, log 39). -/

namespace Sys2Proof.Machine

/-! Parameter sets (7.3.2.1, 7.3.2.2, Annex E). -/

/-- scaling_list of `n` more entries after `last` and `next`. -/
def rdScaling : Nat → Int → Int → Rd Unit
  | 0, _, _ => return ()
  | n + 1, last, next => do
    if next = 0 then rdScaling n last 0
    else
      let d ← rdSe
      rdCheck (decide (-128 ≤ d ∧ d ≤ 127))
      let next := (last + d) % 256
      rdScaling n (if next = 0 then last else next) next

/-- Scaling lists from list `i` on, `n` of them: six of 16 entries, then of 64. -/
def rdScalings : Nat → Nat → Rd Unit
  | _, 0 => return ()
  | i, n + 1 => do
    if ← rdFlag then rdScaling (if i < 6 then 16 else 64) 8 8
    rdScalings (i + 1) n

/-- The part of a VUI that both codecs share: aspect ratio, overscan, video signal type, chroma location. -/
def rdVuiHead : Rd Vui := do
  if ← rdFlag then
    if (← rdU 8) = 255 then let _ ← rdU 32
  if ← rdFlag then let _ ← rdU 1
  let mut v : Vui := {}
  if ← rdFlag then
    let _ ← rdU 3
    v := { v with fullRange := ← rdFlag }
    if ← rdFlag then v := { v with colour := ← rdRep 3 (rdU 8) }
  if ← rdFlag then let _ ← rdRep 2 (rdUeMax 5)
  return v

def rdAvcHrd : Rd Unit := do
  let n ← rdUeMax 31
  let _ ← rdU 8
  let _ ← rdRep (n + 1) (do let _ ← rdUe; let _ ← rdUe; rdU 1)
  let _ ← rdU 20

def rdAvcVui : Rd Vui := do
  let mut v ← rdVuiHead
  if ← rdFlag then
    let _ ← rdU 32
    let _ ← rdU 32
    let _ ← rdU 1
  let nal ← rdFlag
  if nal then rdAvcHrd
  let vcl ← rdFlag
  if vcl then rdAvcHrd
  if nal || vcl then let _ ← rdU 1
  let _ ← rdU 1
  if ← rdFlag then
    let _ ← rdU 1
    let _ ← rdRep 4 rdUe
    v := { v with reorder := some (← rdUe), buffering := some (← rdUe) }
  return v

/-- Profiles whose SPS carries a chroma format. -/
def avcHigh (profile : Nat) : Bool := [100, 110, 122, 244, 44, 83, 86, 118, 128, 138, 139, 134, 135].contains profile

def rdAvcSps : Rd AvcSps := do
  let _ ← rdU 8
  let profile ← rdU 8
  let constraints ← rdU 8
  let level ← rdU 8
  let id ← rdUeMax 31
  let mut chroma := 1
  let mut depths := (8, 8)
  if avcHigh profile then
    chroma := ← rdUeMax 3
    if chroma = 3 then let _ ← rdU 1
    depths := (8 + (← rdUeMax 6), 8 + (← rdUeMax 6))
    let _ ← rdU 1
    if ← rdFlag then rdScalings 0 (if chroma = 3 then 12 else 8)
  let log2Num := 4 + (← rdUeMax 12)
  let pocType ← rdUeMax 2
  let log2Poc ← rdIf (pocType = 0) (return 4 + (← rdUeMax 12)) 4
  let deltaZero ← rdIf (pocType = 1) rdFlag false
  let offs ← rdIf (pocType = 1) (rdRep 2 rdSe) [0, 0]
  let offRef ← rdIf (pocType = 1) (do rdRep (← rdUeMax 255) rdSe) []
  let refs ← rdUeMax 16
  let gaps ← rdFlag
  let mbs := 1 + (← rdUeMax 65535)
  let rows := 1 + (← rdUeMax 65535)
  let framesOnly ← rdFlag
  if !framesOnly then let _ ← rdU 1
  let _ ← rdU 1
  let crop ← rdIf (← rdFlag) (rdRep 4 rdUe) [0, 0, 0, 0]
  rdCheck (2 * (crop.getD 0 0 + crop.getD 1 0) < 16 * mbs && 2 * (crop.getD 2 0 + crop.getD 3 0) < 16 * rows * (if framesOnly then 1 else 2))
  let vui ← rdIf (← rdFlag) rdAvcVui {}
  rdTrailing
  return { id, profile, constraints, level, chroma, depthY := depths.1, depthC := depths.2, log2Num, pocType, log2Poc, deltaZero
           offNonRef := offs.getD 0 0, offBottom := offs.getD 1 0, offRef, refs, gaps, mbs, rows, framesOnly, crop, vui }

/-- The smallest `n` with x ≤ 2ⁿ, up to 32. -/
def ceilLog2 (x : Nat) : Nat := ((List.range 33).find? fun n => x ≤ 2 ^ n).getD 32

/-- The slice group map of a PPS. -/
def rdGroups (n : Nat) : Rd Unit := do
  let ty ← rdUeMax 6
  if ty = 0 then let _ ← rdRep (n + 1) rdUe
  else if ty = 2 then let _ ← rdRep (2 * n) rdUe
  else if 3 ≤ ty && ty ≤ 5 then
    let _ ← rdU 1
    let _ ← rdUe
  else if ty = 6 then
    let k ← rdUeMax 65535
    let _ ← rdRep (k + 1) (rdU (ceilLog2 (n + 1)))

/-- A PPS; `chroma` gives the chroma format of the SPS of an identifier. -/
def rdAvcPps (chroma : Nat → Nat) : Rd AvcPps := do
  let _ ← rdU 8
  let id ← rdUeMax 255
  let sps ← rdUeMax 31
  let cabac ← rdFlag
  let bottomPoc ← rdFlag
  let groups ← rdUeMax 7
  if groups ≠ 0 then rdGroups groups
  let refs0 := 1 + (← rdUeMax 31)
  let refs1 := 1 + (← rdUeMax 31)
  let weighted ← rdFlag
  let bipred ← rdU 2
  rdCheck (bipred ≤ 2)
  let _ ← rdRep 3 rdSe
  let deblock ← rdFlag
  let _ ← rdU 1
  let redundant ← rdFlag
  if ← rdMore then
    let t8 ← rdFlag
    if ← rdFlag then rdScalings 0 (6 + (if t8 then (if chroma sps = 3 then 6 else 2) else 0))
    let _ ← rdSe
  rdTrailing
  return { id, sps, cabac, bottomPoc, refs0, refs1, groups, weighted, bipred, deblock, redundant }

/-! Slice headers (7.3.3). -/

/-- What stands first in a slice header: first_mb_in_slice, slice_type and the PPS's identifier. -/
def rdAvcFront : Rd (Nat × Nat × Nat) := do
  let _ ← rdU 8
  let first ← rdUe
  let ty ← rdUeMax 9
  let pps ← rdUeMax 255
  return (first, ty % 5, pps)

/-- Modifications of a reference list, at most `n`: idc with its value. -/
def rdMods : Nat → Rd (List (Nat × Nat))
  | 0 => fun _ => none
  | n + 1 => do
    let k ← rdUeMax 3
    if k = 3 then return []
    else return (k, ← rdUe) :: (← rdMods n)

/-- Memory management operations, at most `n`: the operation with its two values. -/
def rdMmco : Nat → Rd (List (Nat × Nat × Nat))
  | 0 => fun _ => none
  | n + 1 => do
    let k ← rdUeMax 6
    if k = 0 then return []
    else
      let a ← rdIf (k = 1 || k = 2 || k = 3 || k = 4 || k = 6) rdUe 0
      let b ← rdIf (k = 3) rdUe 0
      return (k, a, b) :: (← rdMmco n)

/-- Weights of one list. -/
def rdWeights (n : Nat) : Rd Unit := do
  let _ ← rdRep n (do
    if ← rdFlag then let _ ← rdRep 2 rdSe
    if ← rdFlag then let _ ← rdRep 4 rdSe)

/-- A slice header of a frame under parameter sets that passed R137. -/
def rdAvcSlice (idr : Bool) (refIdc : Nat) (pps : AvcPps) (sps : AvcSps) : Rd AvcSlice := do
  let (first, ty, _) ← rdAvcFront
  rdCheck (ty ≤ 2 && (!idr || ty = 2) && first < sps.mbs * sps.rows && pps.groups = 0)
  let num ← rdU sps.log2Num
  rdCheck (!idr || num = 0)
  if idr then let _ ← rdUeMax 65535
  let lsb ← rdIf (sps.pocType = 0) (rdU sps.log2Poc) 0
  let deltaBottom ← rdIf (sps.pocType = 0 && pps.bottomPoc) rdSe 0
  let delta0 ← rdIf (sps.pocType = 1 && !sps.deltaZero) rdSe 0
  let delta1 ← rdIf (sps.pocType = 1 && !sps.deltaZero && pps.bottomPoc) rdSe 0
  if pps.redundant then rdCheck ((← rdUe) = 0)
  if ty = 1 then let _ ← rdU 1
  let own ← rdIf (ty ≠ 2) rdFlag false
  let active0 ← rdIf own (return 1 + (← rdUeMax 15)) pps.refs0
  let active1 ← rdIf (own && ty = 1) (return 1 + (← rdUeMax 15)) pps.refs1
  rdCheck (ty = 2 || (active0 ≤ 16 && (ty = 0 || active1 ≤ 16)))
  let mods0 ← rdIf (ty ≠ 2) (do if ← rdFlag then rdMods 33 else return []) []
  let mods1 ← rdIf (ty = 1) (do if ← rdFlag then rdMods 33 else return []) []
  if (pps.weighted && ty = 0) || (pps.bipred = 1 && ty = 1) then
    let _ ← rdRep 2 (rdUeMax 7)
    rdWeights active0
    if ty = 1 then rdWeights active1
  let idrMarks ← rdIf (refIdc ≠ 0 && idr) (rdRep 2 rdFlag) [false, false]
  let mmco ← rdIf (refIdc ≠ 0 && !idr) (do if ← rdFlag then return some (← rdMmco 67) else return none) none
  if pps.cabac && ty ≠ 2 then let _ ← rdUeMax 2
  let _ ← rdSe
  if pps.deblock then
    if (← rdUeMax 2) ≠ 1 then
      let l ← rdRep 2 rdSe
      rdCheck (l.all fun v => decide (-6 ≤ v ∧ v ≤ 6))
  return { idr, refIdc, first, ty, pps, sps, num, lsb, deltaBottom, delta0, delta1, active0, active1, mods0, mods1
           noOutput := idrMarks.getD 0 false, longRef := idrMarks.getD 1 false, mmco }

/-- Slices belong to one picture (7.4.1.2.4). -/
def AvcSlice.same (a b : AvcSlice) : Bool :=
  a.num == b.num && a.pps.id == b.pps.id && a.idr == b.idr && (a.refIdc == 0) == (b.refIdc == 0) && a.lsb == b.lsb && a.deltaBottom == b.deltaBottom && a.delta0 == b.delta0 && a.delta1 == b.delta1

/-! The envelope (R132, R133, R137). -/

/-- PROFILE of Table 4-2 that an SPS shows, if Table 5-2 accepts it. -/
def AvcSps.profileCode (p : AvcSps) : Option Nat :=
  if !p.framesOnly then none
  else if p.profile = 66 && bit p.constraints 6 then some 0
  else if p.profile = 77 then some 1
  else if p.profile = 100 && p.chroma = 1 then some 2
  else if p.profile = 110 && p.chroma = 1 && p.depthY = p.depthC then some 3
  else none

/-- The level as it is compared: 1b as 11 (R133). -/
def AvcSps.compared (p : AvcSps) : Nat := if p.level = 9 then 11 else p.level

/-- Crop left, right, top, bottom in samples. -/
def AvcSps.window (p : AvcSps) : Nat × Nat × Nat × Nat :=
  let c (i : Nat) := 2 * p.crop.getD i 0
  (c 0, c 2, 16 * p.mbs - c 0 - c 1, 16 * p.rows - c 2 - c 3)

/-! Picture order counts (8.2.1). -/

def AvcSps.maxNum (p : AvcSps) : Nat := 2 ^ p.log2Num

/-- FrameNumOffset of a picture. -/
def Decoder.offsetOf (d : Decoder) (p : AvcSps) (idr : Bool) (num : Nat) : Nat :=
  if idr then 0 else d.numOffset + (if d.lastNum > num then p.maxNum else 0)

/-- Top and bottom order counts of types 1 and 2. -/
def AvcSps.countOf (p : AvcSps) (idr : Bool) (refIdc offset num : Nat) (delta0 delta1 : Int) : Int × Int :=
  if p.pocType = 2 then
    let v : Int := if idr then 0 else if refIdc = 0 then 2 * ((offset : Int) + num) - 1 else 2 * ((offset : Int) + num)
    (v, v)
  else
    let n := p.offRef.length
    let a := if n = 0 then 0 else offset + num
    let a := if refIdc = 0 then a - 1 else a
    let expected : Int := if a = 0 then 0 else ((a - 1) / n : Nat) * p.offRef.foldl (· + ·) 0 + (p.offRef.take ((a - 1) % n + 1)).foldl (· + ·) 0
    let top := expected + (if refIdc = 0 then p.offNonRef else 0) + delta0
    (top, top + p.offBottom + delta1)

/-- PicOrderCntMsb of a picture of type 0, and its analogue in H.265. -/
def countMsb (prevMsb : Int) (prevLsb lsb bits : Nat) : Int :=
  let m : Nat := 2 ^ bits
  if lsb < prevLsb && 2 * (prevLsb - lsb) ≥ m then prevMsb + m else if prevLsb < lsb && 2 * (lsb - prevLsb) > m then prevMsb - m else prevMsb

/-- Top and bottom order counts of a picture. -/
def Decoder.avcCount (d : Decoder) (h : AvcSlice) : Int × Int :=
  if h.sps.pocType = 0 then
    let msb := if h.idr then 0 else countMsb d.pocMsb d.pocLsb h.lsb h.sps.log2Poc
    (msb + h.lsb, msb + h.lsb + h.deltaBottom)
  else h.sps.countOf h.idr h.refIdc (d.offsetOf h.sps h.idr h.num) h.num h.delta0 h.delta1

def AvcSlice.resets (h : AvcSlice) : Bool := match h.mmco with | some l => l.any fun m => m.1 == 5 | none => false

/-- The numbering after a picture. -/
def Decoder.afterAvc (d : Decoder) (h : AvcSlice) : Decoder :=
  let (top, bottom) := d.avcCount h
  let low := min top bottom
  let d' := if h.resets then { d with lastNum := 0, numOffset := 0 } else { d with lastNum := h.num, numOffset := d.offsetOf h.sps h.idr h.num }
  if h.refIdc = 0 then d'
  else if h.resets then { d' with refNum := 0, pocMsb := 0, pocLsb := (top - low).toNat }
  else { d' with refNum := h.num, pocMsb := top - h.lsb, pocLsb := h.lsb }

/-! References (8.2.4). -/

/-- A reference: a slot of the pool, or a missing picture by its place. -/
inductive Ref where
  | slot (i : Nat)
  | missing (i : Nat)
  deriving DecidableEq, Repr

/-- What marking and lists see of a reference: which it is, its order count, frame_num, and long-term index where it is one. -/
structure RefView where
  ref : Ref
  poc : Int
  num : Nat
  long : Option Nat
  inferred : Bool
  deriving DecidableEq, Repr

/-- All references of a context: those in slots, then the missing ones. -/
def Ctx.refs (c : Ctx) : List RefView :=
  (c.pool.zipIdx.filterMap fun e => if e.1.shortTerm || e.1.longTerm then some { ref := .slot e.2, poc := e.1.poc, num := e.1.num, long := if e.1.longTerm then some e.1.longIdx else none, inferred := false } else none) ++
  c.missing.zipIdx.map fun e => { ref := .missing e.2, poc := e.1.poc, num := e.1.num, long := e.1.long, inferred := e.1.inferred }

/-- FrameNumWrap at a picture of frame_num `num`. -/
def wrapNum (maxNum num k : Nat) : Int := if k > num then (k : Int) - maxNum else k

/-- In increasing order of an integer key. -/
def sortInt {α : Type} (key : α → Int) (l : List α) : List α :=
  let rec ins (x : α) : List α → List α
    | [] => [x]
    | y :: ys => if key x < key y then x :: y :: ys else y :: ins x ys
  l.foldl (fun a x => ins x a) []

/-- The initial reference lists of a slice (8.2.4.2). -/
def initLists (refs : List RefView) (h : AvcSlice) (poc : Int) : List RefView × List RefView :=
  let short := refs.filter fun r => r.long.isNone
  let long := sortInt (fun r => ((r.long.getD 0 : Nat) : Int)) (refs.filter fun r => r.long.isSome)
  if h.ty = 0 then (sortInt (fun r => -(wrapNum h.sps.maxNum h.num r.num)) short ++ long, [])
  else if h.ty = 1 then
    let short := short.filter fun r => !(h.sps.pocType == 0 && r.inferred)
    let before := sortInt (fun r => -r.poc) (short.filter fun r => r.poc < poc)
    let after := sortInt (fun r => r.poc) (short.filter fun r => poc < r.poc)
    let l0 := before ++ after ++ long
    let l1 := after ++ before ++ long
    (l0, if l1.length > 1 && l0 == l1 then (match l1 with | a :: b :: l => b :: a :: l | l => l) else l1)
  else ([], [])

/-- Modify a list (8.2.4.3) from place `i` on; `pred` is picNumPred. An entry that names no reference names a missing one: it is added. -/
def modifyList (h : AvcSlice) : List (Nat × Nat) → Nat → Int → List RefView → List RefView → List RefView × List RefView
  | [], _, _, refs, l => (refs, l)
  | (k, v) :: ms, i, pred, refs, l =>
    let maxNum : Int := h.sps.maxNum
    let noWrap := (if k = 0 then pred - ((v : Int) + 1) else pred + ((v : Int) + 1)) % maxNum
    let num := if noWrap > h.num then noWrap - maxNum else noWrap
    let pred := if k = 2 then pred else noWrap
    let is (r : RefView) : Bool := if k = 2 then r.long == some v else r.long.isNone && wrapNum h.sps.maxNum h.num r.num == num
    let new : RefView := { ref := .missing (refs.filter fun r => match r.ref with | .missing _ => true | _ => false).length, poc := 0, num := if k = 2 then 0 else (num % maxNum).toNat, long := if k = 2 then some v else none, inferred := false }
    let (refs, r) := match refs.find? is with
      | some r => (refs, r)
      | none => (refs ++ [new], new)
    modifyList h ms (i + 1) pred refs (l.take i ++ r :: (l.drop i).filter (fun x => x.ref != r.ref))

/-- The references that a slice's lists name, and all references with those that its modifications add. -/
def sliceRefs (refs : List RefView) (h : AvcSlice) (poc : Int) : List RefView × List Ref :=
  let (l0, l1) := initLists refs h poc
  let (refs, l0) := modifyList h h.mods0 0 h.num refs (l0.take h.active0)
  let (refs, l1) := modifyList h h.mods1 0 h.num refs (l1.take h.active1)
  (refs, if h.ty = 2 then [] else (l0.take h.active0 ++ l1.take h.active1).map RefView.ref)

end Sys2Proof.Machine
end

