-- ==== Sys2Proof/Machine/Hevc.lean ====
section
/-! DEFINITION. What the decoder reads of an H.265 stream beside its samples: parameter sets, slice segment headers, picture order counts, reference picture sets, tile scan (R132–R136, R144, R147, R153). The syntax and the processes are those of ITU-T H.265 (PRESUMED, log 39). -/

namespace Sys2Proof.Machine

/-! Parameter sets (7.3.2, 7.3.3, Annex E). -/

/-- profile_tier_level for `n` sub-layers beside the highest: tier, profile, compatibility flags, level. -/
def rdTier (n : Nat) : Rd (Bool × Nat × Nat × Nat) := do
  let _ ← rdU 2
  let tier ← rdFlag
  let profile ← rdU 5
  let compat ← rdU 32
  let _ ← rdU 48
  let level ← rdU 8
  let present ← rdRep n (do return (← rdFlag, ← rdFlag))
  if n > 0 then let _ ← rdU (2 * (8 - n))
  let _ ← present.mapM fun e => do
    if e.1 then let _ ← rdU 88
    if e.2 then let _ ← rdU 8
  return (tier, profile, compat, level)

/-- Picture buffers, reorder depth and latency of the highest sub-layer. -/
def rdOrdering (n : Nat) : Rd (Nat × Nat × Nat) := do
  let all ← rdFlag
  let l ← rdRep (if all then n + 1 else 1) (do return (1 + (← rdUeMax 15), ← rdUe, ← rdUe))
  return l.getLast?.getD (1, 0, 0)

/-- What hrd_parameters share over layers: NAL and VCL parameters present, sub-picture parameters present. -/
def rdHrdCommon : Rd (Bool × Bool × Bool) := do
  let nal ← rdFlag
  let vcl ← rdFlag
  if !(nal || vcl) then return (nal, vcl, false)
  else
    let sub ← rdFlag
    if sub then let _ ← rdU 19
    let _ ← rdU 8
    if sub then let _ ← rdU 4
    let _ ← rdU 15
    return (nal, vcl, sub)

def rdHevcHrd (n : Nat) (common : Bool) (before : Bool × Bool × Bool) : Rd (Bool × Bool × Bool) := do
  let h ← rdIf common rdHrdCommon before
  let _ ← rdRep (n + 1) (do
    let general ← rdFlag
    let within ← rdIf (!general) rdFlag true
    let mut low := false
    if within then let _ ← rdUeMax 2047
    else low := ← rdFlag
    let cpb ← rdIf (!low) (rdUeMax 31) 0
    let one : Rd Unit := do
      let _ ← rdRep (cpb + 1) (do
        let _ ← rdRep (if h.2.2 then 4 else 2) rdUe
        rdU 1)
    if h.1 then one
    if h.2.1 then one)
  return h

/-- A VPS; its identifier. -/
def rdHevcVps : Rd Nat := do
  let _ ← rdU 16
  let id ← rdU 4
  let _ ← rdU 8
  let n ← rdU 3
  rdCheck (n ≤ 6)
  let _ ← rdU 1
  rdCheck ((← rdU 16) = 65535)
  let _ ← rdTier n
  let _ ← rdOrdering n
  let layers ← rdU 6
  let sets ← rdUeMax 1023
  let _ ← rdRep sets (rdU (layers + 1))
  if ← rdFlag then
    let _ ← rdU 64
    if ← rdFlag then let _ ← rdUe
    let hrds ← rdUeMax 1024
    let _ ← (List.range hrds).foldlM (fun (b : Bool × Bool × Bool) i => do
      let _ ← rdUe
      let common ← rdIf (i ≠ 0) rdFlag true
      rdHevcHrd n common b) (false, false, false)
  if !(← rdFlag) then rdTrailing
  return id

/-- scaling_list_data. -/
def rdHevcScaling : Rd Unit := do
  let _ ← [16, 16, 16, 16, 16, 16, 64, 64, 64, 64, 64, 64, 65, 65, 65, 65, 65, 65, 65, 65].mapM fun n => do
    if ← rdFlag then let _ ← rdRep n rdSe
    else let _ ← rdUe

/-- A reference picture set predicted from another, by `delta`, with a used_by_curr_pic and a use_delta flag for each of its entries and the last for the picture itself. -/
def RefSet.predict (r : RefSet) (delta : Int) (flags : List (Bool × Bool)) : RefSet :=
  let n := r.neg.length
  let take (keep : Int → Bool) (l : List (Int × Nat)) : List (Int × Bool) :=
    l.filterMap fun e => if keep (e.1 + delta) && (flags.getD e.2 (false, false)).2 then some (e.1 + delta, (flags.getD e.2 (false, false)).1) else none
  let neg := r.neg.zipIdx.map fun e => (e.1.1, e.2)
  let pos := r.pos.zipIdx.map fun e => (e.1.1, n + e.2)
  let own : List (Int × Nat) := [(0, n + r.pos.length)]
  { neg := take (· < 0) (pos.reverse ++ own ++ neg), pos := take (0 < ·) (neg.reverse ++ own ++ pos) }

/-- Differences read one after the other. -/
def sumUp (sign : Int) : Int → List (Nat × Bool) → List (Int × Bool)
  | _, [] => []
  | a, (d, u) :: l => (a + sign * ((d : Int) + 1), u) :: sumUp sign (a + sign * ((d : Int) + 1)) l

/-- st_ref_pic_set `i` after the sets `before`; `inSlice` where it stands in a slice header. -/
def rdRefSet (before : List RefSet) (inSlice : Bool) : Rd RefSet := do
  let i := before.length
  if ← rdIf (i ≠ 0) rdFlag false then
    let back ← rdIf inSlice (return 1 + (← rdUe)) 1
    rdCheck (back ≤ i)
    let minus ← rdFlag
    let mag : Int := 1 + (← rdUeMax 32767)
    let r := before.getD (i - back) {}
    let flags ← rdRep (r.neg.length + r.pos.length + 1) (do
      let used ← rdFlag
      return (used, ← rdIf (!used) rdFlag true))
    return r.predict (if minus then -mag else mag) flags
  else
    let n ← rdUeMax 16
    let p ← rdUeMax 16
    let l ← rdRep n (do return (← rdUeMax 32767, ← rdFlag))
    let m ← rdRep p (do return (← rdUeMax 32767, ← rdFlag))
    return { neg := sumUp (-1) 0 l, pos := sumUp 1 0 m }

def rdHevcVui (n : Nat) : Rd Vui := do
  let mut v ← rdVuiHead
  let _ ← rdU 1
  v := { v with fieldSeq := ← rdFlag }
  let _ ← rdU 1
  if ← rdFlag then let _ ← rdRep 4 rdUe
  if ← rdFlag then
    let _ ← rdU 64
    if ← rdFlag then let _ ← rdUe
    if ← rdFlag then let _ ← rdHevcHrd n true (false, false, false)
  if ← rdFlag then
    let _ ← rdU 3
    let _ ← rdRep 5 rdUe
  return v

def rdHevcSps : Rd HevcSps := do
  let _ ← rdU 20
  let n ← rdU 3
  rdCheck (n ≤ 6)
  let _ ← rdU 1
  let (tier, profile, compat, level) ← rdTier n
  let id ← rdUeMax 15
  let chroma ← rdUeMax 3
  if chroma = 3 then let _ ← rdU 1
  let width ← rdUe
  let height ← rdUe
  let crop ← rdIf (← rdFlag) (rdRep 4 rdUe) [0, 0, 0, 0]
  rdCheck (2 * (crop.getD 0 0 + crop.getD 1 0) < width && 2 * (crop.getD 2 0 + crop.getD 3 0) < height)
  let depthY := 8 + (← rdUeMax 8)
  let depthC := 8 + (← rdUeMax 8)
  let log2Poc := 4 + (← rdUeMax 12)
  let (buffering, reorder, latency) ← rdOrdering n
  let minCb := 3 + (← rdUeMax 3)
  let log2Ctb := minCb + (← rdUeMax 3)
  rdCheck (log2Ctb ≤ 6 && width % 2 ^ minCb = 0 && height % 2 ^ minCb = 0 && reorder < buffering)
  let _ ← rdRep 4 (rdUeMax 4)
  let scaling ← rdFlag
  if scaling then if ← rdFlag then rdHevcScaling
  let amp ← rdFlag
  let sao ← rdFlag
  let pcm ← rdFlag
  if pcm then
    let _ ← rdU 8
    let _ ← rdRep 2 (rdUeMax 3)
    let _ ← rdU 1
  let count ← rdUeMax 64
  let sets ← (List.range count).foldlM (fun (l : List RefSet) _ => return l ++ [← rdRefSet l false]) []
  let longPresent ← rdFlag
  let longs ← rdIf longPresent (do rdRep (← rdUeMax 32) (do return (← rdU log2Poc, ← rdFlag))) []
  let mvp ← rdFlag
  let _ ← rdU 1
  let vui ← rdIf (← rdFlag) (rdHevcVui n) {}
  let exts ← rdIf (← rdFlag) (rdRep 8 rdFlag) []
  if !exts.any (·) then rdTrailing
  return { id, tier, profile, compat, level, chroma, width, height, crop, depthY, depthC, log2Poc, minCb, log2Ctb, tools := [scaling, amp, pcm], sets, longs, longPresent, sao, mvp, vui, exts := exts.take 4, buffering, reorder, latency }

def rdHevcPps : Rd HevcPps := do
  let _ ← rdU 16
  let id ← rdUeMax 63
  let sps ← rdUeMax 15
  let dependent ← rdFlag
  let outputFlag ← rdFlag
  let extra ← rdU 3
  let _ ← rdU 1
  let cabacInit ← rdFlag
  let refs0 := 1 + (← rdUeMax 14)
  let refs1 := 1 + (← rdUeMax 14)
  let initQp := 26 + (← rdSe)
  let _ ← rdU 1
  let skip ← rdFlag
  if ← rdFlag then let _ ← rdUe
  let _ ← rdRep 2 rdSe
  let chromaQp ← rdFlag
  let weighted ← rdFlag
  let bipred ← rdFlag
  let _ ← rdU 1
  let tiled ← rdFlag
  let sync ← rdFlag
  let tiles ← rdIf tiled (do return (1 + (← rdUeMax 1023), 1 + (← rdUeMax 1023))) (1, 1)
  let uniform ← rdIf tiled rdFlag true
  let cols ← rdIf (!uniform) (rdRep (tiles.1 - 1) (return 1 + (← rdUe))) []
  let rows ← rdIf (!uniform) (rdRep (tiles.2 - 1) (return 1 + (← rdUe))) []
  if tiled then let _ ← rdU 1
  let loopSlices ← rdFlag
  let deblock ← rdIf (← rdFlag) (do
    let over_ ← rdFlag
    let off ← rdFlag
    if !off then let _ ← rdRep 2 rdSe
    return (over_, off)) (false, false)
  if ← rdFlag then rdHevcScaling
  let lists ← rdFlag
  let _ ← rdUe
  let ext ← rdFlag
  let exts ← rdIf (← rdFlag) (rdRep 8 rdFlag) []
  if !exts.any (·) then rdTrailing
  return { id, sps, dependent, outputFlag, extra, cabacInit, refs0, refs1, initQp, skip, chromaQp, weighted, bipred, sync, tiles, uniform, cols, rows, loopSlices, deblock, lists, ext }

/-! Slice segment headers (7.3.6). -/

def hevcIrap (nal : Nat) : Bool := 16 ≤ nal && nal ≤ 21
def hevcIdr (nal : Nat) : Bool := nal == 19 || nal == 20
def hevcRasl (nal : Nat) : Bool := nal == 8 || nal == 9

/-- Leading pictures and sub-layer non-reference pictures (Table 7-1 of H.265). -/
def hevcLeading (nal : Nat) : Bool := 6 ≤ nal && nal ≤ 9
def hevcNonRef (nal : Nat) : Bool := nal < 16 && nal % 2 == 0

/-- nal_unit_type, nuh_layer_id and TemporalId of a NAL unit. -/
def hevcNal (b : Bytes) : Nat × Nat × Nat := (rdBe b 0 2 / 512 % 64, rdBe b 0 2 / 8 % 64, rdBe b 0 2 % 8 - 1)

/-- Width and height in coding tree units. -/
def HevcSps.ctbs (p : HevcSps) : Nat × Nat := (cdiv p.width (2 ^ p.log2Ctb), cdiv p.height (2 ^ p.log2Ctb))

/-- What stands first in a slice segment header: first_slice_segment_in_pic_flag, no_output_of_prior_pics_flag and the PPS's identifier. -/
def rdHevcFront (nal : Nat) : Rd (Bool × Bool × Nat) := do
  let _ ← rdU 16
  let first ← rdFlag
  let noOutput ← rdIf (hevcIrap nal) rdFlag false
  return (first, noOutput, ← rdUeMax 63)

/-- Long-term references of a slice header. -/
def rdLongs (p : HevcSps) : Rd (List (Nat × Bool × Option Nat)) := do
  let a ← rdIf (p.longs.length > 0) (rdUeMax p.longs.length) 0
  let b ← rdUeMax 33
  let l ← (List.range (a + b)).mapM fun i => do
    let (lsb, used) ← if i < a then (do return p.longs.getD (← rdIf (p.longs.length > 1) (rdU (ceilLog2 p.longs.length)) 0) (0, false)) else (do return (← rdU p.log2Poc, ← rdFlag))
    let msb ← rdIf (← rdFlag) (return some (← rdUe)) none
    return (lsb, used, msb)
  return (l.zipIdx.foldl (fun (acc : List (Nat × Bool × Option Nat) × Nat) e =>
    let base := if e.2 = a then 0 else acc.2
    let cycle := base + e.1.2.2.getD 0
    (acc.1 ++ [(e.1.1, e.1.2.1, e.1.2.2.map fun _ => cycle)], cycle)) ([], 0)).1

def rdHevcWeights (n : Nat) : Rd Unit := do
  let l ← rdRep n rdFlag
  let c ← rdRep n rdFlag
  let _ ← (l.zip c).mapM fun e => do
    if e.1 then let _ ← rdRep 2 rdSe
    if e.2 then let _ ← rdRep 4 rdSe

/-- Pictures that a set and long-term references let the current picture use. -/
def usedCount (s : RefSet) (longs : List (Nat × Bool × Option Nat)) : Nat :=
  ((s.neg ++ s.pos).filter (·.2)).length + (longs.filter (·.2.1)).length

/-- The part of an independent slice segment header that P and B slices have (`ty` 1, 0): lists, weights, merging; how many entries the first list has. -/
def rdHevcInter (pps : HevcPps) (ty total : Nat) (mvp : Bool) : Rd Nat := do
  let own ← rdFlag
  let a0 ← rdIf own (return 1 + (← rdUeMax 14)) pps.refs0
  let a1 ← rdIf (own && ty = 0) (return 1 + (← rdUeMax 14)) pps.refs1
  if pps.lists && total > 1 then
    if ← rdFlag then let _ ← rdRep a0 (rdU (ceilLog2 total))
    if ty = 0 then if ← rdFlag then let _ ← rdRep a1 (rdU (ceilLog2 total))
  if ty = 0 then let _ ← rdU 1
  if pps.cabacInit then let _ ← rdU 1
  if mvp then
    let from0 ← rdIf (ty = 0) rdFlag true
    if (from0 && a0 > 1) || (!from0 && a1 > 1) then let _ ← rdUeMax ((if from0 then a0 else a1) - 1)
  if (pps.weighted && ty = 1) || (pps.bipred && ty = 0) then
    let _ ← rdUeMax 7
    let _ ← rdSe
    rdHevcWeights a0
    if ty = 0 then rdHevcWeights a1
  let _ ← rdUeMax 4
  return a0

/-- A slice segment header under parameter sets that passed R137; `before` is the independent one before it in the picture. -/
def rdHevcSlice (nal tid : Nat) (pps : HevcPps) (sps : HevcSps) (before : Option HevcSlice) : Rd HevcSlice := do
  let (first, noOutput, _) ← rdHevcFront nal
  let dependent ← rdIf (!first && pps.dependent) rdFlag false
  let (w, h) := sps.ctbs
  let address ← rdIf (!first) (rdU (ceilLog2 (w * h))) 0
  rdCheck (address < w * h && pps.tiles.1 ≤ w && pps.tiles.2 ≤ h)
  let out ← if dependent then (fun l => before.map fun (b : HevcSlice) => ({ b with dependent, address, first, noOutput }, l)) else do
    let _ ← rdU pps.extra
    let ty ← rdUeMax 2
    rdCheck (!hevcIrap nal || ty = 2)
    let output ← rdIf pps.outputFlag rdFlag true
    let idr := hevcIdr nal
    let lsb ← rdIf (!idr) (rdU sps.log2Poc) 0
    let set ← rdIf (!idr) (do
      if ← rdFlag then return sps.sets.getD (← rdIf (sps.sets.length > 1) (rdU (ceilLog2 sps.sets.length)) 0) {}
      else rdRefSet sps.sets true) {}
    let longs ← rdIf (!idr && sps.longPresent) (rdLongs sps) []
    let mvp ← rdIf (!idr && sps.mvp) rdFlag false
    let sao ← rdIf sps.sao (do return (← rdRep 2 rdFlag).any (·)) false
    let refs ← rdIf (ty ≠ 2) (rdHevcInter pps ty (usedCount set longs) mvp) 0
    let qp := pps.initQp + (← rdSe)
    if pps.chromaQp then let _ ← rdRep 2 rdSe
    let over_ ← rdIf pps.deblock.1 rdFlag false
    let off ← rdIf over_ (do
      let off ← rdFlag
      if !off then let _ ← rdRep 2 rdSe
      return off) pps.deblock.2
    if pps.loopSlices && (sao || !off) then let _ ← rdU 1
    return { nal, tid, dependent, address, first, pps, sps, noOutput, output, lsb, set, longs, ty, refs, qp }
  if pps.tiles != (1, 1) || pps.sync then
    let n ← rdUeMax (w * h)
    if n > 0 then
      let k ← rdUeMax 31
      let _ ← rdRep n (rdU (k + 1))
  if pps.ext then
    let n ← rdUeMax 256
    let _ ← rdU (8 * n)
  rdCheck ((← rdU 1) = 1)
  return out

/-- Slice segments belong to one picture. -/
def HevcSlice.same (a b : HevcSlice) : Bool := a.nal == b.nal && a.pps.id == b.pps.id && a.lsb == b.lsb && a.output == b.output && a.set == b.set && a.longs == b.longs

/-! The envelope (R132, R133, R137). -/

/-- PROFILE of Table 4-2 that an SPS shows, if Table 5-2 accepts it; the lower where both are named. -/
def HevcSps.profileCode (p : HevcSps) : Option Nat :=
  let is (k : Nat) : Bool := p.profile == k || bit p.compat (31 - k)
  if p.tier || p.chroma != 1 || p.exts.any (·) || p.vui.fieldSeq then none
  else if is 1 then some 0
  else if is 2 && p.depthY = p.depthC then some 1
  else none

/-- Left, top, width and height of the conformance window. -/
def HevcSps.window (p : HevcSps) : Nat × Nat × Nat × Nat :=
  let c (i : Nat) := 2 * p.crop.getD i 0
  (c 0, c 2, p.width - c 0 - c 1, p.height - c 2 - c 3)

/-! Picture order counts (8.3.1) and reference picture sets (8.3.2). -/

/-- An IRAP picture with NoRaslOutputFlag 1. -/
def Decoder.beginsAt (d : Decoder) (nal : Nat) : Bool := hevcIrap nal && (d.begins || nal != 21)

def Decoder.hevcCount (d : Decoder) (h : HevcSlice) : Int := (if d.beginsAt h.nal then 0 else countMsb d.pocMsb d.pocLsb h.lsb h.sps.log2Poc) + h.lsb

/-- The numbering after a picture. -/
def Decoder.afterHevc (d : Decoder) (h : HevcSlice) : Decoder :=
  let poc := d.hevcCount h
  let d' := if hevcIrap h.nal then { d with dropRasl := d.beginsAt h.nal, begins := false, rasl := if d.beginsAt h.nal then [] else d.rasl } else d
  if h.tid = 0 && !hevcLeading h.nal && !hevcNonRef h.nal then { d' with pocMsb := poc - h.lsb, pocLsb := h.lsb } else d'

/-- The order count of a long-term reference, or, from its low bits alone, the latest such one before the picture. -/
def longPoc (h : HevcSlice) (poc : Int) (lsb : Nat) (msb : Option Nat) : Int :=
  let m : Int := 2 ^ h.sps.log2Poc
  match msb with
  | some k => poc - k * m - poc % m + lsb
  | none => poc - (poc - lsb) % m

/-- An entry of a reference picture set: its order count, whether that is its low bits alone, whether it is long-term. -/
structure RpsEntry where
  poc : Int
  low : Option Int := none
  long : Bool := false
  deriving DecidableEq, Repr

def HevcSlice.entries (h : HevcSlice) (poc : Int) : List RpsEntry :=
  ((h.set.neg ++ h.set.pos).map fun e => { poc := poc + e.1 }) ++
  h.longs.map fun e => { poc := longPoc h poc e.1 e.2.2, low := if e.2.2.isNone then some (2 ^ h.sps.log2Poc) else none, long := true }

/-- A picture is the one an entry names: a short-term entry names no long-term reference. -/
def RpsEntry.names (r : RpsEntry) (poc : Int) (isLong : Bool) : Bool :=
  (r.long || !isLong) && (match r.low with | some m => poc % m == r.poc % m | none => poc == r.poc)

/-! Tile scan (6.5.1). -/

/-- Sizes of `n` columns or rows of tiles over `total` units. -/
def tileSizes (uniform : Bool) (given : List Nat) (n total : Nat) : List Nat :=
  if uniform then (List.range n).map fun i => (i + 1) * total / n - i * total / n else given ++ [total - sumL given]

/-- First places and sizes. -/
def bounds : Nat → List Nat → List (Nat × Nat)
  | _, [] => []
  | a, n :: l => (a, n) :: bounds (a + n) l

/-- Raster addresses of the coding tree units of a picture in decoding order. -/
def tileScan (pps : HevcPps) (sps : HevcSps) : List Nat :=
  let (w, h) := sps.ctbs
  let cols := bounds 0 (tileSizes pps.uniform pps.cols pps.tiles.1 w)
  let rows := bounds 0 (tileSizes pps.uniform pps.rows pps.tiles.2 h)
  rows.flatMap fun r => cols.flatMap fun c => (List.range r.2).flatMap fun y => (List.range c.2).map fun x => (r.1 + y) * w + c.1 + x

end Sys2Proof.Machine
end

