-- ==== Sys2Proof/Machine/Parse.lean ====
section
/-! DEFINITION. Received frames taken apart: Ethernet, IP, UDP, RTP with its payload formats, RTCP, ARP and neighbour solicitations (R103, R104, R108, R110, R111, R112, R116, R117, R120). The layouts are those of the standards the manual names (PRESUMED, log 38). -/

namespace Sys2Proof.Machine

/-! Ethernet and IP. -/

/-- An Ethernet frame: source address, whether it has two tags, VLAN, EtherType, and what follows. -/
structure Parsed where
  srcMac : Bytes
  qinq : Bool
  vlan : Nat
  ty : Nat
  body : Bytes
  deriving DecidableEq, Repr

/-- The header of a frame: untagged, one IEEE 802.1Q tag, or two tags (R103). -/
def parseEther (b : Bytes) : Parsed :=
  let mac := sub b 6 6
  let tag (o : Nat) : Bool := rdBe b o 2 == 0x8100 || rdBe b o 2 == 0x88A8
  if !tag 12 then { srcMac := mac, qinq := false, vlan := 0, ty := rdBe b 12 2, body := b.drop 14 }
  else
    let two := rdBe b 12 2 == 0x88A8 || tag 16
    { srcMac := mac, qinq := two, vlan := rdBe b 14 2 % 4096, ty := if two then rdBe b 20 2 else rdBe b 16 2, body := b.drop (if two then 22 else 18) }

/-- The redundancy control trailer of a frame: its sequence and whether it names LAN B (R111): the suffix 0x88FB and an LSDU size that is the payload's length. -/
def Parsed.trailer (p : Parsed) : Option (Nat × Bool) :=
  let n := p.body.length
  let t := p.body.drop (n - 6)
  if n ≥ 6 && rdBe t 4 2 == 0x88FB && rdBe t 2 2 % 4096 == n then some (rdBe t 0 2, rdBe t 2 2 / 4096 == 0xB) else none

def Parsed.strip (p : Parsed) : Parsed := { p with body := p.body.take (p.body.length - 6) }

/-- An IP packet: its family, whether it has options, is a fragment or has extension headers, its addresses, its protocol and what follows; a later fragment shows no protocol. -/
structure Packet where
  v6 : Bool
  odd : Bool
  src : Bytes
  dst : Bytes
  proto : Nat
  body : Bytes
  deriving DecidableEq, Repr

/-- Past the extension headers of an IPv6 packet: whether there is one, the protocol, what follows. -/
def skipExts : Nat → Nat → Bytes → Bool → Bool × Nat × Bytes
  | 0, ty, b, odd => (odd, ty, b)
  | n + 1, ty, b, odd =>
    if ty = 0 || ty = 43 || ty = 60 then skipExts n (rd b 0 1) (b.drop (8 + 8 * rd b 1 1)) true
    else if ty = 44 then (if rdBe b 2 2 ≥ 8 then (true, 255, b) else skipExts n (rd b 0 1) (b.drop 8) true)
    else if ty = 51 then skipExts n (rd b 0 1) (b.drop (8 + 4 * rd b 1 1)) true
    else (odd, ty, b)

/-- The IP packet of a frame. -/
def Parsed.ip? (p : Parsed) : Option Packet :=
  let b := p.body
  if p.ty = 0x0800 then
    let head := rd b 0 1 % 16 * 4
    let total := rdBe b 2 2
    if rd b 0 1 / 16 != 4 || head < 20 || total < head || b.length < total then none
    else
      let frag := rdBe b 6 2 % 16384
      some { v6 := false, odd := head > 20 || frag != 0, src := sub b 12 4, dst := sub b 16 4, proto := if frag % 8192 = 0 then rd b 9 1 else 255, body := sub b head (total - head) }
  else if p.ty = 0x86DD then
    let n := rdBe b 4 2
    if rd b 0 1 / 16 != 6 || b.length < 40 + n then none
    else
      let (odd, proto, rest) := skipExts 8 (rd b 6 1) (sub b 40 n) false
      some { v6 := true, odd := odd, src := sub b 8 16, dst := sub b 24 16, proto := proto, body := rest }
  else none

/-- The destination UDP port of a packet. -/
def Packet.udpPort (p : Packet) : Option Nat := if p.proto = 17 && p.body.length ≥ 8 then some (rdBe p.body 2 2) else none

/-- What a UDP packet carries, none where its length or its checksum is wrong; IPv6 requires a checksum (R103). -/
def Packet.udp? (p : Packet) : Option Bytes :=
  let n := rdBe p.body 4 2
  let d := p.body.take n
  if n < 8 || p.body.length < n then none
  else if rdBe d 6 2 = 0 then (if p.v6 then none else some (d.drop 8))
  else if inetSum (pseudo p.v6 p.src p.dst 17 n ++ d) = 0 then some (d.drop 8) else none

/-! RTP and RTCP. -/

/-- The capture-time fields, bytes 16–47 of Table 9-3: none where the size, VERSION, CLASS or a reserved bit does not match the layout (R159, R268). -/
def ageFields (b : Bytes) : Option CaptureExt :=
  if b.length != 32 || rd b 0 1 != 1 || rd b 1 1 > 2 || rd b 2 1 > 3 || rd b 3 1 != 0 || rd b 26 2 != 0 || rd b 28 4 != 0 then none
  else some { cls := rd b 1 1, locked := bit (rd b 2 1) 0, clipped := bit (rd b 2 1) 1, alive := rd b 4 4, capture := rd b 8 8, unc := rd b 16 4 }

/-- Elements of a header extension of RFC 8285 in the one-byte form, or the two-byte form: identifier and data; at most `n`. -/
def extElements (two : Bool) : Nat → Bytes → List (Nat × Bytes)
  | 0, _ => []
  | n + 1, b =>
    match b with
    | [] => []
    | h :: rest =>
      if h == 0 then extElements two n rest
      else if two then (h.toNat, sub rest 1 (rd rest 0 1)) :: extElements two n (rest.drop (1 + rd rest 0 1))
      else if h.toNat / 16 = 15 then []
      else (h.toNat / 16, rest.take (h.toNat % 16 + 1)) :: extElements two n (rest.drop (h.toNat % 16 + 1))

/-- Elements of an RTP header extension with this profile word. -/
def elementsOf (profile : Nat) (b : Bytes) : List (Nat × Bytes) :=
  if profile = 0xBEDE then extElements false b.length b else if profile / 16 = 0x100 then extElements true b.length b else []

/-- The units of an aggregation packet, each after its 16-bit size; none where the sizes do not fit. At most `n`. -/
def aggregated : Nat → Bytes → Option (List Bytes)
  | _, [] => some []
  | 0, _ => none
  | n + 1, b =>
    let k := rdBe b 0 2
    if k = 0 || b.length < 2 + k then none else (aggregated n (b.drop (2 + k))).map (sub b 2 k :: ·)

/-- A payload of RFC 6184 (Table 4-6): PACKETIZATION 0 takes single NAL unit packets alone; mode 1 also STAP-A and FU-A. -/
def avcPayload (mode : Nat) (b : Bytes) : RtpPayload :=
  let ty := rd b 0 1 % 32
  let fu := rd b 1 1
  if b.isEmpty then .unsupported
  else if 1 ≤ ty && ty ≤ 23 then .single b
  else if ty = 24 && mode = 1 then (match aggregated b.length (b.drop 1) with | some l => .aggregate l | none => .unsupported)
  else if ty = 28 && mode = 1 && b.length > 2 then
    .fragment (bit fu 7) (bit fu 6) ((if bit fu 7 then [BitVec.ofNat 8 (rd b 0 1 / 32 * 32 + fu % 32)] else []) ++ b.drop 2)
  else .unsupported

/-- A payload of RFC 7798 (Table 4-6): single NAL unit packets, aggregation packets, fragmentation units. -/
def hevcPayload (b : Bytes) : RtpPayload :=
  let ty := rd b 0 1 / 2 % 64
  let fu := rd b 2 1
  if b.length < 3 then .unsupported
  else if ty < 48 then .single b
  else if ty = 48 then (match aggregated b.length (b.drop 2) with | some l => .aggregate l | none => .unsupported)
  else if ty = 49 && b.length > 3 then
    .fragment (bit fu 7) (bit fu 6) ((if bit fu 7 then [BitVec.ofNat 8 (rd b 0 1 / 128 * 128 + fu % 64 * 2 + rd b 0 1 % 2), b.getD 1 0] else []) ++ b.drop 3)
  else .unsupported

/-- Octets and pixels of a pgroup of ST 2110-20 (R116). -/
def pgroup (d : StreamRec) : Nat × Nat :=
  if d.sampling = 0 then (if d.bitDepth = 8 then (4, 2) else (5, 2)) else (if d.bitDepth = 8 then (3, 1) else (15, 4))

/-- The samples of row data: pgroups of Cb, Y0, Cr, Y1, or pixels of R, G, B, each sample at the declared depth, the most significant bit first. -/
def rowPlanes (d : StreamRec) (b : Bytes) : List (List Nat) :=
  let (size, px) := pgroup d
  let groups := pieces size (b.length / size) b
  let n := if d.sampling = 0 then 4 else 3 * px
  let vals := groups.map fun g => (List.range n).map fun i => ofBe g / 2 ^ (d.bitDepth * (n - 1 - i)) % 2 ^ d.bitDepth
  if d.sampling = 0 then [vals.flatMap fun v => [v.getD 1 0, v.getD 3 0], vals.map fun v => v.getD 0 0, vals.map fun v => v.getD 2 0]
  else (List.range 3).map fun k => vals.flatMap fun v => (List.range px).map fun i => v.getD (3 * i + k) 0

/-- Sample row data headers, at most `n`: row length, line and offset; none with a field of an interlaced picture or with more headers. -/
def rowHeads : Nat → Bytes → Option (List (Nat × Nat × Nat))
  | 0, _ => none
  | n + 1, b =>
    if b.length < 6 || bit (rdBe b 2 2) 15 then none
    else
      let h := (rdBe b 0 2, rdBe b 2 2 % 32768, rdBe b 4 2 % 32768)
      if bit (rdBe b 4 2) 15 then (rowHeads n (b.drop 6)).map (h :: ·) else some [h]

/-- The segments that headers describe, cut from the row data after them. -/
def cutRows (d : StreamRec) : List (Nat × Nat × Nat) → Bytes → Option (List Segment)
  | [], _ => some []
  | (len, line, off) :: hs, b =>
    let (size, px) := pgroup d
    if len % size != 0 || off % px != 0 || b.length < len then none
    else (cutRows d hs (b.drop len)).map ({ line := line, offset := off, length := len / size * px, planes := rowPlanes d (b.take len) } :: ·)

/-- A payload of RFC 4175 as ST 2110-20 constrains it: the extended sequence number, up to 3 headers, row data (Table 4-6). -/
def rowPayload (d : StreamRec) (b : Bytes) : RtpPayload :=
  match rowHeads 3 (b.drop 2) with
  | none => .unsupported
  | some hs => match cutRows d hs (b.drop (2 + 6 * hs.length)) with
    | some l => .rows l
    | none => .unsupported

/-- The payload of a packet as the context's format cuts it (R116). -/
def payloadOf (d : StreamRec) (b : Bytes) : RtpPayload :=
  if d.kind = 0 then avcPayload d.packetization b else if d.kind = 1 then hevcPayload b else rowPayload d b

/-- An RTP packet as a context reads it, none where its header is not of version 2 or is longer than the datagram (test 3 of R108); padding is removed and CSRC lists are skipped (R116). -/
def rtpOf (d : StreamRec) (b : Bytes) : Option RtpPacket :=
  let h := rd b 0 1
  let fixed := 12 + 4 * (h % 16)
  let ext := bit h 4
  let head := fixed + (if ext then 4 + 4 * rdBe b (fixed + 2) 2 else 0)
  let pad := if bit h 5 then rd b (b.length - 1) 1 else 0
  if b.length < 12 || h / 64 != 2 || b.length < head + pad || (bit h 5 && pad = 0) then none
  else
    let body := sub b head (b.length - head - pad)
    let el := if d.extId = 0 || !ext then none else (elementsOf (rdBe b fixed 2) (sub b (fixed + 4) (head - fixed - 4))).find? fun e => e.1 == d.extId
    some { payloadType := rd b 1 1 % 128, marker := bit (rd b 1 1) 7, seq := rdBe b 2 2, hiSeq := if d.kind = 2 then rdBe body 0 2 else 0, ts := rdBe b 4 4, ssrc := rdBe b 8 4
           ext := el.bind fun e => ageFields e.2, extBad := match el with | some e => (ageFields e.2).isNone | none => false
           bits := 8 * body.length, payload := payloadOf d body }

/-- The packets of a compound RTCP packet; none where a header is not of version 2 or does not fit. At most `n`. -/
def rtcpOf : Nat → Bytes → Option (List RtcpPacket)
  | _, [] => some []
  | 0, _ => none
  | n + 1, b =>
    let len := 4 * (rdBe b 2 2 + 1)
    if b.length < 8 || rd b 0 1 / 64 != 2 || len < 8 || b.length < len then none
    else
      let p : RtcpPacket := if rd b 1 1 = 200 && len ≥ 28 then .senderReport (rdBe b 4 4) (rdBe b 8 4) (rdBe b 12 4) (rdBe b 16 4) else .other (rdBe b 4 4)
      (rtcpOf n (b.drop len)).map (p :: ·)

/-- What a UDP datagram holds for a stream context: test 3, and the kind that test 4 tells apart (R108, R110). -/
inductive UdpBody where
  | rtp (p : RtpPacket)
  | rtcp (ps : List RtcpPacket)
  | malformed
  deriving DecidableEq, Repr

/-- A datagram at a context: RTCP on UDP_PORT + 1, and on UDP_PORT where the second byte is 200–204. -/
def udpBody (d : StreamRec) (dport : Nat) (b : Bytes) : UdpBody :=
  let ty := rd b 1 1
  if dport = d.udpPort + 1 || (200 ≤ ty && ty ≤ 204) then
    match rtcpOf b.length b with
    | some (p :: ps) => .rtcp (p :: ps)
    | _ => .malformed
  else match rtpOf d b with
    | some p => .rtp p
    | none => .malformed

end Sys2Proof.Machine
end

