-- ==== Sys2Proof/Machine/Nal.lean ====
section
/-! DEFINITION. Access units taken apart: NAL units, SEI messages, parameter sets, and the picture that the slices describe (R132–R137, R144, R147, R158–R160). Syntax of ITU-T H.264 and H.265 (PRESUMED, log 39). -/

namespace Sys2Proof.Machine

/-! SEI messages (R158–R160, Table 5-8). -/

/-- A number written as bytes 0xFF and a last byte. -/
def ffValue : Bytes → Nat × Bytes
  | [] => (0, [])
  | b :: bs => if b = 255 then (255 + (ffValue bs).1, (ffValue bs).2) else (b.toNat, bs)

/-- The messages of an SEI NAL unit after its header, at most `n`: payloadType and payload. A message that does not fit ends them. -/
def seiMessages : Nat → Bytes → List (Nat × Bytes)
  | 0, _ => []
  | n + 1, b =>
    if b.length ≤ 1 then []
    else
      let (ty, b) := ffValue b
      let (len, b) := ffValue b
      if b.length < len then [] else (ty, b.take len) :: seiMessages n (b.drop len)

/-- The Paltik age-carrying identifier (R266). -/
def ageId : Bytes := [0x4C, 0x4B, 0x57, 0x31, 0x36, 0x2D, 0x41, 0x47, 0x45, 0x2D, 0x54, 0x41, 0x47, 0, 0, 1]

/-- A valid age-carrying message: the identifier, the size and the reserved bits of Table 9-3 match (R159). -/
def ageMessage (b : Bytes) : Option CaptureExt := if b.take 16 = ageId then ageFields (b.drop 16) else none

/-- Decoded picture hash of a payload: kind, and the values of the three components (R160). -/
def hashMessage (b : Bytes) : Option (Nat × List Nat) :=
  let kind := rd b 0 1
  let n := if kind = 0 then 16 else if kind = 1 then 2 else 4
  if kind ≤ 2 && b.length = 1 + 3 * n then some (kind, (List.range 3).map fun i => rdBe b (1 + n * i) n) else none

/-! What an access unit holds. -/

/-- What reading the NAL units of an access unit gives: the decoder with the parameter sets taken; syntax errors; slice NAL units, without emulation prevention, with their type and nal_ref_idc or TemporalId; an end of sequence before or after the slices; and what SEI messages say. -/
structure UnitRead where
  dec : Decoder
  errors : Nat := 0
  slices : List (Nat × Nat × Bytes) := []
  endBefore : Bool := false
  endAfter : Bool := false
  recovery : Option Int := none
  age : Option CaptureExt := none
  hdr : Bool := false
  hash : Option (Nat × List Nat) := none
  deriving DecidableEq, Repr

/-- A parameter set under its identifier; one with a syntax error is discarded and counted (R136). -/
def UnitRead.takeSet {α : Type} (r : UnitRead) (p : Option α) (put : Decoder → α → Decoder) : UnitRead :=
  match p with
  | some v => { r with dec := put r.dec v }
  | none => { r with errors := r.errors + 1 }

def UnitRead.ended (r : UnitRead) : UnitRead := if r.slices.isEmpty then { r with endBefore := true } else { r with endAfter := true }

/-- SEI messages; `hevc` and `suffix` say where they stand (Table 5-8). -/
def UnitRead.messages (r : UnitRead) (hevc suffix : Bool) (b : Bytes) : UnitRead :=
  (seiMessages b.length b).foldl (fun r m =>
    if suffix then (if hevc && m.1 = 132 && r.hash.isNone then { r with hash := hashMessage m.2 } else r)
    else if m.1 = 5 && r.age.isNone then { r with age := ageMessage m.2 }
    else if m.1 = 6 && r.recovery.isNone then { r with recovery := readBytes (if hevc then rdSe else (do return ((← rdUe : Nat) : Int))) m.2 }
    else if m.1 = 137 || m.1 = 144 then { r with hdr := true }
    else r) r

/-- One H.264 NAL unit (Table 5-3). -/
def UnitRead.takeAvc (r : UnitRead) (nal : Bytes) : UnitRead :=
  let h := rd nal 0 1
  let ty := h % 32
  let b := unescape 0 nal
  if ty = 1 || ty = 5 then { r with slices := r.slices ++ [(ty, h / 32 % 4, b)] }
  else if ty = 6 then r.messages false false (b.drop 1)
  else if ty = 7 then r.takeSet (readBytes rdAvcSps b) fun d p => { d with avcSps := Map.set d.avcSps p.id p }
  else if ty = 8 then r.takeSet (readBytes (rdAvcPps fun i => ((Map.get? r.dec.avcSps i).map AvcSps.chroma).getD 1) b) fun d p => { d with avcPps := Map.set d.avcPps p.id p }
  else if ty = 10 || ty = 11 then r.ended
  else if 2 ≤ ty && ty ≤ 4 then { r with errors := r.errors + 1 }
  else r

/-- One H.265 NAL unit (Table 5-3); nuh_layer_id above 0 is discarded silently (R135). -/
def UnitRead.takeHevc (r : UnitRead) (nal : Bytes) : UnitRead :=
  let (ty, layer, tid) := hevcNal nal
  let b := unescape 0 nal
  if layer > 0 then r
  else if ty ≤ 9 || hevcIrap ty then { r with slices := r.slices ++ [(ty, tid, b)] }
  else if ty = 32 then r.takeSet (readBytes rdHevcVps b) fun d p => { d with hevcVps := Map.set d.hevcVps p b }
  else if ty = 33 then r.takeSet (readBytes rdHevcSps b) fun d p => { d with hevcSps := Map.set d.hevcSps p.id p }
  else if ty = 34 then r.takeSet (readBytes rdHevcPps b) fun d p => { d with hevcPps := Map.set d.hevcPps p.id p }
  else if ty = 36 || ty = 37 then r.ended
  else if ty = 39 then r.messages true false (b.drop 2)
  else if ty = 40 then r.messages true true (b.drop 2)
  else r

/-- The NAL units of an access unit in order. -/
def readUnit (kind : Nat) (d : Decoder) (nals : List Bytes) : UnitRead :=
  nals.foldl (fun r n => if n.isEmpty then r else if kind = 0 then r.takeAvc n else r.takeHevc n) { dec := d }

/-- A picture that R130 skips: nal_ref_idc 0, or a sub-layer non-reference picture. -/
def UnitRead.nonReference (r : UnitRead) (kind : Nat) : Bool :=
  match r.slices with
  | (ty, k, _) :: _ => if kind = 0 then k == 0 else hevcNonRef ty
  | [] => false

/-- The join kind of its picture (Table 5-6). -/
def UnitRead.join (r : UnitRead) (kind : Nat) : Nat :=
  if r.slices.any fun e => if kind = 0 then e.1 == 5 else hevcIrap e.1 then 1 else if r.recovery.isSome then 2 else 0

/-! The sequence a picture belongs to (R132, R133, R137, R144). -/

/-- MaxDpbMbs of an H.264 level, from ITU-T H.264 Table A-1 (PRESUMED, log 14). -/
def maxDpbMbs (level : Nat) : Nat :=
  if level ≤ 10 then 396 else if level = 11 then 900 else if level ≤ 20 then 2376 else if level = 21 then 4752
  else if level ≤ 30 then 8100 else if level = 31 then 18000 else if level = 32 then 20480 else if level ≤ 41 then 32768
  else if level = 42 then 34816 else if level = 50 then 110400 else 184320

/-- MaxFS of an H.264 level, macroblocks (PRESUMED, log 14). -/
def maxFs (level : Nat) : Nat :=
  if level ≤ 10 then 99 else if level ≤ 20 then 396 else if level = 21 then 792 else if level ≤ 30 then 1620
  else if level = 31 then 3600 else if level = 32 then 5120 else if level ≤ 41 then 8192 else if level = 42 then 8704
  else if level = 50 then 22080 else 36864

/-- MaxLumaPs of an H.265 level (PRESUMED, log 14). -/
def maxLumaPs (level : Nat) : Nat :=
  if level ≤ 30 then 36864 else if level ≤ 60 then 122880 else if level ≤ 63 then 245760 else if level ≤ 90 then 552960
  else if level ≤ 93 then 983040 else if level ≤ 123 then 2228224 else 8912896

/-- maxDpbSize of ITU-T H.265 Annex A with maxDpbPicBuf 6 (PRESUMED, log 14). -/
def maxDpbSize (level pixels : Nat) : Nat :=
  let m := maxLumaPs level
  if 4 * pixels ≤ m then 16 else if 2 * pixels ≤ m then 12 else if 4 * pixels ≤ 3 * m then 8 else 6

/-- DPB_MAX (R139). -/
def dpbMax (d : StreamRec) : Nat :=
  if d.kind = 0 then min (maxDpbMbs d.level / (cdiv d.maxWidth 16 * cdiv d.maxHeight 16)) 16 + 1
  else maxDpbSize d.level (d.maxWidth * d.maxHeight)

/-- An H.264 SPS; the reorder depth is that of R144. -/
def AvcSps.info (d : StreamRec) (p : AvcSps) : SeqInfo :=
  let (left, top, width, height) := p.window
  let level1b := p.level = 9 || (p.level = 11 && bit p.constraints 4 && (p.profile = 66 || p.profile = 77))
  { profile := p.profileCode, level := p.level, compared := p.compared, left, top, width, height, codedWidth := 16 * p.mbs, codedHeight := 16 * p.rows
    depth := max p.depthY p.depthC, colour := p.vui.colour, fullRange := p.vui.fullRange
    reorder := p.vui.reorder.getD (if p.profileCode = some 0 then 0 else dpbMax d - 1)
    buffers := p.vui.buffering.getD (max (min (maxDpbMbs (if level1b then 10 else p.level) / (p.mbs * p.rows)) 16) (max p.refs 1)) }

/-- An H.265 SPS. -/
def HevcSps.info (p : HevcSps) : SeqInfo :=
  let (left, top, width, height) := p.window
  { profile := p.profileCode, level := p.level, compared := p.level, left, top, width, height, codedWidth := p.width, codedHeight := p.height
    depth := max p.depthY p.depthC, colour := p.vui.colour, fullRange := p.vui.fullRange
    reorder := p.reorder, latency := if p.latency = 0 then none else some (p.reorder + p.latency - 1), buffers := p.buffering }

/-- Profile, level, size and depth tests of R100, R132, R133 and R137. -/
def inEnvelope (d : StreamRec) (i : SeqInfo) : Bool :=
  (match i.profile with | some p => p ≤ d.profile | none => false) && i.compared ≤ d.level &&
  (if d.kind = 0 then cdiv i.codedWidth 16 * cdiv i.codedHeight 16 ≤ maxFs d.level else i.codedWidth * i.codedHeight ≤ maxLumaPs d.level) &&
  i.width ≤ d.maxWidth && i.height ≤ d.maxHeight && i.codedWidth ≤ roundUp 64 d.maxWidth && i.codedHeight ≤ roundUp 64 d.maxHeight && i.depth ≤ d.bitDepth

/-- The parameter sets of an H.264 slice. An SPS that is not the active one may become so at an IDR picture, or where none is active (R136). -/
def Decoder.avcSets (d : Decoder) (idr : Bool) (b : Bytes) : Option (AvcPps × AvcSps) := do
  let (_, _, id) ← readBytes rdAvcFront b
  let pps ← Map.get? d.avcPps id
  let sps ← Map.get? d.avcSps pps.sps
  if idr || d.avc.isNone || d.avc = some sps then return (pps, sps) else none

/-- The parameter sets of an H.265 slice segment, likewise (R136). -/
def Decoder.hevcSets (d : Decoder) (nal : Nat) (b : Bytes) : Option (HevcPps × HevcSps) := do
  let (_, _, id) ← readBytes (rdHevcFront nal) b
  let pps ← Map.get? d.hevcPps id
  let sps ← Map.get? d.hevcSps pps.sps
  if hevcIrap nal || d.hevc.isNone || d.hevc = some sps then return (pps, sps) else none

/-- The sequence that the first slice with known parameter sets refers to (R137). -/
def UnitRead.seq (r : UnitRead) (d : StreamRec) : Option SeqInfo :=
  r.slices.findSome? fun e =>
    if d.kind = 0 then (r.dec.avcSets (e.1 = 5) e.2.2).map fun p => p.2.info d else (r.dec.hevcSets e.1 e.2.2).map fun p => p.2.info

/-! Slices (R134, R149). -/

/-- Slice headers of an H.264 picture in order, at most 1 024; those that cannot be read or belong to another picture are left out. -/
def UnitRead.avcHeads (r : UnitRead) : List AvcSlice :=
  let l := (r.slices.take 1024).filterMap fun e => do
    let (pps, sps) ← r.dec.avcSets (e.1 = 5) e.2.2
    readBytes (rdAvcSlice (e.1 = 5) e.2.1 pps sps) e.2.2
  match l with
  | h :: _ => l.filter h.same
  | [] => []

/-- Slice segment headers of an H.265 picture in order, at most 200; a dependent one takes what the independent one before it says. -/
def UnitRead.hevcHeads (r : UnitRead) : List HevcSlice :=
  let l := (r.slices.take 200).foldl (fun (a : List HevcSlice × Option HevcSlice) e =>
    match (do
      let (pps, sps) ← r.dec.hevcSets e.1 e.2.2
      readBytes (rdHevcSlice e.1 e.2.1 pps sps a.2) e.2.2 : Option HevcSlice) with
    | some h => (a.1 ++ [h], some { h with dependent := false })
    | none => (a.1, none)) ([], none)
  match l.1 with
  | h :: _ => l.1.filter h.same
  | [] => []

/-- The headers that can be decoded. -/
def UnitRead.heads (r : UnitRead) (kind : Nat) : List SliceHead := if kind = 0 then r.avcHeads.map .avc else r.hevcHeads.map .hevc

/-- The picture that decodable slices of an access unit describe. -/
def UnitRead.picture (r : UnitRead) (d : StreamRec) (seq : SeqInfo) (heads : List SliceHead) : PicInfo :=
  let i : PicInfo := { slices := heads, seq, join := r.join d.kind, sei := r.age, hash := r.hash, ends := r.endAfter }
  match heads.head? with
  | some (.avc h) => { i with begins := h.idr, discards := h.idr && h.noOutput, poc := min (r.dec.avcCount h).1 (r.dec.avcCount h).2, num := h.num }
  | some (.hevc h) => { i with begins := r.dec.beginsAt h.nal, discards := r.dec.beginsAt h.nal && (h.noOutput || h.nal = 21), poc := r.dec.hevcCount h, output := h.output }
  | none => i

/-- The parameter sets that STREAM_OPEN carries, and how many have a syntax error (R136, R353). -/
def takeSets (kind : Nat) (ps : Bytes) : Decoder × Nat := let r := readUnit kind {} (annexBUnits ps); (r.dec, r.errors)

/-- Count `n` syntax errors of a context and record each as a DECODE_ERROR (R149, R163). -/
def State.syntaxErrors (s : State) (c n : Nat) : State :=
  (List.range n).foldl (fun s _ => s.recordLimited evDecodeError c [p2 c])
    (s.setCtx c { s.ctx c with syntaxErrors := sat 4 ((s.ctx c).syntaxErrors + n) })

end Sys2Proof.Machine
end

