-- ==== Sys2Proof/Machine/Surface.lean ====
section
/-! DEFINITION. The settings of first start, and the geometry of heads, gangs, windows and tiles (R39, R165, R190, R199, R202). -/

namespace Sys2Proof.Machine

/-! Settings of first start. -/

/-- Window `w` unbound. -/
def defaultWindow (w : Nat) : WindowDesc := { window := w }

/-- The default tone-map profile, whose values the manual does not give (log 5). -/
def defaultTone : ToneProfile :=
  let e (f i : Nat) : Nat := (Config.toneEntry f i).toNat
  let tab (f n md : Nat) : List Nat := (List.range n).map fun i => e f i % md
  let mat (f : Nat) : List Int := (List.range 9).map fun i => ((e f i % 524288 : Nat) : Int) - 262144
  { flags := e 0 0 % 4, yOffset := e 1 0 % 4096, cOffset := e 2 0 % 4096, yuvM := mat 3, gamutM := mat 4
    inLut := tab 5 1024 16777216, tone := tab 6 1024 16777216, outLut := tab 7 1024 4096 }

/-- Phase `phi` of a Paltik default set with `n` taps, whose free values start at `base`: the last tap makes the sum 1 024, as R175 states of every phase; where no 12-bit tap does, the centre tap alone is 1 024 (log 5). -/
def defaultPhase (k base n phi : Nat) : List Int :=
  let ts := (List.range (n - 1)).map fun j => (Config.coefTap k (base + n * phi + j)).toInt
  let last := 1024 - ts.foldl (· + ·) 0
  if -2048 ≤ last && last ≤ 2047 then ts ++ [last] else (List.range n).map fun j => if j = n / 2 - 1 then 1024 else 0

/-- Coefficient set `c` of first start: CS4–CS31 equal CS0 (R175). -/
def defaultCoef (c : Nat) : CoefSet :=
  let k := if c < 4 then c else 0
  { tapsH := (List.range 64).flatMap (defaultPhase k 0 8), tapsV := (List.range 64).flatMap (defaultPhase k 512 6) }

def Settings.window (x : Settings) (w : Nat) : WindowDesc := Map.get (defaultWindow w) x.windows w
def Settings.bg (x : Settings) (h : Nat) : Rgb := Map.get Rgb.black x.bgs h
def Settings.blend (x : Settings) (h : Nat) : List BlendStep := Map.get [] x.blends h
def Settings.tone (x : Settings) (p : Nat) : ToneProfile := Map.get defaultTone x.tones p
def Settings.coef (x : Settings) (c : Nat) : CoefSet := Map.get (defaultCoef c) x.coefs c
def SafetyCfg.policy (c : SafetyCfg) (p : Nat) : Policy := Map.get {} c.policies p
def SafetyCfg.palette (c : SafetyCfg) (p : Nat) : Palette := Map.get {} c.palettes p

/-! Timing (R199). -/

end Sys2Proof.Machine

namespace Sys2Proof

open Machine (bit cdiv)

def TimingRec.hTotal (r : TimingRec) : Nat := r.hActive + r.hFront + r.hSync + r.hBack
def TimingRec.vTotal (r : TimingRec) : Nat := r.vActive + r.vFront + r.vSync + r.vBack
/-- The nominal frame period in ns, rounded up. -/
def TimingRec.period (r : TimingRec) : Nat := cdiv (1000000000 * r.rateDen) r.rateNum
/-- The nominal line period in 2⁻³² ns, rounded up (R38). -/
def TimingRec.line (r : TimingRec) : Nat := cdiv (1000000000 * r.rateDen * 4294967296) (r.rateNum * r.vTotal)
/-- The line period in ns, rounded up. -/
def TimingRec.lineNs (r : TimingRec) : Nat := cdiv r.line 4294967296
/-- The pixel clock in Hz, rounded up. -/
def TimingRec.pixelClock (r : TimingRec) : Nat := cdiv (r.hTotal * r.vTotal * r.rateNum) r.rateDen
/-- Q_p of a part of `w` columns, pixel/s: w × 10⁹ / L for the nominal L (R176). -/
def TimingRec.partRate (r : TimingRec) (w : Nat) : Machine.Frac := { num := w * r.rateNum * r.vTotal, den := r.rateDen }
/-- Number of heads of its gang. -/
def TimingRec.gangSize (r : TimingRec) : Nat := if r.gang % 4 = 1 then 2 else if r.gang % 4 = 2 then 4 else 1
/-- Heads in a row of its gang (R202). -/
def TimingRec.gangCols (r : TimingRec) : Nat :=
  if r.gangSize = 1 then 1 else if r.gang / 4 % 4 = 0 then r.gangSize else if r.gang / 4 % 4 = 1 then 1 else 2
def TimingRec.gangRows (r : TimingRec) : Nat := r.gangSize / r.gangCols
/-- Size of the surface that the gang shows. -/
def TimingRec.surfaceW (r : TimingRec) : Nat := r.gangCols * r.hActive
def TimingRec.surfaceH (r : TimingRec) : Nat := r.gangRows * r.vActive
/-- The leader of the gang that head `h` belongs to (R202). -/
def TimingRec.leader (r : TimingRec) (h : Nat) : Nat := h / r.gangSize * r.gangSize
/-- Offset of head `h` on its surface (R202). -/
def TimingRec.offset (r : TimingRec) (h : Nat) : Nat × Nat :=
  let j := h % r.gangSize
  (j % r.gangCols * r.hActive, j / r.gangCols * r.vActive)

end Sys2Proof

namespace Sys2Proof.Machine

/-- The heads whose frames a generator gives now, in increasing order; a head stopped for a format change is none of them. -/
def State.headsOf (s : State) (g : Nat) : List Nat :=
  allHeads.filter fun h => s.headOn h && !(s.head h).stopped && (match (s.head h).timing with | some r => r.sg == g | none => false)

/-- The heads of the surface that head `l` leads. -/
def State.surface (s : State) (l : Nat) : List Nat :=
  match (s.head l).timing with
  | some r => if r.gangSize = 1 then [l] else (List.range r.gangSize).map fun j => r.leader l + j
  | none => [l]

/-- The first head of a generator that is no follower, whose record times the group. -/
def State.chief (s : State) (g : Nat) : Option TimingRec :=
  ((s.headsOf g).filterMap fun h => (s.head h).timing).find? fun r => r.mode != 3

/-! Rectangles. -/

/-- A window's rectangle clipped to its surface, as left, top, right, bottom with the right and bottom edges outside; empty if left ≥ right or top ≥ bottom (R165). -/
def WinRect (d : WindowDesc) (r : TimingRec) : Int × Int × Int × Int :=
  (max d.x 0, max d.y 0, min (d.x + d.width) r.surfaceW, min (d.y + d.height) r.surfaceH)

def rectEmpty (q : Int × Int × Int × Int) : Bool := q.2.2.1 ≤ q.1 || q.2.2.2 ≤ q.2.1

/-- Intersection of two rectangles. -/
def rectMeet (a b : Int × Int × Int × Int) : Int × Int × Int × Int := (max a.1 b.1, max a.2.1 b.2.1, min a.2.2.1 b.2.2.1, min a.2.2.2 b.2.2.2)

/-- The area of head `h` on its surface. -/
def headRect (r : TimingRec) (h : Nat) : Int × Int × Int × Int :=
  let (ox, oy) := r.offset h
  ((ox : Int), (oy : Int), (ox : Int) + r.hActive, (oy : Int) + r.vActive)

/-- A window's clipped rectangle on head `h`, in the head's own coordinates. -/
def onHead (d : WindowDesc) (r : TimingRec) (h : Nat) : Int × Int × Int × Int :=
  let (a, b, c, e) := rectMeet (WinRect d r) (headRect r h)
  let (ox, oy) := r.offset h
  (a - ox, b - oy, c - ox, e - oy)

/-- Tile columns and rows of a head (R39). -/
def tileCols (r : TimingRec) : Nat := cdiv r.hActive 64
def tileRows (r : TimingRec) : Nat := cdiv r.vActive 64

/-- Tile `i` of a head in the head's coordinates, cut off at the active area. -/
def tileRect (r : TimingRec) (i : Nat) : Int × Int × Int × Int :=
  let c := i % tileCols r
  let w := i / tileCols r
  (((64 * c : Nat) : Int), ((64 * w : Nat) : Int), ((min (64 * c + 64) r.hActive : Nat) : Int), ((min (64 * w + 64) r.vActive : Nat) : Int))

/-- The last tile row that a window meets on head `h`. -/
def lastRow (d : WindowDesc) (r : TimingRec) (h : Nat) : Option Nat :=
  let q := onHead d r h
  if rectEmpty q then none else some ((q.2.2.2 - 1).toNat / 64)

/-- The evaluation row of a window on the heads of its surface (R43). -/
def evalRow (d : WindowDesc) (r : TimingRec) (heads : List Nat) : Nat :=
  match heads.filterMap (lastRow d r) with
  | [] => tileRows r - 1
  | l => maxL l

/-- Tiles of head `h` that a window's clipped rectangle intersects. -/
def tilesOf (d : WindowDesc) (r : TimingRec) (h : Nat) : List Nat :=
  (List.range (tileCols r * tileRows r)).filter fun i => !rectEmpty (rectMeet (onHead d r h) (tileRect r i))

/-! Windows of groups. -/

/-- Windows that a settings copy lists. -/
def Settings.listed (x : Settings) : List WindowDesc := x.windows.map (·.2)

/-- Bound windows of a settings copy, in increasing index. -/
def boundOf (x : Settings) : List WindowDesc := x.listed.filter fun d => d.head != 255

/-- Heartbeat rectangles of a context in the proposed layout, in increasing window (R51). -/
def rectsOf (x : Settings) (src : Nat) : List (Nat × Nat × Nat × Nat) :=
  ((boundOf x).filter fun d => d.source == src && d.hbW != 0).foldl (fun a d => let q := (d.hbX, d.hbY, d.hbW, d.hbH); if a.contains q then a else a ++ [q]) []

/-- Heartbeat slots of a context under a settings copy: a rectangle that stays keeps its slot, a new one takes the lowest free slot (R51). -/
def hbAssign (x : Settings) (c : Nat) (old : Map (Nat × Nat × Nat × Nat)) : Map (Nat × Nat × Nat × Nat) :=
  let rs := rectsOf x c
  let keep := old.filter fun e => rs.contains e.2
  rs.foldl (fun m q => if m.any fun e => e.2 == q then m
    else match (List.range 4).find? fun i => (Map.get? m i).isNone with
      | some i => Map.set m i q
      | none => m) keep

/-- The sync generator whose frames a bound window follows: that of its head. -/
def State.groupOf (s : State) (d : WindowDesc) : Option Nat :=
  if d.head < 16 then (s.head d.head).timing.map (·.sg) else none

/-- The windows a group's active copy binds to the group's own heads. -/
def State.ownWindows (s : State) (g : Nat) : List WindowDesc :=
  (s.grpC g).act.listed.filter fun d => s.groupOf d == some g

/-- The windows a group composes and evaluates: between the two flips of a rebinding across groups a window belongs to neither (R194). -/
def State.groupWindows (s : State) (g : Nat) : List WindowDesc :=
  (s.ownWindows g).filter fun d => (List.range 4).all fun k => k == g || !(s.ownWindows k).any fun e => e.window == d.window

/-- The active descriptor of a window, unbound if no group binds it. -/
def State.activeWindow (s : State) (w : Nat) : WindowDesc :=
  (((List.range 4).flatMap s.groupWindows).find? fun d => d.window == w).getD ((List.range 4).foldl (fun a g => if a.head = 255 then { (s.grpC g).act.window w with head := 255 } else a) (defaultWindow w))

/-- The windows on a surface from bottom to top: Z, then WINDOW (R183), or the steps of the leader's program (R186). The second part is the operator, 0 for fixed z-order. -/
def stackOf (set : Settings) (lead : Nat) (ws : List WindowDesc) : List (WindowDesc × Nat) :=
  match set.blend lead with
  | [] =>
    let key (d : WindowDesc) : Nat := d.z * 1024 + d.window
    (sortBy key ws).map fun d => (d, 0)
  | steps => steps.filterMap fun st => (ws.find? fun d => d.window == st.window).map fun d => (d, st.op)

/-- A source delivers RGB: ST 2110-20 with SAMPLING 1, and every internal source. -/
def State.rgbSource (s : State) (src : Nat) : Bool := if src < 256 then (s.ctx src).decl.kind == 2 && (s.ctx src).decl.sampling == 1 else true

/-! Priority of reasons (Table 2-5). -/

/-- Reason codes, highest priority first. -/
def byPriority : List Nat := [0xB, 0xA, 0x9, 0x7, 0xC, 0x8, 0x3, 0x6, 0x5, 0x1, 0x2, 0x4]

/-- The reason of a bitmask with the highest priority, 0 if none. -/
def topReason (mask : Nat) : Nat := (byPriority.find? fun r => bit mask r).getD 0

/-- Head-scope reasons active on a head, as a bitmask. -/
def Head.mask (h : Head) : Nat := bitsOf [false, false, false, false, false, false, false, false, false, h.starting.isSome, h.retiming.isSome, h.updating.isSome]

/-- The reason a window shows now, head-scope reasons included (R59, R63). -/
def State.shownNow (s : State) (d : WindowDesc) : Nat :=
  topReason ((if d.head < 16 then (s.head d.head).mask else 0) + (s.win d.window).active)

end Sys2Proof.Machine
end

