-- ==== Sys2Proof/Machine/Ingest.lean ====
section
/-! DEFINITION. Stream ingest: filters, policing, PRP, RTP reception, access units, ST 2110-20 pictures (*Stream ingest*). -/

namespace Sys2Proof.Machine

/-! Membership reports (R106, R107). -/

def isMulticast (v6 : Bool) (g : Bytes) : Bool :=
  match g with
  | b :: _ => if v6 then b == 0xFF else b.toNat / 16 == 14
  | [] => false

def Ctx.v6 (c : Ctx) : Bool := bit c.decl.flags 2
def Ctx.multicast (c : Ctx) : Bool := isMulticast c.v6 c.decl.group

/-- An older querier of a family is present on a port (R107). -/
def State.oldQuerier (s : State) (port : Nat) (v6 : Bool) : Bool := s.streams.compat.any fun e => e.1 == port && e.2.1 == (if v6 then 6 else 4) && s.clk < e.2.2

/-- IGMP_COMPAT of a context: one of its ports is in fallback (R107). -/
def State.compatOf (s : State) (x : Ctx) : Bool := x.multicast && (List.range 16).any fun p => bit x.decl.portMask p && s.oldQuerier p x.v6

/-- One membership message of a context on a port: in the version of an older querier where one is present (R106, R107). -/
def State.report (s : State) (x : Ctx) (r : Report) (p : Nat) : State :=
  let d := x.decl
  s.transmit p (if s.oldQuerier p x.v6 then s.oldReport p d.vlan x.v6 r d.group else s.newReport p d.vlan x.v6 (bit d.flags 3) r d.group d.source)

/-- One membership message of a context with a multicast group on each of its ports (R106). -/
def State.membership (s : State) (x : Ctx) (r : Report) : State :=
  if !x.multicast then s else (List.range 16).foldl (fun s p => if bit x.decl.portMask p then s.report x r p else s) s

def Ctx.bucketRate (c : Ctx) (i : Nat) : Nat := if i = 0 then c.decl.bitRate else 11 * c.decl.pktRateMax

/-- Tokens of a bucket now; a bucket not used yet is full. -/
def Ctx.tokens (c : Ctx) (i : Nat) (now : Time) : Nat :=
  let cap := c.bucketRate i * c.decl.depthNs
  match Map.get? c.buckets i with
  | none => cap
  | some (n, t) => min cap (n + c.bucketRate i * (now - t))

/-- Police a packet of `bits` payload bits on port `p` (R102): none if it finds too few tokens in either bucket. -/
def Ctx.police (c : Ctx) (p bits : Nat) (now : Time) : Option Ctx :=
  let a := c.tokens 0 now
  let b := c.tokens (p + 1) now
  if a < bits * 1000000000 || b < 10000000000 then none
  else some { c with buckets := Map.set (Map.set c.buckets 0 (a - bits * 1000000000, now)) (p + 1) (b - 10000000000, now) }

/-! Compressed streams: access units (R113–R116). -/

/-- Whole NAL units of packets in sequence order (R114): what has been rebuilt, and a fragment run that is open with its last sequence number. -/
def nalsOf : List Held → Option (Nat × Bytes) → List Bytes
  | [], _ => []
  | h :: hs, open_ =>
    match h.pkt.payload with
    | .single n => n :: nalsOf hs none
    | .aggregate ns => ns ++ nalsOf hs none
    | .fragment first last d =>
      let run := if first then some (h.seq, d)
        else match open_ with
          | some (q, acc) => if h.seq = q + 1 then some (h.seq, acc ++ d) else none
          | none => none
      match run, last with
      | some (_, acc), true => acc :: nalsOf hs none
      | r, _ => nalsOf hs r
    | _ => nalsOf hs none

/-- The leading run of packets with one RTP timestamp, and the rest. -/
def splitUnit : List Held → List Held × List Held
  | [] => ([], [])
  | h :: hs => ((h :: hs).takeWhile (fun x => x.pkt.ts == h.pkt.ts), (h :: hs).dropWhile (fun x => x.pkt.ts == h.pkt.ts))

/-- Packets are consecutive from `q`. -/
def consecutive : Nat → List Held → Bool
  | _, [] => true
  | q, h :: hs => h.seq == q && consecutive (q + 1) hs

/-- The first access unit is complete (R113). -/
def Ctx.unitComplete (c : Ctx) : Bool :=
  let (u, rest) := splitUnit c.jitter
  match u with
  | [] => false
  | h :: _ =>
    let from_ := c.nextSeq.getD h.seq
    consecutive from_ u && ((u.getLast?.map fun x => x.pkt.marker).getD false || (match rest with | r :: _ => r.seq == from_ + u.length | [] => false))

/-- Release the first access unit of a context to its decoder engine (R113–R115, R130). -/
def State.releaseUnit (s : State) (c : Nat) : State :=
  let x := s.ctx c
  let (u, rest) := splitUnit x.jitter
  match u with
  | [] => s
  | h :: _ =>
    let from_ := x.nextSeq.getD h.seq
    let last := (u.getLast?.map fun y => y.seq).getD h.seq
    let marker := (u.getLast?.map fun y => y.pkt.marker).getD false
    let endsAt := if marker then last + 1 else match rest with | r :: _ => (if h.seq ≤ r.seq then max (last + 1) r.seq else last + 1) | [] => last + 1
    let missing := (endsAt - from_) - u.length
    let gapBefore := h.seq != from_ && x.prevMarker
    let au : AccessUnit := { rtp := h.pkt.ts, arrival := u.foldl (fun a y => a.earlier y.arrival) h.arrival, incomplete := missing != 0
                             degraded := x.degraded, nals := nalsOf u none, order := s.streams.releases }
    let x : Ctx := { x with jitter := rest, nextSeq := some endsAt, prevMarker := marker, lost := sat 4 (x.lost + missing), degraded := false
                            pictures := sat 4 (x.pictures + 1), lastRtp := some h.pkt.ts }
    let x := if x.queue.length ≥ 8 then { x with queueDrops := sat 2 (x.queueDrops + 1) } else { x with queue := x.queue ++ [au] }
    let x := { x with skipping := x.skipping || x.queue.length > 4 }
    let s := s.setCtx c x
    let s := if gapBefore then s.lostMarker c else s
    { s with streams := { s.streams with releases := s.streams.releases + 1 }
             health := if x.skipping then { s.health with conditions := setBit s.health.conditions 1 true } else s.health }

/-- Release access units of a context while the first is complete; at most `n` of them. -/
def State.releaseComplete : Nat → State → Nat → State
  | 0, s, _ => s
  | n + 1, s, c => if (s.ctx c).unitComplete then State.releaseComplete n (s.releaseUnit c) c else s

/-- ACCESS_UNIT_DEADLINE (R113): the first access unit is released at its earliest arrival plus JITTER_DEPTH. -/
def execAccessUnitDeadline (t : Time) (c : Nat) (s : State) : Host.Outcome State Fault Refusal :=
  runIf (c < 256) t s fun s =>
    let x := s.ctx c
    let (u, _) := splitUnit x.jitter
    match u with
    | [] => s
    | h :: _ =>
      let first := u.foldl (fun a y => a.earlier y.arrival) h.arrival
      if first.at_ + x.decl.jitterDepth * us ≤ s.now then
        let s := s.releaseUnit c
        State.releaseComplete (s.ctx c).jitter.length s c
      else s

/-! ST 2110-20 pictures (R117–R120). -/


/-- The received value of component `k` at pixel (x, y), the latest segment first. -/
def segmentSample (segs : List Segment) (sampling k x y : Nat) : Option Nat :=
  (segs.reverse.find? fun g => g.covers x y).bind fun g =>
    let i := if sampling = 1 && k ≠ 0 then (x - g.offset) / 2 else x - g.offset
    (g.planes.getD k [])[i]?

/-- Width of component `k` (4:2:2 halves the chroma planes). -/
def planeWidth (sampling k w : Nat) : Nat := if sampling = 1 && k ≠ 0 then w / 2 else w

/-- The planes of an assembled picture, filled from the previous picture or with mid-grey (R119). -/
def assemblePlanes (segs : List Segment) (prev : Option Picture) (sampling w h grey : Nat) : List (List Nat) :=
  (List.range 3).map fun k =>
    let pw := planeWidth sampling k w
    (List.range h).flatMap fun y => (List.range pw).map fun i =>
      let x := if pw = w then i else 2 * i
      match segmentSample segs sampling k x y with
      | some v => v
      | none => match prev with
        | some p => (p.planes.getD k []).getD (y * pw + i) grey
        | none => grey

/-- The 64×64 blocks that hold a sample no segment covers, 64 blocks per row (R28, R119). -/
def filledBlocks (segs : List Segment) (w h : Nat) : List Nat :=
  (List.range (cdiv h 64)).flatMap fun r => ((List.range (cdiv w 64)).filter fun b =>
    (List.range 64).any fun j => (List.range 64).any fun i =>
      let x := 64 * b + i
      let y := 64 * r + j
      decide (x < w) && decide (y < h) && !(segs.any fun g => g.covers x y)).map fun b => 64 * r + b

/-- Combine a mapped capture with the previous picture's when samples were copied from it (R119). -/
def agedAs (m : TimePair) (p : Tag) : TimePair :=
  let prevOlder := p.capture - p.unc ≤ m.capture - m.unc
  { capture := if prevOlder then p.capture else m.capture, unc := if prevOlder then p.unc else m.unc
    cls := max m.cls p.cls, locked := m.locked && bit p.info 2 }

/-- The pictures that a gap between two RTP timestamps leaves out, at the picture period of the declared rate (R115). -/
def picturesBetween (d : StreamRec) (r rtp : Nat) : Nat :=
  let period := 90000 * d.rateDen
  (2 * (diff32 rtp r).toNat * d.rateNum + period) / (2 * period) - 1

/-- Where the picture before one of timestamp `rtp` ended: the number after its last packet, whether that was its marker-bit packet, and its RTP timestamp. -/
def Ctx.before (x : Ctx) (rtp : Nat) : Option (Nat × Bool × Nat) :=
  match (x.assembly.filter fun b => !b.old && decide (diff32 b.rtp rtp < 0)).getLast? with
  | some b => some (b.lastSeq + 1, b.marker, b.rtp)
  | none => match x.nextSeq, x.lastRtp with
    | some q, some r => some (q, x.prevMarker, r)
    | _, _ => none

/-- The first sequence number of a picture: a gap in front of it belongs to it if it follows a marker-bit packet and leaves out no whole picture (DEDUCED from R115, R118: log 37). -/
def Ctx.startOf (x : Ctx) (a : Assembly) : Nat :=
  match if a.old then none else x.before a.rtp with
  | some (q, m, r) => if m && q < a.firstSeq && picturesBetween x.decl r a.rtp = 0 then q else a.firstSeq
  | none => a.firstSeq

/-- Sequence numbers missing in a picture (R118). -/
def Ctx.gaps (x : Ctx) (a : Assembly) : Nat := a.lastSeq + 1 - x.startOf a - a.seqs.length

/-- A slot without any mark is free (R141); one whose tag write is not acknowledged yet, or that a picture is being assembled in, is not. -/
def Ctx.free (c : Ctx) (i : Nat) : Bool :=
  match c.pool[i]? with
  | some z => !(z.current || z.shortTerm || z.longTerm || z.pending || z.latest || z.held != 0) && !(c.unacked.any fun p => p.tag.slot == i) && !(c.assembly.any fun a => a.slot == some i)
  | none => false

/-- The lowest-numbered free slot (DESIGN CHOICE, log 15). -/
def Ctx.freeSlot (c : Ctx) : Option Nat := (List.range c.pool.length).find? c.free

/-- Complete the ST 2110-20 picture `a` of a context (R118–R120, R100, R115). The previous complete picture is the one tagged before it, acknowledged or not (DEDUCED, log 37). A picture that found no free frame buffer lies in one that the manual does not name (log 15). -/
def State.completeAssembly (s : State) (c : Nat) (a : Assembly) : State :=
  let x := s.ctx c
  let d := x.decl
  let missing := x.gaps a
  let (lostPics, front) := match if a.old then none else x.before a.rtp with
    | some (q, _, r) => if q < a.firstSeq then (picturesBetween d r a.rtp, x.startOf a - q) else (0, 0)
    | none => (0, 0)
  let x := { x with assembly := x.assembly.filter (fun y => !(y.rtp == a.rtp && y.old == a.old)), lost := sat 4 (x.lost + missing + front), pictures := sat 4 (x.pictures + 1) }
  let x := if a.old then x else { x with nextSeq := some (a.lastSeq + 1), lastRtp := some a.rtp, prevMarker := a.marker }
  let s := (List.range lostPics).foldl (fun s _ => s.lostMarker c) (s.setCtx c x)
  let x := s.ctx c
  let top := maxL (a.segments.map fun g => g.line)
  let short := a.marker && missing == 0 && top + 1 < d.maxHeight
  if a.outside || short || !x.rateOk a.rtp then s.outOfEnvelope c
  else
    let prev := x.complete.head?.map (·.2)
    let prev := match x.unacked.getLast? with | some p => some p | none => prev
    let grey := if d.bitDepth = 10 then 512 else 128
    let sampling := if d.sampling = 1 then 2 else 1
    let blocks := filledBlocks a.segments d.maxWidth d.maxHeight
    let m := s.mapCapture x a.rtp a.arrival a.ext
    let extMissing := d.extId != 0 && a.ext.isNone
    let m := match prev with
      | some p => if blocks.isEmpty then m else { m with pair := agedAs m.pair p.tag }
      | none => m
    let buffer := (a.slot.orElse fun _ => x.freeSlot).getD (s.fresh.toNat % (max 1 x.pool.length))
    let p : Picture := { tag := { slot := buffer }, width := d.maxWidth, height := d.maxHeight, depth := d.bitDepth, sampling := sampling
                         map := blocks, planes := assemblePlanes a.segments prev sampling d.maxWidth d.maxHeight grey }
    let s := (s.setCtx c { x with degraded := x.degraded && a.old }).useFree
    s.issueTag c p (some (x.countAlive a.rtp)) m (bitsOf [false, false, (x.degraded && !a.old) || extMissing]) a.rtp

/-- Complete, in order of their RTP timestamps, every picture in assembly up to and including `rtp` (R118). -/
def State.completeUpTo (s : State) (c rtp : Nat) : State :=
  (s.ctx c).assembly.foldl (fun s a => if diff32 a.rtp rtp ≤ 0 then s.completeAssembly c a else s) s

/-- Insert by RTP timestamp. -/
def insertAssembly (a : Assembly) : List Assembly → List Assembly
  | [] => [a]
  | b :: bs => if b.rtp = a.rtp && b.old = a.old then a :: bs else if diff32 a.rtp b.rtp < 0 then a :: b :: bs else b :: insertAssembly a bs

/-- Take one ST 2110-20 packet (R117–R120). -/
def State.takeRows (s : State) (c : Nat) (h : Held) : State :=
  let x := s.ctx c
  let d := x.decl
  match h.pkt.payload with
  | .rows segs =>
    if segs.length > 3 then s.setCtx c { x with malformed := sat 4 (x.malformed + 1) }
    else if x.assembly.any fun y => !y.old && y.seqs.contains h.seq then s.setCtx c { x with dup := sat 4 (x.dup + 1) }
    else if (match x.lastRtp with | some r => decide (diff32 h.pkt.ts r ≤ 0) | none => false) then s.setCtx c { x with late := sat 4 (x.late + 1) }
    else
      let bad := segs.any fun g => d.maxHeight ≤ g.line || d.maxWidth < g.offset + g.length
      let a : Assembly := (x.assembly.find? fun y => !y.old && y.rtp == h.pkt.ts).getD
        { rtp := h.pkt.ts, arrival := h.arrival, slot := x.freeSlot, firstSeq := h.seq, lastSeq := h.seq, seqs := [], marker := false, outside := false
          ext := none, extSeen := false, segments := [], old := false }
      let a := { a with
        arrival := a.arrival.earlier h.arrival, firstSeq := min a.firstSeq h.seq, lastSeq := max a.lastSeq h.seq, seqs := h.seq :: a.seqs
        marker := a.marker || h.pkt.marker, outside := a.outside || bad
        ext := if a.extSeen then a.ext else if h.pkt.extBad then none else h.pkt.ext, extSeen := a.extSeen || h.pkt.ext.isSome || h.pkt.extBad
        segments := if bad then a.segments else a.segments ++ segs }
      let s := s.setCtx c { x with assembly := insertAssembly a x.assembly }
      if a.marker && (s.ctx c).gaps a = 0 then s.completeUpTo c a.rtp else s
  | _ => s.setCtx c { x with malformed := sat 4 (x.malformed + 1) }

/-- ST2110_PICTURE_DEADLINE (R118): earliest arrival + 1/rate + JITTER_DEPTH. -/
def execSt2110PictureDeadline (t : Time) (c : Nat) (s : State) : Host.Outcome State Fault Refusal :=
  runIf (c < 256) t s fun s =>
    let x := s.ctx c
    match (x.assembly.filter fun a => decide (a.arrival.at_ + x.decl.rateDen * 1000000000 / x.decl.rateNum + x.decl.jitterDepth * us ≤ s.now)).getLast? with
    | some a => s.completeUpTo c a.rtp
    | none => s

/-! RTP reception (R112). -/

/-- Insert a packet in sequence order. -/
def insertHeld (h : Held) : List Held → List Held
  | [] => [h]
  | x :: xs => if h.seq < x.seq then h :: x :: xs else x :: insertHeld h xs


def Ctx.heldBytes (c : Ctx) : Nat := sumL (c.jitter.map fun h => cdiv h.pkt.bits 8)

/-- Place a packet by its extended sequence number (R112, R114, R116). -/
def State.place (s : State) (c : Nat) (h : Held) : State :=
  let x := s.ctx c
  if x.decl.kind = 2 then s.takeRows c h
  else if (match x.nextSeq with | some q => decide (h.seq < q) | none => false) then s.setCtx c { x with late := sat 4 (x.late + 1) }
  else if x.jitter.any fun y => y.seq == h.seq then s.setCtx c { x with dup := sat 4 (x.dup + 1) }
  else match h.pkt.payload with
    | .unsupported => s.setCtx c { x with malformed := sat 4 (x.malformed + 1) }
    | .rows _ => s.setCtx c { x with malformed := sat 4 (x.malformed + 1) }
    | _ =>
      if x.heldBytes + cdiv h.pkt.bits 8 > x.decl.jitterBytes then s.setCtx c { x with policed := sat 4 (x.policed + 1) }
      else
        let s := s.setCtx c { x with jitter := insertHeld h x.jitter }
        State.releaseComplete (s.ctx c).jitter.length s c

/-- The classes of a packet against S (R112). -/
inductive SeqClass where
  | ahead (seq : Nat)
  | duplicate
  | earlier (seq : Nat)
  | jump
  deriving DecidableEq, Repr

/-- The class of a sequence number: 16 bits extended, or the 32 bits of ST 2110-20 (R112). -/
def seqClass (wide : Bool) (high seq : Nat) : SeqClass :=
  let md : Nat := if wide then 4294967296 else 65536
  let d := (seq + md - high % md) % md
  if d = 0 then .duplicate
  else if d ≤ 3000 then .ahead (high + d)
  else if md - 3000 ≤ d then (if md - d ≤ high then .earlier (high - (md - d)) else .jump)
  else .jump


/-- The jitter buffer is flushed without release and without marker, and the numbering begins again (R109, R112); an ST 2110-20 picture in assembly goes on to its deadline (DEDUCED, log 37). -/
def Ctx.restart (c : Ctx) : Ctx := { c with jitter := [], assembly := c.assembly.map fun (a : Assembly) => { a with old := true }, nextSeq := none, prevMarker := false, lastRtp := none, jump := none }

/-- Packets and pictures in assembly are discarded with no tag and no marker (R97, R555). -/
def Ctx.flush (c : Ctx) : Ctx := { c.restart with assembly := [] }

/-- One accepted RTP packet meets the sequence state (R112). A new sequence state starts well above 0 so that earlier packets have a place. -/
def State.sequence (s : State) (c : Nat) (arrival : Stamp) (p : RtpPacket) : State :=
  let x := s.ctx c
  let wide := x.decl.kind == 2
  let q := p.seqOf wide
  let start : Nat := (if wide then 4294967296 else 65536) + q
  match x.high with
  | none => (s.setCtx c { x with high := some start }).place c { seq := start, arrival := arrival, pkt := p }
  | some hi =>
    match seqClass wide hi q with
    | .jump =>
      match x.jump with
      | some (h, _) =>
        if (h.pkt.seqOf wide + 1) % (if wide then 4294967296 else 65536) = q then
          let x := { x.restart with high := some start, resyncs := sat 2 (x.resyncs + 1), degraded := true }
          ((s.setCtx c x).place c { h with seq := start - 1 }).place c { seq := start, arrival := arrival, pkt := p }
        else s.setCtx c { x with malformed := sat 4 (x.malformed + 1), jump := some ({ seq := q, arrival := arrival, pkt := p }, s.clk) }
      | none => s.setCtx c { x with jump := some ({ seq := q, arrival := arrival, pkt := p }, s.clk) }
    | cls =>
      let x := match x.jump with
        | some _ => { x with jump := none, malformed := sat 4 (x.malformed + 1) }
        | none => x
      let s := s.setCtx c x
      match cls with
      | .ahead n => (s.setCtx c { x with high := some n }).place c { seq := n, arrival := arrival, pkt := p }
      | .earlier n => s.place c { seq := n, arrival := arrival, pkt := p }
      | _ => s.setCtx c { x with dup := sat 4 (x.dup + 1) }

/-- JUMP_HOLD_EXPIRY (R112): a held jump packet is dropped after JITTER_DEPTH. -/
def execJumpHoldExpiry (t : Time) (c : Nat) (s : State) : Host.Outcome State Fault Refusal :=
  runIf (c < 256) t s fun s =>
    let x := s.ctx c
    match x.jump with
    | some (_, t0) => if t0 + x.decl.jitterDepth * us ≤ s.clk then s.setCtx c { x with jump := none, malformed := sat 4 (x.malformed + 1) } else s
    | none => s

/-! Filters (R108–R110). -/

/-- The first accepted packet makes a JOINING context ACTIVE; a compressed one enters WAIT_ENTRY (R97, R146). -/
def State.accepted (s : State) (c arrival : Nat) : State :=
  let x := s.ctx c
  let x := { x with packets := sat 4 (x.packets + 1), lastArrival := arrival }
  s.setCtx c (if x.state = .joining then { x with state := .active, join := if x.decl.kind = 2 then .idle else .waitEntry, waitSince := s.clk } else x)

/-- A relock to another SSRC (R109). -/
def State.relock (s : State) (c ssrc : Nat) : State :=
  let x := s.ctx c
  let old := x.ssrc.getD 0
  (s.setCtx c { x.restart with ssrc := some ssrc, other := none, high := none, report := none, degraded := true, ownAt := s.clk }).record evSsrcChange [p2 c, p4 old, p4 ssrc]

/-- A packet that passed tests 1–4 meets test 5 (R109): the SSRC is locked, matches, or is relocked to: 1 000 ms have passed without a packet of the locked SSRC or of a third one, and a packet of this one came in that time (DEDUCED, log 37). -/
def State.ssrcTest (s : State) (c ssrc : Nat) : State × Bool :=
  let x := s.ctx c
  let drop (o : Option (Nat × Time × Time)) : State × Bool := (s.setCtx c { x with other := o, filtered := sat 4 (x.filtered + 1) }, false)
  match x.ssrc with
  | none => (s.setCtx c { x with ssrc := some ssrc, ownAt := s.clk, other := none }, true)
  | some k =>
    if k = ssrc then (s.setCtx c { x with ownAt := s.clk, other := none }, true)
    else match x.other with
      | none => drop (some (ssrc, x.ownAt, s.clk))
      | some (o, from_, last) =>
        if o != ssrc then drop (some (ssrc, last, s.clk))
        else if x.decl.ssrc = 0 && from_ + 1000 * ms ≤ s.clk then (s.relock c ssrc, true)
        else drop (some (o, from_, s.clk))

/-- A sender report of the locked SSRC is kept (R88, R89, R110). -/
def State.senderReport (s : State) (c arrival sec_ frac rtp : Nat) : State :=
  let x := s.ctx c
  let ntp : Int := ((sec_ : Int) - 2208988800) * 1000000000 * 4294967296 + (frac : Int) * 1000000000
  let utc (u : Int) : Int := ntp + u * 1000000000 * 4294967296
  let own := (s.mapBase x.decl.clock).bind fun b => (s.base b).utc
  let r : SenderReport :=
    if !bit x.decl.flags 1 then { ntp := ntp, rtp := rtp, usable := true, otherBase := false, arrival := arrival }
    else match own, s.time.utcAny with
      | some u, _ => { ntp := utc u, rtp := rtp, usable := true, otherBase := false, arrival := arrival }
      | none, some u => { ntp := utc u, rtp := rtp, usable := true, otherBase := true, arrival := arrival }
      | none, none => { ntp := ntp, rtp := rtp, usable := false, otherBase := false, arrival := arrival }
  s.setCtx c { x with report := some r }

/-- One datagram at a context that test 1 selected (R108). -/
def State.datagram (s : State) (c port : Nat) (arrival : Stamp) (src : Bytes) (dport : Nat) (b : Bytes) : State :=
  let x := s.ctx c
  let d := x.decl
  if bit d.flags 3 && fit 16 src != fit 16 d.source then s.setCtx c { x with filtered := sat 4 (x.filtered + 1) }
  else match udpBody d dport b with
    | .malformed => s.setCtx c { x with malformed := sat 4 (x.malformed + 1) }
    | .rtcp ps =>
      match ps with
      | [] => s.setCtx c { x with malformed := sat 4 (x.malformed + 1) }
      | r :: _ =>
        let (s, ok) := s.ssrcTest c r.ssrc
        if !ok then s
        else match (s.ctx c).police port 0 s.clk with
        | none => s.setCtx c { s.ctx c with policed := sat 4 ((s.ctx c).policed + 1) }
        | some y =>
          ps.foldl (fun s p => match p with
            | .senderReport ssrc sc fr rtp => if (s.ctx c).ssrc = some ssrc then s.senderReport c arrival.at_ sc fr rtp else s
            | .other _ => s) ((s.setCtx c y).accepted c arrival.at_)
    | .rtp p =>
      if p.payloadType != d.payloadType then s.setCtx c { x with filtered := sat 4 (x.filtered + 1) }
      else
        let (s, ok) := s.ssrcTest c p.ssrc
        if !ok then s
        else match (s.ctx c).police port p.bits s.clk with
          | none => s.setCtx c { s.ctx c with policed := sat 4 ((s.ctx c).policed + 1) }
          | some y => (((s.setCtx c y).accepted c arrival.at_).sequence c arrival p)

/-- Contexts that test 1 of Table 4-5 selects: open, port in PORT_MASK, VLAN, destination and UDP port. -/
def State.selected (s : State) (port vlan : Nat) (v6 : Bool) (dst : Bytes) (dport : Nat) : List Nat :=
  (s.streams.ctx.filter fun e =>
    let d := e.2.decl
    (e.2.state == .joining || e.2.state == .active) && bit d.portMask port && d.vlan == vlan && e.2.v6 == v6 &&
    fit 16 d.group == fit 16 dst && (dport == d.udpPort || dport == d.udpPort + 1)).map (·.1)

/-- Count something at every context a frame is addressed to. -/
def State.countAt (s : State) (cs : List Nat) (f : Ctx → Ctx) : State := cs.foldl (fun s c => s.setCtx c (f (s.ctx c))) s


/-- The contexts that test 1 selects for a frame on port `k`. -/
def State.contextsOf (s : State) (k : Nat) (f : Parsed) : List Nat :=
  match f.ip? with
  | some p => match p.udpPort with
    | some u => s.selected k f.vlan p.v6 p.dst u
    | none => []
  | none => []

/-- A port's own configured address (R104). -/
def Lane.owns (l : Lane) (v6 : Bool) (a : Bytes) : Bool :=
  if v6 then bit l.address.flags 1 && fit 16 l.address.ipv6 == fit 16 a else bit l.address.flags 0 && fit 4 l.address.ipv4 == fit 4 a

/-- The answer of port `k` to a frame that asks for its own address on its own VLAN: ARP, neighbour solicitation, ICMP echo, ICMPv6 echo (R104). -/
def State.answers (s : State) (k : Nat) (f : Parsed) : Option Bytes :=
  let l := s.lane k
  let b := f.body
  if f.qinq || f.vlan != l.address.vlan then none
  else if f.ty = 0x0806 then
    (if rdBe b 0 2 = 1 && rdBe b 2 2 = 0x0800 && rdBe b 6 2 = 1 && l.owns false (sub b 24 4) then some (s.arpReply k f.vlan (sub b 8 6) (sub b 14 4)) else none)
  else match f.ip? with
    | none => none
    | some p =>
      let ty := rd p.body 0 1
      if p.odd then none
      else if p.v6 && p.proto = 58 && ty = 135 && l.owns true (sub p.body 8 16) then some (s.neighbourReply k f.vlan f.srcMac p.src)
      else if l.owns p.v6 p.dst && ((!p.v6 && p.proto = 1 && ty = 8) || (p.v6 && p.proto = 58 && ty = 128)) then some (s.echoReply k f.vlan p.v6 f.srcMac p.src (p.body.drop 4))
      else none

/-- The stream engine that switches to its new image at this instant; the spec gives only that each of the 16 does so in turn, so a free value names it, or none (R517; log 31). -/
def State.engineSwitching (s : State) : Option Nat := if s.activating 2 then some (s.fresh.toNat % 17) else none

/-- A frame on port `k` that has passed duplicate discard: passed to its contexts, answered, or dropped (R103, R104, R108). Packets that arrive at a stream engine while it switches are lost (R517). -/
def State.process (s : State) (k : Nat) (f : Parsed) (arrival : Stamp) : State :=
  let cs := (s.contextsOf k f).filter fun c => s.domOn 6 && !s.prot.halted.contains (2 + (s.ctx c).engine) && s.engineSwitching != some (s.ctx c).engine
  let s := if s.activating 2 then s.useFree else s
  let malformed := s.countAt cs fun x => { x with malformed := sat 4 (x.malformed + 1) }
  match s.answers k f with
  | some a => s.transmit k a
  | none => match f.ip? with
    | none => s
    | some p => match p.udpPort with
      | none => s
      | some u =>
        if f.qinq || p.odd then malformed
        else match p.udp? with
          | none => malformed
          | some b => cs.foldl (fun s c => s.datagram c k arrival p.src u b) s

/-! PRP (R111). -/

/-- Duplicate discard of one trailer at an entry: accepted or not, and the entry after. -/
def PrpEntry.take (e : PrpEntry) (q : Nat) (now : Time) : Bool × PrpEntry :=
  let d := (q + 65536 - e.high % 65536) % 65536
  let e' := { e with lastAt := now }
  if d = 0 then (false, e')
  else if d ≤ 32767 then (true, { e' with high := q, seen := (q :: e.seen).filter fun x => (q + 65536 - x) % 65536 ≤ 255 })
  else if d ≥ 65281 then (if e.seen.contains q then (false, e') else (true, { e' with seen := q :: e.seen }))
  else (true, e')

def State.prpPair (s : State) (k : Nat) : PrpPair := Map.get {} s.streams.prp k
def State.setPrp (s : State) (k : Nat) (x : PrpPair) : State := { s with streams := { s.streams with prp := Map.set s.streams.prp k x } }

/-- One frame of a pair in order: trailer, duplicate discard, counters (R111). -/
def State.prpProcess (s : State) (k : Nat) (h : PrpHeld) : State :=
  let f := parseEther h.frame.bytes
  let s := s.setPrp k { s.prpPair k with done := some h.stamp }
  let arrival : Stamp := { at_ := h.stamp.toNat, d := h.d }
  match f.trailer with
  | some (q, lanB) =>
    let f := f.strip
    let mac := ofBe f.srcMac
    let cs := s.contextsOf h.frame.lane f
    let s := if lanB != (h.frame.lane % 2 == 1) then s.countAt cs fun x => { x with wrongLan := sat 2 (x.wrongLan + 1) } else s
    let p := s.prpPair k
    match p.entries.find? fun e => e.mac == mac with
    | some e =>
      let (ok, e') := e.take q s.clk
      let s := s.setPrp k { p with entries := e' :: p.entries.filter fun y => y.mac != mac }
      if ok then s.process h.frame.lane f arrival else s.countAt cs fun x => { x with prpDiscards := sat 4 (x.prpDiscards + 1) }
    | none =>
      let s := if p.entries.length ≥ 512 then s else s.setPrp k { p with entries := { mac := mac, high := q, seen := [q], lastAt := s.clk } :: p.entries }
      s.process h.frame.lane f arrival
  | none => s.process h.frame.lane f arrival

/-- Insert a held frame in timestamp order, LAN A first of equals. -/
def insertPrp (h : PrpHeld) : List PrpHeld → List PrpHeld
  | [] => [h]
  | x :: xs => if h.stamp < x.stamp || (h.stamp == x.stamp && h.frame.lane % 2 == 0 && x.frame.lane % 2 == 1) then h :: x :: xs else x :: insertPrp h xs

/-- A held frame may be processed: the other port has delivered a frame not earlier, or 1 µs has passed. -/
def PrpPair.ripe (p : PrpPair) (now : Time) (h : PrpHeld) : Bool :=
  (match if h.frame.lane % 2 = 0 then p.lastB else p.lastA with | some x => decide (h.stamp ≤ x) | none => false) || h.at_ + us ≤ now

/-- Process the held frames of a pair in order while the first is ripe. -/
def State.prpDrain : Nat → State → Nat → State
  | 0, s, _ => s
  | n + 1, s, k =>
    let p := s.prpPair k
    match p.held with
    | [] => s
    | h :: hs => if p.ripe s.clk h then State.prpDrain n ((s.setPrp k { p with held := hs }).prpProcess k h) k else s

/-- PRP_HOLD_EXPIRY (R111). -/
def execPrpHoldExpiry (t : Time) (k : Nat) (s : State) : Host.Outcome State Fault Refusal :=
  runIf (k < 8) t s fun s => State.prpDrain (s.prpPair k).held.length s k

/-- PRP_ENTRY_FORGET (R111): 400 ms without a frame. -/
def execPrpEntryForget (t : Time) (k mac : Nat) (s : State) : Host.Outcome State Fault Refusal :=
  runIf (k < 8) t s fun s =>
    let p := s.prpPair k
    s.setPrp k { p with entries := p.entries.filter fun e => !(e.mac == mac && e.lastAt + 400 * ms ≤ s.clk) }

/-- FRAME_RECEIVED (R103, R104, R108, R111, R409). While PD_STREAM is off, packets of contexts are dropped uncounted, and no PRP record is kept (R555). -/
def execFrameReceived (t : Time) (f : Frame) (s : State) : Host.Outcome State Fault Refusal :=
  runIf (f.lane < 16) t s fun s =>
    let l := s.lane f.lane
    let n := f.bytes.length + 4
    if l.state != .up then s
    else if !f.fcsOk || n < 64 || n > 9600 then s.setLane f.lane { l with fcsErrors := sat 4 (l.fcsErrors + 1) }
    else
      let s := s.setLane f.lane { l with rxFrames := sat 4 (l.rxFrames + 1) }
      let stamp := s.rxStamp f.lane f.error
      let p := parseEther f.bytes
      if !bit l.cfg.flags 0 || !s.domOn 6 then s.process f.lane p (s.stampOf stamp.toNat)
      else
        let s := s.countAt (s.contextsOf f.lane p) fun x => if f.lane % 2 = 0 then { x with lanA := some s.clk } else { x with lanB := some s.clk }
        let k := f.lane / 2
        let p := s.prpPair k
        let p := if f.lane % 2 = 0 then { p with lastA := some stamp } else { p with lastB := some stamp }
        let h : PrpHeld := { stamp := stamp, d := (s.stampOf 0).d, at_ := s.clk, frame := f }
        if (match p.done with | some x => decide (stamp < x) | none => false) then (s.setPrp k p).prpProcess k h
        else
          let s := s.setPrp k { p with held := insertPrp h p.held }
          State.prpDrain (s.prpPair k).held.length s k

/-! Membership events (R106, R107). -/

/-- How long an older querier counts as present: twice the default query interval of 125 s and 10 s (RFC 3376 8.12, RFC 3810 9.12; PRESUMED, log 38). -/
def oldQuerierTime : Nat := 260 * sec

/-- IGMP_QUERY: an older querier puts the port into its version for a time; every context that the query asks for is answered on the port (R106, R107). -/
def execIgmpQuery (t : Time) (q : IgmpQuery) (s : State) : Host.Outcome State Fault Refusal :=
  runIf (q.port < 16) t s fun s =>
    let v6 := q.family == 6
    let mine (x : Ctx) : Bool := (x.state == .joining || x.state == .active) && x.multicast && bit x.decl.portMask q.port && x.v6 == v6
    let fresh := q.old && !s.oldQuerier q.port v6
    let s := if q.old then { s with streams := { s.streams with compat := (q.port, q.family, s.clk + oldQuerierTime) :: s.streams.compat.filter fun e => !(e.1 == q.port && e.2.1 == q.family) } } else s
    (s.streams.ctx.filter fun e => mine e.2).foldl (fun s e =>
      let s := if fresh then s.record evJoinCompat [p2 e.1, p2 q.port] else s
      if fresh then s.report e.2 .join q.port
      else if q.group.isEmpty || fit 16 q.group == fit 16 e.2.decl.group then s.report e.2 .answer q.port
      else s) s

/-- IGMP_REPORT_REPEAT (R106): the join report goes out again 1 000 ms after the first. -/
def execIgmpReportRepeat (t : Time) (c : Nat) (s : State) : Host.Outcome State Fault Refusal :=
  runIf (c < 256) t s fun s =>
    let x := s.ctx c
    if (x.state = .joining || x.state = .active) && !x.reported && x.joinedAt + 1000 * ms ≤ s.clk then (s.setCtx c { x with reported := true }).membership x .join else s

/-! The life of a context (R97, R98, R555). -/

/-- A context enters JOINING: a new instance that inherits nothing, with its joins sent (R97, R106, R126). -/
def State.openCtx (s : State) (d : StreamRec) (ps : Bytes) (engine decoder : Nat) (pool : List Slot) (hb : Map (Nat × Nat × Nat × Nat)) : State :=
  let c := d.context
  let x : Ctx := { state := .joining, decl := d, ps := ps, engine := engine, decoder := decoder, intended := true, joinedAt := s.clk
                   ssrc := if d.ssrc = 0 then none else some d.ssrc, pool := pool, slots := pool.length, hbSlots := hb, dec := (takeSets d.kind ps).1 }
  let s := ((s.setCtx c x).syntaxErrors c (takeSets d.kind ps).2).membership x .join
  if s.compatOf x then s.record evJoinCompat (p2 c :: (((List.range 16).filter fun p => bit d.portMask p && s.oldQuerier p x.v6).take 1).map p2) else s

/-- A context enters DRAINING: leaves are sent, packets are discarded, queued units abandoned (R97). -/
def State.drainCtx (s : State) (c : Nat) : State :=
  let x := s.ctx c
  if x.state = .joining || x.state = .active then
    (s.setCtx c { x.flush with state := .draining, intended := false, drainSince := s.clk, queue := [], join := .idle, complete := [], unacked := [] }).membership x .leave
  else s

/-- A context that waits for nothing any more opens (R339, R558). -/
def State.openDue (s : State) (c : Nat) : State :=
  if (s.ctx c).state != .closed then s
  else match s.comp.reopens.find? fun r => r.decl.context == c && r.flip.isNone with
    | some r =>
      let s := { s with comp := { s.comp with reopens := s.comp.reopens.filter fun q => q.decl.context != c } }
      s.openCtx r.decl r.ps r.engine r.decoder (List.replicate r.slots {}) (hbAssign s.comp.committed c [])
    | none => s

/-- The first flip of commit `seq`: the contexts it replaces drain, and those already closed open (R339, R558). -/
def State.firstFlip (s : State) (seq : Nat) : State :=
  let due := (s.comp.reopens.filter fun r => r.flip == some seq).map fun r => r.decl.context
  let s := { s with comp := { s.comp with reopens := s.comp.reopens.map fun (r : Reopen) => if r.flip == some seq then { r with flip := none } else r } }
  due.foldl (fun s c => (s.drainCtx c).openDue c) s

/-- PD_STREAM leaves on (R555): buffers, units not yet released, assemblies, reports and sequence state are discarded without marker. -/
def State.streamOff (s : State) : State :=
  { s with streams := { s.streams with
      ctx := Map.mapV (fun _ x => { x.flush with high := none, report := none }) s.streams.ctx
      prp := [] } }

/-- Instant `k` of a source's periods: 1/rate of a PATTERN, VERIFY_PERIOD of a STILL (R123). -/
def Source.dueAt (x : Source) (k : Nat) : Nat :=
  x.origin + (if x.decl.kind = 1 then cdiv (k * x.decl.rateDen * 1000000000) x.decl.rateNum else k * x.decl.verifyPeriod * ms)

/-- A PATTERN source resumes at the first whole multiple of 1/rate of device time (R555). -/
def Source.resume (x : Source) (now : Nat) : Source :=
  if x.decl.kind = 1 then { x with origin := 0, ticks := now * x.decl.rateNum / (x.decl.rateDen * 1000000000) + 1 } else x

/-- Change slot `i`. -/
def Ctx.setSlot (c : Ctx) (i : Nat) (f : Slot → Slot) : Ctx := { c with pool := c.pool.zipIdx.map fun e => if e.2 = i then f e.1 else e.1 }

/-- A context starts again in WAIT_ENTRY (R131, R137, R555): no SPS is active, and the next IRAP picture begins a sequence. -/
def Ctx.waitEntry (c : Ctx) (now : Time) : Ctx :=
  { c with join := .waitEntry, waitSince := now, recoverTo := none, dec := { c.dec with avc := none, hevc := none, begins := true, dropRasl := false, rasl := [] } }

/-- A context moves to another engine, or resumes (R131): LATEST and HELD marks stay. -/
def Ctx.rejoin (c : Ctx) (now : Time) : Ctx :=
  { c.waitEntry now with envWait := false, missing := []
                         pool := c.pool.map fun z => { z with current := false, shortTerm := false, longTerm := false, pending := false } }

/-- PD_STREAM is on again (R555): reports are sent again and compressed contexts wait for an entry; a slot that is being decoded stays CURRENT. -/
def State.streamOn (s : State) : State :=
  s.streams.ctx.foldl (fun s e =>
    let x := s.ctx e.1
    if x.state = .joining || x.state = .active then
      let y := (s.streams.working.filter fun w => w.2.context == e.1).foldl (fun (y : Ctx) w => y.setSlot w.2.slot fun z => { z with current := true }) (x.rejoin s.clk)
      let z := if x.decl.kind = 2 || x.join = .idle then x else y
      (s.setCtx e.1 { z with joinedAt := s.clk, reported := false }).membership x .join
    else s) { s with streams := { s.streams with src := Map.mapV (fun _ x => x.resume s.now) s.streams.src } }

end Sys2Proof.Machine
end

