-- ==== Sys2Proof/Machine/Sources.lean ====
section
/-! DEFINITION. Internal sources: patterns, loopbacks and stills (R121–R123, R497). -/

namespace Sys2Proof.Machine

/-- One pixel of a base pattern (R123), `f` being full scale. -/
def patternPixel (d : SourceRec) (f x y : Nat) : Rgb :=
  if d.pattern = 0 then
    let j := ((List.range 8).filter fun j => j * d.width / 8 ≤ x).length - 1
    let on (b : Bool) : Nat := if b then f else 0
    { r := on (j = 0 || j = 1 || j = 4 || j = 5), g := on (j < 4), b := on (j % 2 = 0) }
  else if d.pattern = 1 then let v := x * f / (d.width - 1); { r := v, g := v, b := v }
  else if d.pattern = 2 then (if x % 64 = 0 || y % 64 = 0 then { r := f, g := f, b := f } else Rgb.black)
  else d.colour

/-- Pixel of picture `k` of a PATTERN source, with its moving square (R123). -/
def patternAt (d : SourceRec) (k x y : Nat) : Rgb :=
  let f := 2 ^ d.bitDepth - 1
  let left := 64 * (k % cdiv d.width 64)
  if y < 64 && left ≤ x && x < left + 64 then { r := f, g := f, b := f } else patternPixel d f x y

/-- The three planes of an RGB picture given by its pixels. -/
def planesOf (w h : Nat) (px : Nat → Nat → Rgb) : List (List Nat) :=
  let ps := (List.range h).flatMap fun y => (List.range w).map fun x => px x y
  [ps.map Rgb.r, ps.map Rgb.g, ps.map Rgb.b]

/-- A picture of an internal source is tagged (R122, R124): ARRIVAL, UNTIMED, CAPTURE_UNC 0. Its frame buffers are used in turn (DESIGN CHOICE, log 15). -/
def State.issueSource (s : State) (i : Nat) (p : Picture) (capture : Int) : State :=
  let x := s.src i
  let alive := match x.prevTag with | none => 0 | some _ => (x.alive + 1) % 4294967296
  let slot := if x.decl.kind = 3 then 0 else x.count % 3
  let g := formTag (256 + i) x.prevTag (some alive) { capture := capture, unc := 0, cls := 2, locked := false } s.infoBase 0 slot s.now [] (0, [0, 0, 0, 0])
  (s.setSrc i { x with alive := alive, prevTag := some g.tag, unacked := x.unacked ++ [{ p with tag := g.tag }], count := x.count + 1 }).recordTagged g |>.writeTag g.tag (mapBytes [])

/-- PATTERN_PICTURE (R123): one picture per period of device time, while PD_STREAM is on (R555). -/
def execPatternPicture (t : Time) (i : Nat) (s : State) : Host.Outcome State Fault Refusal :=
  runIf (i < 16) t s fun s =>
    let x := s.src i
    if x.decl.kind = 1 && s.domOn 6 && x.dueAt x.ticks ≤ s.now then
      let d := x.decl
      let p : Picture := { tag := {}, width := d.width, height := d.height, depth := d.bitDepth, sampling := 2, fullRange := true
                           planes := planesOf d.width d.height (patternAt d x.count) }
      (s.setSrc i { x with ticks := x.ticks + 1 }).issueSource i p s.now
    else s

/-- STILL_VERIFY_PERIOD (R123, R497): a verification is queued unless the previous one is queued or running. While PD_STREAM or PD_SCAN is off the period passes unused (R555). -/
def execStillVerifyPeriod (t : Time) (i : Nat) (s : State) : Host.Outcome State Fault Refusal :=
  runIf (i < 16) t s fun s =>
    let x := s.src i
    if x.decl.kind = 3 && x.dueAt (x.ticks + 1) ≤ s.now then
      let queued := s.health.stillJobs.contains i || !s.domOn 6 || !s.domOn 3
      let s := s.setSrc i { x with ticks := x.ticks + 1, queuedAt := if queued then x.queuedAt else some s.now }
      if queued then s else { s with health := { s.health with stillJobs := s.health.stillJobs ++ [i] } }
    else s

/-- The picture of a STILL. -/
def Source.still (x : Source) : Picture :=
  { tag := {}, width := x.decl.width, height := x.decl.height, depth := x.decl.bitDepth, sampling := 2, fullRange := true, planes := x.image }

/-- STILL_VERIFY_DONE (R123, R497): the verification at the head of the still unit's queue ends with the CRC it computed. -/
def execStillVerifyDone (t : Time) (crc : Nat) (s : State) : Host.Outcome State Fault Refusal :=
  run t s fun s =>
    match s.health.stillJobs with
    | [] => s
    | i :: rest =>
      let x := s.src i
      let s := ({ s with health := { s.health with stillJobs := rest } }).setSrc i { x with queuedAt := none, verifyFailed := crc != x.decl.stillCrc }
      if crc != x.decl.stillCrc then s.record evStillCorrupt [p2 (256 + i)]
      else if s.domOn 6 then s.issueSource i x.still (x.queuedAt.getD 0)
      else s

end Sys2Proof.Machine
end

