-- ==== Sys2Proof/Machine/Pixels.lean ====
section
/-! DEFINITION. The pixel pipeline, shutters and badges: the output code of every pixel (R169–R188, R225–R231). -/

namespace Sys2Proof.Machine

/-! Stages 1 and 2: crop and chroma (R166, R170, R171). -/

/-- Sample `k` of a picture at luma position (x, y), the nearest of the picture where (x, y) lies outside it. -/
def Picture.sample (p : Picture) (k x y : Nat) : Nat :=
  let x := min x (p.width - 1)
  let y := min y (p.height - 1)
  let pl := p.planes.getD k []
  if k = 0 || p.sampling = 2 then pl.getD (y * p.width + x) 0
  else if p.sampling = 1 then pl.getD (y * (p.width / 2) + x / 2) 0
  else pl.getD (y / 2 * (p.width / 2) + x / 2) 0

/-- A cropped sample extended to 12 bits (R171). -/
def cropped (d : WindowDesc) (p : Picture) (k x y : Nat) : Nat := p.sample k (d.cropX + x) (d.cropY + y) * (if p.depth = 8 then 16 else 4)

/-- The key mask of a cropped pixel (R170). -/
def keyMask (d : WindowDesc) (p : Picture) (x y : Nat) : Bool :=
  let s (k : Nat) : Nat := p.sample k (d.cropX + x) (d.cropY + y)
  !bit d.flags 0 || s 0 != d.key.r || s 1 != d.key.g || s 2 != d.key.b

/-! Stage 3: scaling (R172–R174). -/

/-- P_i, with 16 fractional bits (R173). -/
def position (i s d : Nat) : Int := ((2 * i + 1) * s * 65536 / (2 * d) : Nat) - 32768

/-- The integer position and the phase (R173). -/
def place (i s d : Nat) : Int × Nat :=
  let p := position i s d
  (p / 65536, ((p % 65536) / 1024).toNat)

/-- One filtered sample: `n` taps from position k − before (R174). -/
def filtered (taps : List Int) (n before i s d : Nat) (src : Nat → Nat) : Nat :=
  let (k, phi) := place i s d
  let acc := (List.range n).foldl (fun (a : Int) j => a + taps.getD (n * phi + j) 0 * (src (clampI 0 ((s : Int) - 1) (k - before + j)).toNat : Int)) 512
  (clampI 0 4095 (acc / 1024)).toNat

/-- The horizontal result on cropped line `y` (R172, R174). -/
def scaledH (c : CoefSet) (d : WindowDesc) (p : Picture) (k i y : Nat) : Nat :=
  if d.cropW = d.width then cropped d p k i y else filtered c.tapsH 8 3 i d.cropW d.width fun x => cropped d p k x y

/-- Component `k` of window pixel (i, j) after scaling. -/
def scaled (c : CoefSet) (d : WindowDesc) (p : Picture) (k i j : Nat) : Nat :=
  if d.cropH = d.height then scaledH c d p k i j else filtered c.tapsV 6 2 j d.cropH d.height fun y => scaledH c d p k i y

/-- The integer position of R173 clamped into the crop, which is `i` itself on a unity axis (R178). -/
def maskPos (i s d : Nat) : Nat := if s = d then i else (clampI 0 ((s : Int) - 1) (place i s d).1).toNat

/-- a_pixel of window pixel (i, j) (R178). -/
def pixelAlpha (d : WindowDesc) (p : Picture) (i j : Nat) : Nat :=
  if keyMask d p (maskPos i d.cropW d.width) (maskPos j d.cropH d.height) then 4095 else 0

/-! Stages 4–7: tone mapping (R180–R182). -/

/-- One matrix row over three components in units of 2⁻¹⁶, clamped. -/
def matRow (m : List Int) (row : Nat) (a b c : Int) (hi : Nat) : Nat :=
  (clampI 0 hi ((m.getD (3 * row) 0 * a + m.getD (3 * row + 1) 0 * b + m.getD (3 * row + 2) 0 * c + 32768) / 65536)).toNat

/-- The input transfer LUT (R180). -/
def inputLut (t : List Nat) (v : Nat) : Nat :=
  let i := v / 4
  let l (k : Nat) : Int := t.getD k 0
  (clampI 0 16777215 (l i + ((l (min (i + 1) 1023) - l i) * ((v - 4 * i : Nat) : Int) + 2) / 4)).toNat

/-- X[k] of the breakpoint grid (R182). -/
def gridX (k : Nat) : Nat := 2 ^ (k / 64 + 8) + (k - 64 * (k / 64)) * 2 ^ (k / 64 + 2)

/-- The breakpoint of an input of 256 and above: the group from its leading bit, the point within the group (R182). -/
def gridPoint (x : Nat) : Nat :=
  let g := min 15 (x.log2 - 8)
  min 1023 (64 * g + (x - 2 ^ (g + 8)) / 2 ^ (g + 2))

/-- A table on the breakpoint grid (R182). -/
def gridLut (t : List Nat) (x : Nat) : Int :=
  let v (k : Nat) : Int := t.getD k 0
  if x < 256 then (v 0 * x + 128) / 256
  else
    let k := gridPoint x
    if k = 1023 then v 1023 + ((v 1023 - v 1022) * ((x - gridX 1023 : Nat) : Int) + 65536) / 131072
    else
      let g := k / 64
      v k + ((v (k + 1) - v k) * ((x - gridX k : Nat) : Int) + (2 ^ (g + 1) : Nat)) / (2 ^ (g + 2) : Nat)

/-- Stages 4 to 7 of a pixel. -/
def toneMap (t : ToneProfile) (rgb : Bool) (a b c : Nat) : Rgb :=
  let y : Int := (a : Int) - t.yOffset
  let cb : Int := (b : Int) - t.cOffset
  let cr : Int := (c : Int) - t.cOffset
  let v (row raw : Nat) : Nat := if rgb then raw else matRow t.yuvM row y cb cr 4095
  let r := inputLut t.inLut (v 0 a)
  let g := inputLut t.inLut (v 1 b)
  let l := inputLut t.inLut (v 2 c)
  let gm (row raw : Nat) : Nat := if bit t.flags 1 then matRow t.gamutM row r g l 16777215 else raw
  let tone (x : Nat) : Nat := if bit t.flags 0 then (clampI 0 16777215 (gridLut t.tone x)).toNat else x
  let out (x : Nat) : Nat := (clampI 0 4095 (gridLut t.outLut (tone x))).toNat
  { r := out (gm 0 r), g := out (gm 1 g), b := out (gm 2 l) }

/-- The 12-bit display code of window pixel (i, j) of a picture (stages 1–7). -/
def windowPixel (set : Settings) (d : WindowDesc) (p : Picture) (i j : Nat) : Rgb :=
  let c := set.coef d.scaleSet
  toneMap (set.tone d.toneProfile) (p.sampling == 2) (scaled c d p 0 i j) (scaled c d p 1 i j) (scaled c d p 2 i j)

/-! Stage 8: blending (R183, R187). -/

/-- One component of a blend step. -/
def blendC (op a s d : Nat) : Nat :=
  match op with
  | 1 => s
  | 2 => min 4095 (d + (a * s + 2047) / 4095)
  | 3 => (a * ((s * d + 2047) / 4095) + (4095 - a) * d + 2047) / 4095
  | 4 => if a ≥ 2048 then d ^^^ s else d
  | _ => (a * s + (4095 - a) * d + 2047) / 4095

def blendRgb (op a : Nat) (s d : Rgb) : Rgb := { r := blendC op a s.r d.r, g := blendC op a s.g d.g, b := blendC op a s.b d.b }

/-- a of R183. -/
def stepAlpha (plane pixel : Nat) : Nat := (plane * pixel + 2047) / 4095

/-- Stage 9 (R185). -/
def quantise (bpc v : Nat) : Nat := if bpc = 10 then min 1023 ((v + 2) / 4) else min 255 ((v + 8) / 16)

/-! Shutters and badges (R225–R231). -/

/-- The width of a glyph (Table 8-3), by its GLYPH_GET code. -/
def glyphWidth (g : Nat) : Nat :=
  if g < 15 then 16 else if g < 17 then 80 else if g = 17 then 96 else if g = 18 then 64 else if g = 19 then 144 else 128

/-- The badge word of a reason (Table 2-5). -/
def badgeWord (reason : Nat) : Nat :=
  match reason with
  | 1 => 15 | 2 => 17 | 3 => 19 | 5 => 18 | 9 => 20 | 10 => 21 | 11 => 22 | _ => 16

/-- Decimal digits of a number, without leading zeros; at most `n` of them. -/
def digitsOf : Nat → Nat → List Nat
  | 0, _ => []
  | n + 1, v => if v < 10 then [v] else digitsOf n (v / 10) ++ [v % 10]

/-- Two digits. -/
def twoDigits (v : Nat) : List Nat := [v / 10, v % 10]

/-- The glyphs of a readout of `t` µs (Table 8-4). -/
def readout (t : Nat) : List Nat :=
  if t < 1000000 then digitsOf 8 (t / 1000) ++ [14, 13]
  else if t < 60000000 then digitsOf 8 (t / 1000000) ++ [10, t % 1000000 / 100000, 14, 12]
  else if t < 3600000000 then digitsOf 8 (t / 60000000) ++ [11] ++ twoDigits (t / 1000000 % 60)
  else digitsOf 8 (t / 3600000000) ++ [11] ++ twoDigits (t / 60000000 % 60) ++ [11] ++ twoDigits (t / 1000000 % 60)

/-- The glyphs of a badge (R230, R231): NO_SOURCE and a saturated value have no readout. -/
def badgeText (reason t : Nat) : List Nat :=
  if reason = 3 || t = 0xFFFFFFFF then [badgeWord reason] else badgeWord reason :: 14 :: readout t

def textWidth (gs : List Nat) : Nat := sumL (gs.map glyphWidth)

/-- Bit of a glyph bitmap at column `x`, line `y` (R229). -/
def glyphBit (rom g x y : Nat) : Bool := bit (Config.glyph rom g (y * (glyphWidth g / 8) + x / 8)).toNat (7 - x % 8)

/-- Bit of a badge's text at column `x`, line `y`. -/
def textBit (rom : Nat) : List Nat → Nat → Nat → Bool
  | [], _, _ => false
  | g :: gs, x, y => if x < glyphWidth g then glyphBit rom g x y else textBit rom gs (x - glyphWidth g) y

/-- A shutter pixel at surface coordinates (x, y); (bx, by) is the same pixel relative to the badge box's top-left corner (R225, R230). -/
def shutterPixel (rom : Nat) (pal : Palette) (reason t x y : Nat) (bx bY : Int) : Rgb :=
  let gs := badgeText reason t
  let w := textWidth gs
  if 0 ≤ bx && bx < ((w + 16 : Nat) : Int) && 0 ≤ bY && bY < 32 then
    let cx := bx.toNat
    let cy := bY.toNat
    if 8 ≤ cx && cx < w + 8 && 4 ≤ cy && cy < 28 && textBit rom gs (cx - 8) (cy - 4) then pal.badgeFg else pal.badgeBg
  else if (x + y) % 16 < 8 then pal.stripeA else pal.stripeB

/-! A head's output. -/

/-- Composition of window `d`, whose run-time state `win` gives, over `c` at surface pixel (x, y) on head `h`, whose line is `line` (R183, R184, R187). -/
def composeWindow (win : Nat → Win) (set : Settings) (cfg : SafetyCfg) (r : TimingRec) (h line x y : Nat) (c : Rgb) (e : WindowDesc × Nat) : Rgb :=
  let (d, op) := e
  let q := WinRect d r
  if !(q.1 ≤ (x : Int) && (x : Int) < q.2.2.1 && q.2.1 ≤ (y : Int) && (y : Int) < q.2.2.2) then c
  else
    let w := win d.window
    if w.shown != 0 then
      blendRgb 0 4095 (shutterPixel 0 (cfg.palette (cfg.policy d.policy).palette) w.shown w.ageUs x y ((x : Int) - q.1 - 8) ((y : Int) - q.2.1 - 8)) c
    else if (match Map.get? w.offAt h with | some l => decide (l ≤ line) | none => false) then blendRgb 0 4095 d.void c
    else match w.latched with
      | none => c
      | some p =>
        let i := ((x : Int) - d.x).toNat
        let j := ((y : Int) - d.y).toNat
        blendRgb op (stepAlpha d.planeAlpha (pixelAlpha d p i j)) (windowPixel set d p i j) c

/-- The readout of a head-scope reason in µs (R231). -/
def Head.readout (x : Head) : Nat :=
  let on := match x.reason with | 9 => x.starting | 10 => x.retiming | 11 => x.updating | _ => none
  match on with
  | some t => min 0xFFFFFFFF (cdiv (x.tf - t) 1000)
  | none => 0

/-- The 12-bit code of head `h` at (x, y) of its active area (R167, R183, R225). -/
def State.headPixel (s : State) (r : TimingRec) (h x y : Nat) : Rgb :=
  let grp := s.grpC r.sg
  let (ox, oy) := r.offset h
  let hd := s.head h
  if hd.reason != 0 then
    shutterPixel 0 (grp.safety.palette grp.safety.headPalette) hd.reason hd.readout (ox + x) (oy + y) ((x : Int) - 8) ((y : Int) - 8)
  else
    let lead := r.leader h
    (stackOf grp.act lead ((s.groupWindows r.sg).filter fun d => d.head == lead)).foldl (composeWindow s.win grp.act grp.safety r h y (ox + x) (oy + y)) (grp.act.bg h)

/-- The output codes of head `h` at (x, y) (R185). -/
def State.outPixel (s : State) (r : TimingRec) (h x y : Nat) : Rgb :=
  let c := s.headPixel r h x y
  { r := quantise r.bpc c.r, g := quantise r.bpc c.g, b := quantise r.bpc c.b }

end Sys2Proof.Machine
end

