-- ==== Sys2Proof/Machine/Windows.lean ====
section
/-! DEFINITION. Latching and judging windows, flips, scaler assignments, tile records (R37–R64, R176, R190–R194, R216, R217, R244, R556). -/

namespace Sys2Proof.Machine

/-! The latched picture (R37, R57). -/

/-- A source may be shown: its context is neither closed nor draining, its internal source is configured (R57). -/
def State.shows (s : State) (src : Nat) : Bool :=
  if src < 256 then (s.ctx src).state == .active else (s.src (src - 256)).decl.kind != 0

/-- Completed pictures of a source that may be shown, newest first. -/
def State.pictures (s : State) (src : Nat) : List (Time × Picture) :=
  if !s.shows src then [] else if src < 256 then (s.ctx src).complete else (s.src (src - 256)).complete

/-- The picture that a window latches: the latest complete before the latch instant `at_` and after the binding instant (R37, R192). -/
def State.latchOf (s : State) (at_ : Time) (d : WindowDesc) : Option Picture :=
  ((s.pictures d.source).find? fun e => e.1 < at_ && (s.win d.window).bindAt < e.1).map (·.2)

/-! Concealment (R55). -/

/-- Source columns or lines that output positions [a, b) read, widened by `m`, within the crop, as [first, last]. -/
def footAxis (a b : Nat) (crop size m : Nat) : Nat × Nat := (a * crop / size - m, min (cdiv (b * crop) size + m) crop - 1)

/-- A tile of a window on head `h` is concealed: its footprint meets a set block. -/
def tileConcealed (d : WindowDesc) (r : TimingRec) (h : Nat) (map : List Nat) (i : Nat) : Bool :=
  let q := rectMeet (onHead d r h) (tileRect r i)
  let (ox, oy) := r.offset h
  if rectEmpty q then false
  else
    let rel (v : Int) (o : Nat) (e : Int) : Nat := (v + o - e).toNat
    let (x0, x1) := footAxis (rel q.1 ox d.x) (rel q.2.2.1 ox d.x) d.cropW d.width 4
    let (y0, y1) := footAxis (rel q.2.1 oy d.y) (rel q.2.2.2 oy d.y) d.cropH d.height 3
    map.any fun b =>
      let bx := b % 64
      let bY := b / 64
      (d.cropX + x0) / 64 ≤ bx && bx ≤ (d.cropX + x1) / 64 && (d.cropY + y0) / 64 ≤ bY && bY ≤ (d.cropY + y1) / 64

/-- N_win and N_c of a window over the heads of its surface (R55). -/
def concealCount (d : WindowDesc) (r : TimingRec) (heads : List Nat) (map : List Nat) : Nat × Nat :=
  heads.foldl (fun a h =>
    let ts := tilesOf d r h
    (a.1 + ts.length, a.2 + (ts.filter (tileConcealed d r h map)).length)) (0, 0)

/-! Heartbeats (R53, R54). -/

/-- The heartbeat CRC of a window's rectangle in a picture, none if its HB_VALID bit is 0. -/
def windowHb (d : WindowDesc) (p : Picture) : Option Nat :=
  match p.hbRects.find? fun e => e.2 == (d.hbX, d.hbY, d.hbW, d.hbH) with
  | some (k, _) => if bit p.tag.hbValid k then p.tag.hb[k]? else none
  | none => none

/-- HB_LAST and HB_TIME after a window has latched a picture. -/
def Win.heartbeat (w : Win) (d : WindowDesc) (p : Picture) : Win :=
  if d.hbW = 0 then w
  else
    let c := windowHb d p
    if w.hbNew then { w with hbNew := false, hbLast := c, hbTime := p.tag.complete }
    else if c.isSome && c != w.hbLast then { w with hbLast := c, hbTime := p.tag.complete }
    else w

/-! Checks (R49–R61). -/

/-- A reason with recovery after a check: it fails, or it passes until RECOVER_FRAMES passing frames clear it (R60). `i` is its pass counter. -/
def Win.check (w : Win) (code i recover : Nat) (fails : Bool) : Win :=
  if fails then { w with active := setBit w.active code true, passes := Map.set w.passes i 0 }
  else
    let n := Map.get 0 w.passes i + 1
    if bit w.active code && n ≥ recover then { w with active := setBit w.active code false, passes := Map.set w.passes i n }
    else { w with passes := Map.set w.passes i n }

/-- What the frame to be evaluated is: its latch instant on the main reference count, the record of the surface, its heads, t_f, L, U(n), the leader's frame number, and whether time is trusted. -/
structure FrameCtx where
  latch : Time
  rec_ : TimingRec
  heads : List Nat
  tf : Nat
  lp : Nat
  u : Nat
  frame : Nat
  trusted : Bool
  deriving DecidableEq, Repr

/-- The checks of a window that has latched a picture. An active TIME reason ends without recovery once the window's policy no longer requires trusted time, as no TIME check applies then (DESIGN CHOICE, log 17). -/
def Win.judge (w : Win) (d : WindowDesc) (pol : Policy) (f : FrameCtx) (p : Picture) : Win :=
  let tw := rowInstant f.tf f.lp (evalRow d f.rec_ f.heads)
  let w := w.heartbeat d p
  let age := Machine.ageUs p.tag tw f.u
  let freeze := tw - p.tag.advance
  let (nWin, nC) := concealCount d f.rec_ f.heads p.map
  let w := { w with ageUs := age, freezeMs := sat 4 (freeze / 1000000), concealed := nC }
  let w := w.check 1 0 pol.recoverFrames (age > pol.ageLimit)
  let w := w.check 2 1 pol.recoverFrames (freeze > pol.freezeLimit * 1000000 || (pol.hbPeriod != 0 && tw - w.hbTime > pol.hbPeriod * 1000000))
  let w := w.check 4 2 pol.recoverFrames (nC ≥ 1 && 100 * nC ≥ pol.concealPct * nWin)
  if bit pol.control 0 then w.check 5 3 pol.recoverFrames (!p.tag.trusted f.trusted)
  else { w with active := setBit w.active 5 false, passes := Map.set w.passes 3 0 }

/-- UNDERRUN at a latch instant (R217). -/
def Win.underrun (w : Win) (recover : Nat) : Win :=
  if w.underrunDue then { w with active := setBit w.active 8 true, underrunDue := false }
  else if bit w.active 8 && Map.get 0 w.passes 4 ≥ recover then { w with active := setBit w.active 8 false }
  else w

/-- What happened to LANTERN at a latch instant. -/
inductive LanternStep where
  | none | activated | latched | cleared
  deriving DecidableEq, Repr

/-- LANTERN of a window at the latch instant of a frame with t_f (R243, R244, R246): a device-wide fault latches it on a safety window, a mismatch makes it active, a LANTERN_CLEAR ends it. The retry of R244 is LANTERN_RETRY's. A window whose KIND changes keeps the reason until one of these ends it. -/
def Win.lantern (w : Win) (safety deviceFault : Bool) (tf : Nat) : Win × LanternStep :=
  let on := bit w.active 7
  let v := { w with mismatch := false, lanternClear := false }
  if safety && deviceFault then ({ v with active := setBit w.active 7 true, lanternFault := true }, .none)
  else if w.mismatch then
    if on then ({ v with lanternAt := tf, lanternLatched := w.lanternLatched && !w.lanternClear, lanternFault := w.lanternFault && !w.lanternClear }, .none)
    else
      let acts := tf :: w.lanternActs.filter fun a => tf ≤ a + 60000 * ms
      let latch := acts.length ≥ 3
      ({ v with active := setBit w.active 7 true, lanternAt := tf, lanternActs := acts.take 3, lanternLatched := latch, unproven := false }, if latch then .latched else .activated)
  else if on && w.lanternClear then ({ v with active := setBit w.active 7 false, lanternLatched := false, lanternFault := false, unproven := safety }, .cleared)
  else ({ v with unproven := w.unproven && safety, skipRun := if safety then w.skipRun else 0 }, .none)

/-- A latched picture is smaller than the crop (R166). -/
def cropExceeds (d : WindowDesc) (p : Picture) : Bool := p.width < d.cropX + d.cropW || p.height < d.cropY + d.cropH

/-- A window latches and is judged for a frame; the event SHUTTER_CHANGE follows a change of its recorded reason (R61, R64). A tag that cannot be read leaves it its previous picture (R399). A window that has latched no picture has no age, freeze time or N_c: its record holds free values (log 5). -/
def State.evaluate (s : State) (grp : Group) (f : FrameCtx) (d : WindowDesc) : State :=
  let w := s.win d.window
  let pol := grp.safety.policy d.policy
  let lat := if w.badTag then w.latched.filter fun p => p.tag.source == d.source && s.shows d.source else s.latchOf f.latch d
  let ooe := if d.source < 256 then (if bit w.active 6 then (s.ctx d.source).ooe else (s.ctx d.source).lastOoe) else false
  let w := { w with latched := lat, badTag := false, refused := false, frame := f.frame, offAt := [] }
  let w := match lat with
    | some p => w.judge d pol f p
    | none => { w with ageUs := s.fresh.toNat % 4294967296, freezeMs := s.fresh.toNat / 4294967296, concealed := s.useFree.fresh.toNat % 65536 }
  let w := w.underrun pol.recoverFrames
  let (w, step) := w.lantern (d.kind == 2) (s.comp.selftestFail || s.comp.domainLost) f.tf
  let w := { w with active := setBit (setBit (setBit w.active 3 lat.isNone) 6 ooe) 12 w.shed }
  let old := w.shown
  let w := { w with shown := topReason w.active }
  let s := (if lat.isNone then s.useFree.useFree else s).setWin d.window w
  let s := if lat.any (cropExceeds d) then s.recordLimited evCropExceeds d.window [p2 d.window] else s
  let s := match step with
    | .latched =>
      let hd := s.head d.head
      (s.setHead d.head { hd with latches := sat 2 (hd.latches + 1) }).recordAt evLanternLatched f.tf [p2 d.window]
    | .cleared => s.recordAt evLanternCleared f.tf [p2 d.window]
    | _ => s
  if old != w.shown then
    s.recordAt evShutterChange f.tf [p2 d.window, p2 d.head, p8 f.frame, p1 old, p1 w.shown, p2 (w.active + (s.head d.head).mask), p4 w.ageUs]
  else s

/-! Holds (R37, R141). -/

/-- The HELD marks of the slots of context `c` follow the list of holds. -/
def State.markHeld (s : State) (c : Nat) : State :=
  let x := s.ctx c
  let sgOf (h : Nat) : Nat := (s.head h).timing.elim 0 TimingRec.sg
  let held (k : Nat) : Nat := bitsOf ((List.range 4).map fun g => s.comp.holds.any fun e => e.source == c && e.slot == k && !e.detached && sgOf e.head == g)
  s.setCtx c { x with pool := x.pool.zipIdx.map fun e => { e.1 with held := held e.2 } }

/-- Replace the holds; marks of the contexts concerned follow, and detached buffers whose last mark clears are released (R98). -/
def State.setHolds (s : State) (hs : List Hold) : State :=
  let cs := dedup (((s.comp.holds ++ hs).map Hold.source).filter fun c => c < 256)
  let s := { s with comp := { s.comp with holds := hs } }
  let s := cs.foldl (fun s c => if (s.ctx c).pool.isEmpty then s else s.markHeld c) s
  { s with streams := { s.streams with detached := s.streams.detached.filter fun d => hs.any fun e => e.detached && e.source == d.context && e.slot == d.slot } }

/-! Scalers (R176, R556). -/

/-- The parts of a window by gang row that need an assignment: row, clipped rectangle on that row, and 1 or 2 scalers. -/
def scalerParts (d : WindowDesc) (r : TimingRec) : List (Nat × List Int × Nat) :=
  if d.cropW = d.width && d.cropH = d.height then []
  else (List.range r.gangRows).filterMap fun row =>
    let q := rectMeet (WinRect d r) (0, ((row * r.vActive : Nat) : Int), (r.surfaceW : Int), (((row + 1) * r.vActive : Nat) : Int))
    if rectEmpty q then none
    else
      let wp := (q.2.2.1 - q.1).toNat
      let fits (n : Nat) : Bool := wp ≤ 4096 * n && (r.partRate wp).up ≤ 600000000 * n
      some (row, [q.1, q.2.1, q.2.2.1, q.2.2.2], if fits 1 then 1 else 2)

/-- The lowest-numbered in-service scalers that no assignment uses. -/
def State.freeScalers (s : State) (n : Nat) : List Nat :=
  ((s.health.scalers).filter fun u => !(s.comp.assigns.any fun a => a.scalers.contains u) && !s.health.swaps.any fun x => x.2 == some u).take n

/-- Assignments of group `g` leave a failed scaler: for its spare, else for a free one, if any (R491). -/
def State.moveScaler (s : State) (g : Nat) (x : Nat × Option Nat) : State :=
  s.comp.assigns.foldl (fun s a =>
    if a.group != g || !a.scalers.contains x.1 then s
    else
      let new := match x.2 with
        | some u => [u]
        | none => s.freeScalers 1
      let b := { a with scalers := a.scalers.flatMap fun u => if u = x.1 then new else [u] }
      { s with comp := { s.comp with assigns := s.comp.assigns.map fun (y : Assign) => if y == a then b else y } }) s

/-- The latch instant of a group at which failed scalers hand over (R491). -/
def State.moveScalers (s : State) (g : Nat) : State :=
  let s := s.health.swaps.foldl (fun s x => s.moveScaler g x) s
  { s with health := { s.health with swaps := s.health.swaps.filter fun x => s.comp.assigns.any fun a => a.scalers.contains x.1 } }

/-- A part of the window has fewer scalers than it needs: the window is late for every line (R491). -/
def State.starved (s : State) (d : WindowDesc) (r : TimingRec) : Bool :=
  (scalerParts d r).any fun e => s.comp.assigns.any fun a => a.window == d.window && a.row == e.1 && a.scalers.length < e.2.2

/-- The assignments of a group after a flip (R556): those of the windows that its active copy binds to its heads. -/
def State.reassign (s : State) (g : Nat) : State :=
  let ws := sortBy WindowDesc.window (s.ownWindows g)
  let needs := ws.flatMap fun d => match (s.head d.head).timing with
    | some r => (scalerParts d r).map fun e => (d, e)
    | none => []
  let crop (d : WindowDesc) : List Nat := [d.cropX, d.cropY, d.cropW, d.cropH]
  let keep := s.comp.assigns.filter fun a => a.group != g || needs.any fun e =>
    e.1.window == a.window && e.2.1 == a.row && e.1.head == a.head && crop e.1 == a.crop && e.2.2.1 == a.rect
  let s := { s with comp := { s.comp with assigns := keep } }
  needs.foldl (fun s e =>
    if s.comp.assigns.any fun a => a.group == g && a.window == e.1.window && a.row == e.2.1 then s
    else
      let a : Assign := { group := g, window := e.1.window, row := e.2.1, head := e.1.head, crop := crop e.1, rect := e.2.2.1, scalers := s.freeScalers e.2.2.2 }
      { s with comp := { s.comp with assigns := s.comp.assigns ++ [a] } }) s

/-! Flips (R62, R192–R195). -/

/-- A window starts afresh (R62, R194); what counts by its index, the activations of R244 among it, goes on. -/
def Win.fresh (w : Win) : Win := { bindAt := w.bindAt, bound := w.bound, shed := w.shed, shown := w.shown, lanternActs := w.lanternActs }

/-- A window moves to or from another group (R194): only a commit that unbinds it clears its LANTERN reason (R244). -/
def Win.moved (w : Win) : Win :=
  { w.fresh with active := setBit 0 7 (bit w.active 7), mismatch := w.mismatch, diagnose := w.diagnose, lanternLatched := w.lanternLatched, lanternFault := w.lanternFault
                 lanternAt := w.lanternAt, lanternClear := w.lanternClear, unproven := w.unproven }

/-- A flip binds the window to a source: a SOURCE that it sets or changes moves the binding instant to the seal (R192). -/
def Win.bindTo (w : Win) (src : Nat) (sealedAt : Time) : Win := if w.bound = some src then w else { w with bound := some src, bindAt := sealedAt }

/-- A window at a flip of its group, from its old descriptor to its new one (R62). -/
def Win.flip (w : Win) (a b : WindowDesc) : Win :=
  let src := a.source != b.source
  let hb := (a.hbX, a.hbY, a.hbW, a.hbH) != (b.hbX, b.hbY, b.hbW, b.hbH)
  let crop := (a.cropX, a.cropY, a.cropW, a.cropH) != (b.cropX, b.cropY, b.cropW, b.cropH)
  let w := if src || hb then { w with hbNew := true } else w
  if src || hb || crop then
    { w with active := setBit (setBit (setBit (setBit (setBit w.active 1 false) 2 false) 4 false) 5 false) 8 false
             passes := [], run := 0, runAt := none, underrunDue := false }
  else w

/-- A flip that unbinds a shed window or clears its SHEDDABLE flag ends its shedding (R502). -/
def State.unshed (s : State) (before after : List WindowDesc) : State :=
  let gone := (s.health.shed).filter fun w => (before.any fun d => d.window == w) && !(after.any fun d => d.window == w && bit d.flags 1)
  let s := gone.foldl (fun s w => s.setWin w { s.win w with shed := false }) s
  { s with health := { s.health with shed := s.health.shed.filter fun w => !gone.contains w } }

/-- A flip at a frame with t_f unbinds a window: it starts afresh, and the end of its recorded reason and of its LANTERN reason are recorded (R62, R64, R244). A_w of that frame is a free value (log 5). -/
def State.unbind (s : State) (d : WindowDesc) (tf : Nat) : State :=
  let w := s.win d.window
  let hd := s.head d.head
  let s := s.setWin d.window { w.fresh with bound := none, shown := 0 }
  let s := if w.shown = 0 then s
    else s.useFree.recordAt evShutterChange tf [p2 d.window, p2 d.head, p8 (hd.nextFrame % 281474976710656), p1 w.shown, p1 0, p2 hd.mask, p4 (s.fresh.toNat % 4294967296)]
  if bit w.active 7 then s.recordAt evLanternCleared tf [p2 d.window] else s

/-- Sealed settings become a group's active ones: its windows are judged afresh as R62 and R194 state, its scalers rearranged, and Lantern takes its copies (R192, R237, R556). -/
def State.applySet (s : State) (g : Nat) (x : Sealed) (tf : Nat) : State :=
  let old := s.grpC g
  let before := s.ownWindows g
  let s := s.setGrpC g { old with act := x.set, next := none, lanSet := x.set, lanBad := old.lanBad.filter fun e => e == .policies || e == .palettes }
  let after := s.ownWindows g
  let s := before.foldl (fun s a =>
    let w := s.win a.window
    let b := x.set.window a.window
    if after.any fun d => d.window == a.window then s
    else if b.head = 255 then s.unbind a tf
    else s.setWin a.window (w.moved.bindTo b.source x.at_)) s
  let s := after.foldl (fun s d =>
    let w := s.win d.window
    let v := match before.find? fun e => e.window == d.window with
      | some a => w.flip a d
      | none => if w.bound.isNone then w.fresh else w.moved
    s.setWin d.window (v.bindTo d.source x.at_)) s
  (s.reassign g).unshed before after

/-- The flip of a group (R192); the FLIP event follows with the frames of the group's heads (R195). -/
def State.flip (s : State) (g : Nat) (x : Sealed) (tf : Nat) : State :=
  let hs := s.headsOf g
  let s := s.applySet g x tf
  let s := hs.foldl (fun s h => s.setHead h { s.head h with starting := none, startDue := false, included := true }) s
  s.recordAt evFlip tf ([p4 x.seq, p2 g] ++ hs.flatMap fun h => [p2 h, p8 (s.head h).nextFrame, p8 tf])

/-! The safety configuration at a latch instant (R47). -/

/-- The configuration in force reaches a group, its heads and Lantern; counters of windows whose policy changed restart. -/
def State.takeSafety (s : State) (g : Nat) : State :=
  let x := s.grpC g
  if x.safety = s.comp.safety then s
  else
    let s' := s.setGrpC g { x with safety := s.comp.safety, lanSafety := s.comp.safety, lanBad := x.lanBad.filter fun e => e != .policies && e != .palettes }
    (s.groupWindows g).foldl (fun s' d =>
      if x.safety.policy d.policy = s.comp.safety.policy d.policy then s' else s'.setWin d.window { s'.win d.window with passes := [] }) s'

/-! Tile records (R40, R42, R44, R188). -/

/-- A window of a stack hides what lies below it: opaque, as a REPLACE step, or as an OVER step. -/
def State.hides (s : State) (e : WindowDesc × Nat) : Bool :=
  e.2 = 1 || (e.2 = 0 && ((e.1.planeAlpha = 4095 && !bit e.1.flags 0) || (s.win e.1.window).shown != 0))

/-- Every pixel of `q` lies in one of the rectangles. -/
def covered (q : Int × Int × Int × Int) (above : List (Int × Int × Int × Int)) : Bool :=
  (List.range (q.2.2.2 - q.2.1).toNat).all fun j => (List.range (q.2.2.1 - q.1).toNat).all fun i =>
    above.any fun o => o.1 ≤ q.1 + i && q.1 + i < o.2.2.1 && o.2.1 ≤ q.2.1 + j && q.2.1 + j < o.2.2.2

/-- The windows of a stack, from bottom to top, that contribute to a tile of head `h` (R40); `hides` says which hide what lies below them. -/
def contributorsBy (hides : WindowDesc × Nat → Bool) (r : TimingRec) (h i : Nat) : List (WindowDesc × Nat) → List (WindowDesc × Nat)
  | [] => []
  | e :: above =>
    let q := rectMeet (onHead e.1 r h) (tileRect r i)
    let rest := contributorsBy hides r h i above
    if e.1.planeAlpha != 0 && !rectEmpty q && !covered q ((above.filter hides).map fun o => onHead o.1 r h) then e :: rest else rest

def State.contributors (s : State) (r : TimingRec) (h i : Nat) (stack : List (WindowDesc × Nat)) : List (WindowDesc × Nat) := contributorsBy s.hides r h i stack

/-- Lantern skips a tile: a window switched off on head `h` covers it from the tile row of that line (R216). -/
def State.skipped (s : State) (r : TimingRec) (h i : Nat) (ws : List WindowDesc) : Bool :=
  ws.any fun d => match Map.get? (s.win d.window).offAt h with
    | some l => decide (l / 64 ≤ i / tileCols r) && !rectEmpty (rectMeet (onHead d r h) (tileRect r i))
    | none => false

/-- Output codes of a pixel as TILE_CRC takes them (R240). -/
def Rgb.wire (c : Rgb) : Bytes := le 2 c.r ++ le 2 c.g ++ le 2 c.b

/-- The pixels of a tile in raster order. -/
def tilePixels (r : TimingRec) (i : Nat) : List (Nat × Nat) :=
  let q := tileRect r i
  (List.range (q.2.2.2 - q.2.1).toNat).flatMap fun y => (List.range (q.2.2.1 - q.1).toNat).map fun x => (q.1.toNat + x, q.2.1.toNat + y)

/-- TILE_CRC (R240). -/
def State.tileCrc (s : State) (r : TimingRec) (h i : Nat) : Nat :=
  crc32c ((tilePixels r i).flatMap fun e => Rgb.wire (s.outPixel r h e.1 e.2))

/-- The order of contribution ages (R42): by ns, an unknown uncertainty above all. -/
def ageKey (g : Tag) (at_ u : Nat) : Nat := if g.unc ≥ maxU then 2 ^ 80 else (ageNs g at_ u).toNat

/-- A pixel of head `h` lies inside the clipped rectangle of a window. -/
def insideOn (r : TimingRec) (h : Nat) (e : Nat × Nat) (d : WindowDesc) : Bool :=
  let q := onHead d r h
  q.1 ≤ (e.1 : Int) && (e.1 : Int) < q.2.2.1 && q.2.1 ≤ (e.2 : Int) && (e.2 : Int) < q.2.2.2

/-- SAFE_CRC of a tile over the mask of windows `ws`, with the output codes that `px` gives (R240). -/
def safeCrc (px : Nat → Nat → Rgb) (ws : List WindowDesc) (r : TimingRec) (h i : Nat) : Nat :=
  crc32c (((tilePixels r i).filter fun e => ws.any (insideOn r h e)).flatMap fun e => Rgb.wire (px e.1 e.2))

/-- One tile record (Table 2-3). Where pictures of several sources have the tile age, OLDEST_SOURCE is that of the uppermost window (DESIGN CHOICE, log 18). -/
def State.tileRec (s : State) (r : TimingRec) (h u : Nat) (stack : List (WindowDesc × Nat)) (i : Nat) : TileRec :=
  let hd := s.head h
  let cs := s.contributors r h i stack
  let at_ := rowInstant hd.tf hd.lp (i / tileCols r)
  let tags := cs.filterMap fun e => ((s.win e.1.window).latched).map Picture.tag
  let top := tags.foldl (fun (a : Option Tag) g => match a with
    | some x => if ageKey x at_ u ≤ ageKey g at_ u then some g else a
    | none => some g) none
  let shutters := cs.foldl (fun m e => setBit m (s.shownNow e.1) true) 0
  let state := topReason shutters + 16 * bitsOf [
    cs.any fun e => (match (s.win e.1.window).latched with | some p => tileConcealed e.1 r h p.map i | none => false),
    s.skipped r h i (stack.map (·.1)), cs.any fun e => e.1.kind == 2, tags.any fun g => bit g.flags 4]
  { age := (top.map fun g => ageUs g at_ u).getD 0, oldest := (top.map Tag.source).getD 0x1FF, contrib := cs.length, state := state
    flagsOr := tags.foldl (fun a g => a ||| g.flags) 0, crc := s.tileCrc r h i }

/-- The tile records of a frame of head `h` (R44). -/
def State.tileRecs (s : State) (r : TimingRec) (h : Nat) : List TileRec :=
  let grp := s.grpC r.sg
  let lead := r.leader h
  let stack := stackOf grp.act lead ((s.groupWindows r.sg).filter fun d => d.head == lead)
  (List.range (tileCols r * tileRows r)).map (s.tileRec r h (s.gen r.sg).u stack)

end Sys2Proof.Machine
end

