-- ==== Sys2Proof/Machine/Heads.lean ====
section
/-! DEFINITION. Heads and sync generators: frames and their instants, steering, sync inputs, links, format changes (R196–R224, R557). -/

namespace Sys2Proof.Machine

/-! Sync generator states (R208). -/

def SyncState.code : SyncState → Nat
  | .free => 0 | .acquiring => 1 | .locked => 2 | .hold => 3

/-- A generator takes a state (R224). -/
def State.genTo (s : State) (g : Nat) (st : SyncState) : State :=
  let x := s.gen g
  if x.state = st then s
  else (s.setGen g { x with state := st, bigRun := 0 }).record evSyncStateChange [p2 g, p2 0xFFFF, p1 x.state.code, p1 st.code, p8s x.e]

/-! Targets (R211, R212). -/

/-- Instant `k` of a grid that starts at `origin` and has the record's frame rate, rounded up. -/
def gridAt (r : TimingRec) (origin k : Int) : Int := origin + (k * 1000000000 * r.rateDen + (r.rateNum - 1)) / (r.rateNum : Int)

/-- The origin of a generator's grid of targets: the PTP epoch, or its last valid pulse; none without a reference. -/
def Gen.origin (x : Gen) (r : TimingRec) : Option Int :=
  if r.mode = 2 then some r.phaseOffset
  else if r.mode = 1 then x.pulse.map fun p => (p : Int) + r.phaseOffset
  else none

/-- The target nearest to `t`. -/
def nearestTarget (r : TimingRec) (o t : Int) : Int :=
  gridAt r o ((2 * (t - o) * r.rateNum + 1000000000 * r.rateDen) / (2 * 1000000000 * r.rateDen : Int))

/-- The first target at or after `t`. -/
def firstTarget (r : TimingRec) (o t : Int) : Int :=
  let k : Int := (t - o) * r.rateNum / (1000000000 * r.rateDen : Int)
  if gridAt r o k ≥ t then gridAt r o k else gridAt r o (k + 1)

/-- e of a frame at `tf` (R208), 0 without a target. -/
def Gen.err (x : Gen) (r : TimingRec) (tf : Nat) : Int :=
  match x.origin r with
  | some o => (tf : Int) - nearestTarget r o tf
  | none => 0

/-- The record of the targets is known: e of the frame in progress follows them (R208). -/
def State.reErr (s : State) (g : Nat) : State :=
  let x := s.gen g
  match s.chief g, x.cur with
  | some r, some t => s.setGen g { x with e := x.err r t }
  | _, _ => s.setGen g { x with e := 0 }

/-- The end of a frame: its last active pixel leaves, in whole ns as the worked example counts it (R206). -/
def frameEnd (r : TimingRec) (tf lp : Nat) : Nat := tf + lp * ((r.vActive - 1) * r.hTotal + r.hActive) / (4294967296 * r.hTotal)

/-- L of a generator's frames under its trim, rounded up (R38, R209). -/
def lineOf (r : TimingRec) (trim : Int) : Nat := cdiv (r.rateDen * 4294967296 * (1000000000 + trim).toNat) (r.rateNum * r.vTotal)

/-- The device-time instant of an instant of the main reference count that lies ahead. -/
def State.devAt (s : State) (clk : Nat) : Nat :=
  match s.time.state with
  | .following _ => s.now + ((clk - s.clk : Nat) * ((tu : Int) + s.time.freq) / (tu : Int)).toNat
  | _ => s.now + (clk - s.clk)

/-- The main reference count at a recent instant of device time. -/
def State.clkOf (s : State) (dt : Nat) : Time := s.clk - (s.now - dt)

/-- The trim returns to nominal outside LOCK_SYNC_IN, and AT_LIMIT begins to lapse (R209). -/
def Gen.center (x : Gen) (clk : Time) : Gen := { x with trim := 0, insideSince := if x.atLimit then some (x.insideSince.getD clk) else none }

/-- t_f of the next frame without a jump: one period, steered toward the target by at most one line (R209, R210). That it takes the whole of what one line allows is DEDUCED from R218 (log 18). -/
def State.nextTf (s : State) (r : TimingRec) (x : Gen) : Gen :=
  if r.mode = 0 then
    let n := x.frac + 1000000000 * r.rateDen
    let clk := x.tfClk + n / r.rateNum
    { x with tfClk := clk, frac := n % r.rateNum, free := true, tf := s.devAt clk, lp := r.line, span := s.devAt clk - x.tf }
  else
    let t : Int := 1000000000 * r.rateDen / (r.rateNum : Int)
    let pull : Int := if (x.state = .hold && !x.jumped) || (x.origin r).isNone then 0 else -x.e
    let lo := cdiv (1000000000 * r.rateDen * (r.vTotal - 1)) (r.rateNum * r.vTotal)
    let hi := 1000000000 * r.rateDen * (r.vTotal + 1) / (r.rateNum * r.vTotal)
    let step := (clampI lo hi (t + t * x.trim / 1000000000 + pull)).toNat
    { x with tf := x.tf + step, lp := lineOf r x.trim, free := false, span := step }

/-- A generator jumps: the next frame starts on the first target at least 600 µs after the end of this one (R214). -/
def State.jump (s : State) (g : Nat) (r : TimingRec) : State :=
  let x := s.gen g
  match x.origin r with
  | some o =>
    let s := s.setGen g { x with tf := (firstTarget r o (x.endAt + 600000)).toNat, lp := lineOf r x.trim, free := false, jump := false, jumped := true, latched := false }
    (s.headsOf g).foldl (fun s h => if (s.head h).own.isNone then s.setHead h { s.head h with broken := true } else s) s
  | none => s

/-- The generator's part at the end of a frame: lock, loss of lock, and the next t_f (Table 7-4, R209, R214, R219). -/
def State.steer (s : State) (g : Nat) (r : TimingRec) : State :=
  let x := s.gen g
  let small := x.cur.isSome && x.e.natAbs ≤ 500 && (x.origin r).isSome
  let s := match x.state with
    | .free => s
    | .acquiring => if small then s.genTo g .locked else s
    | .locked =>
      let n := if x.e.natAbs * 4294967296 > x.lp then x.bigRun + 1 else 0
      if n ≥ 8 then s.genTo g .hold else s.setGen g { x with bigRun := n }
    | .hold => if x.jumped && small then s.setGen g { x with lockNext := true } else s
  let y := s.gen g
  if y.state = .hold && y.jump && (y.origin r).isSome then s.jump g r
  else s.setGen g { s.nextTf r y with latched := false }

/-- A generator whose group scans no frame any more stops (R221, R476). -/
def State.stopGen (s : State) (g : Nat) : State := s.setGen g { s.gen g with running := false, latched := false, cur := none, e := 0, jump := false, jumped := false, lockNext := false }

/-- The frame of a group has ended on every head that is aligned: the generator fixes the next one (R209). -/
def State.groupEnd (s : State) (g : Nat) : State :=
  let x := s.gen g
  let busy := (s.headsOf g).any fun h => (s.head h).own.isNone && ((s.head h).scanning || (s.head h).due)
  match s.chief g with
  | some r => if x.latched && x.cur = some x.tf && !busy then s.steer g r else s
  | none => s.stopGen g

/-- A frame boundary at which a generator reports lock (R214, R219). -/
def State.reportLock (s : State) (g : Nat) : State :=
  let x := s.gen g
  if !x.lockNext then s
  else
    let s := if x.state = .hold then s.genTo g .locked else s
    s.setGen g { s.gen g with lockNext := false, jumped := false }

/-! Latching (R37, R190–R192). -/

/-- Frame number that a window's head gives to the frame that latches. -/
def State.frameOf (s : State) (h : Nat) : Nat := (s.head h).nextFrame % 281474976710656

/-- A head waits for the first new frame of a format change. -/
def State.reforming (s : State) (h : Nat) : Bool := (s.comp.formats.any fun f => f.recs.any fun q => q.head == h) && !(s.head h).first

/-- The coefficient sets of a group take the values of R175 (R516). -/
def State.resetCoefs (s : State) (g : Nat) : State :=
  let x := s.grpC g
  let s := s.setGrpC g { x with act := { x.act with coefs := [] }, lanSet := { x.lanSet with coefs := [] } }
  { s with comp := { s.comp with shadow := { s.comp.shadow with coefs := [] }, committed := { s.comp.committed with coefs := [] } } }

/-- Heads of a group switch to the new COMP image at this latch, that of frame u (R516). -/
def State.compLatch (s : State) (g : Nat) : State :=
  match s.comp.compActive with
  | none => s
  | some l =>
    let hs := (s.headsOf g).filter fun h => (s.head h).due && !(l.any fun e => e.1 == h) && !s.reforming h
    let s := if hs.isEmpty then s else s.resetCoefs g
    { s with comp := { s.comp with compActive := some (l ++ hs.map fun h => (h, (s.gen g).tf, false)) } }

/-- A head shows UPDATING in a frame with t_f `tf`: its latch is less than 12 ms after that of frame u (R516). -/
def State.updates (s : State) (h tf : Nat) : Bool :=
  match s.comp.compActive with
  | some l => l.any fun e => e.1 == h && tf < e.2.1 + 12 * ms
  | none => false

/-- A frame with t_f `tf` shows content again after UPDATING (R516). -/
def State.compShown (s : State) (h tf : Nat) : State :=
  { s with comp := { s.comp with compActive := s.comp.compActive.map fun l => l.map fun (e : Nat × Nat × Bool) => if e.1 == h && e.2.1 + 12 * ms ≤ tf then (e.1, e.2.1, true) else e } }

/-- Every enabled head has shown content again (R516). -/
def State.compEnded (s : State) : Bool :=
  match s.comp.compActive with
  | some l => allHeads.all fun h => !s.headOn h || l.any fun e => e.1 == h && e.2.2
  | none => true

/-- The heads of a group that take part in its next frame: aligned ones whose own instant has come (R214, R219). -/
def State.takers (s : State) (g : Nat) : List Nat := (s.headsOf g).filter fun h => (s.head h).own.isNone && (s.head h).notBefore ≤ (s.gen g).tf

/-- The latest end of the next frame over the heads of a group (R206). -/
def State.frameEnds (s : State) (g : Nat) : Nat :=
  let x := s.gen g
  ((s.takers g).filterMap fun h => (s.head h).timing.map fun r => frameEnd r x.tf x.lp).foldl max x.tf

/-- The first new frame of a group in a format change has latched (R220). -/
def State.formatLatched (s : State) (g : Nat) : State :=
  if (s.takers g).any fun h => (s.head h).first then
    { s with comp := { s.comp with formats := s.comp.formats.map fun (f : FormatSet) => if f.started && f.groups.contains g then { f with latched := g :: f.latched } else f } }
  else s

/-- The windows of a group latch and are judged for the frame that comes; the pictures are held (R37, R61, R141). U(n) is taken to the latest end of the frame on the group's heads (R41). -/
def State.latchGroup (s : State) (g : Nat) : State :=
  let x := s.gen g
  let endAt := s.frameEnds g
  let u := max (s.uDt s.now) (s.uDt endAt)
  let s := s.formatLatched g
  let s := s.setGen g { x with latched := true, endAt := endAt, u := u, locked := bitsOf ([0, 1].map fun b => (s.base b).state == .locked), trusted := s.trusted
                               uBases := [0, 1].map fun b => if s.time.state = .following b then 0 else s.uB b s.now }
  let s := (s.takers g).foldl (fun s h => s.setHead h { s.head h with due := true }) s
  let s := s.compLatch g
  let grp := s.grpC g
  let latch := s.clkOf (x.tf - 500000)
  let ws := sortBy WindowDesc.window (s.groupWindows g)
  let s := ws.foldl (fun s d => match (s.head d.head).timing with
    | some r => s.evaluate grp { latch := latch, rec_ := r, heads := s.surface d.head, tf := x.tf, lp := x.lp, u := u, frame := s.frameOf d.head, trusted := s.trusted } d
    | none => s) s
  let new := ws.filterMap fun d => ((s.win d.window).latched).map fun p =>
    ({ source := d.source, slot := p.tag.slot, window := d.window, head := d.head, frame := s.frameOf d.head, safety := d.kind == 2 } : Hold)
  s.setHolds (s.comp.holds ++ new)

/-- The first flip of a commit brings its slot owners and tickets with it (R388, R392). -/
def State.flipSlots (s : State) (g : Nat) : State :=
  let d := s.dram
  match d.shadows.find? fun x => x.group == g && x.latchedAt.isNone with
  | some x => { s with dram := { d with tickets := x.tickets, shadows := d.shadows.map fun (y : SlotShadow) => if y == x then { y with latchedAt := some s.clk } else y } }
  | none => s

/-- A frame number has come, in 48 bits. -/
def reached (now n : Nat) : Bool := (now + 281474976710656 - n % 281474976710656) % 281474976710656 < 140737488355328

/-- A group flips at the frame whose number it was given at the seal, whatever became of its timing (R207); where none of its heads was given one, at the first latch instant at least 1 ms after the seal (R191). -/
def State.flipDue (s : State) (g : Nat) : State :=
  match (s.grpC g).next with
  | some x =>
    let given := (s.takers g).filterMap fun h => (x.frames.find? fun e => e.1 == h).map fun e => reached (s.head h).nextFrame e.2
    let due := if given.isEmpty then decide ((s.gen g).tf ≥ x.sealDt + 1500000) else given.any id
    if due then ((s.flip g x (s.gen g).tf).firstFlip x.seq).flipSlots g else s
  | none => s

/-- The frame number at which a group flips for a commit sealed now, by head (R191). -/
def State.flipFrames (s : State) (g : Nat) : List (Nat × Nat) :=
  let x := s.gen g
  match s.chief g with
  | none => []
  | some r =>
    let jump := x.state == .hold && x.jump && (x.origin r).isSome
    let next := if !x.latched then x.tf else if jump then ((s.jump g r).gen g).tf else (s.nextTf r x).tf
    let late := if next ≥ s.now + 1500000 then 0 else 1
    (s.headsOf g).map fun h => let y := s.head h; (h, (y.nextFrame + (if y.due then 1 else 0) + late) % 281474976710656)

/-! Frames (R206, R207, R216, R217). -/

/-- The head-scope reasons at a frame boundary with t_f, with their SHUTTER_CHANGE (R59, R64). -/
def State.headReasons (s : State) (h : Nat) (retime : Bool) (tf frame : Nat) : State :=
  let x := s.head h
  let keep (on : Bool) (t : Option Nat) : Option Nat := if on then some (t.getD tf) else none
  let x := { x with starting := keep (x.startDue && !x.included) x.starting, retiming := keep retime x.retiming, updating := keep (s.updates h tf) x.updating }
  let top := topReason x.mask
  let y := { x with reason := top }
  let s := s.setHead h y
  if top = x.reason then s
  else s.recordAt evShutterChange tf [p2 0xFFFF, p2 h, p8 frame, p1 x.reason, p1 top, p2 x.mask, p4 (if top = 0 then 0 else y.readout)]

/-- RETIMING for a format change: from the first new frame until the generator reports lock (R219). -/
def State.reformats (s : State) (h g : Nat) : Bool :=
  let x := s.gen g
  let hd := s.head h
  hd.first || (hd.reformat && !(x.state == .free || x.state == .locked || x.lockNext))

/-- RETIMING stands on a head at this boundary (R208, R213, R214, R219). -/
def State.retimes (s : State) (h g : Nat) : Bool :=
  let x := s.gen g
  let hd := s.head h
  hd.own.isSome || hd.realigned == some 0 || (x.state == .hold && !x.lockNext) || s.reformats h g

/-- A follower reports its regained alignment (R214, R224). -/
def State.aligned (s : State) (h g : Nat) : State :=
  let hd := s.head h
  match hd.realigned with
  | none => s
  | some 0 => s.setHead h { hd with realigned := some 1 }
  | some _ => (s.setHead h { hd with realigned := none }).record evSyncStateChange [p2 g, p2 h, p1 3, p1 (s.gen g).state.code, p8s hd.e]

/-- The first head of a group starts the frame: e is taken, and lock reported (R208, R214). -/
def State.beginFrame (s : State) (g : Nat) : State :=
  let x := s.gen g
  if x.cur = some x.tf then s
  else
    let x := { x with cur := some x.tf, tfClk := if x.free then x.tfClk else s.clkOf x.tf, frac := if x.free then x.frac else 0 }
    ((s.setGen g x).reErr g).reportLock g

/-- e of a follower on its own timing: against the nearer of its leader's frames about it (R208, R213; DEDUCED, log 18). -/
def Gen.ownErr (x : Gen) (tf : Nat) : Int :=
  let a : Int := (tf : Int) - (x.cur.getD x.tf : Nat)
  let b : Int := (tf : Int) - x.tf
  if a.natAbs ≤ b.natAbs then a else b

/-- Followers of a leader whose frame starts, with their synthesiser locked, can align again (R214). -/
def State.leaderStarts (s : State) (h : Nat) (r : TimingRec) : State :=
  if r.gangSize = 1 || r.mode = 3 then s
  else (s.surface h).foldl (fun s k => if (s.head k).own.isSome && (s.head k).synth then s.setHead k { s.head k with rejoin := true } else s) s

/-- Frame `n` of a head starts (R206, R207, R204, R219). -/
def State.startFrame (s : State) (h : Nat) (r : TimingRec) : State :=
  let x := s.head h
  let lost := x.own.isSome
  let g := s.gen r.sg
  let tf := x.own.getD g.tf
  let n := x.nextFrame
  let retime := s.retimes h r.sg
  let ref := s.reformats h r.sg
  let s := s.setHead h { x with due := false, scanning := true, early := false, nextFrame := (n + 1) % 281474976710656, tf := tf, lp := if lost then x.lp else g.lp, e := if lost then g.ownErr tf else 0
                                dBases := [s.dB 0, s.dB 1], broken := false, first := false, reformat := ref
                                disc := if x.broken then some n else x.disc, sending := x.hpd && x.link.isSome && x.training.isNone }
  let s := if x.first then s.recordAt evFormatChange tf [p2 h] else s
  let done (f : FormatSet) : FormatSet := { f with groups := if x.first && f.started then f.groups.filter (· != r.sg) else f.groups }
  let s := { s with comp := { s.comp with formats := (s.comp.formats.map done).filter fun f => !f.groups.isEmpty } }
  let s := (s.headReasons h retime tf n).compShown h tf
  if lost then s else ((s.aligned h r.sg).beginFrame r.sg).leaderStarts h r

/-- FRAME_START (R206): the first active pixel of a latched frame leaves. -/
def execFrameStart (t : Time) (h : Nat) (s : State) : Host.Outcome State Fault Refusal :=
  runIf (h < 16) t s fun s =>
    match (s.head h).timing with
    | some r =>
      let x := s.head h
      let tf := x.own.getD (s.gen r.sg).tf
      if s.headOn h && !x.scanning && (x.due || x.own.isSome) && tf ≤ s.now then s.startFrame h r else s
    | none => s

/-! What Lantern takes from a frame (R237–R242). -/

/-- The safety windows of a surface that meet head `h`. -/
def State.safetyOn (s : State) (r : TimingRec) (h : Nat) : List WindowDesc :=
  (s.groupWindows r.sg).filter fun d => d.kind == 2 && d.head == r.leader h && !rectEmpty (onHead d r h)

/-- The comparison of a frame that is not complete by the latch instant of frame n + 2 is late (R241): every safety window of the head counts as mismatched. -/
def State.compareLate (s : State) (h : Nat) (c : Compared) : State :=
  let x := s.head h
  let s := (s.setHead h { x with toCompare := x.toCompare.filter fun q => q.frame != c.frame, late := true, lateFrames := sat 2 (x.lateFrames + 1), lastMismatch := some c.frame }).record evLanternLate [p2 h, p8 c.frame]
  { s with health := { s.health with conditions := setBit s.health.conditions 2 true }
           comp := { s.comp with findings := s.comp.findings ++ [{ head := h, frame := c.frame, tf := c.tf, timing := c.timing, diffs := [], windows := c.windows.map fun e => (e.1, false), decision := [], late := true, assigns := c.assigns }] } }

/-- The frames of a head whose comparison the latch of the frame numbered `n` finds late (R241). -/
def Head.lateAt (x : Head) (n : Nat) : List Compared := x.toCompare.filter fun c => c.frame + 2 ≤ n

/-- A mismatch of safety window `w` on head `h` in frame `n`, which these assignments served (R243, R493). `tile` is the first mismatching tile with its CRCs; kind 0 pixel, 1 decision, 2 late. -/
def State.lanternMismatch (s : State) (assigns : List Assign) (w h n tile expected observed count kind : Nat) : State :=
  let x := s.win w
  (s.setWin w { x with mismatch := true, diagnose := some ((assigns.filter fun a => a.window == w).flatMap Assign.scalers) }).record evLanternMismatch [p2 w, p2 h, p8 n, p2 tile, p4 expected, p4 observed, p4 count, p1 kind]

/-- Differing tiles of a window in a finding. -/
def Finding.of (f : Finding) (d : WindowDesc) : List (Nat × Nat × Nat) :=
  sortBy (fun e => e.1) (f.diffs.filter fun e => !rectEmpty (rectMeet (onHead d f.timing f.head) (tileRect f.timing e.1)))

/-- One safety window of a frame compared on every head of its surface: one mismatch, named by the lowest-numbered head with a differing tile, or proof of its content (R243, R247). -/
def State.concludeWindow (s : State) (fs : List Finding) (d : WindowDesc) : State :=
  let mine := fs.filter fun f => f.windows.any fun e => e.1.window == d.window
  let diffs := mine.map fun f => (f, f.of d)
  let count := sumL (diffs.map fun e => e.2.length)
  match diffs.find? fun e => !e.2.isEmpty with
  | some (f, (i, e, o) :: _) => s.lanternMismatch f.assigns d.window f.head f.frame i e o count 0
  | _ =>
    match mine.find? fun f => f.late, mine.find? fun f => f.decision.contains d.window with
    | some f, _ => s.lanternMismatch f.assigns d.window f.head f.frame 0xFFFF 0 0 0 2
    | none, some f => s.lanternMismatch f.assigns d.window f.head f.frame 0xFFFF 0 0 0 1
    | none, none =>
      if mine.all fun f => f.windows.any fun e => e.1.window == d.window && e.2 then s.setWin d.window { s.win d.window with unproven := false } else s

/-- The frame with t_f `tf` of the surface that head `h` belongs to is concluded once no head of the surface has it still to compare (R243). -/
def State.concludeFrame (s : State) (r : TimingRec) (h tf : Nat) : State :=
  let hs := if r.gangSize = 1 then [h] else (List.range r.gangSize).map fun j => r.leader h + j
  let open_ := hs.any fun k => (s.head k).toCompare.any (fun c => c.tf == tf) || ((s.head k).scanning && (s.head k).tf == tf && !(s.head k).early && s.domOn 11 && !(s.safetyOn r k).isEmpty)
  if open_ then s
  else
    let fs := sortBy Finding.head (s.comp.findings.filter fun f => f.tf == tf && hs.contains f.head)
    let ws := (fs.flatMap fun f => f.windows.map (·.1)).foldl (fun (l : List WindowDesc) d => if l.any fun e => e.window == d.window then l else l ++ [d]) []
    let s := { s with comp := { s.comp with findings := s.comp.findings.filter fun f => !(f.tf == tf && hs.contains f.head) } }
    ws.foldl (fun s d => s.concludeWindow fs d) s

/-- Lantern releases the pictures of frame `n` of head `h` (Table 5-5). -/
def State.lanternReleases (s : State) (h n : Nat) : State := s.setHolds (s.comp.holds.filter fun e => !(e.safety && e.head == h && e.frame ≤ n))

/-- Comparisons of a head that its next latch finds late. -/
def State.lateHead (s : State) (h : Nat) : State :=
  ((s.head h).lateAt (s.head h).nextFrame).foldl (fun s c => ((s.compareLate h c).concludeFrame c.timing h c.tf).lanternReleases h c.frame) s

/-- Lantern's copies taken at this latch instant, `bad` those that fail their CRC-32C (R237). -/
def State.takeCopies (s : State) (g : Nat) (flipped took : Bool) (bad : List LanternCopy) : State :=
  let x := s.grpC g
  let new := bad.filter fun e => match e with | .policies | .palettes => took | _ => flipped
  s.setGrpC g { x with lanBad := x.lanBad ++ new }

/-- LATCH_INSTANT (R37): 500 µs before t_f the group flips if it is due, takes the safety configuration, latches and judges (R237). -/
def execLatchInstant (t : Time) (e : Latch) (s : State) : Host.Outcome State Fault Refusal :=
  let g := e.sg
  runIf (g < 4) t s fun s =>
    let x := s.gen g
    let hs := s.headsOf g
    if x.running && !x.latched && x.tf ≤ s.now + 500000 && !hs.isEmpty && hs.all (fun h => !((s.head h).own.isNone && ((s.head h).scanning || (s.head h).due))) then
      if (s.takers g).isEmpty then (match s.chief g with | some r => s.setGen g (s.nextTf r x) | none => s.stopGen g)
      else
        let s := (s.takers g).foldl State.lateHead s
        let next := (s.grpC g).next.isSome
        let old := (s.grpC g).safety
        let s := ((s.moveScalers g).flipDue g).takeSafety g
        (s.takeCopies g (next && (s.grpC g).next.isNone) ((s.grpC g).safety != old) e.bad).latchGroup g
    else s

/-! Underruns (R215–R217). -/

/-- t_f and L of the frame that a head scans or is about to scan. -/
def State.frameTimes (s : State) (h : Nat) (r : TimingRec) : Option (Nat × Nat) :=
  let x := s.head h
  if x.scanning then some (x.tf, x.lp) else if x.due then some ((s.gen r.sg).tf, (s.gen r.sg).lp) else none

/-- D_n(y), the composition deadline of output line `y` (R215). -/
def lineDeadline (tf lp y : Nat) : Nat := tf + cdiv (y * lp) 4294967296 - 200000

/-- A window is switched off on head `h` from a line of the frame on (R216). -/
def State.switchOff (s : State) (h line : Nat) (d : WindowDesc) : State :=
  let w := s.win d.window
  let first := w.offAt.isEmpty
  let run := if first then w.run + 1 else w.run
  let due := first && (run = 1 || (match w.runAt with | some t => decide (t + 1000 * ms ≤ s.clk) | none => true))
  let w := { w with offAt := if (Map.get? w.offAt h).isSome then w.offAt else Map.set w.offAt h line, run := run, runAt := if due then some s.clk else w.runAt }
  let s := { s.setWin d.window w with health := { s.health with conditions := setBit s.health.conditions 0 true } }
  if due then s.record evUnderrun [p2 d.window, p4 run] else s

/-- LINE_DEADLINE (R215, R216, R491): at D_n(y) of a line of the frame, the windows of the head's surface that are `late` for it, those without their scalers, those whose pixels a door refused (Table 16-4), and all while debug halts the head's sequencer (R449), are switched off from it on. A window with no picture fetches nothing (R61). -/
def execLineDeadline (t : Time) (h line : Nat) (late : List Nat) (s : State) : Host.Outcome State Fault Refusal :=
  runIf (h < 16) t s fun s =>
    match (s.head h).timing with
    | none => s
    | some r =>
      match s.frameTimes h r with
      | none => s
      | some (tf, lp) =>
        if !s.headOn h || s.now < lineDeadline tf lp line then s
        else (s.groupWindows r.sg).foldl (fun s d =>
          let q := onHead d r h
          if d.head != r.leader h || (s.win d.window).latched.isNone || !(late.contains d.window || s.starved d r || (s.win d.window).refused || s.prot.halted.contains (18 + h / 2)) || rectEmpty q || !(q.2.1 ≤ (line : Int) && (line : Int) < q.2.2.2) then s
          else s.switchOff h line d) s

/-- A window at the end of a frame of its surface (R217). -/
def Win.endFrame (w : Win) : Win :=
  if w.offAt.isEmpty then { w with offLast := false, run := 0, runAt := none, passes := Map.set w.passes 4 (Map.get 0 w.passes 4 + 1) }
  else { w with offLast := true, underrunDue := w.run ≥ 8, passes := Map.set w.passes 4 0 }

/-- The lead λ of a head in ns (R215): `line` is the lowest line of the frame whose data is not complete, none if there is none. -/
def State.lead (s : State) (h : Nat) (r : TimingRec) (line : Option Nat) : Option Int :=
  match line, s.frameTimes h r with
  | some y, some (tf, lp) => some ((lineDeadline tf lp y : Int) - s.now)
  | _, _ => none

/-- HEAD_PANIC (R215): panic is raised below a lead of 50 µs and lowered at 150 µs. -/
def execHeadPanic (t : Time) (h : Nat) (line : Option Nat) (s : State) : Host.Outcome State Fault Refusal :=
  runIf (h < 16) t s fun s =>
    let x := s.head h
    match x.timing with
    | none => s
    | some r =>
      let l := s.lead h r line
      let low := match l with | some n => decide (n < 50000) | none => false
      let high := match l with | some n => decide (n ≥ 150000) | none => true
      if !s.headOn h then s
      else if !x.panic && low then s.setHead h { x with panic := true, panics := sat 4 (x.panics + 1) }
      else if x.panic && high then s.setHead h { x with panic := false }
      else s

/-! The end of a frame. -/

/-- The windows composed on head `h`. -/
def State.onSurface (s : State) (r : TimingRec) (h : Nat) : List WindowDesc := (s.groupWindows r.sg).filter fun d => d.head == r.leader h

/-- What Lantern has to compare of the frame that a head scans (R238–R242). -/
def State.comparedOf (s : State) (r : TimingRec) (h : Nat) : Compared :=
  let ws := s.safetyOn r h
  let hd := s.head h
  let grp := s.grpC r.sg
  let ts := (List.range (tileCols r * tileRows r)).filter fun i => ws.any fun d => !rectEmpty (rectMeet (onHead d r h) (tileRect r i))
  let g := s.gen r.sg
  { frame := hd.nextFrame - 1, tf := hd.tf, lp := hd.lp, u := g.u, trusted := g.trusted, timing := r, reason := hd.reason, readout := hd.readout
    windows := ws.map fun d => let e := grp.lanSet.window d.window; (e, s.win d.window, rowInstant hd.tf hd.lp (evalRow e r (s.surface d.head)))
    set := grp.lanSet, safety := grp.lanSafety, bad := grp.lanBad
    observed := ts.map fun i => (i, safeCrc (fun x y => s.outPixel r h x y) ws r h i)
    skips := ts.filter fun i => s.skipped r h i (s.onSurface r h), assigns := s.comp.assigns }

/-- The picture of a LOOPBACK source: a copy of the frame with the age of its oldest tile (R123). -/
def State.loopback (s : State) (r : TimingRec) (h : Nat) (recs : List TileRec) : State :=
  let hd := s.head h
  let px := (List.range r.vActive).flatMap fun y => (List.range r.hActive).map fun x => s.outPixel r h x y
  let caps := recs.zipIdx.filterMap fun e => if e.1.age = 0 then none else some ((rowInstant hd.tf hd.lp (e.2 / tileCols r) : Int) - 1000 * e.1.age)
  let cap := caps.foldl min (caps.headD (hd.tf : Int))
  (List.range 16).foldl (fun s i =>
    let x := s.src i
    if x.decl.kind = 2 && x.decl.head = h && s.domOn 6 then
      s.issueSource i { tag := {}, width := r.hActive, height := r.vActive, depth := r.bpc, sampling := 2, fullRange := true, planes := [px.map Rgb.r, px.map Rgb.g, px.map Rgb.b] } cap
    else s) s

/-- Holds at the end of frame `n` of head `h`: Lantern keeps the pictures of safety windows to the end of the next frame at the latest (Table 5-5). -/
def State.releaseHolds (s : State) (h n : Nat) : State :=
  s.setHolds (s.comp.holds.filter fun e => e.head != h || (e.safety && n ≤ e.frame))

/-- A follower loses its alignment (R213): it goes on with its last frame period from the frame in progress, or from the one that is fixed. -/
def State.loseAlignment (s : State) (h : Nat) (r : TimingRec) : State :=
  let x := s.head h
  if x.own.isSome then s
  else
    let g := s.gen r.sg
    let next := if g.cur = some g.tf then x.tf + g.span else g.tf
    (s.setHead h { x with own := some next, span := g.span, lp := if x.scanning then x.lp else g.lp, rejoin := false, realigned := none, due := false }).record evSyncStateChange [p2 r.sg, p2 h, p1 g.state.code, p1 3, p8s x.e]

/-- A leader whose followers go on without it restarts (R213). -/
def State.leaderStops (s : State) (h : Nat) (out : List Nat) : State :=
  match (s.head h).timing with
  | some r =>
    if r.gangSize = 1 || r.mode = 3 then s
    else (s.surface h).foldl (fun s k => match (s.head k).timing with
      | some q => if k != h && q.mode == 3 && s.headOn k && !(s.head k).stopped && !out.contains k then s.loseAlignment k q else s
      | none => s) s
  | none => s

/-- A head of a format change ends its last old frame, and trains its link if it must (R219). -/
def State.endOldFormat (s : State) (h : Nat) : State :=
  match s.comp.formats.find? fun f => !f.started && f.recs.any fun q => q.head == h with
  | none => s
  | some f =>
    if (Map.get? f.ended h).isSome then s
    else
      let s := s.leaderStops h (f.recs.map TimingRec.head)
      let x := s.head h
      let new := f.recs.find? fun q => q.head == h
      let train := match new, x.timing with
        | some n, some o => n.enabled && x.hpd && (x.link.isNone || n.lanes != o.lanes || n.linkRate != o.linkRate || n.lanePolarity != o.lanePolarity || bit n.flags 2 != bit o.flags 2 || !o.enabled)
        | some n, none => n.enabled && x.hpd
        | none, _ => false
      let x := { x with stopped := true, due := false, sending := false, d3 := (match new with | some n => !n.enabled | none => false), training := if train then some s.clk else x.training, trainings := if train then sat 2 (x.trainings + 1) else x.trainings
                        link := if train then none else x.link, failed := if train then none else x.failed }
      let f' := { f with ended := Map.set f.ended h s.clk, train := if train then h :: f.train else f.train }
      { s.setHead h x with comp := { (s.setHead h x).comp with formats := s.comp.formats.map fun q => if q == f then f' else q } }

/-- A group restarts at its first target at or after `at_`, which is instant `tr` of the main reference; it goes on where heads outside the change keep it running (R219, R220). -/
def State.restartGroup (s : State) (f : FormatSet) (tr at_ g : Nat) : State :=
  match s.chief g with
  | none => s.stopGen g
  | some r =>
    let x := s.gen g
    if x.running && (s.headsOf g).any (fun h => (s.head h).own.isNone && !f.recs.any fun q => q.head == h) then s
    else
      let x := if r.mode = 1 then x else x.center s.clk
      let tf := match x.origin r with | some o => (firstTarget r o at_).toNat | none => at_
      let s := (s.setGen g { x with e := 0 }).genTo g (if r.mode = 0 then .free else .acquiring)
      s.setGen g { s.gen g with running := true, tf := tf, tfClk := tr, frac := 0, free := r.mode == 0, cur := none, lp := lineOf r x.trim, span := r.period, latched := false, jump := false, jumped := false, lockNext := false, bigRun := 0 }

/-- The settings of a group whose heads change: those of the committed layout, unless a sealed commit waits (R190). -/
def State.regroup (s : State) (g : Nat) : State :=
  let x := s.grpC g
  let s := if x.next.isSome then s else s.setGrpC g { x with act := s.comp.committed, lanSet := s.comp.committed }
  s.reassign g

/-- When every head of a format change has ended and is ready, t_r is fixed, the new records come into force and the groups restart (R219, R220): 2 ms after the end of training of the heads that train, 600 µs after the end of each frame n. -/
def State.restartFormats (s : State) : State :=
  s.comp.formats.foldl (fun s f =>
    let hs := f.recs.map TimingRec.head
    if f.started || !(hs.all fun h => (Map.get? f.ended h).isSome && (!f.train.contains h || (Map.get? f.ready h).isSome)) then s
    else
      let tr := maxL ((s.clk + 600000) :: hs.map fun h => max (if f.train.contains h then Map.get 0 f.ready h + 2 * ms else 0) (Map.get 0 f.ended h + 600000))
      let at_ := s.devAt tr
      let s := f.recs.foldl (fun s q =>
        s.setHead q.head { s.head q.head with timing := some q, broken := true, due := false, scanning := false, own := none, rejoin := false, e := 0, realigned := none, stopped := false, first := q.enabled, notBefore := at_ }) s
      let s := f.groups.foldl (fun s g => (s.restartGroup f tr at_ g).regroup g) s
      let live := f.groups.filter fun g => f.recs.any fun q => q.sg == g && s.headOn q.head
      { s with comp := { s.comp with formats := (s.comp.formats.map fun q => if q == f then { f with groups := live, started := true } else q).filter fun q => !q.groups.isEmpty } }) s

/-- What a head sends in a frame (Table 7-1, Table 7-2, R196). -/
def State.sentFrame (s : State) (r : TimingRec) (h : Nat) : SentFrame :=
  let x := s.head h
  let (lanes, rate) := x.link.getD (0, 0)
  { head := h, frame := x.nextFrame - 1, timing := r, lanes := lanes, rate := rate, ssc := bit r.flags 2 && (match x.sink with | some k => k.2.2 | none => false), inverted := r.lanePolarity % 16
    srgb := r.colorimetry == 0, vsc2020 := r.colorimetry != 0, eotf := if r.colorimetry = 2 then some 2 else none
    pixels := (List.range r.vActive).flatMap fun y => (List.range r.hActive).map fun c => s.outPixel r h c y }

/-- What a head writes at the end of a frame: tile records, the sent pixels, Lantern's work, loopbacks (R44, R123, R204, R240). -/
def State.writeFrame (s : State) (r : TimingRec) (h : Nat) : State :=
  let recs := s.tileRecs r h
  let x := s.head h
  let cmp := s.comparedOf r h
  let under := (s.onSurface r h).any fun d => (Map.get? (s.win d.window).offAt h).isSome
  let s := if x.sending then { s with out := { s.out with video := s.out.video ++ [s.sentFrame r h] } } else s
  let s := s.setHead h { x with scanning := false, ring := (x.ring ++ [(x.nextFrame - 1, recs)]).drop (x.ring.length - 3)
                                underrunFrames := if under then sat 4 (x.underrunFrames + 1) else x.underrunFrames
                                skippedTiles := if s.domOn 11 then sat 4 (x.skippedTiles + cmp.skips.length) else x.skippedTiles
                                toCompare := if cmp.windows.isEmpty || x.early || !s.domOn 11 then x.toCompare else x.toCompare ++ [cmp] }
  s.loopback r h recs

/-- A tile of a safety window was skipped in the frame (R242). -/
def State.skipFrame (s : State) (r : TimingRec) (d : WindowDesc) : Bool :=
  let ws := s.onSurface r d.head
  d.kind == 2 && ws.any (fun e => !(s.win e.window).offAt.isEmpty) && (s.surface d.head).any fun k => (tilesOf d r k).any fun i => s.skipped r k i ws

/-- The windows of the surface that head `h` leads, at the end of a frame (R217, R242). -/
def State.endWindows (s₀ : State) (r : TimingRec) (h : Nat) : State :=
  (s₀.onSurface r h).foldl (fun s d =>
    let w := s.win d.window
    let skip := s₀.skipFrame r d
    s.setWin d.window { w.endFrame with skipRun := if skip then w.skipRun + 1 else 0 }) s₀

/-- The next frame of a follower that has lost its alignment: on its own timing, or with its leader's first frame at least 600 µs after this one's end (R213, R214). -/
def State.endOwn (s : State) (h end_ : Nat) : State :=
  let x := s.head h
  match x.own with
  | none => s
  | some t =>
    if x.synth && x.rejoin then s.setHead h { x with own := none, broken := true, realigned := some 0, rejoin := false, notBefore := end_ + 600000 }
    else s.setHead h { x with own := some (t + x.span) }

/-- Head `h` is the last of its surface to end the frame; a follower that has lost its alignment does not count. -/
def State.surfaceEnds (s : State) (r : TimingRec) (h : Nat) : Bool :=
  (s.head h).own.isNone && (s.surface (r.leader h)).all fun k => k == h || !(s.head k).scanning || (s.head k).own.isSome

/-- The end of a frame but for the encoder's copies, which Encode.lean takes (R44, R217, R241). -/
def State.finishFrame (s : State) (h : Nat) (r : TimingRec) : State :=
  let n := (s.head h).nextFrame - 1
  let end_ := frameEnd r (s.head h).tf (s.head h).lp
  let s := s.writeFrame r h
  let s := if s.surfaceEnds r h then s.endWindows r (r.leader h) else s
  let s := s.releaseHolds h n
  (((s.endOwn h end_).groupEnd r.sg).endOldFormat h).restartFormats

/-! Sync inputs (R211, R214). -/

/-- D × T of a record, as the numerator over RATE_NUM in ns. -/
def pulseSpan (r : TimingRec) : Nat := (if r.syncCfg / 4 % 4 = 0 then 1 else if r.syncCfg / 4 % 4 = 1 then 2 else 4) * 1000000000 * r.rateDen

/-- `q` lies within `ppm` of D × T of the instant `k` spans after `p`. -/
def nearPulse (r : TimingRec) (p q k ppm : Nat) : Bool := ((((q : Int) - p) * r.rateNum - (k * pulseSpan r : Nat)).natAbs) * 1000000 ≤ ppm * pulseSpan r

/-- The accepted record that tells a generator what to watch (R211): of its lowest-numbered enabled head that is no follower. -/
def State.watched (s : State) (g : Nat) : Option TimingRec :=
  (allHeads.filterMap fun h => (s.head h).stored).find? fun r => r.sg == g && r.enabled && r.mode != 3

/-- No valid pulse is known at a generator (R211). -/
def Gen.blank (x : Gen) : Gen := { x with pulse := none, pulses := [], jump := false, jumped := false }

/-- Trim and AT_LIMIT from the spacing of two valid pulses `k` spans apart (R209). -/
def State.trimTo (s : State) (g : Nat) (r : TimingRec) (p q k : Nat) : State :=
  let x := s.gen g
  let want : Int := (((q : Int) - p) * r.rateNum - (k * pulseSpan r : Nat)) * 1000000000 / (k * pulseSpan r : Nat)
  let trim := clampI (-100000) 100000 want
  if trim != want then
    let s := s.setGen g { x with trim := trim, atLimit := true, insideSince := none }
    if x.atLimit then s else s.record evSyncAtLimit [p2 g, p1 0]
  else s.setGen g { x with trim := trim, insideSince := if x.atLimit then some (x.insideSince.getD s.clk) else none }

/-- A valid pulse at `q` after one at `p`: the targets and the trim follow it, and in HOLD two valid pulses within ±100 ppm of D × T make the generator jump, once (R211, R214). -/
def State.pulseValid (s : State) (g : Nat) (r : TimingRec) (p q k : Nat) : State :=
  let x := s.gen g
  let again := x.state == .hold && !x.jumped && nearPulse r p q 1 100
  ((s.setGen g { x with pulse := some q, pulses := [], jump := x.jump || again }).trimTo g r p q k).reErr g

/-- A pulse at the input of a generator in LOCK_SYNC_IN (R211): valid, part of a run, or spurious. -/
def State.syncPulse (s : State) (g : Nat) (r : TimingRec) (q : Nat) : State :=
  let x := s.gen g
  match x.pulse with
  | some p =>
    match [1, 2, 3].find? fun k => nearPulse r p q k 10000 with
    | some k => s.pulseValid g r p q k
    | none => s.setGen g { x with spurious := sat 2 (x.spurious + 1) }
  | none =>
    match x.pulses with
    | [] => s.setGen g { x with pulses := [q] }
    | l :: _ =>
      if !nearPulse r l q 1 10000 then s.setGen g { x with pulses := [q], spurious := sat 2 (x.spurious + x.pulses.length) }
      else if x.pulses.length ≥ 7 then s.pulseValid g r l q 1
      else s.setGen g { x with pulses := q :: x.pulses }

/-- SYNC_IN_EDGE (R211, R546): an edge of SYNC_IN0 or SYNC_IN1 at sync generators and at TB2. A pulse narrower than 100 ns does not count; TB2 takes the rising edge (DESIGN CHOICE, log 12). -/
def execSyncInEdge (t : Time) (inp : Nat) (e : SyncEdge) (s : State) : Host.Outcome State Fault Refusal :=
  runIf (inp < 2) t s fun s =>
    if e.width < 100 || !s.domOn 3 then s
    else
      let stamp : Int := (s.now : Int) + clampI (-2) 2 e.error
      let s := if e.rising && (s.base 2).cfg.source == 2 + inp && (s.base 2).state != .disabled then s.tb2Pulse stamp else s
      (List.range 4).foldl (fun s g => match s.watched g with
        | some r => if r.mode = 1 && r.syncCfg % 2 = inp && bit r.syncCfg 1 != e.rising then s.syncPulse g r stamp.toNat else s
        | none => s) s

/-- SYNC_PULSE_MISSED (R211): three expected pulses have passed without a valid one. -/
def execSyncPulseMissed (t : Time) (g : Nat) (s : State) : Host.Outcome State Fault Refusal :=
  runIf (g < 4) t s fun s =>
    let x := s.gen g
    match s.watched g, x.pulse with
    | some r, some p =>
      if r.mode = 1 && 100 * pulseSpan r * 3 + pulseSpan r < 100 * (s.now - p) * r.rateNum then
        let s := (s.setGen g { x.blank with lockNext := x.lockNext && x.state != .hold }).reErr g
        if x.state = .locked then s.genTo g .hold else s
      else s
    | _, _ => s

/-- SYNC_TRIM_RELEASE (R209): the trim has stayed inside its bound for 1 000 ms. -/
def execSyncTrimRelease (t : Time) (g : Nat) (s : State) : Host.Outcome State Fault Refusal :=
  runIf (g < 4) t s fun s =>
    let x := s.gen g
    match x.insideSince with
    | some t0 => if x.atLimit && t0 + 1000 * ms ≤ s.clk then (s.setGen g { x with atLimit := false, insideSince := none }).record evSyncAtLimit [p2 g, p1 1] else s
    | none => s

/-- SYNTHESISER_LOCK_CHANGE (R213, R214): a follower's synthesiser loses lock, or relocks and can align at the next leader frame. -/
def execSynthesiserLockChange (t : Time) (h : Nat) (locked : Bool) (s : State) : Host.Outcome State Fault Refusal :=
  runIf (h < 16) t s fun s =>
    let x := s.head h
    let s := s.setHead h { x with synth := locked, rejoin := x.rejoin && locked }
    match x.timing with
    | some r => if locked || !x.synth || r.mode != 3 || !s.headOn h || x.stopped then s else s.loseAlignment h r
    | none => s

/-! Links (R197, R203–R205). -/

/-- Bit/s of a link rate code (Table 7-2). -/
def laneRate (code : Nat) : Nat := code * 270000000

/-- The stream of a record fits a link of `lanes` at `rate` (R200). -/
def fitsLink (r : TimingRec) (lanes rate : Nat) : Bool :=
  r.hTotal * r.vTotal * r.rateNum * 3 * r.bpc * 1000 ≤ lanes * laneRate rate * 796 * r.rateDen

/-- The configurations that training tries, in order (R203). -/
def trainingOrder (r : TimingRec) : List (Nat × Nat) :=
  let lower := [0x14, 0x0A, 0x06].filter (· < r.linkRate)
  let at_ (n : Nat) : List (Nat × Nat) := lower.map fun c => (n, c)
  (r.lanes, r.linkRate) :: if bit r.flags 3 then
    ((if r.lanes > 1 then at_ r.lanes ++ (if r.lanes > 2 then at_ (r.lanes / 2) else []) else []) ++ at_ 1).filter fun e => fitsLink r e.1 e.2
  else []

/-- The record a head trains for: the one that a format change brings once its last old frame has ended, or the one in force. -/
def State.trainingRec (s : State) (h : Nat) : Option TimingRec :=
  match s.comp.formats.findSome? fun f => if f.started || (Map.get? f.ended h).isNone then none else f.recs.find? fun q => q.head == h with
  | some r => some r
  | none => (s.head h).timing

/-- A head trains its link: it is enabled, or is being enabled (R203). -/
def State.trains (s : State) (h : Nat) : Bool :=
  (match s.trainingRec h with | some r => r.enabled | none => false) && s.domOn (headDomain h) && s.domOn 10

/-- Training starts (R203); a format change that waits for other heads waits for it too (R220). -/
def State.train (s : State) (h : Nat) : State :=
  let x := s.head h
  let wait (f : FormatSet) : FormatSet := if f.started || (Map.get? f.ended h).isNone then f else { f with train := if f.train.contains h then f.train else h :: f.train, ready := Map.del f.ready h }
  let s := { s with comp := { s.comp with formats := s.comp.formats.map wait } }
  s.setHead h { x with d3 := false, training := some s.clk, trainings := sat 2 (x.trainings + 1), link := none, fallback := false, sending := false, failed := none }

/-- Training of a head has ended (R219). -/
def State.linkReady (s : State) (h : Nat) : State :=
  let mark (f : FormatSet) : FormatSet := if f.train.contains h && (Map.get? f.ready h).isNone then { f with ready := Map.set f.ready h s.clk } else f
  ({ s with comp := { s.comp with formats := s.comp.formats.map mark } }).restartFormats

/-- LINK_TRAINING_DONE (R203): a training attempt ends; `works` are the configurations at which the sink trains. -/
def execLinkTrainingDone (t : Time) (h : Nat) (works : List (Nat × Nat)) (s : State) : Host.Outcome State Fault Refusal :=
  runIf (h < 16) t s fun s =>
    let x := s.head h
    match x.training, s.trainingRec h with
    | some _, some r =>
      let s := match (trainingOrder r).find? works.contains with
        | some c =>
          let fb := c != (r.lanes, r.linkRate)
          let s := (s.setHead h { x with training := none, failed := none, link := some c, fallback := fb }).record evLinkUp [p2 h]
          if fb then s.record evLinkFallback [p2 h] else s
        | none => s.setHead h { x with training := none, failed := some s.clk, link := none, fallback := false }
      s.linkReady h
    | _, _ => s

/-- LINK_RETRY_TIMER (R203): a head in LINK_FAIL trains again every 1 000 ms. -/
def execLinkRetryTimer (t : Time) (h : Nat) (s : State) : Host.Outcome State Fault Refusal :=
  runIf (h < 16) t s fun s =>
    match (s.head h).failed with
    | some t0 => if s.trains h && (s.head h).hpd && t0 + 1000 * ms ≤ s.clk then s.train h else s
    | none => s

/-- HPD_CHANGE (R204, R205): assertion reads the sink and trains; deassertion stops pixels. -/
def execHpdChange (t : Time) (h : Nat) (level : Bool) (sink : SinkInfo) (s : State) : Host.Outcome State Fault Refusal :=
  runIf (h < 16) t s fun s =>
    let x := s.head h
    if x.hpd = level || !s.domOn (headDomain h) then s
    else if level then
      let edid := sink.edid.take 512
      let s := s.setHead h { x with hpd := true, sink := some (sink.maxLanes, sink.maxRate, sink.ssc), edid := edid, edidAt := s.now }
      let s := if edid != x.edid then s.record evEdidChange [p2 h] else s
      if s.trains h then s.train h else s
    else
      let s := s.setHead h { x with hpd := false, link := none, fallback := false, training := none, failed := none, sending := false, linkLosses := sat 2 (x.linkLosses + 1) }
      (s.record evLinkDown [p2 h]).linkReady h

/-- IRQ_HPD (R197): the head acts only on a lost link. -/
def execIrqHpd (t : Time) (h : Nat) (lost : Bool) (s : State) : Host.Outcome State Fault Refusal :=
  runIf (h < 16) t s fun s =>
    let x := s.head h
    if lost && x.hpd && x.link.isSome && s.trains h then
      ((s.setHead h { x with linkLosses := sat 2 (x.linkLosses + 1) }).record evLinkDown [p2 h]).train h
    else s

/-! Records (R198, R218–R222, R557). -/

/-- The groups that a set of records touches: those of the new records and of the ones in force. -/
def State.setGroups (s : State) (recs : List TimingRec) : List Nat :=
  dedup (recs.flatMap fun q => q.sg :: ((s.head q.head).timing.map TimingRec.sg).toList)

/-- A format change to the records starts (R219, R220): heads that scan no frame have ended already. -/
def State.startFormat (s : State) (recs : List TimingRec) : State :=
  let f : FormatSet := { recs := recs, sealedAt := s.clk, groups := s.setGroups recs }
  let s := { s with comp := { s.comp with formats := s.comp.formats ++ [f] } }
  let s := recs.foldl (fun s q => if (s.head q.head).scanning || (s.head q.head).due then s else s.endOldFormat q.head) s
  s.restartFormats

/-- A head leaves a format change in progress, which goes on for the others (R557). -/
def State.leaveFormat (s : State) (h : Nat) : State :=
  let cut (f : FormatSet) : FormatSet :=
    let recs := f.recs.filter fun q => q.head != h
    { f with recs := recs, train := f.train.filter (· != h), groups := f.groups.filter fun g => (s.setGroups recs).contains g }
  { s with comp := { s.comp with formats := (s.comp.formats.map cut).filter fun f => !f.recs.isEmpty && !f.groups.isEmpty } }

/-- The state in which a generator starts with a record (R222). -/
def State.startGen (s : State) (g : Nat) (r : TimingRec) : State :=
  let x := if r.mode = 1 then s.gen g else (s.gen g).center s.clk
  let clk := s.clk + 2 * ms
  let at_ := s.devAt clk
  let tf := match x.origin r with | some o => (firstTarget r o at_).toNat | none => at_
  let s := (s.setGen g { x with e := 0 }).genTo g (if r.mode = 0 then .free else .acquiring)
  s.setGen g { s.gen g with running := true, tf := tf, tfClk := clk, frac := 0, free := r.mode == 0, cur := none, lp := lineOf r x.trim, span := r.period, latched := false
                            jump := false, jumped := false, lockNext := false, bigRun := 0 }

/-- Heads are enabled at start-up (R222): they train, and show STARTING from their first frame. -/
def State.startHeads (s : State) : State :=
  let s := allHeads.foldl (fun s h =>
    let x := s.head h
    match x.stored with
    | some r => if r.enabled then (s.setHead h { x with timing := some r, startDue := true, broken := false }) else s.setHead h { x with timing := some r }
    | none => s) s
  let s := allHeads.foldl (fun s h => if s.headOn h && (s.head h).hpd then s.train h else s) s
  (List.range 4).foldl (fun s g => match s.chief g with | some r => s.startGen g r | none => s) s

/-- A record that selects LOCK_SYNC_IN or changes SYNC_CFG makes its generator watch anew (R211). -/
def State.watchAnew (s : State) (old : Option TimingRec) (r : TimingRec) : State :=
  let same := match old with | some o => o.enabled && o.sg == r.sg && o.mode == r.mode && o.syncCfg == r.syncCfg | none => false
  if !r.enabled || r.mode = 3 || same then s else s.setGen r.sg (s.gen r.sg).blank

/-- A change of the reference alone (R218): the generator slews toward the new target, or jumps to it where it is in HOLD (R214). -/
def State.changeReference (s : State) (r : TimingRec) : State :=
  let s := s.setHead r.head { s.head r.head with timing := some r }
  if r.mode = 3 then s
  else
    let x := s.gen r.sg
    let s := (s.setGen r.sg (if r.mode = 1 then x else x.center s.clk)).reErr r.sg
    if r.mode = 0 then (s.setGen r.sg { s.gen r.sg with jump := false, jumped := false, lockNext := false }).genTo r.sg .free
    else if x.state = .hold then s.setGen r.sg { s.gen r.sg with jump := r.mode == 2, jumped := false, lockNext := false }
    else s.genTo r.sg .acquiring

/-- Two records differ only in SYNC_CFG, PHASE_OFFSET, or MODE among 0 to 2 (R218). -/
def referenceOnly (a b : TimingRec) : Bool :=
  { a with syncCfg := b.syncCfg, phaseOffset := b.phaseOffset, mode := b.mode } == b && (a.mode == b.mode || (a.mode < 3 && b.mode < 3))

end Sys2Proof.Machine
end

