-- ==== Sys2Proof/Machine/Lantern.lean ====
section
/-! DEFINITION. Lantern's recomputation, comparisons, retries and self-test, and the audit of the safety configuration (R235–R247). -/

namespace Sys2Proof.Machine

/-! Recomputation (R238–R240). -/

/-- A safety window as Lantern has it in a frame: its descriptor, what it showed, T_w. -/
abbrev SafeWin := WindowDesc × Win × Nat

/-- The reason that the head reports for a window: its own, or what a faulty head reports instead. -/
def reported (reports : List (Nat × Nat)) (e : SafeWin) : Nat := ((reports.find? fun x => x.1 == e.1.window).map (·.2)).getD e.2.1.shown

/-- A window as Lantern recomputes it: the reported reason, with the age of its own arithmetic (R238). -/
def Compared.win (c : Compared) (reports : List (Nat × Nat)) (w : Nat) : Win :=
  match c.windows.find? fun e => e.1.window == w with
  | some e =>
    let age := match e.2.1.latched with | some p => ageUs p.tag e.2.2 c.u | none => e.2.1.ageUs
    { e.2.1 with shown := reported reports e, ageUs := age }
  | none => {}

/-- The output codes of a pixel as Lantern computes them (R236, R238): the safety windows alone, over black, since the topmost one covers what lies below. -/
def Compared.pixel (c : Compared) (reports : List (Nat × Nat)) (h x y : Nat) : Rgb :=
  let r := c.timing
  let (ox, oy) := r.offset h
  let v :=
    if c.reason != 0 then shutterPixel 0 (c.safety.palette c.safety.headPalette) c.reason c.readout (ox + x) (oy + y) ((x : Int) - 8) ((y : Int) - 8)
    else (stackOf c.set (r.leader h) (c.windows.map (·.1))).foldl (composeWindow (c.win reports) c.set c.safety r h y (ox + x) (oy + y)) Rgb.black
  { r := quantise r.bpc v.r, g := quantise r.bpc v.g, b := quantise r.bpc v.b }

/-- The expected SAFE_CRC of a tile, over the mask of Lantern's own descriptors (R240). -/
def Compared.expected (c : Compared) (reports : List (Nat × Nat)) (h i : Nat) : Nat := safeCrc (c.pixel reports h) (c.windows.map (·.1)) c.timing h i

/-- The tiles that differ, with the expected and the observed SAFE_CRC: `seen` are CRCs that the scan engine took from a faulty output. A skipped tile is not compared (R241, R242). -/
def Compared.diffs (c : Compared) (seen reports : List (Nat × Nat)) (h : Nat) : List (Nat × Nat × Nat) :=
  (c.observed.filter fun o => !c.skips.contains o.1).filterMap fun o =>
    let e := c.expected reports h o.1
    let v := ((seen.find? fun x => x.1 == o.1).map (·.2)).getD o.2
    if e = v then none else some (o.1, e, v)

/-- One of Lantern's own checks STALE, FROZEN by sequence and TIME fails at T_w (R239). -/
def lanternDecides (pol : Policy) (p : Picture) (tw u : Nat) (trusted : Bool) : Bool :=
  ageUs p.tag tw u > pol.ageLimit || tw - p.tag.advance > pol.freezeLimit * 1000000 || (bit pol.control 0 && !p.tag.trusted trusted)

/-- The tag that the head passes is not the window's: another SOURCE, or not complete before the latch instant (R238). -/
def Compared.wrongTag (c : Compared) (e : SafeWin) : Bool :=
  match e.2.1.latched with
  | some p => p.tag.source != e.1.source || p.tag.complete + 500000 ≥ c.tf
  | none => false

/-- A copy of Lantern's that a window uses has failed its check (R237). -/
def Compared.badCopy (c : Compared) (h : Nat) (d : WindowDesc) : Bool :=
  c.bad.any fun x => match x with
    | .window w => w == d.window
    | .program l => l == c.timing.leader h && (c.set.blend l).any fun st => st.window == d.window
    | .tone p => p == d.toneProfile
    | .coef k => k == d.scaleSet && (d.cropW != d.width || d.cropH != d.height)
    | .policies | .palettes => true

/-- The head shows the window's content in the frame, as it reports it. -/
def Compared.content (c : Compared) (reports : List (Nat × Nat)) (e : SafeWin) : Bool := c.reason == 0 && reported reports e == 0

/-- A decision mismatch of a window (R239, R245), or a mismatch without a tile: a failed copy or tag (R237, R238; the kind is DEDUCED, log 35). -/
def Compared.decides (c : Compared) (reports : List (Nat × Nat)) (h : Nat) (e : SafeWin) : Bool :=
  let fails := match e.2.1.latched with
    | some p => lanternDecides (c.safety.policy e.1.policy) p e.2.2 c.u c.trusted
    | none => false
  (c.content reports e && (fails || e.2.1.skipRun ≥ 8)) || (reported reports e == 7 && !bit e.2.1.active 7) || c.wrongTag e || c.badCopy h e.1

/-! Comparison (R241–R247). -/

/-- Lantern's comparison of a frame of a head ends with these observed CRCs and reported reasons. -/
def State.compareFrame (s : State) (h : Nat) (c : Compared) (seen reports : List (Nat × Nat)) : State :=
  let x := s.head h
  let diffs := c.diffs seen reports h
  let dec := (c.windows.filter (c.decides reports h)).map fun e => e.1.window
  let found := !diffs.isEmpty || !dec.isEmpty
  let s := s.setHead h { x with
    toCompare := x.toCompare.filter fun q => q.frame != c.frame, late := false, lastCompared := some c.frame, framesCompared := sat 4 (x.framesCompared + 1)
    tilesCompared := sat 4 (x.tilesCompared + (c.observed.length - c.skips.length)), mismatchTiles := sat 4 (x.mismatchTiles + diffs.length)
    decisionMismatches := sat 4 (x.decisionMismatches + dec.length), lastMismatch := if found then some c.frame else x.lastMismatch }
  let f : Finding := { head := h, frame := c.frame, tf := c.tf, timing := c.timing, diffs := diffs, windows := c.windows.map fun e => (e.1, c.content reports e), decision := dec, late := false, assigns := c.assigns }
  (({ s with comp := { s.comp with findings := s.comp.findings ++ [f] } }).concludeFrame c.timing h c.tf).lanternReleases h c.frame

/-- The instant at which every tile of a scanned frame that meets a safety window has left the head (R240, R241). -/
def Compared.taken (c : Compared) : Nat := c.observed.foldl (fun m o => max m (rowInstant c.tf c.lp (o.1 / tileCols c.timing + 1))) c.tf

/-- LANTERN_COMPARE_DONE (R241): the comparison of frame `n` of a head ends. `seen` are the SAFE_CRCs that a fault made the scan engine observe instead of those of the head's pixels, by tile; `reports` the reason codes that a faulty head reports instead of its own, by window (R238, R245). A frame that is still scanned can be compared once its last tile that meets a safety window has left. -/
def execLanternCompareDone (t : Time) (h n : Nat) (seen reports : List (Nat × Nat)) (s : State) : Host.Outcome State Fault Refusal :=
  runIf (h < 16) t s fun s =>
    let x := s.head h
    match x.toCompare.find? fun c => c.frame == n with
    | some c => s.compareFrame h c seen reports
    | none =>
      match x.timing with
      | some r =>
        let c := s.comparedOf r h
        if x.scanning && !x.early && c.frame = n && !c.windows.isEmpty && s.domOn 11 && c.taken ≤ s.now then (s.setHead h { x with early := true }).compareFrame h c seen reports
        else s
      | none => s

/-- LANTERN_LATE (R241): the comparison of frame `n` is not complete by the latch instant of frame n + 2; the latch itself finds it too. -/
def execLanternLate (t : Time) (h n : Nat) (s : State) : Host.Outcome State Fault Refusal :=
  runIf (h < 16) t s fun s =>
    let x := s.head h
    match x.toCompare.find? fun c => c.frame == n, x.timing with
    | some c, some r =>
      let next := if x.scanning then x.nextFrame - 1 else x.nextFrame
      let tf := if x.scanning then x.tf else x.own.getD (s.gen r.sg).tf
      if n + 2 ≤ next && tf ≤ s.now + 500000 then ((s.compareLate h c).concludeFrame c.timing h c.tf).lanternReleases h n else s
    | _, _ => s

/-- LANTERN_RETRY (R244): at the latch instant of the first frame that latches at least 1 000 ms after the activation, an unlatched reason clears. -/
def execLanternRetry (t : Time) (w : Nat) (s : State) : Host.Outcome State Fault Refusal :=
  runIf (w < 1024) t s fun s =>
    let x := s.win w
    let d := s.activeWindow w
    match s.groupOf d with
    | some g =>
      let y := s.gen g
      if bit x.active 7 && !x.lanternLatched && !x.lanternFault && !x.mismatch && !y.latched && y.tf ≤ s.now + 500000 && x.lanternAt + 1000 * ms + 500000 ≤ y.tf then
        (s.setWin w { x with active := setBit x.active 7 false, unproven := d.kind == 2 }).recordAt evLanternCleared y.tf [p2 w]
      else s
    | none => s

/-! The self-test (R246). -/

/-- The head in whose vertical blanking the self-test runs: the enabled one that meets the most safety windows, the lowest of equals. -/
def State.selftestHead (s : State) : Option Nat :=
  let on := allHeads.filter s.headOn
  let n (h : Nat) : Nat := match (s.head h).timing with | some r => (s.safetyOn r h).length | none => 0
  let top := maxL (on.map n)
  on.find? fun h => n h == top

/-- The self-test can run: its 1 000 ms have passed, and its head is in vertical blanking. -/
def State.selftestNow (s : State) : Bool :=
  s.domOn 11 && s.comp.selftestDue ≤ s.clk && (match s.selftestHead with | some h => !(s.head h).scanning | none => true)

/-- LANTERN_SELFTEST (R246): every 1 000 ms while PD_LANTERN is on; a failure is a device-wide fault. -/
def execLanternSelftest (t : Time) (pass : Bool) (s : State) : Host.Outcome State Fault Refusal :=
  run t s fun s =>
    if !s.selftestNow then s
    else
      let s := { s with comp := { s.comp with selftestDue := s.comp.selftestDue + 1000 * ms } }
      if pass then { s with comp := { s.comp with selftestPassed := true } }
      else ({ s with comp := { s.comp with selftestFail := true, selftestPassed := false } }).record evLanternSelftestFail []

/-! The safety configuration (R235). -/

/-- The configuration that start-up or a reload takes: the valid copy with the higher generation, else the defaults with CONFIG_RESTORED. -/
def State.loadSafety (s : State) : State :=
  let c := s.comp
  if c.copyAOk && (!c.copyBOk || c.copyB.generation ≤ c.copyA.generation) then { s with comp := { c with safety := c.copyA, cfgIntact := true } }
  else if c.copyBOk then { s with comp := { c with safety := c.copyB, cfgIntact := true } }
  else ({ s with comp := { c with safety := {}, cfgIntact := true, restored := true } }).record evSafetyConfigRestored []

/-- CONFIG_AUDIT (R235, R497): the in-service copy is checked against Spire B's CRC; on a mismatch it is reloaded from NAND. `copyOk` says whether the NAND copies pass their CRC. -/
def execConfigAudit (t : Time) (corrupt copyOk : Bool) (s : State) : Host.Outcome State Fault Refusal :=
  run t s fun s =>
    if !corrupt || !s.domOn 3 then s
    else
      let s := if copyOk then s else { s with comp := { s.comp with copyAOk := false, copyBOk := false } }
      s.loadSafety.record evSafetyConfigAudit []

end Sys2Proof.Machine
end

