-- ==== Sys2Proof/Machine/Encode.lean ====
section
/-! DEFINITION. Encode channels: the copy at the end of a frame, coding within the cap, the age that travels with it, and both outputs (R251–R275). -/

namespace Sys2Proof.Machine

def State.enc? (s : State) (c : Nat) : EncChan := Map.get {} s.enc.chan c
def State.setEnc (s : State) (c : Nat) (x : EncChan) : State := { s with enc := { s.enc with chan := Map.set s.enc.chan c x } }

/-- The encode channels of the W16. -/
def allChannels : List Nat := List.range 32

end Sys2Proof.Machine

namespace Sys2Proof

open Machine (bit cdiv rd)

def EncodeRec.h265 (d : EncodeRec) : Bool := d.format < 2
def EncodeRec.rowRefresh (d : EncodeRec) : Bool := bit d.flags 0
def EncodeRec.toHost (d : EncodeRec) : Bool := bit d.flags 1
/-- CTU rows and columns (R252, R261). -/
def EncodeRec.ctuRows (d : EncodeRec) : Nat := cdiv d.height 64
def EncodeRec.ctuCols (d : EncodeRec) : Nat := cdiv d.width 64
/-- Host ring: base and size (Table 9-1). -/
def EncodeRec.ringBase (d : EncodeRec) : Nat := rd d.dest 0 8
def EncodeRec.ringSize (d : EncodeRec) : Nat := rd d.dest 8 4

end Sys2Proof

namespace Sys2Proof.Machine

/-! Levels of H.265 (R257; the limits are PRESUMED from Rec. ITU-T H.265, log 14). -/

/-- general_level_idc, MaxLumaPs, MaxLumaSr, bit rate and CPB of Main tier and of High tier, in kbit. -/
def hevcLevels : List (Nat × Nat × Nat × Nat × Nat) :=
  [(30, 36864, 552960, 128, 0), (60, 122880, 3686400, 1500, 0), (63, 245760, 7372800, 3000, 0), (90, 552960, 16588800, 6000, 0), (93, 983040, 33177600, 10000, 0),
   (120, 2228224, 66846720, 12000, 30000), (123, 2228224, 133693440, 20000, 50000), (150, 8912896, 267386880, 25000, 100000), (153, 8912896, 534773760, 40000, 160000)] ++
  [(156, 8912896, 1069547520, 60000, 240000), (180, 35651584, 1069547520, 60000, 240000), (183, 35651584, 2139095040, 120000, 480000), (186, 35651584, 4278190080, 240000, 800000)]

/-- CPB size of a level's Main tier in kbit: level 1 has 350 (log 14). -/
def mainCpb (e : Nat × Nat × Nat × Nat × Nat) : Nat := if e.1 = 30 then 350 else e.2.2.2.1

/-- LEVEL and TIER of a channel whose head runs at num/den Hz, none if no level up to 6.2 allows it (R257). -/
def encodeLevel (d : EncodeRec) (num den : Nat) : Option (Nat × Nat) :=
  let luma := d.width * d.height
  let fits (bits : Nat) : Bool := d.cap * num ≤ bits * 1000 * den * d.rateDiv
  (hevcLevels.findSome? fun e =>
    if luma ≤ e.2.1 && luma * num ≤ e.2.2.1 * den * d.rateDiv then
      if fits e.2.2.2.1 && d.cap ≤ mainCpb e * 1000 then some (e.1, 0)
      else if fits e.2.2.2.2 && d.cap ≤ e.2.2.2.2 * 1000 then some (e.1, 1)
      else none
    else none)

/-- LEVEL and TIER that a channel signals: 0 for a raw one (R257, R275). -/
def signalled (d : EncodeRec) (num den : Nat) : Nat × Nat := if d.h265 then (encodeLevel d num den).getD (0, 0) else (0, 0)

/-! The copied region (R254, R255). -/

/-- The head that leads the surface of a channel's region, and the region's left and top edge on it. -/
def State.encOrigin (s : State) (d : EncodeRec) : Option (Nat × Int × Int) :=
  if d.input = 0 then some (d.head, d.x, d.y)
  else
    let w := s.activeWindow d.window
    if w.head < 16 then (s.head w.head).timing.map fun r => (w.head, (WinRect w r).1, (WinRect w r).2.1) else none

/-- The head of a gang that shows surface pixel (x, y), and the pixel there. -/
def gangPixel (r : TimingRec) (lead : Nat) (x y : Nat) : Nat × Nat × Nat :=
  (lead + y / r.vActive * r.gangCols + x / r.hActive, x % r.hActive, y % r.vActive)

/-- Output codes of a surface pixel. -/
def State.surfacePixel (s : State) (r : TimingRec) (lead : Nat) (x y : Nat) : Rgb :=
  let (h, a, b) := gangPixel r lead x y
  s.outPixel ((s.head h).timing.getD r) h a b

/-- One averaged pixel of the copy (R255). -/
def State.averaged (s : State) (r : TimingRec) (lead : Nat) (d : EncodeRec) (x0 y0 i j : Nat) : Rgb :=
  let px := (List.range d.down).flatMap fun b => (List.range d.down).map fun a => s.surfacePixel r lead (x0 + i * d.down + a) (y0 + j * d.down + b)
  let avg (f : Rgb → Nat) : Nat := (sumL (px.map f) + d.down * d.down / 2) / (d.down * d.down)
  { r := avg Rgb.r, g := avg Rgb.g, b := avg Rgb.b }

/-- Heads and tiles of a surface that meet lines [y0, y1) of columns [x0, x1). -/
def State.tilesIn (s : State) (r : TimingRec) (lead x0 y0 x1 y1 : Nat) : List (Nat × Nat) :=
  (s.surface lead).flatMap fun h =>
    let (ox, oy) := r.offset h
    let q : Int × Int × Int × Int := ((x0 : Int) - ox, (y0 : Int) - oy, (x1 : Int) - ox, (y1 : Int) - oy)
    ((List.range (tileCols r * tileRows r)).filter fun i => !rectEmpty (rectMeet q (tileRect r i))).map fun i => (h, i)

/-- The pair of rows coded from the copy (R265): from the tiles that the row's lines meet and the pictures behind them. -/
def State.rowPair (s : State) (r : TimingRec) (lead : Nat) (recs : List (Nat × List TileRec)) (stack : List (WindowDesc × Nat)) (tiles : List (Nat × Nat)) : RowPair :=
  let hd := s.head lead
  let rec? (e : Nat × Nat) : Option TileRec := (Map.get [] recs e.1)[e.2]?
  let aged := tiles.filterMap fun e => match rec? e with
    | some t => if t.age > 0 then some (t.age, ((rowInstant hd.tf hd.lp (e.2 / tileCols r) : Nat) : Int) - 1000 * (t.age : Int)) else none
    | none => none
  let pics := tiles.flatMap fun e => (s.contributors r e.1 e.2 stack).filterMap fun w => (s.win w.1.window).latched
  let trusted := (s.gen r.sg).trusted
  { capture := aged.foldl (fun a e => min a e.2) ((aged.head?.map (·.2)).getD hd.tf)
    unbounded := aged.any fun e => e.1 == 0xFFFFFFFF
    cls := if pics.isEmpty then (if trusted then 0 else 2) else pics.foldl (fun a p => max a p.tag.cls) 0
    locked := if pics.isEmpty then trusted else pics.all fun p => bit p.tag.info 2 }

/-- The copy of the frame that a surface ends (R254, R255, R265–R267). -/
def State.copyOf (s : State) (r : TimingRec) (lead : Nat) (d : EncodeRec) (x0 y0 : Nat) : Copy :=
  let hd := s.head lead
  let gen := s.gen r.sg
  let stack := stackOf (s.grpC r.sg).act lead ((s.groupWindows r.sg).filter fun w => w.head == lead)
  let recs := (s.surface lead).map fun h => (h, s.tileRecs r h)
  let w := d.width * d.down
  let tiles (y0 y1 : Nat) : List (Nat × Nat) := s.tilesIn r lead x0 y0 (x0 + w) y1
  let all := tiles y0 (y0 + d.height * d.down)
  let shown := all.flatMap fun e => (s.contributors r e.1 e.2 stack).map fun c => c.1.window
  { frame := hd.nextFrame - 1, tf := hd.tf, bpc := r.bpc, colorimetry := r.colorimetry
    pixels := (List.range d.height).flatMap fun j => (List.range d.width).map fun i => s.averaged r lead d x0 y0 i j
    pairs := (List.range d.ctuRows).map fun k =>
      s.rowPair r lead recs stack (tiles (y0 + 64 * k * d.down) (y0 + min (64 * (k + 1)) d.height * d.down))
    windows := sortBy (·.1) ((dedup shown).map fun v => (v, match (s.win v).latched with | some p => p.tag.alive | none => 0x100000000))
    reasons := all.map fun e => (e, (match (Map.get [] recs e.1)[e.2]? with | some t => t.state % 16 | none => 0))
    unc := gen.uBases.getD d.timeBase 0, locked := bit gen.locked d.timeBase, d := hd.dBases.getD d.timeBase 0 }

/-! Conversion (R256). -/

/-- Bits per sample of an H.265 channel. -/
def codedDepth (d : EncodeRec) : Nat := if d.format = 1 then 10 else 8

/-- x/y rounded to nearest, ties upward, for y positive. -/
def nearest (x y : Int) : Int := (2 * x + y) / (2 * y)

/-- K_R and K_B in units of 10⁻⁴ by COLORIMETRY. -/
def lumaWeights (colorimetry : Nat) : Int × Int := if colorimetry = 0 then (2126, 722) else (2627, 593)

/-- A pixel's Y′, C′b and C′r as codes of `depth` bits, from codes of `bpc` bits. Coefficients from code to code are multiples of 2⁻¹⁴ (DEDUCED, log 19). -/
def toYcc (colorimetry bpc depth : Nat) (c : Rgb) : Nat × Nat × Nat :=
  let (kr, kb) := lumaWeights colorimetry
  let kg := 10000 - kr - kb
  let top : Int := (2 ^ bpc : Nat) - 1
  let up : Int := (2 ^ (depth - 8) : Nat)
  let coef (num den : Int) : Int := nearest (num * 16384) den
  let out (off hi : Int) (a b d : Int) : Nat := (clampI (16 * up) (hi * up) (nearest (a * c.r + b * c.g + d * c.b + off * up * 16384) 16384)).toNat
  let y (k : Int) : Int := coef (k * 219 * up) (10000 * top)
  let half : Int := coef (112 * up) top
  let cc (k q : Int) : Int := coef (-k * 112 * up) ((10000 - q) * top)
  (out 16 235 (y kr) (y kg) (y kb), out 128 240 (cc kr kb) (cc kg kb) half, out 128 240 half (cc kg kr) (cc kb kr))

/-- The planes that an H.265 channel codes. -/
def Copy.planes (x : Copy) (d : EncodeRec) : List (List Nat) :=
  let px := x.pixels.map (toYcc x.colorimetry x.bpc (codedDepth d))
  let at_ (i j : Nat) : Nat × Nat × Nat := px.getD (j * d.width + i) (0, 0, 0)
  let chroma (f : Nat × Nat × Nat → Nat) : List Nat := (List.range (d.height / 2)).flatMap fun j => (List.range (d.width / 2)).map fun i =>
    (f (at_ (2 * i) (2 * j)) + f (at_ (2 * i + 1) (2 * j)) + f (at_ (2 * i) (2 * j + 1)) + f (at_ (2 * i + 1) (2 * j + 1)) + 2) / 4
  [px.map (·.1), chroma (·.2.1), chroma (·.2.2)]

/-! Engines. An engine codes one picture at a time, the oldest copy of its channels first (DESIGN CHOICE, log 19). -/

def State.engineBusy (s : State) (e : Nat) : Bool := s.enc.chan.any fun c => c.2.engine == e && c.2.coding.isSome

/-- A lowered MAX_QP_RAISE bounds QP_RAISE from the next picture on; a raised one ends AT_LIMIT (R253, R264). -/
def State.boundQp (s : State) (c : Nat) : State :=
  let x := s.enc? c
  let top := x.decl.maxQpRaise
  if top < x.raise then
    let s := s.setEnc c { x with raise := top, atLimit := true }
    if x.atLimit then s else s.record evEncodeAtLimit [p2 c]
  else if x.raise < top && x.atLimit then s.setEnc c { x with atLimit := false }
  else s

/-- A free engine starts the oldest copy that waits at its channels. -/
def State.startCoding (s : State) (e : Nat) : State :=
  if s.engineBusy e || !s.domOn 9 then s
  else
    let ready := s.enc.chan.filterMap fun c => if c.2.engine == e && (c.2.state == .starting || c.2.state == .running) then c.2.waiting.map fun w => (c.1, w) else none
    match (sortBy (fun c => c.2.tf) ready).head? with
    | some (c, w) =>
      let s := s.boundQp c
      let x := s.enc? c
      s.setEnc c { x with waiting := none, coding := some { copy := w, decl := x.decl, raise := x.raise, planes := if x.decl.h265 then w.planes x.decl else [] } }
    | none => s

/-- A picture of channel `c` is dropped and counted (R273). -/
def State.countDrop (s : State) (c : Nat) : State :=
  let x := s.enc? c
  ({ s with enc := { s.enc with dropped := true } }.setEnc c { x with drops := sat 4 (x.drops + 1) }).record evEncodeDrop [p2 c]

/-- A door refused a transfer for the picture that channel `c` codes, or for the one copied: it is dropped (Table 16-4). -/
def State.dropRefused (s : State) (c : Nat) (copied : Bool) : State :=
  let x := s.enc? c
  if copied then (if x.waiting.isSome then (s.setEnc c { x with waiting := none }).countDrop c else s)
  else if x.coding.isSome then ((s.setEnc c { x with coding := none }).countDrop c).startCoding x.engine
  else s

/-- A copy for channel `c`: an older one that has not started is dropped (R273). -/
def State.takeCopy (s : State) (c : Nat) (w : Copy) : State :=
  let x := s.enc? c
  let s := if x.waiting.isSome then s.countDrop c else s
  (s.setEnc c { s.enc? c with waiting := some w }).startCoding x.engine

/-- The copies of a frame that the surface of head `h` ends. -/
def State.copyFrame (s : State) (h : Nat) (r : TimingRec) : State :=
  let lead := r.leader h
  if !s.surfaceEnds r h || !s.domOn 9 then s
  else allChannels.foldl (fun s c =>
    let x := s.enc? c
    match s.encOrigin x.decl with
    | some (l, x0, y0) =>
      if (x.state == .starting || x.state == .running) && l == lead && ((s.head lead).nextFrame - 1) % x.decl.rateDiv = 0 then
        s.takeCopy c (s.copyOf r lead x.decl x0.toNat y0.toNat)
      else s
    | none => s) s

/-- FRAME_END (R217, R44, R255): frame n of a head has left. -/
def execFrameEnd (t : Time) (h : Nat) (s : State) : Host.Outcome State Fault Refusal :=
  runIf (h < 16) t s fun s =>
    match (s.head h).timing with
    | some r =>
      if s.headOn h && (s.head h).scanning && frameEnd r (s.head h).tf (s.head h).lp ≤ s.now then (s.copyFrame h r).finishFrame h r else s
    | none => s

/-! The age-carrying message (R265–R268). -/

/-- Payload of Table 9-3. -/
structure AgeMsg where
  cls : Nat
  locked : Bool
  clipped : Bool
  alive : Nat
  capture : Int
  unc : Nat
  frame : Nat
  deriving DecidableEq, Repr

def AgeMsg.bytes (a : AgeMsg) : Bytes :=
  [0x4C, 0x4B, 0x57, 0x31, 0x36, 0x2D, 0x41, 0x47, 0x45, 0x2D, 0x54, 0x41, 0x47, 0x00, 0x00, 0x01] ++
  [1, BitVec.ofNat 8 a.cls, BitVec.ofNat 8 (bitsOf [a.locked, a.clipped]), 0] ++ le 4 a.alive ++ leS 8 a.capture ++ le 4 a.unc ++ le 8 a.frame ++ zeros 4

/-- The pair of a picture (R265). -/
def picturePair (rows : List RowPair) (tf : Int) : RowPair :=
  { capture := rows.foldl (fun a p => min a p.capture) ((rows.head?.map RowPair.capture).getD tf), cls := rows.foldl (fun a p => max a p.cls) 0
    locked := rows.all RowPair.locked, unbounded := rows.any RowPair.unbounded }

/-- ALIVE of the next picture (R267). -/
def EncChan.nextAlive (x : EncChan) (w : Copy) : Nat :=
  let moved := w.windows.any fun e => x.windows.any fun o => o.1 == e.1 && o.2 != e.2
  let sets := w.windows.map (·.1) != x.windows.map (·.1)
  let reasons := w.reasons.any fun e => x.reasons.any fun o => o.1 == e.1 && o.2 != e.2
  if !x.coded then 0 else if moved || sets || reasons then (x.alive + 1) % 4294967296 else x.alive

/-- Emulation prevention of a NAL unit: 3 after two zero bytes before a byte of 0 to 3. -/
def emulate : Nat → Bytes → Bytes
  | _, [] => []
  | z, b :: bs => if z ≥ 2 && b.toNat ≤ 3 then 3 :: b :: emulate (if b = 0 then 1 else 0) bs else b :: emulate (if b = 0 then z + 1 else 0) bs

/-- A prefix SEI NAL unit with one message. -/
def seiNal (ty : Nat) (body : Bytes) : Bytes := emulate 0 ([0x4E, 0x01, BitVec.ofNat 8 ty, BitVec.ofNat 8 body.length] ++ body ++ [0x80])

/-- Bits, most significant first, as bytes, ended by a one bit and zeros where they do not fill a byte. -/
def packBits (bs : List Bool) : Bytes :=
  let bs := if bs.length % 8 = 0 then bs else bs ++ true :: List.replicate (7 - bs.length % 8) false
  (List.range (bs.length / 8)).map fun i => BitVec.ofNat 8 (((bs.drop (8 * i)).take 8).foldl (fun a b => 2 * a + (if b then 1 else 0)) 0)

/-- The recovery point message of a cycle of `p` pictures (R259): recovery_poc_cnt = p − 1, exact_match_flag 1, broken_link_flag 0. -/
def recoverySei (p : Nat) : Bytes :=
  let k := if p ≤ 1 then 1 else 2 * (p - 1)
  let z := Nat.log2 k
  seiNal 6 (packBits (List.replicate z false ++ ((List.range (z + 1)).map fun i => bit k (z - i)) ++ [true, false]))

/-! Rate control (R260–R262). -/

def nalBits (b : Bytes) : Nat := 8 * b.length

/-- QP_base of a picture (R261). -/
def qpBase (d : EncodeRec) (raise : Nat) : Nat := min 51 ((100 - d.quality) * 51 / 100 + raise)

/-- A row as it was coded: its bytes, whether it was recoded and whether it is clipped. -/
structure RowOut where
  nal : Bytes
  recoded : Bool
  clipped : Bool
  deriving DecidableEq, Repr

/-- The rows of a picture within its cap (R262): `e` is the excess above the floors, `f` the floor, `n` the rows in all, `x` what has been used. -/
def codeRows (e : Int) (f n : Nat) : List CodedRow → Nat → Int → Bool → List RowOut
  | [], _, _, _ => []
  | w :: ws, r, x, clipped =>
    let rem : Int := e - x
    let limit : Int := f + min rem (2 * rem / ((n - r : Nat) : Int))
    let recoded := !clipped && (nalBits w.base.nal : Int) > limit
    let now := clipped || (recoded && (nalBits w.recode.nal : Int) > limit)
    let nal := if now then w.fallback.nal else if recoded then w.recode.nal else w.base.nal
    { nal := nal, recoded := recoded, clipped := now } :: codeRows e f n ws (r + 1) (x + nalBits nal - f) now

/-- Stripe k of C columns or rows in P pictures (R259): first and one past the last. -/
def stripeOf (k c p : Nat) : Nat × Nat := (k * c / p, (k + 1) * c / p)

/-- A clipped row holds a CTU of the stripe (R260). -/
def stripeClipped (d : EncodeRec) (k : Nat) (rows : List RowOut) : Bool :=
  if d.rowRefresh then
    let (a, b) := stripeOf k d.ctuRows d.refreshPeriod
    rows.zipIdx.any fun e => e.1.clipped && a ≤ e.2 && e.2 < b
  else
    let (a, b) := stripeOf k d.ctuCols d.refreshPeriod
    a < b && rows.any RowOut.clipped

/-! What a coded picture may hold (R256–R259, R261, R262, Table 9-2). The engine's choice stands in the command, and a picture ends only as one that the rules allow (DESIGN CHOICE, log 19). -/

/-- VUI colour values of a COLORIMETRY (R256). -/
def vuiColour (colorimetry : Nat) : List Nat := if colorimetry = 0 then [1, 13, 1] else if colorimetry = 1 then [9, 14, 9] else [9, 16, 9]

/-- An SPS that an H.265 channel sends: Main or Main 10, 64×64 tree blocks, 8×8 coding blocks, none of the tools that Table 9-2 rules out. Heights are coded up to a multiple of 64 (DEDUCED, log 19). -/
def HevcSps.codes (p : HevcSps) (d : EncodeRec) (colorimetry level tier : Nat) : Bool :=
  p.profile = d.format + 1 && p.level = level && p.tier = (tier == 1) && p.chroma = 1 && p.depthY = codedDepth d && p.depthC = codedDepth d && p.log2Ctb = 6 && p.minCb = 3 &&
  p.window = (0, 0, d.width, d.height) && p.height = roundUp 64 d.height && !p.tools.any (·) && !p.mvp && !p.longPresent && !p.exts.any (·) && !p.vui.fullRange && p.vui.colour = vuiColour colorimetry

/-- A PPS that an H.265 channel sends (Table 9-2). -/
def HevcPps.codes (p : HevcPps) : Bool := p.tiles = (1, 1) && !p.sync && !p.dependent && !p.weighted && !p.bipred && !p.skip

/-- Emulation prevention is where it must be, and nowhere else. -/
def escaped (nal : Bytes) : Bool := emulate 0 (unescape 0 nal) == nal

/-- The decoder that takes the parameter sets of a coded picture: VPS, SPS and PPS, in this order (R258). -/
def codedSets (d : EncodeRec) (colorimetry level tier : Nat) (sets : List Bytes) : Option Decoder :=
  let r := readUnit 1 {} sets
  if sets.map (fun b => ((hevcNal b).1, (hevcNal b).2.1)) = [(32, 0), (33, 0), (34, 0)] && sets.all escaped && r.errors = 0 &&
    r.dec.hevcSps.all (fun e => e.2.codes d colorimetry level tier) && r.dec.hevcPps.all (fun e => e.2.codes) then some r.dec
  else none

/-- The one slice of CTU row `row`: IDR_N_LP and I, or TRAIL_R and P with the previous coded picture as its only reference (R257, R258). -/
def sliceCodes (d : EncodeRec) (dec : Decoder) (idr : Bool) (poc row : Nat) (qp : Option Nat) (nal : Bytes) : Bool :=
  let (ty, layer, tid) := hevcNal nal
  let b := unescape 0 nal
  ty = (if idr then 20 else 1) && layer = 0 && tid = 0 && escaped nal &&
  (match (do
      let (pps, sps) ← dec.hevcSets ty b
      readBytes (rdHevcSlice ty tid pps sps none) b : Option HevcSlice) with
  | some h =>
    h.address = row * d.ctuCols && h.output && (match qp with | some q => h.qp = (q : Int) | none => true) && h.ty = (if idr then 2 else 1) &&
    (idr || (h.lsb = poc % 2 ^ h.sps.log2Poc && h.set = { neg := [(-1, true)], pos := [] } && h.refs = 1 && h.longs = []))
  | none => false)

/-- What a row predicts from when stripe `k` is coded: the stripe is intra, and what the cycle has refreshed reads refreshed samples only (R259). -/
def rowRefreshes (d : EncodeRec) (k row : Nat) (x : CodedSlice) : Bool :=
  let (a, b) := stripeOf k (if d.rowRefresh then d.ctuRows else d.ctuCols) d.refreshPeriod
  (List.range d.ctuCols).all fun j =>
    let u := if d.rowRefresh then row else j
    x.intra.contains j || (!(a ≤ u && u < b) && (a ≤ u || x.reads.all fun e => e.1 != j || (if d.rowRefresh then e.2.2.2.2 else e.2.2.2.1) ≤ 64 * a))

/-- What a row that copies the reference reads: each CTU its own place. -/
def skipReads (d : EncodeRec) (row : Nat) : List (Nat × Nat × Nat × Nat × Nat) :=
  (List.range d.ctuCols).map fun j => (j, 64 * j, 64 * row, min (64 * (j + 1)) d.width, min (64 * (row + 1)) d.height)

/-- Floor F of a row (R261). -/
def rowFloor (d : EncodeRec) (idr : Bool) : Nat := 64 + (if idr then 40 else 4) * d.ctuCols

/-- A row in its three forms: QP_base, min(51, QP_base + 12), and skip or DC intra at QP 51 within the floor (R258–R262). -/
def rowCodes (w : CodedRow) (d : EncodeRec) (dec : Decoder) (idr : Bool) (poc stripe qp row : Nat) : Bool :=
  let one (x : CodedSlice) (q : Option Nat) : Bool := sliceCodes d dec idr poc row q x.nal
  one w.base (some qp) && one w.recode (some (min 51 (qp + 12))) && one w.fallback (if idr then some 51 else none) && nalBits w.fallback.nal ≤ rowFloor d idr &&
  (idr || (rowRefreshes d stripe row w.base && rowRefreshes d stripe row w.recode && w.fallback.intra = [] && w.fallback.reads = skipReads d row))

/-- A coded picture is one that the rules allow its channel: the decoder with the parameter sets in force. -/
def EncChan.codes (x : EncChan) (k : Coding) (o : CodedPicture) : Option Decoder :=
  let d := k.decl
  let idr := !x.coded
  match (if idr || x.cycleStart then codedSets d k.copy.colorimetry x.level x.tier o.sets else some x.dec) with
  | some dec => if o.rows.length = d.ctuRows && o.rows.zipIdx.all (fun e => rowCodes e.1 d dec idr x.poc x.stripe (qpBase d k.raise) e.2) then some dec else none
  | none => none

/-! Output (R268–R271). -/

/-- RTP header (R269). -/
def rtpHeader (d : EncodeRec) (marker : Bool) (ext : Bool) (seq ts : Nat) : Bytes :=
  [if ext then 0x90 else 0x80, BitVec.ofNat 8 (d.payloadType + (if marker then 128 else 0))] ++ be 2 (seq % 65536) ++ be 4 ts ++ be 4 d.ssrc

/-- The header extension of an ST 2110-20 packet (R268). -/
def ageExt (d : EncodeRec) (a : AgeMsg) : Bytes := [0x10, 0x00, 0x00, 0x09, BitVec.ofNat 8 d.extId, 32] ++ sub a.bytes 16 32 ++ [0, 0]

/-- The packets of one NAL unit: single, or fragmentation units of type 49 (R269). -/
def nalPackets (d : EncodeRec) (nal : Bytes) : List Bytes :=
  if nal.length + 12 ≤ d.mtu then [nal]
  else
    let n := d.mtu - 15
    let body := nal.drop 2
    let k := cdiv body.length n
    let ty := (nal.headD 0).toNat / 2 % 64
    (pieces n k body).zipIdx.map fun e =>
      [BitVec.ofNat 8 ((nal.headD 0).toNat / 128 * 128 + 49 * 2 + (nal.headD 0).toNat % 2), (nal.drop 1).headD 1, BitVec.ofNat 8 (ty + (if e.2 = 0 then 128 else 0) + (if e.2 + 1 = k then 64 else 0))] ++ e.1

/-- Codes of pixels packed as pgroups of RGB at `bpc` bits, most significant bit first (SMPTE ST 2110-20). -/
def packRgb (bpc : Nat) (px : List Rgb) : Bytes :=
  let bits := px.flatMap fun c => [c.r, c.g, c.b].flatMap fun v => (List.range bpc).map fun i => bit v (bpc - 1 - i)
  (List.range (bits.length / 8)).map fun i => BitVec.ofNat 8 (((bits.drop (8 * i)).take 8).foldl (fun a b => 2 * a + (if b then 1 else 0)) 0)

/-- The row segments of a picture, one in each packet, as long as the MTU allows (DESIGN CHOICE, log 19): line, first pixel, pixels. -/
def rowSegments (d : EncodeRec) (bpc : Nat) : List (Nat × Nat × Nat) :=
  let unit := if bpc = 8 then 1 else 4
  let n := max unit ((d.mtu - 60) * 8 / (3 * bpc) / unit * unit)
  (List.range d.height).flatMap fun y => (List.range (cdiv d.width n)).map fun i => (y, i * n, min n (d.width - i * n))

/-- One packet on the ports of a channel: one port, or the same frame on both of a PRP pair, from the address of the pair's even port, each with its trailer; a port whose lane is down drops it (R269; R111 knows a node by its one MAC address: DEDUCED, log 38). -/
def State.sendEnc (s : State) (c : Nat) (body : Bytes) : State :=
  let d := (s.enc? c).decl
  let v6 := bit d.flags 2
  let ports := portsOf d.portMask
  let from_ := ports.headD 0
  let q := Map.get 0 s.enc.prpSeq (from_ / 2)
  let prp := ports.length = 2
  let dst := if v6 then d.dest else d.dest.take 4
  let frame := s.ipFrame from_ d.vlan v6 dst (4 * d.dscp) d.hopLimit 17 (udp v6 ((s.lane from_).ip v6) dst d.udpPort d.udpPort body)
  let s := if prp then { s with enc := { s.enc with prpSeq := Map.set s.enc.prpSeq (from_ / 2) ((q + 1) % 65536) } } else s
  ports.foldl (fun s p =>
    let x := s.enc? c
    if (s.lane p).state = .up then s.transmit p (if prp then withTrailer frame d.vlan q (p % 2 = 1) else frame)
    else s.setEnc c { x with txDrops := sat 2 (x.txDrops + 1) }) s

/-- The packets of a picture (R269). -/
def State.sendPackets (s : State) (c : Nat) (packets : List (Bytes × Bytes)) (ts : Nat) : State :=
  packets.zipIdx.foldl (fun s e =>
    let x := s.enc? c
    let s := s.setEnc c { x with seq := (x.seq + 1) % 4294967296 }
    s.sendEnc c (rtpHeader x.decl (e.2 + 1 = packets.length) (!e.1.1.isEmpty) x.seq ts ++ e.1.1 ++ e.1.2)) s

/-- ST 2110-20 packets: extension and payload (R268, R269). -/
def gpmPackets (d : EncodeRec) (w : Copy) (a : AgeMsg) (seq : Nat) : List (Bytes × Bytes) :=
  let segs := rowSegments d w.bpc
  segs.zipIdx.map fun e =>
    let (y, x, n) := e.1
    let data := packRgb w.bpc ((w.pixels.drop (y * d.width + x)).take n)
    (if e.2 = 0 || e.2 + 1 = segs.length then ageExt d a else [], be 2 ((seq + e.2) / 65536) ++ be 2 data.length ++ be 2 y ++ be 2 x ++ data)

/-- Record header of a host ring (Table 9-4). `free` fills its reserved bits, which R271 makes zero in a wrap record. -/
def ringHeader (c flags len frame free : Nat) (a : Option AgeMsg) : Bytes :=
  [BitVec.ofNat 8 c, BitVec.ofNat 8 (flags + 4 * (free % 64))] ++ le 2 (free / 64) ++ le 4 len ++ le 8 (frame % 281474976710656 + 281474976710656 * (free / 4194304 % 65536)) ++ (match a with
    | some a => leS 8 a.capture ++ le 4 a.unc ++ le 4 a.alive
    | none => zeros 16)

/-- Write a record into a channel's host ring (R270, R271); false if it is not written. A refused write at the host link's door writes nothing (DEDUCED, log 19). -/
def State.writeRing (s : State) (c consumer flags frame : Nat) (a : AgeMsg) (data : Bytes) : State × Bool :=
  let x := s.enc? c
  let base := x.decl.ringBase
  let area := x.decl.ringSize - 64
  let bytes := padTo 64 (ringHeader c flags data.length frame s.fresh.toNat (some a) ++ data)
  let rest := area - x.producer
  let wrap := bytes.length > rest
  let need := bytes.length + (if wrap then rest else 0)
  let room := (consumer + area - x.producer - 64) % area
  let at_ := if wrap then 0 else x.producer
  let mark := ringHeader 0xFF 0 (rest - 32) 0 0 none
  if consumer % 64 != 0 || consumer ≥ area || need > room then (s, false)
  else if !s.hostAllows 0 (base + 4) 4 then (s.hostDenied 0 (base + 4) 4, false)
  else if wrap && !s.hostAllows 1 (base + 64 + x.producer) 32 then (s.hostDenied 1 (base + 64 + x.producer) 32, false)
  else if !s.hostAllows 1 (base + 64 + at_) bytes.length then (s.hostDenied 1 (base + 64 + at_) bytes.length, false)
  else if !s.hostAllows 1 base 4 then (s.hostDenied 1 base 4, false)
  else
    let s := if wrap then s.hostWrite (base + 64 + x.producer) mark else s
    let p := (at_ + bytes.length) % area
    let s := (s.hostWrite (base + 64 + at_) bytes).hostWrite base (le 4 p)
    ((s.setEnc c { s.enc? c with producer := p }).useFree, true)

/-! Pictures. -/

/-- An H.265 picture ends: rows within the cap, its age message, its stripe (R258–R267). H is the greater cost of the message without a clipped row and of the one that a first pass would give, so that no access unit exceeds CAP (DEDUCED, log 19). -/
def State.endCoded (s : State) (c : Nat) (k : Coding) (o : CodedPicture) (dec : Decoder) : State :=
  let x := s.enc? c
  let d := k.decl
  let idr := !x.coded
  let start := !idr && x.cycleStart
  let f := rowFloor d idr
  let alive := x.nextAlive k.copy
  let pairs (rows : List RowOut) : List RowPair := (k.copy.pairs.zip rows).zipIdx.map fun e => if e.1.2.clipped && !idr then x.pairs.getD e.2 e.1.1 else e.1.1
  let msg (rows : List RowOut) : AgeMsg :=
    let p := picturePair (pairs rows) k.copy.tf
    { cls := p.cls, locked := k.copy.locked && p.locked, clipped := rows.any RowOut.clipped, alive := alive, capture := p.capture - k.copy.d
      unc := if p.unbounded then 0xFFFFFFFF else sat 4 k.copy.unc, frame := k.copy.frame }
  let extra := (if idr || start then o.sets else []) ++ (if start then [recoverySei d.refreshPeriod] else [])
  let other (rows : List RowOut) : List Bytes := extra ++ [seiNal 5 (msg rows).bytes]
  let pass (h : Nat) : List RowOut := codeRows ((d.cap : Int) - h - (d.ctuRows * f : Nat)) f d.ctuRows o.rows 0 0 false
  let cost (rows : List RowOut) : Nat := sumL ((other rows).map nalBits)
  let whole := cost (o.rows.map fun w => { nal := w.base.nal, recoded := false, clipped := false })
  let rows := pass (max whole (cost (pass whole)))
  let a := msg rows
  let cut := rows.any RowOut.clipped
  let stay := !idr && stripeClipped d x.stripe rows
  let k' := (x.stripe + 1) % d.refreshPeriod
  let s := s.setEnc c { x with coded := true, poc := x.poc + 1, dec := dec, pairs := pairs rows, alive := alive, windows := k.copy.windows, reasons := k.copy.reasons, lastBits := cost rows + sumL (rows.map fun w => nalBits w.nal)
                               recoded := sat 4 (x.recoded + (rows.filter RowOut.recoded).length), clipped := if cut then sat 4 (x.clipped + 1) else x.clipped
                               stripe := if idr || stay then x.stripe else k', cycleStart := if idr then true else !stay && k' = 0 }
  let s := if cut then s.recordLimited evEncodeClipped c [p2 c] else s
  let nals := other rows ++ rows.map RowOut.nal
  let sent (s : State) : State := s.setEnc c { s.enc? c with pictures := sat 4 ((s.enc? c).pictures + 1), state := if (s.enc? c).state = .starting then .running else (s.enc? c).state }
  if d.toHost then
    match s.writeRing c o.consumer (bitsOf [idr, cut]) k.copy.frame a (nals.flatMap fun n => [0, 0, 0, 1] ++ n) with
    | (s, true) => sent s
    | (s, false) => s.setEnc c { s.enc? c with ringDrops := sat 2 ((s.enc? c).ringDrops + 1) }
  else sent (s.sendPackets c ((nals.flatMap (nalPackets d)).map fun p => ([], p)) ((((k.copy.tf : Int) - k.copy.d) * 90000 / 1000000000) % 4294967296).toNat)

/-- An ST 2110-20 picture ends (R265–R269, R271). -/
def State.endRaw (s : State) (c : Nat) (k : Coding) (consumer : Nat) : State :=
  let x := s.enc? c
  let d := k.decl
  let p := picturePair k.copy.pairs k.copy.tf
  let a : AgeMsg := { cls := p.cls, locked := k.copy.locked && p.locked, clipped := false, alive := x.nextAlive k.copy, capture := p.capture - k.copy.d
                      unc := if p.unbounded then 0xFFFFFFFF else sat 4 k.copy.unc, frame := k.copy.frame }
  let s := s.setEnc c { x with coded := true, alive := a.alive, windows := k.copy.windows, reasons := k.copy.reasons }
  let sent (s : State) : State := s.setEnc c { s.enc? c with pictures := sat 4 ((s.enc? c).pictures + 1), state := if (s.enc? c).state = .starting then .running else (s.enc? c).state }
  if d.toHost then
    match s.writeRing c consumer 0 k.copy.frame a (packRgb k.copy.bpc k.copy.pixels) with
    | (s, true) => sent s
    | (s, false) => s.setEnc c { s.enc? c with ringDrops := sat 2 ((s.enc? c).ringDrops + 1) }
  else sent (s.sendPackets c (gpmPackets d k.copy a x.seq) ((((k.copy.tf : Int) - k.copy.d) * 90000 / 1000000000) % 4294967296).toNat)

/-- ENCODE_PICTURE_DONE (R272): the picture that a channel codes is sent or written. A picture that the rules do not allow is none that the engine ends. -/
def execEncodePictureDone (t : Time) (c : Nat) (o : CodedPicture) (s : State) : Host.Outcome State Fault Refusal :=
  runIf (c < 32) t s fun s =>
    let x := s.enc? c
    match x.coding with
    | none => s
    | some k =>
      let free := s.setEnc c { x with coding := none }
      if k.decl.h265 then
        match x.codes k o with
        | some dec => (free.endCoded c k o dec).startCoding x.engine
        | none => s
      else (free.endRaw c k o.consumer).startCoding x.engine

/-! Opening and closing (R251–R253, R274). -/

/-- A channel opens on an engine: counters at zero, an IDR picture first (R274, R275). -/
def State.openEnc (s : State) (d : EncodeRec) (engine level tier : Nat) : State :=
  s.setEnc d.channel { state := .starting, decl := d, intended := true, engine := engine, level := level, tier := tier }

/-- A channel drains: only the picture in progress is finished (R274). -/
def State.closeEnc (s : State) (c : Nat) : State :=
  let x := s.enc? c
  s.setEnc c { x with state := .draining, intended := false, waiting := none, drainSince := s.clk }

/-- A channel is CLOSED, its buffers released. -/
def State.dropEnc (s : State) (c : Nat) : State :=
  let x := s.enc? c
  s.setEnc c { x with state := .closed, intended := false, engine := 255, waiting := none, coding := none, atLimit := false }

/-- A channel that waits for a drain opens (R274, R339). -/
def State.reopenEnc (s : State) (c : Nat) : State :=
  match s.comp.reEnc.find? fun e => e.1.channel == c with
  | some (d, e, l, t) => ({ s with comp := { s.comp with reEnc := s.comp.reEnc.filter fun q => q.1.channel != c } }).openEnc d e l t
  | none => s

/-- ENCODE_DRAIN_END (R274): a draining channel whose picture is finished is CLOSED. -/
def execEncodeDrainEnd (t : Time) (c : Nat) (s : State) : Host.Outcome State Fault Refusal :=
  runIf (c < 32) t s fun s =>
    let x := s.enc? c
    if x.state = .draining && x.coding.isNone then (s.dropEnc c).reopenEnc c else s

end Sys2Proof.Machine
end

