-- ==== Sys2Proof/Machine/Digest.lean ====
section
/-! DEFINITION. Message digests: MD5 (RFC 1321), the CRC and the checksum of decoded pictures (ITU-T H.265 D.3.19), SHA-384 (FIPS 180-4), HMAC (RFC 2104). PRESUMED from those standards (logs 39, 40). -/

namespace Sys2Proof.Machine

/-! MD5. -/

def rotl32 (x n : Nat) : Nat := (x * 2 ^ n + x / 2 ^ (32 - n)) % 4294967296

def not32 (x : Nat) : Nat := 4294967295 - x

def md5Table : List Nat :=
  [0xD76AA478, 0xE8C7B756, 0x242070DB, 0xC1BDCEEE, 0xF57C0FAF, 0x4787C62A, 0xA8304613, 0xFD469501] ++
  [0x698098D8, 0x8B44F7AF, 0xFFFF5BB1, 0x895CD7BE, 0x6B901122, 0xFD987193, 0xA679438E, 0x49B40821] ++
  [0xF61E2562, 0xC040B340, 0x265E5A51, 0xE9B6C7AA, 0xD62F105D, 0x02441453, 0xD8A1E681, 0xE7D3FBC8] ++
  [0x21E1CDE6, 0xC33707D6, 0xF4D50D87, 0x455A14ED, 0xA9E3E905, 0xFCEFA3F8, 0x676F02D9, 0x8D2A4C8A] ++
  [0xFFFA3942, 0x8771F681, 0x6D9D6122, 0xFDE5380C, 0xA4BEEA44, 0x4BDECFA9, 0xF6BB4B60, 0xBEBFBC70] ++
  [0x289B7EC6, 0xEAA127FA, 0xD4EF3085, 0x04881D05, 0xD9D4D039, 0xE6DB99E5, 0x1FA27CF8, 0xC4AC5665] ++
  [0xF4292244, 0x432AFF97, 0xAB9423A7, 0xFC93A039, 0x655B59C3, 0x8F0CCC92, 0xFFEFF47D, 0x85845DD1] ++
  [0x6FA87E4F, 0xFE2CE6E0, 0xA3014314, 0x4E0811A1, 0xF7537E82, 0xBD3AF235, 0x2AD7D2BB, 0xEB86D391]

/-- Rotation of step `i`. -/
def md5Turn (i : Nat) : Nat := ([7, 12, 17, 22, 5, 9, 14, 20, 4, 11, 16, 23, 6, 10, 15, 21] : List Nat).getD (i / 16 * 4 + i % 4) 0

/-- Step `i` of a block of 16 words. -/
def md5Step (w : List Nat) (s : Nat × Nat × Nat × Nat) (i : Nat) : Nat × Nat × Nat × Nat :=
  let (a, b, c, d) := s
  let f := if i < 16 then (b &&& c) ||| (not32 b &&& d) else if i < 32 then (d &&& b) ||| (not32 d &&& c) else if i < 48 then b ^^^ c ^^^ d else c ^^^ (b ||| not32 d)
  let g := (if i < 16 then i else if i < 32 then 5 * i + 1 else if i < 48 then 3 * i + 5 else 7 * i) % 16
  (d, (b + rotl32 ((a + f + md5Table.getD i 0 + w.getD g 0) % 4294967296) (md5Turn i)) % 4294967296, b, c)

def md5Block (s : Nat × Nat × Nat × Nat) (block : Bytes) : Nat × Nat × Nat × Nat :=
  let w := (pieces 4 16 block).map ofLe
  let r := (List.range 64).foldl (md5Step w) s
  ((s.1 + r.1) % 4294967296, (s.2.1 + r.2.1) % 4294967296, (s.2.2.1 + r.2.2.1) % 4294967296, (s.2.2.2 + r.2.2.2) % 4294967296)

def md5 (m : Bytes) : Bytes :=
  let p := m ++ (0x80 : Byte) :: zeros ((119 - m.length % 64) % 64) ++ le 8 (8 * m.length)
  let r := (pieces 64 (p.length / 64) p).foldl md5Block (0x67452301, 0xEFCDAB89, 0x98BADCFE, 0x10325476)
  le 4 r.1 ++ le 4 r.2.1 ++ le 4 r.2.2.1 ++ le 4 r.2.2.2

/-! Digests of picture planes. -/

/-- One bit into the CRC. -/
def pictureCrcBit (c : Nat) (b : Bool) : Nat := (2 * c + b.toNat) % 65536 ^^^ (if c ≥ 32768 then 0x1021 else 0)

/-- The CRC of picture data. -/
def pictureCrc (m : Bytes) : Nat := (m ++ zeros 2).foldl (fun c b => (byteBits b).foldl pictureCrcBit c) 0xFFFF

/-- The checksum of a plane of lines of `w` samples. -/
def pictureSum (depth w : Nat) (plane : List Nat) : Nat :=
  plane.zipIdx.foldl (fun a e =>
    let x := e.2 % w
    let y := e.2 / w
    let mask := (x % 256) ^^^ (y % 256) ^^^ (x / 256) ^^^ (y / 256)
    (a + (e.1 % 256 ^^^ mask) + (if depth > 8 then e.1 / 256 ^^^ mask else 0)) % 4294967296) 0

/-- Picture data: samples of a byte, or of two little-endian bytes. -/
def pictureData (depth : Nat) (plane : List Nat) : Bytes := plane.flatMap (le (if depth > 8 then 2 else 1))

/-- The digest of a plane by its kind: 0 MD5, 1 CRC, 2 checksum. -/
def pictureHash (kind depth w : Nat) (plane : List Nat) : Nat :=
  if kind = 0 then ofBe (md5 (pictureData depth plane)) else if kind = 1 then pictureCrc (pictureData depth plane) else pictureSum depth w plane

/-! SHA-384. -/

def two64 : Nat := 18446744073709551616

def rotr64 (x n : Nat) : Nat := (x / 2 ^ n + x * 2 ^ (64 - n)) % two64

def shaTable : List Nat :=
  [0x428A2F98D728AE22, 0x7137449123EF65CD, 0xB5C0FBCFEC4D3B2F, 0xE9B5DBA58189DBBC] ++
  [0x3956C25BF348B538, 0x59F111F1B605D019, 0x923F82A4AF194F9B, 0xAB1C5ED5DA6D8118] ++
  [0xD807AA98A3030242, 0x12835B0145706FBE, 0x243185BE4EE4B28C, 0x550C7DC3D5FFB4E2] ++
  [0x72BE5D74F27B896F, 0x80DEB1FE3B1696B1, 0x9BDC06A725C71235, 0xC19BF174CF692694] ++
  [0xE49B69C19EF14AD2, 0xEFBE4786384F25E3, 0x0FC19DC68B8CD5B5, 0x240CA1CC77AC9C65] ++
  [0x2DE92C6F592B0275, 0x4A7484AA6EA6E483, 0x5CB0A9DCBD41FBD4, 0x76F988DA831153B5] ++
  [0x983E5152EE66DFAB, 0xA831C66D2DB43210, 0xB00327C898FB213F, 0xBF597FC7BEEF0EE4] ++
  [0xC6E00BF33DA88FC2, 0xD5A79147930AA725, 0x06CA6351E003826F, 0x142929670A0E6E70] ++
  [0x27B70A8546D22FFC, 0x2E1B21385C26C926, 0x4D2C6DFC5AC42AED, 0x53380D139D95B3DF] ++
  [0x650A73548BAF63DE, 0x766A0ABB3C77B2A8, 0x81C2C92E47EDAEE6, 0x92722C851482353B] ++
  [0xA2BFE8A14CF10364, 0xA81A664BBC423001, 0xC24B8B70D0F89791, 0xC76C51A30654BE30] ++
  [0xD192E819D6EF5218, 0xD69906245565A910, 0xF40E35855771202A, 0x106AA07032BBD1B8] ++
  [0x19A4C116B8D2D0C8, 0x1E376C085141AB53, 0x2748774CDF8EEB99, 0x34B0BCB5E19B48A8] ++
  [0x391C0CB3C5C95A63, 0x4ED8AA4AE3418ACB, 0x5B9CCA4F7763E373, 0x682E6FF3D6B2B8A3] ++
  [0x748F82EE5DEFB2FC, 0x78A5636F43172F60, 0x84C87814A1F0AB72, 0x8CC702081A6439EC] ++
  [0x90BEFFFA23631E28, 0xA4506CEBDE82BDE9, 0xBEF9A3F7B2C67915, 0xC67178F2E372532B] ++
  [0xCA273ECEEA26619C, 0xD186B8C721C0C207, 0xEADA7DD6CDE0EB1E, 0xF57D4F7FEE6ED178] ++
  [0x06F067AA72176FBA, 0x0A637DC5A2C898A6, 0x113F9804BEF90DAE, 0x1B710B35131C471B] ++
  [0x28DB77F523047D84, 0x32CAAB7B40C72493, 0x3C9EBE0A15C9BEBC, 0x431D67C49C100D4C] ++
  [0x4CC5D4BECB3E42B6, 0x597F299CFC657E2A, 0x5FCB6FAB3AD6FAEC, 0x6C44198C4A475817]

def shaStart : List Nat :=
  [0xCBBB9D5DC1059ED8, 0x629A292A367CD507, 0x9159015A3070DD17, 0x152FECD8F70E5939] ++
  [0x67332667FFC00B31, 0x8EB44A8768581511, 0xDB0C2E0D64F98FA7, 0x47B5481DBEFA4FA4]

/-- The message schedule, its last 16 words first; `n` more words. -/
def shaWords : Nat → List Nat → List Nat
  | 0, w => w
  | n + 1, w =>
    let a := w.getD 14 0
    let b := w.getD 1 0
    let s0 := rotr64 a 1 ^^^ rotr64 a 8 ^^^ a / 128
    let s1 := rotr64 b 19 ^^^ rotr64 b 61 ^^^ b / 64
    shaWords n ((w.getD 15 0 + s0 + w.getD 6 0 + s1) % two64 :: w)

/-- A round on a, b, c, d, e, f, g, h with a constant plus a word. -/
def shaRound (v : List Nat) (kw : Nat) : List Nat :=
  match v with
  | [a, b, c, d, e, f, g, h] =>
    let t1 := h + (rotr64 e 14 ^^^ rotr64 e 18 ^^^ rotr64 e 41) + ((e &&& f) ^^^ ((two64 - 1 - e) &&& g)) + kw
    let t2 := (rotr64 a 28 ^^^ rotr64 a 34 ^^^ rotr64 a 39) + ((a &&& b) ^^^ (a &&& c) ^^^ (b &&& c))
    [(t1 + t2) % two64, a, b, c, (d + t1) % two64, e, f, g]
  | v => v

def shaBlock (v : List Nat) (block : Bytes) : List Nat :=
  let w := (shaWords 64 ((pieces 8 16 block).map ofBe).reverse).reverse
  let r := ((shaTable.zip w).map fun e => e.1 + e.2).foldl shaRound v
  (v.zip r).map fun e => (e.1 + e.2) % two64

/-- SHA-384 of a byte string. -/
def sha384 (m : Bytes) : Bytes :=
  let p := m ++ (0x80 : Byte) :: zeros ((239 - m.length % 128) % 128) ++ be 16 (8 * m.length)
  (((pieces 128 (p.length / 128) p).foldl shaBlock shaStart).take 6).flatMap (be 8)

/-- HMAC with SHA-384. -/
def hmac384 (key m : Bytes) : Bytes :=
  let k := fit 128 (if key.length > 128 then sha384 key else key)
  sha384 (k.map (· ^^^ 0x5C) ++ sha384 (k.map (· ^^^ 0x36) ++ m))

end Sys2Proof.Machine
end

