-- ==== Sys2Proof/Machine/Decoding.lean ====
section
/-! DEFINITION. Video decoding: the reference pool, joining, references, concealment, time pairs, output (*Video decoding*). The decoding process of a slice's samples is the codec's standard's; its result is an operand of the command (log 37). -/

namespace Sys2Proof.Machine

/-! The pool (R139–R143). -/

/-- Bytes of a slot (R140). -/
def slotBytes (d : StreamRec) : Nat :=
  let a := roundUp 64 d.maxWidth * roundUp 64 d.maxHeight
  let b := if d.bitDepth = 8 then 1 else 2
  roundUp 4096 (a * (24 * b + 1) / 16 + a / 2048)

/-- Bytes of a buffer of a context's pool: a slot, or a frame buffer of ST 2110-20. -/
def bufferBytes (d : StreamRec) : Nat := if d.kind = 2 then frameBytes d.maxWidth d.maxHeight (bSrc2 d) else slotBytes d

/-- Lines of `stride` entries from a plane of lines of `w`, `h` lines in all, zeros beside the picture. -/
def lines (plane : List Nat) (w stride h : Nat) : List Nat :=
  (List.range h).flatMap fun y => ((plane.drop (y * w)).take w ++ List.replicate stride 0).take stride

/-- The content of a slot as Table 5-4 lays it out, with `motion` the coding of an area's motion data and `beside` the bytes that the manual leaves open. Taint bits stand least significant first (DEDUCED, log 37). -/
def Slot.bytes (z : Slot) (d : StreamRec) (motion : Motion → Bytes) (beside : Nat → Byte) : Bytes :=
  let w := roundUp 64 d.maxWidth
  let h := roundUp 64 d.maxHeight
  let b := if d.bitDepth = 8 then 1 else 2
  let pl (i : Nat) := z.planes.getD i []
  let luma := (lines (pl 0) z.width w h).flatMap (le b)
  let chroma := ((lines (pl 1) (z.width / 2) (w / 2) (h / 2)).zip (lines (pl 2) (z.width / 2) (w / 2) (h / 2))).flatMap fun e => le b e.1 ++ le b e.2
  let areas := w * h / 256
  let place (a : Nat) : Nat := a / (w / 16) * cdiv z.width 16 + a % (w / 16)
  let mv := (List.range areas).flatMap fun a => fit 16 (motion (z.motion.getD (place a) {}))
  let taint := (List.range (areas / 8)).map fun i => BitVec.ofNat 8 (bitsOf ((List.range 8).map fun j => z.taint.contains (place (8 * i + j))))
  let all := luma ++ chroma ++ mv ++ taint
  all ++ (List.range (slotBytes d - all.length)).map fun i => beside (all.length + i)

/-- The slot with the least key among those that satisfy `p`, the first of equals. -/
def leastSlot (p : Slot → Bool) (key : Slot → Int) (pool : List Slot) : Option Nat :=
  (pool.zipIdx.foldl (fun (a : Option (Int × Nat)) e =>
    if !p e.1 then a else match a with
      | some (k, j) => if key e.1 < k then some (key e.1, e.2) else some (k, j)
      | none => some (key e.1, e.2)) none).map (·.2)

/-- The slot nearest to an order count, ties to the lower (R150, R154). -/
def nearestSlot (p : Slot → Bool) (poc : Int) (pool : List Slot) : Option Slot :=
  (leastSlot p (fun z => 2 * ((z.poc - poc).natAbs : Int) + (if z.poc > poc then 1 else 0)) pool).bind fun i => pool[i]?

/-- Slots beyond N leave the end of the pool once they are free (R139; DESIGN CHOICE, log 37). -/
def Ctx.trim : Nat → Ctx → Ctx
  | 0, c => c
  | n + 1, c => if c.pool.length > c.slots && c.free (c.pool.length - 1) then Ctx.trim n { c with pool := c.pool.dropLast } else c

/-! Joining (R146–R148). -/

/-- SHOWING is entered (R148). -/
def State.showing (s : State) (c : Nat) : State := (s.setCtx c { s.ctx c with join := .showing, recoverTo := none }).record evJoinComplete [p2 c]

/-- An access unit that gives no picture: a LOST marker (R30, Table 5-7). -/
def State.noPicture (s : State) (c : Nat) : State := s.writeMarker c 6

/-! Output (R144, R145). -/

/-- Width in 16×16 areas. -/
def areasWide (w : Nat) : Nat := cdiv w 16

/-- Concealment map of a taint map: 64 blocks a row (R28, R145). -/
def mapOfTaint (w : Nat) (taint : List Nat) : List Nat :=
  let cols := areasWide w
  dedup (taint.map fun a => a / cols / 4 * 64 + a % cols / 4)

/-- Output slot `i` of context `c` (R138, R145–R147). A picture before the recovery point is output without a tag; it counts as the previous picture of the rate test (R100). -/
def State.outputSlot (s : State) (c i : Nat) : State :=
  let x := s.ctx c
  match x.pool[i]? with
  | none => s
  | some z =>
    let s := s.setCtx c (x.setSlot i fun z => { z with pending := false, latency := 0 })
    let s := if x.join = .recovering && z.recovery then s.showing c else s
    let ok := (s.ctx c).rateOk z.rtp
    if (s.ctx c).join = .recovering then (if ok then s.setCtx c { s.ctx c with rateRtp := some z.rtp } else s)
    else if !ok then s.outOfEnvelope c
    else
      let p : Picture := { tag := { slot := i }, width := z.width, height := z.height, depth := z.depth, sampling := 0
                           fullRange := z.fullRange, map := mapOfTaint z.width z.taint, planes := z.planes }
      let m : TimePair := z.eff.getD { capture := (s.now : Int), unc := 0, cls := 2, locked := false }
      let x := s.ctx c
      s.issueTag c p (if z.seiMode then z.sei else some (x.countAlive z.rtp)) { pair := m, base := z.base, degraded := false } z.flags z.rtp

/-- Output pending pictures in output order while `go` holds; at most `n` of them. -/
def State.bump (go : Ctx → Bool) : Nat → State → Nat → State
  | 0, s, _ => s
  | n + 1, s, c =>
    if !go (s.ctx c) then s
    else match leastSlot Slot.pending Slot.poc (s.ctx c).pool with
      | some i => State.bump go n (s.outputSlot c i) c
      | none => s

/-- Output every pending picture (R144). -/
def State.bumpAll (s : State) (c : Nat) : State := State.bump (fun _ => true) (s.ctx c).pool.length s c

/-- Picture buffers of the standard's decoder that are taken: references, pictures that wait for output, and frames that a permitted gap in frame_num infers. -/
def Ctx.fullness (c : Ctx) : Nat := (c.pool.filter fun z => z.shortTerm || z.longTerm || z.pending).length + (c.missing.filter Missing.inferred).length

/-- The bumping conditions of a sequence hold with room for `room` buffers more (R144; H.264 C.4.5.3, H.265 C.5.2.2). -/
def Ctx.bumps (q : SeqInfo) (room : Nat) (c : Ctx) : Bool :=
  (c.pool.filter Slot.pending).length > q.reorder || (match q.latency with | some m => c.pool.any fun z => z.pending && z.latency ≥ m | none => false) || c.fullness + room > q.buffers

/-- Output pending pictures in output order, each with its tag acknowledged, until a slot is free (R143); at most `n` of them. -/
def State.drainPending : Nat → State → Nat → State
  | 0, s, _ => s
  | n + 1, s, c =>
    if (s.ctx c).freeSlot.isSome then s
    else match leastSlot Slot.pending Slot.poc (s.ctx c).pool with
      | some i => State.drainPending n ((s.outputSlot c i).ackCtx c) c
      | none => s

/-- Slot `i` loses its reference mark under R143: a later reference to it is to a missing picture (R153). -/
def Ctx.lose (c : Ctx) (i : Nat) : Ctx :=
  match c.pool[i]? with
  | some z => { c.setSlot i (fun z => { z with shortTerm := false, longTerm := false }) with
                missing := c.missing ++ [{ poc := z.poc, num := z.num, long := if z.longTerm then some z.longIdx else none }] }
  | none => c

/-- Make a slot free (R143): output pending pictures, then remove short-term, then long-term marks. `wrap` gives FrameNumWrap. -/
def State.makeFree (s : State) (c : Nat) (wrap : Nat → Int) : State :=
  let n := (s.ctx c).pool.length
  let s := State.drainPending n (s.ackCtx c) c
  let drop (p : Slot → Bool) (key : Slot → Int) (s : State) : State :=
    (List.range n).foldl (fun s _ =>
      if (s.ctx c).freeSlot.isSome then s
      else match leastSlot p key (s.ctx c).pool with
        | some i => s.setCtx c ((s.ctx c).lose i)
        | none => s) s
  let s := drop Slot.shortTerm (fun z => if (s.ctx c).decl.kind = 0 then wrap z.num else z.poc) s
  let s := drop Slot.longTerm (fun z => (z.longIdx : Int)) s
  (s.setCtx c { s.ctx c with dpbOverflows := sat 2 ((s.ctx c).dpbOverflows + 1) }).record evDpbOverflow [p2 c]

/-! References (R153, R154). -/

/-- Remove the reference marks of those that satisfy `f`, in slots and among missing pictures. -/
def Ctx.unmark (c : Ctx) (f : RefView → Bool) : Ctx :=
  let gone := (c.refs.filter f).map RefView.ref
  { c with pool := c.pool.zipIdx.map fun e => if gone.contains (.slot e.2) then { e.1 with shortTerm := false, longTerm := false } else e.1
           missing := (c.missing.zipIdx.filter fun e => !gone.contains (.missing e.2)).map (·.1) }

/-- The sliding window of H.264 before a picture of frame_num `num` (8.2.5.3). -/
def Ctx.slide (c : Ctx) (p : AvcSps) (num : Nat) : Ctx :=
  if c.refs.length < max p.refs 1 then c
  else match sortInt (fun r => wrapNum p.maxNum num r.num) (c.refs.filter fun r => r.long.isNone) with
    | r :: _ => c.unmark fun q => q.ref == r.ref
    | [] => c

/-- A missing reference gets its substitute (R154): the nearest picture that had a reference mark as the picture started, `before` (DEDUCED, log 37), or mid-grey; mid-grey on the way to a recovery point (R147). -/
def State.substitute (s : State) (c : Nat) (before : List Slot) (i : Nat) : State :=
  let x := s.ctx c
  match x.missing[i]? with
  | none => s
  | some m =>
    if m.named then s
    else
      let eff := if x.join = .recovering then none else (nearestSlot (fun z => z.shortTerm || z.longTerm) m.poc before).bind Slot.eff
      (s.setCtx c { x with missing := x.missing.zipIdx.map fun e => if e.2 = i then { e.1 with named := true, eff := eff } else e.1
                           substitutions := sat 4 (x.substitutions + 1) }).recordLimited evRefSubstituted c [p2 c]

/-- The frame_num values that a gap before an H.264 picture leaves out (8.2.5.2). -/
def Decoder.gap (d : Decoder) (h : AvcSlice) : List Nat :=
  let m := h.sps.maxNum
  let k := (h.num + m - d.refNum) % m
  if h.idr then [] else (List.range (k - 1)).map fun i => (d.refNum + 1 + i) % m

/-- One frame of a gap: inferred where gaps are permitted, missing where not (R153). The order count of type 0 is a free value: nothing was received of it (log 5). -/
def State.fillGap (before : List Slot) (h : AvcSlice) (c : Nat) (s : State) (u : Nat) : State :=
  let x := s.ctx c
  let off := x.dec.offsetOf h.sps false u
  let n := h.sps.countOf false 1 off u 0 0
  let poc : Int := if h.sps.pocType = 0 then s.fresh.toNat else min n.1 n.2
  let x := { x.slide h.sps u with dec := { x.dec with refNum := u, lastNum := u, numOffset := off } }
  let s := (s.setCtx c { x with missing := x.missing ++ [{ poc, num := u, inferred := h.sps.gaps }] }).useFree
  if h.sps.gaps then s else s.substitute c before x.missing.length

/-- The pictures that the reference lists of H.264 slices name become substituted where they are missing (R153). -/
def State.nameLists (s : State) (c : Nat) (before : List Slot) (heads : List SliceHead) (poc : Int) : State :=
  let x := s.ctx c
  let (refs, named) := heads.foldl (fun (a : List RefView × List Ref) q =>
    match q with
    | .avc h => let (refs, l) := sliceRefs a.1 h poc; (refs, a.2 ++ l)
    | .hevc _ => a) (x.refs, [])
  let new := refs.drop x.refs.length
  let s := (s.setCtx c { x with missing := x.missing ++ new.zipIdx.map fun e => { poc := ((Config.free (s.freeCtr + e.2)).toNat : Int), num := e.1.num, long := e.1.long } }).useFrees new.length
  (List.range (x.missing.length + new.length)).foldl (fun s i => if named.contains (.missing i) then s.substitute c before i else s) s

/-- The marks that a reference picture set leaves (8.3.2). -/
def Ctx.applyRps (c : Ctx) (l : List RpsEntry) : Ctx :=
  let long (poc : Int) (isLong : Bool) : Bool := l.any fun r => r.long && r.names poc isLong
  let kept (poc : Int) (isLong : Bool) : Bool := l.any fun r => r.names poc isLong
  { c with pool := c.pool.map fun z => if z.shortTerm || z.longTerm then { z with shortTerm := kept z.poc z.longTerm && !long z.poc z.longTerm, longTerm := long z.poc z.longTerm } else z
           missing := (c.missing.filter fun m => kept m.poc m.long.isSome).map fun m => if long m.poc m.long.isSome then { m with long := some 0 } else m }

/-- The entries of a reference picture set that name no picture are missing, discarded RASL pictures apart (R153). -/
def State.nameRps (s : State) (c : Nat) (before : List Slot) (l : List RpsEntry) : State :=
  l.foldl (fun s r =>
    let x := s.ctx c
    if x.pool.any (fun z => (z.shortTerm || z.longTerm) && r.names z.poc z.longTerm) || x.dec.rasl.any (fun q => r.names q false) then s
    else match findIdx? (fun (m : Missing) => r.names m.poc m.long.isSome) x.missing with
      | some i => s.substitute c before i
      | none => (s.setCtx c { x with missing := x.missing ++ [{ poc := r.poc, long := if r.long then some 0 else none }] }).substitute c before x.missing.length) s

/-! Starting a picture (R129, R130, R137). -/

/-- The first free decoder engine's next access unit: the context with the oldest release (R129). -/
def State.nextUnit (s : State) (e : Nat) : Option Nat :=
  (s.streams.ctx.foldl (fun (a : Option (Nat × Nat)) x =>
    if x.2.decoder != e || x.2.decl.kind = 2 then a
    else match x.2.queue with
      | [] => a
      | u :: _ => match a with
        | some (o, c) => if u.order < o then some (u.order, x.1) else some (o, c)
        | none => some (u.order, x.1)) none).map (·.2)

/-- What an accepted picture shows of its stream: the fields of Table 5-9, with COLOUR_CHANGE (R163). -/
def State.activeSps (s : State) (c : Nat) (i : SeqInfo) : State :=
  let x := s.ctx c
  let changed := x.width != 0 && (x.colour != i.colour || x.fullRange != i.fullRange)
  let s := s.setCtx c { x with profile := i.profile.getD 0, level := i.level, width := i.width, height := i.height, bitDepth := i.depth, colour := i.colour
                               fullRange := i.fullRange, reorder := i.reorder }
  if changed then s.record evColourChange [p2 c] else s

/-- Activate the SPS of a picture (R136). -/
def Decoder.activate (d : Decoder) (h : SliceHead) : Decoder :=
  match h with
  | .avc h => { d with avc := some h.sps }
  | .hevc h => { d with hevc := some h.sps }

/-- The numbering as a join at a recovery point begins it: no gap before its picture, and an order count of most significant part 0 (R147; DEDUCED, log 37). -/
def Decoder.joinAt (d : Decoder) (h : SliceHead) : Decoder :=
  match h with
  | .avc h => { d with refNum := (h.num + h.sps.maxNum - 1) % h.sps.maxNum, lastNum := 0, numOffset := 0, pocMsb := 0, pocLsb := h.lsb }
  | .hevc h => { d with pocMsb := 0, pocLsb := h.lsb, begins := false }

/-- A join point that passes R137 leaves WAIT_ENTRY (Table 5-6, R159). At a recovery point the references of an H.264 stream are absent: as many frames before it as the SPS lets it refer to (R147). -/
def State.join (s : State) (c : Nat) (r : UnitRead) (h : SliceHead) : State :=
  let x := { s.ctx c with envWait := false, missing := [], seiMode := r.age.isSome, pool := (s.ctx c).pool.map fun z => { z with shortTerm := false, longTerm := false } }
  let cnt := r.recovery.getD 0
  if r.join x.decl.kind = 1 then (s.setCtx c x).showing c
  else
    let x := { x with join := .recovering, dec := x.dec.joinAt h }
    match h with
    | .avc a => (s.setCtx c { x with recoverTo := some (((a.num : Int) + cnt) % a.sps.maxNum)
                                     missing := (List.range a.sps.refs).map fun k => { poc := ((Config.free (s.freeCtr + k)).toNat : Int), num := (a.num + a.sps.maxNum - 1 - k) % a.sps.maxNum } }).useFrees a.sps.refs
    | .hevc a => s.setCtx c { x with recoverTo := some (x.dec.hevcCount a + cnt) }

/-- The reference marks and outputs that come before a picture is decoded: those of an IDR or IRAP picture that begins a sequence, of a gap in frame_num, of a reference picture set (H.264 C.4.4, H.265 C.5.2.2). -/
def State.prepare (s : State) (c : Nat) (before : List Slot) (h : SliceHead) (i : PicInfo) : State :=
  let s := if !i.begins then s
    else
      let s := if i.discards then
          let x := s.ctx c
          s.setCtx c { x with skipped := sat 2 (x.skipped + (x.pool.filter Slot.pending).length), pool := x.pool.map fun z => { z with pending := false } }
        else s.bumpAll c
      s.setCtx c ((s.ctx c).unmark fun _ => true)
  match h with
  | .avc a => ((s.ctx c).dec.gap a).foldl (State.fillGap before a c) s
  | .hevc a =>
    if i.begins then s
    else
      let s := s.setCtx c ((s.ctx c).applyRps (a.entries i.poc))
      State.bump (Ctx.bumps i.seq 1) (s.ctx c).pool.length s c

/-- Decoding of a picture of context `c` starts in a free slot of its pool, its engine's windows loaded with the pool region (R142, R143, R153, R157). -/
def State.beginPicture (s : State) (e c : Nat) (u : AccessUnit) (r : UnitRead) (seq : SeqInfo) (h : SliceHead) (heads : List SliceHead) : State :=
  let s := s.activeSps c seq
  let x := s.ctx c
  let before := x.pool
  let s := s.setCtx c { x with dec := x.dec.activate h }
  let s := s.prepare c before h (({ r with dec := x.dec }).picture x.decl seq heads)
  let i := ({ r with dec := (s.ctx c).dec }).picture x.decl seq heads
  let wrap : Nat → Int := match h with | .avc a => wrapNum a.sps.maxNum a.num | .hevc _ => fun k => k
  let s := s.setCtx c (Ctx.trim (s.ctx c).pool.length (s.ctx c))
  let s := if (s.ctx c).freeSlot.isNone then s.makeFree c wrap else s
  match (s.ctx c).freeSlot with
  | none => s.noPicture c
  | some k =>
    let s := match h with
      | .avc _ => s.nameLists c before heads i.poc
      | .hevc a => if i.begins then s else s.nameRps c before (a.entries i.poc)
    let x := s.ctx c
    let isRec := x.join == .recovering && (match x.recoverTo with | some v => if i.join = 1 then true else if x.decl.kind = 0 then (i.num : Int) == v else decide (v ≤ i.poc) | none => false)
    let x := { x with cvs := x.cvs + (if i.begins then 1 else 0), recoverTo := if isRec then none else x.recoverTo
                      dec := match h with | .avc a => x.dec.afterAvc a | .hevc a => x.dec.afterHevc a }
    let x := x.setSlot k fun z => { held := z.held, current := true, poc := i.poc, num := i.num, cvs := x.cvs, width := seq.width, height := seq.height
                                    depth := seq.depth, colour := seq.colour, fullRange := seq.fullRange, rtp := u.rtp, recovery := isRec }
    let s := s.setCtx c x
    { s with streams := { s.streams with working := Map.set s.streams.working e { context := c, slot := k, started := s.clk, au := u, info := i }
                                         windows := Map.set s.streams.windows e (c, x.pool.length * slotBytes x.decl) } }

/-- Every bound window of a context is shed (R501). -/
def State.ctxShed (s : State) (c : Nat) : Bool :=
  let ws := s.comp.groups.flatMap fun g => (g.2.act.windows.filter fun e => e.2.source == c && e.2.head != 255 &&
    ((Map.get ({} : Head) s.comp.heads e.2.head).timing.map fun r => r.sg) == some g.1).map (·.1)
  !ws.isEmpty && ws.all fun w => (Map.get ({} : Win) s.comp.wins w).shed

/-- An end of sequence or of stream: every pending picture is output, and the next IRAP picture begins a sequence (R144). -/
def State.endSequence (s : State) (c : Nat) : State :=
  let s := s.bumpAll c
  s.setCtx c { s.ctx c with dec := { (s.ctx c).dec with begins := true } }

/-- A picture outside the envelope puts its context into WAIT_ENTRY (R137). -/
def State.fails (s : State) (c : Nat) : State :=
  let s := s.outOfEnvelope c
  let x := s.ctx c
  s.setCtx c (if x.join = .waitEntry then { x with envWait := true } else { x.waitEntry s.clk with envWait := true })

/-- The picture of an access unit, its parameter sets taken (R136, R137, R146, R147, R149). In WAIT_ENTRY only a join point is decoded. A picture whose parameter sets are not there is tested against nothing; an IDR or IRAP picture without them leaves no SPS active (DEDUCED, log 37). -/
def State.takePicture (s : State) (e c : Nat) (u : AccessUnit) (r : UnitRead) : State :=
  let x := s.ctx c
  let d := x.decl
  let join := r.join d.kind
  let waits := x.join == .waitEntry
  match r.seq d with
  | none =>
    if waits then (if x.envWait && !r.slices.isEmpty then s.outOfEnvelope c else s)
    else
      let s := (s.syntaxErrors c (r.slices.length + 1)).noPicture c
      if join = 1 then s.setCtx c ((s.ctx c).waitEntry s.clk) else s
  | some seq =>
    if !inEnvelope d seq then s.fails c
    else if waits && join = 0 then (if x.envWait then s.outOfEnvelope c else s)
    else
      let heads := r.heads d.kind
      let bad := r.slices.length - heads.length
      match heads.head? with
      | none => (s.syntaxErrors c (bad + 1)).noPicture c
      | some h =>
        let s := s.syntaxErrors c bad
        match h with
        | .hevc a =>
          if hevcRasl a.nal && r.dec.dropRasl then
            s.setCtx c { s.ctx c with skipped := sat 2 ((s.ctx c).skipped + 1), dec := { (s.ctx c).dec with rasl := r.dec.hevcCount a :: r.dec.rasl } }
          else (if waits then s.join c r h else s).beginPicture e c u r seq h heads
        | .avc _ => (if waits then s.join c r h else s).beginPicture e c u r seq h heads

/-- The next access unit of an engine, taken from its context's queue (R130, R136). -/
def State.takeUnit (s : State) (e c : Nat) (u : AccessUnit) (rest : List AccessUnit) : State :=
  let x := s.ctx c
  let r := readUnit x.decl.kind x.dec u.nals
  let s := s.setCtx c { x with queue := rest, skipping := x.skipping && rest.length > 2, dec := r.dec, hdrInfo := x.hdrInfo || r.hdr }
  let s := s.syntaxErrors c r.errors
  let s := if r.endBefore then s.endSequence c else s
  let r := { r with dec := (s.ctx c).dec }
  let idle := (Map.get? s.streams.working e).isNone
  let s := if x.skipping && r.nonReference x.decl.kind then s.setCtx c { s.ctx c with skipped := sat 2 ((s.ctx c).skipped + 1) }
    else if x.join = .idle then s
    else s.takePicture e c u r
  if r.endAfter && idle && (Map.get? s.streams.working e).isNone then s.endSequence c else s

/-- The power domain of a decoder engine (R127). -/
def towerDomain (e : Nat) : Nat := if e < 9 then 7 else 8

/-- DECODE_START (R129): a free engine in service takes its next released access unit, that of context `c`. -/
def execDecodeStart (t : Time) (e c : Nat) (s : State) : Host.Outcome State Fault Refusal :=
  runIf (e < 18 && c < 256) t s fun s =>
    if !s.health.engines.contains e || !s.domOn (towerDomain e) || (Map.get? s.streams.working e).isSome || s.nextUnit e != some c then s
    else match (s.ctx c).queue with
      | [] => s
      | u :: rest =>
        if s.ctxShed c then s.setCtx c { s.ctx c with queue := rest, skipping := (s.ctx c).skipping && rest.length > 2, discarding := true }
        else
          let s := if (s.ctx c).discarding then s.setCtx c { (s.ctx c).waitEntry s.clk with discarding := false } else s
          s.takeUnit e c u rest

/-! Ending a picture (R149–R161). -/

/-- The older of two pairs by the key of R152; ties go to `b`. -/
def TimePair.key (p : TimePair) : Int := p.capture - p.unc
def olderPair (a : Option TimePair) (b : Option TimePair) : Option TimePair :=
  match b, a with
  | none, a => a
  | some q, none => some q
  | some q, some p => if q.key ≤ p.key then some q else some p

/-- The taint map and the oldest taint source after the reads of a picture, and whether one read a substitute (R151, R152). A read outside the read window, `window` bytes from the start of the pool region, gives mid-grey (R157). -/
def readTaint (x : Ctx) (window : Nat) : List Read → List Nat × Option TimePair × Bool → List Nat × Option TimePair × Bool
  | [], a => a
  | r :: rs, (taint, pair, sub) =>
    readTaint x window rs (match r with
      | .slot area k areas =>
        match x.pool[k]? with
        | some z => if areas.any z.taint.contains then (area :: taint, olderPair pair z.taintPair, sub) else (taint, pair, sub)
        | none => (taint, pair, sub)
      | .substitute area i => (area :: taint, olderPair pair ((x.missing[i]?).bind Missing.eff), true)
      | .memory area offset => if 0 ≤ offset ∧ offset < window then (taint, pair, sub) else (area :: taint, pair, sub)
      | .own area areas => if areas.any taint.contains then (area :: taint, pair, sub) else (taint, pair, sub))

/-- The conceal source of R150: the nearest decoded picture of the same coded video sequence. -/
def Ctx.concealSource (c : Ctx) (k : Nat) (poc : Int) : Option Slot :=
  let cvs := (c.pool[k]?.map Slot.cvs).getD 0
  nearestSlot (fun z => z.eff.isSome) poc
    (c.pool.zipIdx.map fun e => if e.2 = k || e.1.cvs != cvs || !(e.1.shortTerm || e.1.longTerm || e.1.pending || e.1.latest || e.1.held != 0) then { e.1 with eff := none } else e.1)

/-- Macroblocks or coding tree units of a picture: their size, their columns, their raster addresses in decoding order. -/
def SliceHead.units (h : SliceHead) : Nat × Nat × List Nat :=
  match h with
  | .avc a => (16, a.sps.mbs, List.range (a.sps.mbs * a.sps.rows))
  | .hevc a => (2 ^ a.sps.log2Ctb, a.sps.ctbs.1, tileScan a.pps a.sps)

def SliceHead.start (h : SliceHead) : Nat :=
  match h with
  | .avc a => a.first
  | .hevc a => a.address

/-- What the slices of a picture decode (R149, R157): the units decoded, the errors, and whether a write beyond the write window ended the picture. A slice that starts in an area already decoded is discarded. -/
def decodedUnits (order : List Nat) (window : Nat) (slices : List (SliceHead × SliceEnd)) : List Nat × Nat × Bool :=
  slices.foldl (fun (a : List Nat × Nat × Bool) q =>
    let (done, errors, clamped) := a
    if clamped then a
    else if done.contains q.1.start then (done, errors + 1, false)
    else
      let from_ := order.dropWhile (· != q.1.start)
      match q.2.write with
      | some (k, offset) =>
        if 0 ≤ offset ∧ offset < window then (done ++ from_.take q.2.units, errors + q.2.error.toNat, false) else (done ++ from_.take (min k q.2.units), errors, true)
      | none => (done ++ from_.take q.2.units, errors + q.2.error.toNat, false)) ([], 0, false)

/-- The 16×16 areas of the conformance window that hold a sample of unit `u` (R151, Table 5-4). -/
def unitAreas (q : SeqInfo) (size cols u : Nat) : List Nat :=
  let x := u % cols * size
  let y := u / cols * size
  let w := areasWide q.width
  (List.range (areasWide q.height)).flatMap fun r => ((List.range w).filter fun c =>
    let x0 := q.left + 16 * c
    let y0 := q.top + 16 * r
    decide (x0 < x + size) && decide (x < min (x0 + 16) (q.left + q.width)) && decide (y0 < y + size) && decide (y < min (y0 + 16) (q.top + q.height))).map fun c => r * w + c

/-- Plane `k` of a picture at its coded size: units not decoded filled from the conceal source or with mid-grey, then filtered (R150). -/
def fillPlane (q : SeqInfo) (r : DecodeResult) (src : Option Slot) (size cols : Nat) (missing : List Nat) (k : Nat) : List Nat :=
  let sub := if k = 0 then 1 else 2
  let w := q.codedWidth / sub
  let n := w * (q.codedHeight / sub)
  let grey := if q.depth = 8 then 128 else 512
  let given := ((r.planes.getD k []) ++ List.replicate n grey).take n
  let changed := r.filtered.getD k []
  given.zipIdx.map fun e =>
    let x := e.2 % w
    let y := e.2 / w
    let v := if missing.contains (y * sub / size * cols + x * sub / size) then
        (match src with
          | some z => let x' := x - q.left / sub; let y' := y - q.top / sub
                      if q.left / sub ≤ x && q.top / sub ≤ y && x' < z.width / sub then (z.planes.getD k []).getD (y' * (z.width / sub) + x') grey else grey
          | none => grey)
      else e.1
    (Map.get? changed e.2).getD v

/-- The conformance window of a plane. -/
def cropPlane (q : SeqInfo) (k : Nat) (plane : List Nat) : List Nat :=
  let sub := if k = 0 then 1 else 2
  rectOf plane (q.codedWidth / sub) (q.left / sub) (q.top / sub) (q.width / sub) (q.height / sub)

/-- A decoded picture hash does not match the decoded samples (R160). -/
def hashFails (q : SeqInfo) (hash : Option (Nat × List Nat)) (planes : List (List Nat)) : Bool :=
  match hash with
  | some (kind, v) => (List.range 3).any fun k => pictureHash kind q.depth (q.codedWidth / (if k = 0 then 1 else 2)) (planes.getD k []) != v.getD k 0
  | none => false

/-- EFF and TAINT of a picture (R152). -/
def effOf (own : TimePair) (taint : Option TimePair) : TimePair :=
  match taint with
  | none => own
  | some p => if p.key ≤ own.key then { p with cls := max p.cls own.cls, locked := p.locked && own.locked } else own

/-- One memory management operation of H.264 (8.2.5.4) for the picture in slot `k`. -/
def Ctx.manage (h : AvcSlice) (k : Nat) (c : Ctx) (m : Nat × Nat × Nat) : Ctx :=
  let (op, a, b) := m
  let isNum (num : Nat) (long : Bool) : Bool := !long && wrapNum h.sps.maxNum h.num num == (h.num : Int) - (a + 1)
  if op = 1 then c.unmark fun r => isNum r.num r.long.isSome
  else if op = 2 then c.unmark fun r => r.long == some a
  else if op = 3 then
    let c := c.unmark fun r => r.long == some b
    { c with pool := c.pool.map fun z => if z.shortTerm && isNum z.num z.longTerm then { z with shortTerm := false, longTerm := true, longIdx := b } else z
             missing := c.missing.map fun z => if isNum z.num z.long.isSome then { z with long := some b } else z }
  else if op = 4 then c.unmark fun r => match r.long with | some i => a ≤ i | none => false
  else if op = 5 then c.unmark fun _ => true
  else if op = 6 then (c.unmark fun r => r.long == some a).setSlot k fun z => { z with longTerm := true, longIdx := a }
  else c

/-- The marking process for the decoded picture in slot `k` (H.264 8.2.5; an H.265 picture becomes a short-term reference). -/
def Ctx.markDecoded (c : Ctx) (k : Nat) (h : SliceHead) : Ctx :=
  let short (c : Ctx) : Ctx := c.setSlot k fun z => { z with shortTerm := !z.longTerm }
  match h with
  | .hevc _ => short c
  | .avc a =>
    if a.refIdc = 0 then c
    else if a.idr then (if a.longRef then c.setSlot k fun z => { z with longTerm := true, longIdx := 0 } else short c)
    else match a.mmco with
      | none => short (c.slide a.sps a.num)
      | some l => short (l.foldl (Ctx.manage a k) c)

/-- Decoding of the picture an engine works on ends with result `r` (R149–R152, R154, R157, R159–R161, R443). -/
def State.endPicture (s : State) (e : Nat) (d : Decoding) (r : DecodeResult) : State :=
  let c := d.context
  let i := d.info
  let s := { s with streams := { s.streams with working := Map.del s.streams.working e } }
  match i.slices.head? with
  | none => s
  | some h =>
    let window := ((Map.get? s.streams.windows e).map (·.2)).getD 0
    let (size, cols, order) := h.units
    let (done, errors, clamped) := decodedUnits order window (i.slices.zip r.slices)
    let done := match d.refusedUnit with
      | some u => done.takeWhile (· != u)
      | none => done
    let s := s.syntaxErrors c errors
    let left := order.filter fun u => !done.contains u
    let s := if d.au.incomplete && !left.isEmpty then s.recordLimited evDecodeError c [p2 c] else s
    let s := if clamped then (s.setCtx c { s.ctx c with clampedWrites := sat 2 ((s.ctx c).clampedWrites + 1) }).record evWriteClamped [p2 c] else s
    let x := s.ctx c
    let src := x.concealSource d.slot i.poc
    let start : Option TimePair := if left.isEmpty then none else src.bind Slot.eff
    let filled := dedup (left.flatMap (unitAreas i.seq size cols))
    let (taint, pair, sub) := readTaint x window (r.reads ++ d.refusedAreas.map fun a => .memory a (-1)) (filled, start, false)
    let planes := (List.range 3).map (fillPlane i.seq r src size cols left)
    let wrong := left.isEmpty && hashFails i.seq i.hash planes
    let s := if wrong then (s.setCtx c { x with hashMismatches := sat 4 (x.hashMismatches + 1) }).recordLimited evHashMismatch c [p2 c] else s
    let areas := areasWide i.seq.width * areasWide i.seq.height
    let taint := if wrong then List.range areas else dedup taint
    let seiMissing := x.seiMode && i.sei.isNone
    let s := if seiMissing then (s.setCtx c { s.ctx c with seiFaults := sat 2 ((s.ctx c).seiFaults + 1) }).recordLimited evSeiFault c [p2 c] else s
    let own := s.mapCapture x d.au.rtp d.au.arrival (if x.seiMode then i.sei else none)
    let tp := if taint.isEmpty then none else pair
    let clipped := x.seiMode && (match i.sei with | some m => m.clipped | none => false)
    let flags := bitsOf [!taint.isEmpty, false, d.au.degraded || own.degraded || seiMissing || clipped, false, false, sub]
    let x := (s.ctx c).setSlot d.slot fun z => { z with
        current := false, latency := 0, planes := planes.zipIdx.map fun p => cropPlane i.seq p.2 p.1, taint := taint
        motion := (List.range areas).map fun a => if filled.contains a then {} else r.motion.getD a {}
        own := some own.pair, taintPair := tp, eff := some (effOf own.pair tp), base := own.base, flags := flags
        seiMode := x.seiMode, sei := i.sei.map CaptureExt.alive }
    let resets := match h with | .avc a => a.resets | .hevc _ => false
    let s := s.setCtx c { x.markDecoded d.slot h with hashPresent := x.hashPresent || i.hash.isSome }
    let s := if resets then s.bumpAll c else s
    let x := (s.ctx c).setSlot d.slot fun z => { z with pending := i.output, poc := if resets then 0 else z.poc, num := if resets then 0 else z.num }
    let x := { x with pool := x.pool.zipIdx.map fun q => if i.output && q.1.pending && q.2 != d.slot && q.1.poc > i.poc then { q.1 with latency := q.1.latency + 1 } else q.1 }
    let s := State.bump (Ctx.bumps i.seq 0) x.pool.length (s.setCtx c x) c
    if i.ends then s.endSequence c else s

/-- DECODE_END (R152): the picture an engine works on ends. -/
def execDecodeEnd (t : Time) (e : Nat) (r : DecodeResult) (s : State) : Host.Outcome State Fault Refusal :=
  runIf (e < 18) t s fun s =>
    match Map.get? s.streams.working e with
    | some d => s.endPicture e d r
    | none => s

/-- B_w in ns (R155). -/
def workBudget (d : StreamRec) : Nat := cdiv (2 * (cdiv d.maxWidth 16 * 16) * (cdiv d.maxHeight 16 * 16) + 37500) 750 * us

/-- WORK_BUDGET_EXPIRY (R155): the budget of a picture runs out; it ends with what has been decoded. -/
def execWorkBudgetExpiry (t : Time) (e : Nat) (r : DecodeResult) (s : State) : Host.Outcome State Fault Refusal :=
  runIf (e < 18) t s fun s =>
    match Map.get? s.streams.working e with
    | some d =>
      if d.started + workBudget (s.ctx d.context).decl ≤ s.clk then
        let x := s.ctx d.context
        ((s.setCtx d.context { x with overruns := sat 4 (x.overruns + 1) }).recordLimited evWorkOverrun d.context [p2 d.context]).endPicture e d r
      else s
    | none => s

/-- NO_ENTRY_TIMER (R148): 10 s in WAIT_ENTRY, and every 10 s after. -/
def execNoEntryTimer (t : Time) (c : Nat) (s : State) : Host.Outcome State Fault Refusal :=
  runIf (c < 256) t s fun s =>
    let x := s.ctx c
    if x.join = .waitEntry && x.waitSince + 10 * sec ≤ s.clk then
      (s.setCtx c { x with waitSince := x.waitSince + 10 * sec }).record evNoEntry [p2 c]
    else s

/-! Draining (R97, R98). -/

/-- A picture in progress of context `c` is abandoned; the engine is free again. -/
def State.abandonCtx (s : State) (c : Nat) : State :=
  { s with streams := { s.streams with working := s.streams.working.filter fun w => w.2.context != c } }

/-- CONTEXT_DRAIN_END (R97, R98): a draining context is CLOSED; buffers with HELD marks are detached; a new instance that waits for the drain opens (R339). -/
def execContextDrainEnd (t : Time) (c : Nat) (s : State) : Host.Outcome State Fault Refusal :=
  runIf (c < 256) t s fun s =>
    let x := s.ctx c
    if x.state = .draining then
      let held := (x.pool.zipIdx.filter fun z => z.1.held != 0).map fun z => ({ context := c, slot := z.2, bytes := bufferBytes x.decl, held := z.1.held } : Detached)
      let s := (s.abandonCtx c).setCtx c { x.flush with state := .closed, ssrc := none, report := none, decoder := 255, join := .idle, queue := [], pool := [], unacked := [], complete := [], hbSlots := [] }
      let holds := s.comp.holds.map fun h => if h.source = c then { h with detached := true } else h
      ({ s with streams := { s.streams with detached := s.streams.detached ++ held }, comp := { s.comp with holds := holds } }).openDue c
    else s

end Sys2Proof.Machine
end

