-- ==== Sys2Proof/Machine/Admission.lean ====
section
/-! DEFINITION. *Orotre*: what a layout is checked against, the constraint classes, placement, and the verdict (R276–R301). -/

namespace Sys2Proof.Machine

/-! What is admitted (R282, R285). -/

/-- A stream context in the accounting: its declaration, its placement, whether it is placed already, whether it is open in the proposed layout. -/
structure CtxUse where
  decl : StreamRec
  engine : Nat := 0
  decoder : Nat := 255
  placed : Bool := false
  live : Bool := true
  deriving DecidableEq, Repr

/-- An encode channel in the accounting. -/
structure EncUse where
  decl : EncodeRec
  engine : Nat := 255
  placed : Bool := false
  live : Bool := true
  deriving DecidableEq, Repr

/-- What a verdict depends on (R285): the proposed settings, the settings each commit group must also carry, head timings, the union of contexts and channels, internal sources, the safety configuration, bases, lane rates with PRBS at 0, PRP pairs, domains, cap and units in service; and the contexts, sources and timings of the baseline, by which a group's active needs count. -/
structure Plan where
  set : Settings
  groups : Map (List Settings)
  recs : Map TimingRec
  ctx : List CtxUse
  src : Map SourceRec
  enc : List EncUse
  ctx0 : List CtxUse
  src0 : Map SourceRec
  recs0 : Map TimingRec
  cfg : SafetyCfg
  bases : Map BaseRec
  rates : Map Nat
  prp : List Nat
  doms : List Nat
  capMw : Nat
  engines : List Nat
  scalers : Nat
  /-- Bytes of buffers detached from their contexts, and of the pool that are in service (R98, R402). -/
  detached : Nat := 0
  poolLimit : Nat := 30064771072
  deriving DecidableEq, Repr

/-- A violated constraint (R276). -/
structure Breach where
  code : Nat
  kind : Nat
  unit : Nat
  subject : Nat
  demanded : Nat
  available : Nat
  deriving DecidableEq, Repr

/-- A breach of a rule that concerns no quantity (R287). -/
def plainBreach (code kind subject : Nat) : Breach := { code := code, kind := kind, unit := 5, subject := subject, demanded := 1, available := 0 }

/-- A breach if `demanded` exceeds `available`. -/
def overBreach (code kind unit subject demanded available : Nat) : Option Breach :=
  if demanded > available then some { code := code, kind := kind, unit := unit, subject := subject, demanded := demanded, available := available } else none

def breachIf (b : Bool) (x : Breach) : Option Breach := if b then some x else none

/-- The first breach of a list of checks. -/
def firstOf (l : List (Option Breach)) : Option Breach := l.findSome? id

/-! Parts of a plan. -/

/-- The enabled record of a head. -/
def Plan.rec? (p : Plan) (h : Nat) : Option TimingRec := (Map.get? p.recs h).filter TimingRec.enabled

/-- The record of a head, enabled or not; a LOOPBACK counts by it. -/
def Plan.record? (p : Plan) (h : Nat) : Option TimingRec := Map.get? p.recs h

/-- The baseline of a plan, by which a group's active needs count (R282). -/
def Plan.baseline (p : Plan) : Plan := { p with ctx := p.ctx0, src := p.src0, recs := p.recs0 }

def Plan.windows (p : Plan) : List WindowDesc := boundOf p.set

/-- The live context that a window shows. -/
def Plan.ctxOf (p : Plan) (src : Nat) : Option StreamRec := if src < 256 then (p.ctx.find? fun c => c.live && c.decl.context == src).map CtxUse.decl else none

/-- The configured internal source that a window shows. -/
def Plan.srcOf (p : Plan) (src : Nat) : Option SourceRec := if src < 256 then none else (Map.get? p.src (src - 256)).filter fun d => d.kind != 0

def Plan.available (p : Plan) (src : Nat) : Bool := (p.ctxOf src).isSome || (p.srcOf src).isSome

/-- Frame rate of a head's surface as a fraction; 0 without a record. -/
def Plan.rate (p : Plan) (h : Nat) : Nat × Nat := match p.rec? h with
  | some r => (r.rateNum, r.rateDen)
  | none => (0, 1)

def Plan.srcBytes2 (p : Plan) (src : Nat) : Nat := match p.ctxOf src, p.srcOf src with
  | some d, _ => bSrc2 d
  | none, some d => if d.bitDepth = 8 then 6 else 12
  | none, none => 0

/-- b_copy of a head (R288). -/
def bCopy (r : TimingRec) : Nat := if r.bpc = 8 then 3 else 4

/-- Size of a source's envelope. -/
def Plan.srcSize (p : Plan) (src : Nat) : Nat × Nat := match p.ctxOf src, p.srcOf src with
  | some d, _ => (d.maxWidth, d.maxHeight)
  | none, some d => if d.kind = 2 then (match p.record? d.head with | some r => (r.hActive, r.vActive) | none => (0, 0)) else (d.width, d.height)
  | none, none => (0, 0)

/-- The head whose frames a channel copies. -/
def Plan.encHead (p : Plan) (d : EncodeRec) : Nat := if d.input = 0 then d.head else (p.set.window d.window).head

/-- Load of a channel, pixel/s (R251). -/
def Plan.encLoad (p : Plan) (d : EncodeRec) : Frac := let (n, m) := p.rate (p.encHead d); { num := d.width * d.height * n, den := m * d.rateDiv }

/-- D of a compressed context, pixel/s (R128). -/
def decodeLoad (d : StreamRec) : Frac := { num := d.maxWidth * d.maxHeight * d.rateNum, den := d.rateDen }

/-! ADM_HEAD_LINK (R199–R202, R221). -/

def headLimits (h : Nat) (r : TimingRec) : Option Breach :=
  let blank := (r.vTotal - r.vActive) * 1000000000 * r.rateDen
  let unit := r.rateNum * r.vTotal
  firstOf [overBreach 1 4 1 h r.pixelClock 600000000, overBreach 1 4 8 h r.hTotal 8192, overBreach 1 4 8 h r.vTotal 4095,
    breachIf (r.rateNum * 1001 < 24000 * r.rateDen || r.rateNum > 120 * r.rateDen) (plainBreach 1 4 h),
    breachIf (blank < 600000 * unit) { code := 1, kind := 4, unit := 6, subject := h, demanded := 600, available := blank / unit / 1000 },
    breachIf (!(r.hTotal * r.vTotal * r.rateNum * 3 * r.bpc * 1000 ≤ r.lanes * (r.linkRate * 270000000) * 796 * r.rateDen))
      { code := 1, kind := 4, unit := 2, subject := h, demanded := cdiv (r.hTotal * r.vTotal * r.rateNum * 3 * r.bpc) r.rateDen, available := r.lanes * (r.linkRate * 270000000) * 796 / 1000 }]

/-- R201 against another head of the same generator. -/
def sharesGen (a b : TimingRec) : Bool :=
  a.mode == b.mode && a.syncCfg == b.syncCfg && a.phaseOffset == b.phaseOffset && a.rateNum * b.rateDen == b.rateNum * a.rateDen && a.vTotal == b.vTotal

/-- R202 for one head. -/
def Plan.gangOk (p : Plan) (h : Nat) (r : TimingRec) : Bool :=
  if r.gangSize = 1 then r.mode != 3
  else match Map.get? p.recs (r.leader h) with
    | none => false
    | some l => if h = r.leader h then r.mode != 3 && (List.range r.gangSize).all fun j => j = 0 || (match Map.get? p.recs (h + j) with
          | some q => q.mode == 3 && { q with head := l.head, mode := l.mode, syncCfg := l.syncCfg, phaseOffset := l.phaseOffset } == l
          | none => false)
      else r.mode == 3 && { r with head := l.head, mode := l.mode, syncCfg := l.syncCfg, phaseOffset := l.phaseOffset } == l

/-- ADM_HEAD_LINK: the limits of a record hold for that of a disabled head too (R199, R200). -/
def Plan.headLink (p : Plan) : Option Breach :=
  firstOf (((List.range 16).map fun h => match p.rec? h with
    | none => (Map.get? p.recs h).bind (headLimits h)
    | some r => firstOf [headLimits h r,
        breachIf (r.mode != 3 && (List.range h).any fun k => match p.rec? k with | some q => q.sg == r.sg && q.mode != 3 && !sharesGen q r | none => false) (plainBreach 1 4 h),
        breachIf (!p.gangOk h r) (plainBreach 1 4 h)]) ++
    p.windows.map fun d => match p.rec? d.head with
      | none => some (plainBreach 1 1 d.window)
      | some r => breachIf (r.mode == 3 || !p.doms.contains (headDomain d.head)) (plainBreach 1 1 d.window))

/-! ADM_TIME (R294). -/

def Plan.isPtp (p : Plan) (b : Nat) : Bool := (Map.get {} p.bases b).source == 1

def Plan.time (p : Plan) : Option Breach :=
  firstOf ((p.windows.map fun d =>
      let needs := bit (p.cfg.policy d.policy).control 0
      let anyPtp := p.isPtp 0 || p.isPtp 1
      match p.ctxOf d.source with
      | some c => breachIf (needs && (!anyPtp || c.clock == 0 || (c.clock == 1 && !p.isPtp 0) || (c.clock == 2 && !p.isPtp 1))) (plainBreach 2 1 d.window)
      | none => breachIf (needs && !anyPtp) (plainBreach 2 1 d.window)) ++
    (p.enc.filter EncUse.live).map fun e => breachIf ((Map.get {} p.bases e.decl.timeBase).source == 0) (plainBreach 2 5 e.decl.channel))

/-! ADM_LANES (R96, R99, R105, R111, R292, R293). -/

/-- A port mask names one port, or both ports of one PRP pair. -/
def oneOrPair (prp : List Nat) (mask : Nat) : Bool := match portsOf mask with
  | [_] => true
  | [a, b] => a % 2 == 0 && b == a + 1 && prp.contains (a / 2)
  | _ => false

/-- A mask names one port only of a PRP pair (R111). -/
def splitsPair (prp : List Nat) (mask : Nat) : Bool := prp.any fun k => bit mask (2 * k) != bit mask (2 * k + 1)

/-- bit/s of a context on each port, and packet/s (R292). -/
def ctxBits (d : StreamRec) : Nat := d.maxBitrate * 1166
def ctxPackets (d : StreamRec) : Nat := if d.maxPktRate = 0 then cdiv (d.maxBitrate * 11000) 96000 else cdiv (d.maxPktRate * 11) 10

/-- Packets and bits of a stream engine. -/
def streamLoad (cs : List CtxUse) (e : Nat) : Nat × Nat :=
  let on := cs.filter fun c => c.placed && c.engine == e
  (sumL (on.map fun c => ctxPackets c.decl * (portsOf c.decl.portMask).length), sumL (on.map fun c => ctxBits c.decl * (portsOf c.decl.portMask).length))

/-- Place one context on a stream engine (R99); the breach names the engine with the smallest load. -/
def placeStream (cs : List CtxUse) (c : CtxUse) : Except Breach Nat :=
  let n := (portsOf c.decl.portMask).length
  let with_ := (List.range 16).map fun e => let (a, b) := streamLoad cs e; (e, a + ctxPackets c.decl * n, b + ctxBits c.decl * n)
  match sortBy (fun x => x.2.1 * 1000000000000 + x.2.2) (with_.filter fun x => x.2.1 ≤ 2500000 && x.2.2 ≤ 25000000000) with
  | x :: _ => .ok x.1
  | [] => match sortBy (fun x => x.2.1 * 1000000000000 + x.2.2) with_ with
    | x :: _ => .error (if x.2.1 > 2500000 then { code := 3, kind := 9, unit := 9, subject := x.1, demanded := x.2.1, available := 2500000 }
        else { code := 3, kind := 9, unit := 2, subject := x.1, demanded := x.2.2, available := 25000000000 })
    | [] => .error (plainBreach 3 9 0)

/-- Place all unplaced contexts on stream engines, in increasing index. -/
def placeStreams (cs : List CtxUse) : List CtxUse → Except Breach (List CtxUse)
  | [] => .ok cs
  | c :: rest =>
    if c.placed then placeStreams cs rest
    else match placeStream cs c with
      | .error b => .error b
      | .ok e => placeStreams (cs.map fun x => if x == c then { c with engine := e, placed := true } else x) rest

/-- bit/s of a channel on each of its ports (R292). -/
def Plan.encBits (p : Plan) (d : EncodeRec) : Frac :=
  let (n, m) := p.rate (p.encHead d)
  let bpc := match p.rec? (p.encHead d) with | some r => r.bpc | none => 8
  { num := (if d.h265 then 106 * d.cap else 318 * d.width * d.height * bpc) * n, den := 100 * m * d.rateDiv }

def Plan.rxLoad (p : Plan) (k : Nat) : Nat := sumL ((p.ctx.filter fun c => bit c.decl.portMask k).map fun c => ctxBits c.decl)
def Plan.txLoad (p : Plan) (k : Nat) : Frac := Frac.sum ((p.enc.filter fun e => !e.decl.toHost && bit e.decl.portMask k).map fun e => p.encBits e.decl)

/-- 95 % of the line rate of a port (R293). -/
def Plan.lineRate (p : Plan) (k : Nat) : Nat := match Map.get 0 p.rates k with
  | 1 => 9500000000
  | 2 => 23750000000
  | _ => 0

/-- Multicast group entries in use (R105). -/
def Plan.groupEntries (p : Plan) : Nat :=
  (dedupBy ((p.ctx.filter fun c => isMulticast (bit c.decl.flags 2) c.decl.group).flatMap fun c =>
    (portsOf c.decl.portMask).map fun k => (k, c.decl.vlan, c.decl.group, if bit c.decl.flags 3 then c.decl.source else []))).length
where
  dedupBy (l : List (Nat × Nat × Bytes × Bytes)) : List (Nat × Nat × Bytes × Bytes) := l.foldl (fun a x => if a.contains x then a else a ++ [x]) []

def netDomain (k : Nat) : Nat := if k < 8 then 4 else 5

/-- Checks of contexts and channels on their own, before placement. -/
def Plan.lanesA (p : Plan) : Option Breach :=
  let key (d : StreamRec) : Nat × Bytes × Bytes × Nat := (d.vlan, d.group, d.source, d.udpPort)
  let live := p.ctx.filter CtxUse.live
  firstOf ((live.map fun c => firstOf [
      breachIf (live.any fun o => o.decl.context < c.decl.context && key o.decl == key c.decl) (plainBreach 3 2 c.decl.context),
      breachIf (splitsPair p.prp c.decl.portMask || (portsOf c.decl.portMask).any fun k => !p.doms.contains (netDomain k)) (plainBreach 3 2 c.decl.context)]) ++
    (p.enc.filter fun e => e.live && !e.decl.toHost).map fun e =>
      breachIf (!oneOrPair p.prp e.decl.portMask || (portsOf e.decl.portMask).any fun k => !p.doms.contains (netDomain k)) (plainBreach 3 5 e.decl.channel))

/-- Checks of totals, after placement. -/
def Plan.lanesB (p : Plan) : Option Breach :=
  firstOf ([overBreach 3 0 5 0 p.groupEntries 4096] ++
    ((List.range 16).map fun e => let (a, b) := streamLoad p.ctx e; firstOf [overBreach 3 9 9 e a 2500000, overBreach 3 9 2 e b 25000000000]) ++
    (List.range 16).map fun k => firstOf [overBreach 3 8 2 k (p.rxLoad k) (p.lineRate k), overBreach 3 8 2 k (p.txLoad k).up (p.lineRate k)])

/-! ADM_DECODE_RATE (R128, R251, R257, R283). -/

/-- Sums of an engine: D, MAX_BITRATE, contexts. -/
def engineLoad (cs : List CtxUse) (e : Nat) : Frac × Nat × Nat :=
  let on := cs.filter fun c => c.decl.compressed && c.decoder == e
  (Frac.sum (on.map fun c => decodeLoad c.decl), sumL (on.map fun c => c.decl.maxBitrate), on.length)

/-- Place one compressed context on a decoder engine (R283). -/
def placeDecoder (engines : List Nat) (cs : List CtxUse) (c : CtxUse) : Except Breach Nat :=
  let d := decodeLoad c.decl
  let with_ := engines.map fun e => let (a, b, n) := engineLoad cs e; (e, a.add d, b + c.decl.maxBitrate, n + 1)
  match leastBy (fun x => x.2.1) (with_.filter fun x => x.2.1.up ≤ 750000000 && x.2.2.1 ≤ 600000 && x.2.2.2 ≤ 24) with
  | some x => .ok x.1
  | none =>
    if d.up > 750000000 then .error { code := 4, kind := 2, unit := 1, subject := c.decl.context, demanded := d.up, available := 750000000 }
    else match leastBy (fun x => x.2.1) with_ with
      | none => .error (plainBreach 4 2 c.decl.context)
      | some x => .error (if x.2.1.up > 750000000 then { code := 4, kind := 6, unit := 1, subject := x.1, demanded := x.2.1.up, available := 750000000 }
          else if x.2.2.1 > 600000 then { code := 4, kind := 6, unit := 2, subject := x.1, demanded := x.2.2.1 * 1000, available := 600000000 }
          else { code := 4, kind := 6, unit := 5, subject := x.1, demanded := x.2.2.2, available := 24 })

def placeDecoders (engines : List Nat) (cs : List CtxUse) : List CtxUse → Except Breach (List CtxUse)
  | [] => .ok cs
  | c :: rest =>
    if !c.decl.compressed || c.decoder != 255 || !c.live then placeDecoders engines cs rest
    else match placeDecoder engines cs c with
      | .error b => .error b
      | .ok e => placeDecoders engines (cs.map fun x => if x == c then { c with decoder := e } else x) rest

/-- Sums of an encoder engine: load and channels. -/
def Plan.encEngine (p : Plan) (es : List EncUse) (e : Nat) : Frac × Nat :=
  let on := es.filter fun c => c.placed && c.engine == e
  (Frac.sum (on.map fun c => p.encLoad c.decl), on.length)

/-- Place one channel on an encoder engine (R283). -/
def Plan.placeEncoder (p : Plan) (es : List EncUse) (c : EncUse) : Except Breach Nat :=
  let with_ := (List.range 4).map fun e => let (a, n) := p.encEngine es e; (e, a.add (p.encLoad c.decl), n + 1)
  let (n, m) := p.rate (p.encHead c.decl)
  let least := leastBy (fun x => x.2.1) with_
  if !p.doms.contains 9 then .error (plainBreach 4 5 c.decl.channel)
  else if c.decl.h265 && (encodeLevel c.decl n m).isNone then .error (plainBreach 4 7 ((least.map (·.1)).getD 0))
  else match leastBy (fun x => x.2.1) (with_.filter fun x => x.2.1.up ≤ 600000000 && x.2.2 ≤ 8), least with
    | some x, _ => .ok x.1
    | none, some x => .error (if x.2.1.up > 600000000 then { code := 4, kind := 7, unit := 1, subject := x.1, demanded := x.2.1.up, available := 600000000 }
          else { code := 4, kind := 7, unit := 5, subject := x.1, demanded := x.2.2, available := 8 })
    | none, none => .error (plainBreach 4 7 0)

def Plan.placeEncoders (p : Plan) (es : List EncUse) : List EncUse → Except Breach (List EncUse)
  | [] => .ok es
  | c :: rest =>
    if c.placed then p.placeEncoders es rest
    else match p.placeEncoder es c with
      | .error b => .error b
      | .ok e => p.placeEncoders (es.map fun x => if x == c then { c with engine := e, placed := true } else x) rest

/-- Checks of engines after placement; a placed channel is checked too, since a change of its head's rate changes its load. -/
def Plan.decodeRate (p : Plan) : Option Breach :=
  firstOf (((List.range 18).map fun e => let (a, b, n) := engineLoad p.ctx e
      firstOf [overBreach 4 6 1 e a.up 750000000, overBreach 4 6 2 e (b * 1000) 600000000, overBreach 4 6 5 e n 24]) ++
    ((p.ctx.filter fun c => c.live && c.decl.compressed).map fun c => breachIf (!(p.doms.contains 7 || p.doms.contains 8)) (plainBreach 4 2 c.decl.context)) ++
    ((p.enc.filter EncUse.live).map fun c => firstOf [breachIf (!p.doms.contains 9) (plainBreach 4 5 c.decl.channel),
      breachIf (c.decl.h265 && (let (n, m) := p.rate (p.encHead c.decl); (encodeLevel c.decl n m).isNone)) (plainBreach 4 7 c.engine)]) ++
    (List.range 4).map fun e => let (a, n) := p.encEngine p.enc e; firstOf [overBreach 4 7 1 e a.up 600000000, overBreach 4 7 5 e n 8])

/-! ADM_POOL_MEMORY (R139, R290, R291). -/

/-- G of a context (R139). -/
def Plan.gens (p : Plan) (context : Nat) : Nat :=
  let sg (safety : Bool) : Nat := (dedup ((p.windows.filter fun d => d.source == context && (!safety || d.kind == 2)).filterMap fun d => (p.rec? d.head).map TimingRec.sg)).length
  max 1 (sg false + sg true)

/-- Slots or frame buffers of a context. -/
def Plan.slots (p : Plan) (d : StreamRec) : Nat := if d.compressed then dpbMax d + 1 + p.gens d.context else 2 + p.gens d.context

def Plan.ctxPool (p : Plan) (d : StreamRec) : Nat :=
  if d.compressed then p.slots d * slotBytes d + d.jitterBytes else p.slots d * frameBytes d.maxWidth d.maxHeight (bSrc2 d)

def Plan.srcPool (p : Plan) (d : SourceRec) : Nat :=
  if d.kind = 0 then 0
  else if d.kind = 2 then (match p.record? d.head with | some r => 3 * frameBytes r.hActive r.vActive (2 * bCopy r) | none => 0)
  else 3 * frameBytes d.width d.height (if d.bitDepth = 8 then 6 else 12)

def Plan.encPool (p : Plan) (d : EncodeRec) : Nat :=
  let copy := match p.rec? (p.encHead d) with | some r => bCopy r | none => 4
  3 * roundUp 4096 (d.width * d.height * copy) +
    (if d.h265 then 2 * frameBytes d.width d.height (3 * (d.format + 1)) + roundUp 65536 (cdiv d.cap 2) else 0)

def Plan.pool (p : Plan) : Nat :=
  p.detached + sumL (p.ctx.map fun c => p.ctxPool c.decl) + sumL (p.src.map fun e => p.srcPool e.2) + sumL (p.enc.map fun e => p.encPool e.decl)

/-! ADM_SCALERS (R166, R168, R172, R176, R254). -/

/-- Bound windows of a settings copy whose head is driven by generator `g`. -/
def Plan.inGroup (p : Plan) (x : Settings) (g : Nat) : List WindowDesc := (boundOf x).filter fun d => match p.rec? d.head with | some r => r.sg == g | none => false

/-- Scalers that one window needs. -/
def Plan.scalersOf (p : Plan) (d : WindowDesc) : Nat := match p.rec? d.head with
  | some r => sumL ((scalerParts d r).map fun e => e.2.2)
  | none => 0

/-- Q_p summed over a window's assignments, pixel/s. -/
def Plan.scalerRate (p : Plan) (d : WindowDesc) : Frac := match p.rec? d.head with
  | some r => Frac.sum ((scalerParts d r).map fun e => r.partRate (e.2.1.getD 2 0 - e.2.1.getD 0 0).toNat)
  | none => { num := 0 }

/-- A need of windows summed over groups, each the larger of its proposed need and of its active and sealed needs in the baseline (R282). -/
def Plan.byGroup (p : Plan) (f : Plan → WindowDesc → Frac) : Frac :=
  let need (q : Plan) (x : Settings) (g : Nat) : Frac := Frac.sum ((q.inGroup x g).map (f q))
  Frac.sum ((List.range 4).map fun g => Frac.max (need p p.set g :: (Map.get [] p.groups g).map fun x => need p.baseline x g))

def Plan.scalerNeed (p : Plan) : Nat := (p.byGroup fun q d => { num := q.scalersOf d }).up

/-- R166, R168, R172 and R176 for one window. -/
def Plan.windowScale (p : Plan) (d : WindowDesc) : Option Breach :=
  let (w, h) := p.srcSize d.source
  let av := p.available d.source
  let yuv420 := match p.ctxOf d.source with | some c => c.compressed | none => false
  let rgb := match p.ctxOf d.source with | some c => c.kind == 2 && c.sampling == 1 | none => true
  let part := match p.rec? d.head with
    | some r => (scalerParts d r).findSome? fun e =>
      let wp := (e.2.1.getD 2 0 - e.2.1.getD 0 0).toNat
      firstOf [overBreach 6 1 8 d.window wp 8192, overBreach 6 1 1 d.window (r.partRate wp).up 1200000000]
    | none => none
  firstOf [
    breachIf (av && (d.cropX % 2 != 0 || d.cropW % 2 != 0 || (yuv420 && (d.cropY % 2 != 0 || d.cropH % 2 != 0)))) (plainBreach 6 1 d.window),
    if av then overBreach 6 1 8 d.window (d.cropX + d.cropW) w else none,
    if av then overBreach 6 1 8 d.window (d.cropY + d.cropH) h else none,
    breachIf (bit d.flags 0 && (d.kind != 1 || (av && !rgb))) (plainBreach 6 1 d.window),
    if d.cropW = d.width then none else firstOf [overBreach 6 1 8 d.window d.width (16 * d.cropW), overBreach 6 1 8 d.window d.cropW (8 * d.width)],
    if d.cropH = d.height then none else firstOf [overBreach 6 1 8 d.window d.height (16 * d.cropH), overBreach 6 1 8 d.window d.cropH (6 * d.height)],
    part]

/-- R254 for one channel. -/
def Plan.region (p : Plan) (d : EncodeRec) : Option Breach :=
  let w := d.width * d.down
  let h := d.height * d.down
  if d.input = 0 then
    match p.rec? d.head with
    | none => some (plainBreach 6 5 d.channel)
    | some r => firstOf [breachIf (r.mode == 3) (plainBreach 6 5 d.channel), overBreach 6 5 8 d.channel (d.x + w) r.surfaceW, overBreach 6 5 8 d.channel (d.y + h) r.surfaceH]
  else
    let win := p.set.window d.window
    match p.rec? win.head with
    | none => some (plainBreach 6 5 d.channel)
    | some r =>
      let q := WinRect win r
      breachIf (q.2.2.1 - q.1 != w || q.2.2.2 - q.2.1 != h) (plainBreach 6 5 d.channel)

def Plan.scaling (p : Plan) : Option Breach :=
  firstOf ((p.windows.map p.windowScale) ++ ((p.enc.filter EncUse.live).map fun e => p.region e.decl) ++ [overBreach 6 0 5 0 p.scalerNeed p.scalers])

/-! ADM_OVERLAP (R40, R300). -/

/-- A window of a stack hides what lies below it, shutters aside. -/
def hidesStill (e : WindowDesc × Nat) : Bool := e.2 = 1 || (e.2 = 0 && e.1.planeAlpha = 4095 && !bit e.1.flags 0)

/-- The leader of a head's surface and the stack on it. -/
def Plan.stack (p : Plan) (r : TimingRec) (h : Nat) : List (WindowDesc × Nat) :=
  stackOf p.set (r.leader h) (p.windows.filter fun d => d.head == r.leader h)

/-- Windows whose clipped rectangle meets a head. -/
def Plan.meets (p : Plan) (h : Nat) : List WindowDesc := match p.rec? h with
  | some r => p.windows.filter fun d => d.head == r.leader h && !rectEmpty (onHead d r h)
  | none => []

/-- The largest contributing count in a tile of a head. -/
def Plan.depth (p : Plan) (h : Nat) : Nat := match p.rec? h with
  | some r => maxL ((List.range (tileCols r * tileRows r)).map fun i => (contributorsBy hidesStill r h i (p.stack r h)).length)
  | none => 0

/-- R300 for one head. A step that names a window bound to no head is admitted, and composes nothing (DEDUCED, log 20). -/
def Plan.program (p : Plan) (h : Nat) : Option Breach :=
  let steps := p.set.blend h
  let names := steps.map BlendStep.window
  let follower := match p.record? h with | some r => r.mode == 3 | none => false
  if steps.isEmpty then none
  else breachIf (follower || (dedup names).length != names.length || p.windows.any fun d => (d.head == h) != names.contains d.window) (plainBreach 7 11 h)

def Plan.overlap (p : Plan) : Option Breach :=
  firstOf ((List.range 16).map fun h => firstOf [overBreach 7 4 5 h (p.meets h).length 64, overBreach 7 4 5 h (p.depth h) 16, p.program h])

/-! ADM_LANTERN (R188, R236). -/

/-- Lantern load of a window, pixel/s (R236). -/
def Plan.lanternLoad (p : Plan) (d : WindowDesc) : Frac := match p.rec? d.head with
  | some r =>
    let q := WinRect d r
    { num := if d.kind != 2 || rectEmpty q then 0 else (q.2.2.1 - q.1).toNat * (q.2.2.2 - q.2.1).toNat * r.rateNum, den := r.rateDen }
  | none => { num := 0 }

/-- The steps after a safety window's step, and that step, all replace and are all safety windows (R188). -/
def safetyTail : List (WindowDesc × Nat) → Bool
  | [] => true
  | e :: rest => safetyTail rest && (e.1.kind != 2 || (e :: rest).all fun x => x.1.kind == 2 && x.2 == 1)

def Plan.safetyWindow (p : Plan) (d : WindowDesc) : Option Breach := match p.rec? d.head with
  | none => none
  | some r =>
    let stack := p.stack r d.head
    let fixed := (p.set.blend d.head).isEmpty
    let above := (stack.dropWhile fun e => e.1.window != d.window).drop 1
    firstOf [breachIf (!p.doms.contains 11) (plainBreach 8 1 d.window), breachIf (d.planeAlpha != 4095) (plainBreach 8 1 d.window),
      breachIf (fixed && above.any fun e => e.1.kind != 2 && !rectEmpty (rectMeet (WinRect e.1 r) (WinRect d r))) (plainBreach 8 1 d.window),
      breachIf (!fixed && !safetyTail (stack.dropWhile fun e => e.1.window != d.window)) (plainBreach 8 1 d.window)]

def Plan.lantern (p : Plan) : Option Breach :=
  let safe := p.windows.filter fun d => d.kind == 2
  firstOf ((safe.map p.safetyWindow) ++
    ((List.range 16).map fun h => overBreach 8 4 5 h ((p.meets h).filter fun d => d.kind == 2).length 16) ++
    [overBreach 8 0 5 0 safe.length 96, overBreach 8 0 1 0 (p.byGroup Plan.lanternLoad).up 1200000000])

/-! ADM_DRAM_BW and ADM_RESERVE (R288, R289): bytes/s. -/

/-- Composition fetch of one window: nothing for a source that is not available (R299). -/
def Plan.fetch (p : Plan) (d : WindowDesc) : Frac :=
  let (n, m) := p.rate d.head
  { num := if p.available d.source then d.cropW * d.cropH * p.srcBytes2 d.source * n else 0, den := 2 * m }

/-- The real-time term of a window: Lantern reads a safety window too. -/
def Plan.rtTerm (p : Plan) (d : WindowDesc) : Frac := (p.fetch d).times (if d.kind = 2 then 2 else 1)

def Plan.rtDemand (p : Plan) : Frac := (p.byGroup Plan.rtTerm).add { num := 20000000 * ((List.range 16).filter fun h => (p.rec? h).isSome).length }

def Plan.decDemand (p : Plan) : Frac :=
  Frac.sum ((p.ctx.filter fun c => c.decl.compressed).map fun c =>
    let d := decodeLoad c.decl
    Frac.add { num := d.num * (if c.decl.bitDepth = 8 then 13 else 25), den := 2 * d.den } { num := 125 * c.decl.maxBitrate })

/-- Traffic of a channel, or of the copies of a LOOPBACK source. -/
def Plan.encTerm (p : Plan) (d : EncodeRec) : Frac :=
  let (n, m) := p.rate (p.encHead d)
  let copy := match p.rec? (p.encHead d) with | some r => bCopy r | none => 4
  if d.h265 then ((p.encLoad d).times (2 * copy + 3 * (d.format + 1))).add { num := d.cap * n, den := 4 * m * d.rateDiv } else (p.encLoad d).times (2 * copy)

def Plan.copyTerm (p : Plan) (d : SourceRec) : Frac := match p.record? d.head with
  | some r => { num := if d.kind = 2 then r.hActive * r.vActive * bCopy r * r.rateNum else 0, den := r.rateDen }
  | none => { num := 0 }

def Plan.encDemand (p : Plan) : Frac := (Frac.sum (p.enc.map fun e => p.encTerm e.decl)).add (Frac.sum (p.src.map fun e => p.copyTerm e.2))

/-- Traffic of received packets and of generated pictures. -/
def ingTerm (d : StreamRec) : Frac :=
  if d.compressed then { num := 275 * d.maxBitrate, den := 2 } else { num := d.maxWidth * d.maxHeight * bSrc2 d * d.rateNum, den := 2 * d.rateDen }

def patternTerm (d : SourceRec) : Frac :=
  if d.kind = 1 then { num := d.width * d.height * (if d.bitDepth = 8 then 3 else 6) * d.rateNum, den := d.rateDen } else { num := 0 }

def Plan.ingDemand (p : Plan) : Frac := (Frac.sum (p.ctx.map fun c => ingTerm c.decl)).add (Frac.sum (p.src.map fun e => patternTerm e.2))

def Plan.dramTotal (p : Plan) : Frac := Frac.sum [p.rtDemand, p.decDemand, p.encDemand, p.ingDemand, { num := 13650000000 }]

def Plan.dram (p : Plan) : Option Breach :=
  firstOf [overBreach 9 12 4 0 p.rtDemand.up 54600000000, overBreach 9 12 4 1 p.decDemand.up 163800000000, overBreach 9 12 4 2 p.encDemand.up 40950000000, overBreach 9 12 4 3 p.ingDemand.up 54600000000]

def Plan.reserve (p : Plan) : Option Breach := overBreach 10 0 4 0 p.dramTotal.up 191100000000

/-! ADM_LATENCY and ADM_FRESHNESS (R296, R297, R48, R51). -/

/-- Terms of Table 10-6: I, A, S, J, Q, R in ns. -/
structure Terms where
  i : Nat
  a : Nat := 0
  s : Nat := 0
  j : Nat := 0
  q : Nat := 0
  r : Nat := 0
  deriving DecidableEq, Repr

def Plan.terms (p : Plan) (src : Nat) : Option Terms :=
  match p.ctxOf src, p.srcOf src with
  | some d, _ =>
    let i := cdiv (1000000000 * d.rateDen) d.rateNum
    if d.compressed then
      let e := ((p.ctx.find? fun c => c.live && c.decl.context == src).map CtxUse.decoder).getD 255
      some { i := i, a := d.upstreamAllow, s := if d.clock != 0 && !bit d.flags 0 then d.senderAcc else 0, j := d.jitterDepth * 1000
             q := sumL ((p.ctx.filter fun c => c.decl.compressed && c.decoder == e).map fun c => workBudget c.decl)
             r := if d.kind = 0 && d.profile = 0 then 0 else (dpbMax d - 1) * i }
    else some { i := i, a := d.upstreamAllow, j := i + d.jitterDepth * 1000 }
  | none, some d =>
    if d.kind = 1 then some { i := cdiv (1000000000 * d.rateDen) d.rateNum }
    else if d.kind = 3 then some { i := d.verifyPeriod * ms }
    else match p.record? d.head with
      | some r => some { i := r.period, a := maxL ((p.meets d.head).map fun w => (p.cfg.policy w.policy).ageLimit * 1000) + r.period, j := r.period }
      | none => some { i := 0 }
  | none, none => none

/-- The evaluation row's instant E_w, ns, by the nominal line period (R199). -/
def Plan.evalNs (d : WindowDesc) (r : TimingRec) : Nat := cdiv (64 * evalRow d r ((List.range r.gangSize).map fun j => r.leader d.head + j) * 1000000000 * r.rateDen) (r.rateNum * r.vTotal)

/-- Λ_w and Φ_w of a bound window, with the interval of its source (R296, R297). -/
def Plan.bounds (p : Plan) (d : WindowDesc) : Option (Nat × Nat × Nat) :=
  match p.terms d.source, p.rec? d.head with
  | some t, some r =>
    let tail := t.j + t.q + r.period + 500000 + Plan.evalNs d r
    some (t.a + t.s + t.r + tail, t.i + tail, t.i)
  | _, _ => none

def Plan.latency (p : Plan) : Option Breach :=
  firstOf (p.windows.map fun d => match p.bounds d with
    | some (l, _, _) => if d.deadline = 0 then none else overBreach 11 1 6 d.window (cdiv l 1000) d.deadline
    | none => none)

/-- The required age limit, µs, and freeze limit, ms. -/
def needAge (i l : Nat) : Nat := cdiv (11 * (i + l)) 10000
def needFreeze (f : Nat) : Nat := cdiv (11 * f) 10000000

/-- Heads that a window shows through a LOOPBACK, by surface: from the leader of the window's head to the leader of the source's head. -/
def Plan.loops (p : Plan) : List (Nat × Nat × Nat) :=
  p.windows.filterMap fun d => match p.srcOf d.source, p.rec? d.head with
    | some x, some r => if x.kind = 2 then (match p.record? x.head with | some q => some (d.window, r.leader d.head, q.leader x.head) | none => none) else none
    | _, _ => none

/-- Surfaces that can be reached from a set through LOOPBACK windows in at most `n` more steps. -/
def reach (edges : List (Nat × Nat × Nat)) : Nat → List Nat → List Nat
  | 0, l => l
  | n + 1, l => reach edges n (dedup (l ++ (edges.filter fun e => l.contains e.2.1).map fun e => e.2.2))

def Plan.fresh (p : Plan) (d : WindowDesc) : Option Breach :=
  let pol := p.cfg.policy d.policy
  let (w, h) := p.srcSize d.source
  let lim := match p.bounds d with
    | some (l, f, i) => firstOf [breachIf (pol.ageLimit < needAge i l) { code := 12, kind := 1, unit := 6, subject := d.window, demanded := needAge i l, available := pol.ageLimit },
        breachIf (pol.freezeLimit < needFreeze f) { code := 12, kind := 1, unit := 7, subject := d.window, demanded := needFreeze f, available := pol.freezeLimit },
        breachIf (pol.hbPeriod != 0 && pol.hbPeriod < needFreeze f) { code := 12, kind := 1, unit := 7, subject := d.window, demanded := needFreeze f, available := pol.hbPeriod }]
    | none => none
  let hb := d.hbW != 0
  firstOf [lim,
    breachIf (p.loops.any fun e => e.1 == d.window && (reach p.loops 16 [e.2.2]).contains e.2.1) (plainBreach 12 1 d.window),
    breachIf ((d.kind == 2) != bit pol.control 1) (plainBreach 12 1 d.window),
    breachIf (hb && (d.hbX % 2 + d.hbY % 2 + d.hbW % 2 + d.hbH % 2 != 0 || d.hbW < 16 || d.hbW > 512 || d.hbH < 16 || d.hbH > 512)) (plainBreach 12 1 d.window),
    breachIf (hb && (p.ctxOf d.source).isSome && (d.hbX + d.hbW > w || d.hbY + d.hbH > h)) (plainBreach 12 1 d.window),
    breachIf (hb && d.source ≥ 256) (plainBreach 12 1 d.window),
    breachIf (pol.hbPeriod != 0 && (!hb || d.source ≥ 256)) (plainBreach 12 1 d.window)]

def Plan.freshness (p : Plan) : Option Breach :=
  firstOf ((p.windows.map p.fresh) ++ (p.ctx.filter CtxUse.live).map fun c => overBreach 12 2 5 c.decl.context (rectsOf p.set c.decl.context).length 4)

/-- MARGIN_US and MARGIN_WINDOW (Table 10-4). -/
def Plan.margin (p : Plan) : Nat × Nat :=
  let ms := p.windows.filterMap fun d => (p.bounds d).map fun e => ((p.cfg.policy d.policy).ageLimit - needAge e.2.2 e.1, d.window)
  match ms with
  | [] => (0, 0xFFFF)
  | m :: rest => rest.foldl (fun a b => if b.1 < a.1 then b else a) m

/-! ADM_POWER (R295). -/

/-- The estimate, mW. -/
def Plan.estimateMw (p : Plan) : Frac :=
  let load := Frac.sum [(Frac.sum ((p.ctx.filter fun c => c.decl.compressed).map fun c => decodeLoad c.decl)).times 330, (Frac.sum (p.enc.map fun e => p.encLoad e.decl)).times 400,
    (p.byGroup Plan.scalerRate).times 100, p.dramTotal.times 13, Frac.sum ((List.range 16).map fun k => (p.txLoad k).add { num := p.rxLoad k })]
  Frac.add { num := 12200 + 625 * ((List.range 16).filter fun h => (p.rec? h).isSome).length + (if p.doms.contains 11 then 2000 else 0) } { load with den := 100000000 * load.den }

/-- The estimate, mW, rounded down, and the admitted power, rounded up to 1 mW (DEDUCED, log 20). -/
def Plan.estimate (p : Plan) : Nat := p.estimateMw.num / p.estimateMw.den
def Plan.admitted (p : Plan) : Nat := cdiv (11 * p.estimateMw.num) (10 * p.estimateMw.den)

def Plan.power (p : Plan) : Option Breach := overBreach 13 0 10 0 p.admitted p.capMw

/-! The verdict (R276, R286, R287, R298). -/

/-- A plan with every context and channel placed, or the first breach, in the order of Table 10-3. -/
def Plan.check (p : Plan) : Except Breach Plan :=
  match firstOf [p.headLink, p.time, p.lanesA] with
  | some b => .error b
  | none =>
    let live := sortBy (fun c => c.decl.context) p.ctx
    match placeStreams live live with
    | .error b => .error b
    | .ok cs =>
      let p := { p with ctx := cs }
      match p.lanesB with
      | some b => .error b
      | none =>
        match placeDecoders (p.engines.filter fun e => p.doms.contains (towerDomain e)) cs cs with
        | .error b => .error b
        | .ok cs =>
          let p := { p with ctx := cs }
          let es := sortBy (fun e => e.decl.channel) p.enc
          match p.placeEncoders es es with
          | .error b => .error b
          | .ok es =>
            let p := { p with enc := es }
            match firstOf [p.decodeRate, overBreach 5 0 3 0 p.pool p.poolLimit, p.scaling, p.overlap, p.lantern, p.dram, p.reserve, p.latency, p.freshness, p.power] with
            | some b => .error b
            | none => .ok p

/-- A verdict: its path, the breach or the admitted plan. -/
structure Verdict where
  path : Nat
  result : Except Breach Plan

def Verdict.ok (v : Verdict) : Bool := match v.result with
  | .ok _ => true
  | .error _ => false

/-- The verdict record (Table 10-4). EVAL_US is a free value within the bound of R281 (log 20). -/
def Verdict.bytes (v : Verdict) (evalUs layoutId : Nat) : Bytes :=
  match v.result with
  | .error b => [1, BitVec.ofNat 8 v.path] ++ le 2 b.code ++ [BitVec.ofNat 8 b.kind, BitVec.ofNat 8 b.unit] ++ le 2 b.subject ++ le 8 b.demanded ++ le 8 b.available ++ le 4 evalUs ++ le 4 layoutId ++ zeros 64
  | .ok p =>
    let k (x : Frac) : Bytes := le 4 (sat 4 (cdiv x.num (1000 * x.den)))
    let mb (x : Frac) : Bytes := le 4 (sat 4 (cdiv x.num (1000000 * x.den)))
    let tower (lo hi : Nat) : Frac := Frac.sum ((p.ctx.filter fun c => c.decl.compressed && lo ≤ c.decoder && c.decoder < hi).map fun c => decodeLoad c.decl)
    let (mu, mw) := p.margin
    [0, BitVec.ofNat 8 v.path] ++ zeros 6 ++ zeros 16 ++ le 4 evalUs ++ le 4 layoutId ++
    k (tower 0 9) ++ k (tower 9 18) ++ k (Frac.sum (p.enc.map fun e => p.encLoad e.decl)) ++ le 2 p.scalerNeed ++ le 2 p.groupEntries ++ k (p.byGroup Plan.lanternLoad) ++
    mb p.rtDemand ++ mb p.decDemand ++ mb p.encDemand ++ mb p.ingDemand ++ mb p.dramTotal ++ le 8 p.pool ++ le 4 p.estimate ++ le 4 mu ++ le 2 mw ++
    [BitVec.ofNat 8 (maxL ((List.range 16).map p.depth)), BitVec.ofNat 8 (maxL ((List.range 16).map fun h => (p.meets h).length))] ++ zeros 4

/-! Plans of the machine. -/

/-- The contexts of the baseline: open, draining, and waiting to open (R282). -/
def State.ctxUses (s : State) : List CtxUse :=
  (s.streams.ctx.filterMap fun e => if e.2.state = .closed then none else
    some { decl := e.2.decl, engine := e.2.engine, decoder := e.2.decoder, placed := true, live := e.2.state != .draining && !s.comp.reopens.any fun r => r.decl.context == e.1 }) ++
  s.comp.reopens.map fun r => { decl := r.decl, engine := r.engine, decoder := r.decoder, placed := true }

def State.encUses (s : State) : List EncUse :=
  (s.enc.chan.filterMap fun e => if e.2.state = .closed then none else some { decl := e.2.decl, engine := e.2.engine, placed := true, live := e.2.state != .draining }) ++
  s.comp.reEnc.map fun e => { decl := e.1, engine := e.2.1, placed := true }

/-- The settings that each commit group shows or has sealed. -/
def State.groupSets (s : State) : Map (List Settings) :=
  (List.range 4).map fun g => (g, (s.grpC g).act :: ((s.grpC g).next.map Sealed.set).toList)

/-- Domains that are on. -/
def State.domsOn (s : State) : List Nat := (List.range 14).filter s.domOn

/-- The committed layout with everything a verdict depends on (R285). -/
def State.plan (s : State) : Plan :=
  { set := s.comp.committed, groups := s.groupSets, recs := s.comp.heads.filterMap fun e => e.2.stored.map fun r => (e.1, r)
    ctx := s.ctxUses, src := s.streams.src.map fun e => (e.1, e.2.decl), enc := s.encUses, cfg := s.comp.safety
    ctx0 := s.ctxUses, src0 := s.streams.src.map fun e => (e.1, e.2.decl), recs0 := s.comp.heads.filterMap fun e => e.2.timing.map fun r => (e.1, r)
    bases := [0, 1, 2].map fun b => (b, (s.base b).cfg)
    rates := (List.range 16).map fun k => (k, if (s.lane k).prbsPattern = 0 then (s.lane k).cfg.rate else 0)
    prp := (List.range 8).filter fun k => bit (s.lane (2 * k)).cfg.flags 0 && bit (s.lane (2 * k + 1)).cfg.flags 0
    doms := s.domsOn, capMw := s.power.capMw, engines := s.health.engines, scalers := s.health.scalers.length
    detached := sumL (s.streams.detached.map Detached.bytes), poolLimit := s.dram.poolLimit }

/-- A proposed window differs from the baseline's only as R298 allows. -/
def Plan.fastWindow (p : Plan) (b : Settings) (d : WindowDesc) : Bool :=
  let a := b.window d.window
  let sameSrc := a.source == d.source || (a.head != 255 && p.available d.source && p.available a.source && p.srcBytes2 a.source == p.srcBytes2 d.source &&
    (boundOf b).any fun o => o.source == d.source && (match p.rec? o.head, p.rec? d.head with | some x, some y => x.sg == y.sg | _, _ => false))
  sameSrc && { a with x := d.x, y := d.y, z := d.z, planeAlpha := d.planeAlpha, void := d.void, flags := setBit a.flags 1 (bit d.flags 1), source := d.source } == d

/-- The fast path applies (R298): `p` is the proposed plan, `b` the baseline settings, `same` says that contexts, channels and sources do not change. -/
def Plan.fastPath (p : Plan) (b : Settings) (same : Bool) : Bool :=
  same && p.set.bgs == b.bgs && p.set.tones == b.tones && p.set.coefs == b.coefs &&
  ((p.set.listed ++ b.listed).all fun d => p.fastWindow b (p.set.window d.window)) &&
  (List.range 16).all fun h =>
    let n (x : Settings) : List Nat := sortBy id ((x.blend h).map BlendStep.window)
    n p.set == n b

/-- Orotre's verdict on a plan. -/
def Plan.verdict (p : Plan) (fast : Bool) : Verdict := { path := if fast then 0 else 1, result := p.check }

/-- EVAL_US of a verdict (R281, log 20). -/
def State.evalUs (s : State) (v : Verdict) : Nat := s.fresh.toNat % (if v.path = 0 then 2001 else 150001)

end Sys2Proof.Machine
end

