-- ==== Sys2Proof/Machine/Records.lean ====
section
/-! DEFINITION. The records of the manual as bytes: reading, writing, and the checks of their fields (R4, R5, Table 11-8 checks 8 and 11). -/

namespace Sys2Proof.Machine

/-! Fields. -/

/-- What a field must hold. `zero`, `upto`, `oneOf` and `mask` belong to check 8: reserved fields, enumerated values and reserved bits; the others are ranges of check 11. -/
inductive FC where
  | zero
  | upto (n : Nat)
  | oneOf (l : List Nat)
  | mask (m : Nat)
  | range (lo hi : Nat)
  | srange (lo hi : Int)
  | mult (k lo hi : Nat)
  deriving DecidableEq, Repr

/-- A field: its offset, its size, its condition. -/
structure F where
  off : Nat
  size : Nat
  c : FC
  deriving DecidableEq, Repr

/-- The field breaks a condition of check 8. -/
def F.bad8 (f : F) (bs : Bytes) : Bool :=
  let v := rd bs f.off f.size
  match f.c with
  | .zero => v != 0
  | .upto n => v > n
  | .oneOf l => !l.contains v
  | .mask m => v &&& m != v
  | _ => false

/-- The field is outside its range. -/
def F.bad11 (f : F) (bs : Bytes) : Bool :=
  let v := rd bs f.off f.size
  match f.c with
  | .range lo hi => v < lo || v > hi
  | .srange lo hi => rdS bs f.off f.size < lo || rdS bs f.off f.size > hi
  | .mult k lo hi => v % k != 0 || v < lo || v > hi
  | _ => false

/-- Offset of the first field that fails a check. -/
def firstBad (p : F → Bytes → Bool) (fs : List F) (bs : Bytes) : Option Nat := (fs.find? fun f => p f bs).map F.off

/-- The smaller of two offsets. -/
def lesser : Option Nat → Option Nat → Option Nat
  | some a, some b => some (min a b)
  | some a, none => some a
  | none, b => b

/-- The first offset of a list of conditions that hold. -/
def firstOff (l : List (Bool × Nat)) : Option Nat := (l.find? fun e => e.1).map (·.2)

/-- Fields of `n` records of `size` bytes from offset `off`. -/
def repeatF (fs : List F) (off size n : Nat) : List F := (List.range n).flatMap fun i => fs.map fun f => { f with off := off + i * size + f.off }

/-- Fields shifted by `k` bytes. -/
def shiftF (fs : List F) (k : Nat) : List F := fs.map fun f => { f with off := f.off + k }

def rgbAt (bs : Bytes) (o : Nat) : Rgb := { r := rd bs o 2, g := rd bs (o + 2) 2, b := rd bs (o + 4) 2 }
def rgbBytes (c : Rgb) : Bytes := le 2 c.r ++ le 2 c.g ++ le 2 c.b
def rgbF (o m : Nat) : List F := [⟨o, 2, .mask m⟩, ⟨o + 2, 2, .mask m⟩, ⟨o + 4, 2, .mask m⟩]

/-! Stream context record, Table 4-1. -/

def streamF (b : Bytes) : List F :=
  let kind := rd b 1 1
  [⟨1, 1, .upto 2⟩, ⟨2, 1, .upto (if kind = 0 then 3 else if kind = 1 then 1 else 0)⟩, ⟨4, 1, .oneOf [8, 10]⟩, ⟨5, 1, .upto (if kind = 2 then 1 else 0)⟩, ⟨6, 1, .upto (if kind = 1 then 0 else 1)⟩, ⟨7, 1, .upto 3⟩, ⟨8, 2, .mult 2 16 4096⟩, ⟨10, 2, .mult 2 16 2304⟩, ⟨12, 2, .range 1 65535⟩, ⟨14, 2, .range 1 1001⟩,
   ⟨16, 4, .range 100 20000000⟩, ⟨20, 1, .mask 0xF⟩, ⟨22, 1, .range 96 127⟩, ⟨23, 1, .zero⟩, ⟨24, 4, .range 90000 90000⟩, ⟨36, 4, .range 0 1000⟩,
   ⟨40, 4, .range 0 4000000000⟩, ⟨44, 4, .range 500 200000⟩, ⟨80, 2, .range 1 65534⟩, ⟨82, 2, .range 1 65535⟩, ⟨84, 2, .range 0 4094⟩, ⟨86, 2, .zero⟩, ⟨92, 4, .range 0 3000000⟩]

def streamOf (b : Bytes) : StreamRec :=
  { context := rd b 0 1, kind := rd b 1 1, profile := rd b 2 1, level := rd b 3 1, bitDepth := rd b 4 1, sampling := rd b 5 1, packetization := rd b 6 1, clock := rd b 7 1
    maxWidth := rd b 8 2, maxHeight := rd b 10 2, rateNum := rd b 12 2, rateDen := rd b 14 2, maxBitrate := rd b 16 4, flags := rd b 20 1, extId := rd b 21 1, payloadType := rd b 22 1
    mediaClockRate := rd b 24 4, mediaClockOffset := rd b 28 4, senderAcc := rd b 32 4, mclkTol := rd b 36 4, upstreamAllow := rd b 40 4, jitterDepth := rd b 44 4
    group := sub b 48 16, source := sub b 64 16, udpPort := rd b 80 2, portMask := rd b 82 2, vlan := rd b 84 2, ssrc := rd b 88 4, maxPktRate := rd b 92 4 }

def streamBytes (d : StreamRec) : Bytes :=
  le 1 d.context ++ le 1 d.kind ++ le 1 d.profile ++ le 1 d.level ++ le 1 d.bitDepth ++ le 1 d.sampling ++ le 1 d.packetization ++ le 1 d.clock ++
  le 2 d.maxWidth ++ le 2 d.maxHeight ++ le 2 d.rateNum ++ le 2 d.rateDen ++ le 4 d.maxBitrate ++ le 1 d.flags ++ le 1 d.extId ++ le 1 d.payloadType ++ [0] ++
  le 4 d.mediaClockRate ++ le 4 d.mediaClockOffset ++ le 4 d.senderAcc ++ le 4 d.mclkTol ++ le 4 d.upstreamAllow ++ le 4 d.jitterDepth ++
  fit 16 d.group ++ fit 16 d.source ++ le 2 d.udpPort ++ le 2 d.portMask ++ le 2 d.vlan ++ [0, 0] ++ le 4 d.ssrc ++ le 4 d.maxPktRate

/-- Conditions between fields of Table 4-1 and R95. A unicast GROUP is accepted whether or not a port of PORT_MASK has that address (DESIGN CHOICE, log 21). -/
def streamX (b : Bytes) : Option Nat :=
  let d := streamOf b
  let v4 := !bit d.flags 2
  firstOff [(if d.kind = 0 then d.level < 10 || d.level > 51 else if d.kind = 1 then d.level < 30 || d.level > 153 else d.level != 0, 3),
    (d.rateNum > 120 * d.rateDen, 12),
    (if d.kind = 2 then d.extId > 14 else d.extId != 0, 21), (v4 && (d.group.drop 4).any (· != 0), 48), ((v4 || !bit d.flags 3) && (if bit d.flags 3 then d.source.drop 4 else d.source).any (· != 0), 64)]

/-! Internal source record, Table 4-7. -/

/-- KIND 0 names no picture, so its BIT_DEPTH is not read (log 21). -/
def sourceF (b : Bytes) : List F := [⟨0, 1, .range 0 15⟩, ⟨1, 1, .upto 3⟩, ⟨2, 1, .upto 3⟩, ⟨3, 1, if rd b 1 1 = 0 then .upto 255 else .oneOf [8, 10]⟩, ⟨12, 1, .range 0 15⟩, ⟨13, 1, .zero⟩, ⟨22, 2, .zero⟩, ⟨28, 4, .zero⟩]

def sourceOf (b : Bytes) : SourceRec :=
  { source := rd b 0 1, kind := rd b 1 1, pattern := rd b 2 1, bitDepth := rd b 3 1, width := rd b 4 2, height := rd b 6 2, rateNum := rd b 8 2, rateDen := rd b 10 2
    head := rd b 12 1, verifyPeriod := rd b 14 2, colour := rgbAt b 16, stillCrc := rd b 24 4 }

def sourceBytes (d : SourceRec) : Bytes :=
  le 1 d.source ++ le 1 d.kind ++ le 1 d.pattern ++ le 1 d.bitDepth ++ le 2 d.width ++ le 2 d.height ++ le 2 d.rateNum ++ le 2 d.rateDen ++ le 1 d.head ++ [0] ++
  le 2 d.verifyPeriod ++ rgbBytes d.colour ++ [0, 0] ++ le 4 d.stillCrc ++ zeros 4

def sourceX (b : Bytes) : Option Nat :=
  let d := sourceOf b
  let sized := d.kind = 1 || d.kind = 3
  let bad (v hi : Nat) : Bool := if sized then v < 16 || v > hi || v % 2 != 0 else v != 0
  let deep (v : Nat) : Bool := v ≥ 2 ^ d.bitDepth
  if d.kind = 0 then none
  else firstOff [(bad d.width 3840, 4), (bad d.height 2160, 6),
    (if d.kind = 1 then d.rateNum < d.rateDen || d.rateNum > 120 * d.rateDen else d.rateNum != 0, 8), (if d.kind = 1 then d.rateDen < 1 || d.rateDen > 1001 else d.rateDen != 0, 10),
    (d.kind != 2 && d.head != 0, 12), (if d.kind = 3 then d.verifyPeriod < 100 || d.verifyPeriod > 60000 else d.verifyPeriod != 0, 14),
    (deep d.colour.r || deep d.colour.g || deep d.colour.b, 16), (d.kind != 3 && d.stillCrc != 0, 24)]

/-! Window descriptor, Table 6-1. -/

def windowF : List F :=
  [⟨0, 2, .range 0 1023⟩, ⟨3, 1, .upto 2⟩, ⟨8, 2, .range 8 16384⟩, ⟨10, 2, .range 8 8640⟩, ⟨12, 2, .mask 0x1FF⟩, ⟨12, 2, .range 0 271⟩, ⟨14, 2, .zero⟩, ⟨20, 2, .range 8 4096⟩, ⟨22, 2, .range 8 2304⟩,
   ⟨25, 1, .mask 3⟩, ⟨26, 2, .mask 0xFFF⟩, ⟨28, 1, .range 0 63⟩, ⟨29, 1, .range 0 63⟩, ⟨30, 1, .range 0 31⟩, ⟨31, 1, .zero⟩] ++ rgbF 32 0xFFF ++ [⟨38, 2, .zero⟩] ++ rgbF 40 0x3FF ++ [⟨46, 2, .zero⟩, ⟨60, 4, .zero⟩]

def windowOf (b : Bytes) : WindowDesc :=
  { window := rd b 0 2, head := rd b 2 1, kind := rd b 3 1, x := rdS b 4 2, y := rdS b 6 2, width := rd b 8 2, height := rd b 10 2, source := rd b 12 2
    cropX := rd b 16 2, cropY := rd b 18 2, cropW := rd b 20 2, cropH := rd b 22 2, z := rd b 24 1, flags := rd b 25 1, planeAlpha := rd b 26 2, toneProfile := rd b 28 1
    policy := rd b 29 1, scaleSet := rd b 30 1, void := rgbAt b 32, key := rgbAt b 40, hbX := rd b 48 2, hbY := rd b 50 2, hbW := rd b 52 2, hbH := rd b 54 2, deadline := rd b 56 4 }

def windowBytes (d : WindowDesc) : Bytes :=
  le 2 d.window ++ le 1 d.head ++ le 1 d.kind ++ leS 2 d.x ++ leS 2 d.y ++ le 2 d.width ++ le 2 d.height ++ le 2 d.source ++ [0, 0] ++
  le 2 d.cropX ++ le 2 d.cropY ++ le 2 d.cropW ++ le 2 d.cropH ++ le 1 d.z ++ le 1 d.flags ++ le 2 d.planeAlpha ++ le 1 d.toneProfile ++ le 1 d.policy ++ le 1 d.scaleSet ++ [0] ++
  rgbBytes d.void ++ [0, 0] ++ rgbBytes d.key ++ [0, 0] ++ le 2 d.hbX ++ le 2 d.hbY ++ le 2 d.hbW ++ le 2 d.hbH ++ le 4 d.deadline ++ zeros 4

def windowX (b : Bytes) : Option Nat :=
  let d := windowOf b
  let none_ := d.hbX + d.hbY + d.hbW + d.hbH == 0
  firstOff [(d.head > 15 && d.head != 255, 2),
    (!none_ && (d.hbX % 2 + d.hbY % 2 + d.hbW % 2 + d.hbH % 2 != 0 || d.hbW < 16 || d.hbW > 512 || d.hbH < 16 || d.hbH > 512), 48)]

/-! Background, coefficient set, tone-map profile, blend program: Tables 10-2, 6-4, 6-5, 6-7. -/

def backgroundF : List F := [⟨0, 1, .range 0 15⟩, ⟨1, 1, .zero⟩] ++ rgbF 2 0xFFF

def coefF : List F := [⟨0, 1, .range 0 31⟩, ⟨1, 3, .zero⟩]

def tapAt (b : Bytes) (o : Nat) : Int := rdS b o 2

def coefOf (b : Bytes) : CoefSet :=
  { tapsH := (List.range 512).map fun i => tapAt b (4 + 2 * i), tapsV := (List.range 384).map fun i => tapAt b (1028 + 2 * i) }

def coefBytes (c : CoefSet) (set : Nat) : Bytes := le 1 set ++ zeros 3 ++ c.tapsH.flatMap (leS 2) ++ c.tapsV.flatMap (leS 2)

/-- Taps are sign-extended 12-bit values and each phase sums to 1 024 (R175). -/
def coefX (b : Bytes) : Option Nat :=
  let far (v : Int) : Bool := v < -2048 || v > 2047
  let phase (o n k : Nat) : Bool := ((List.range n).map fun j => tapAt b (o + 2 * n * k + 2 * j)).foldl (· + ·) 0 != 1024
  firstOff (((List.range 896).map fun i => (far (tapAt b (4 + 2 * i)), 4 + 2 * i)) ++ ((List.range 64).map fun k => (phase 4 8 k, 4 + 16 * k)) ++ (List.range 64).map fun k => (phase 1028 6 k, 1028 + 12 * k))

def toneF : List F :=
  [⟨0, 1, .range 0 63⟩, ⟨1, 1, .mask 3⟩, ⟨2, 2, .range 0 4095⟩, ⟨4, 2, .range 0 4095⟩, ⟨6, 2, .zero⟩] ++
  repeatF [⟨0, 4, .srange (-262144) 262143⟩] 8 4 18 ++ repeatF [⟨0, 4, .mask 0xFFFFFF⟩] 80 4 2048 ++ repeatF [⟨0, 2, .mask 0xFFF⟩] 8272 2 1024

def toneOf (b : Bytes) : ToneProfile :=
  { flags := rd b 1 1, yOffset := rd b 2 2, cOffset := rd b 4 2, yuvM := (List.range 9).map fun i => rdS b (8 + 4 * i) 4, gamutM := (List.range 9).map fun i => rdS b (44 + 4 * i) 4
    inLut := (List.range 1024).map fun i => rd b (80 + 4 * i) 4, tone := (List.range 1024).map fun i => rd b (4176 + 4 * i) 4, outLut := (List.range 1024).map fun i => rd b (8272 + 2 * i) 2 }

def toneBytes (p : ToneProfile) (profile : Nat) : Bytes :=
  le 1 profile ++ le 1 p.flags ++ le 2 p.yOffset ++ le 2 p.cOffset ++ [0, 0] ++ p.yuvM.flatMap (leS 4) ++ p.gamutM.flatMap (leS 4) ++
  p.inLut.flatMap (le 4) ++ p.tone.flatMap (le 4) ++ p.outLut.flatMap (le 2)

def blendF : List F := [⟨0, 1, .range 0 15⟩, ⟨1, 1, .range 0 16⟩, ⟨2, 2, .zero⟩]

/-- Fields of the steps in use; steps beyond STEPS are not read (DEDUCED, log 21). -/
def blendStepsF (b : Bytes) : List F := repeatF [⟨0, 2, .range 0 1023⟩, ⟨2, 1, .upto 4⟩, ⟨3, 1, .zero⟩] 4 4 (min 16 (rd b 1 1))

def blendOf (b : Bytes) : List BlendStep := (List.range (rd b 1 1)).map fun s => { window := rd b (4 + 4 * s) 2, op := rd b (6 + 4 * s) 1 }

def blendBytes (head : Nat) (l : List BlendStep) : Bytes := fit 68 (le 1 head ++ le 1 l.length ++ [0, 0] ++ l.flatMap fun s => le 2 s.window ++ le 1 s.op ++ [0])

/-! Head timing record, Table 7-2. -/

/-- GANG holds the listed sizes and arrangements, the square of four heads only; DIVIDE is 0, 1 or 2. -/
def timingF : List F :=
  [⟨0, 1, .range 0 15⟩, ⟨1, 1, .upto 3⟩, ⟨2, 1, .range 0 3⟩, ⟨3, 1, .oneOf [0, 1, 2, 4, 5, 6, 10]⟩, ⟨4, 1, .oneOf [1, 2, 4]⟩, ⟨5, 1, .oneOf [0x06, 0x0A, 0x14, 0x1E]⟩, ⟨6, 1, .oneOf [8, 10]⟩, ⟨7, 1, .mask 0x1F⟩,
   ⟨8, 2, .mult 8 640 3840⟩, ⟨10, 2, .range 8 1024⟩, ⟨12, 2, .range 8 512⟩, ⟨14, 2, .range 8 1024⟩, ⟨16, 2, .range 480 2160⟩, ⟨18, 2, .range 1 1023⟩, ⟨20, 2, .range 1 63⟩, ⟨22, 2, .range 1 1023⟩,
   ⟨24, 4, .range 1 120120⟩, ⟨28, 2, .range 1 1001⟩, ⟨30, 1, .upto 11⟩, ⟨31, 1, .upto 2⟩, ⟨36, 1, .mask 0xF⟩, ⟨37, 3, .zero⟩]

def timingOf (b : Bytes) : TimingRec :=
  { head := rd b 0 1, mode := rd b 1 1, sg := rd b 2 1, gang := rd b 3 1, lanes := rd b 4 1, linkRate := rd b 5 1, bpc := rd b 6 1, flags := rd b 7 1
    hActive := rd b 8 2, hFront := rd b 10 2, hSync := rd b 12 2, hBack := rd b 14 2, vActive := rd b 16 2, vFront := rd b 18 2, vSync := rd b 20 2, vBack := rd b 22 2
    rateNum := rd b 24 4, rateDen := rd b 28 2, syncCfg := rd b 30 1, colorimetry := rd b 31 1, phaseOffset := rdS b 32 4, lanePolarity := rd b 36 1 }

def timingBytes (r : TimingRec) : Bytes :=
  le 1 r.head ++ le 1 r.mode ++ le 1 r.sg ++ le 1 r.gang ++ le 1 r.lanes ++ le 1 r.linkRate ++ le 1 r.bpc ++ le 1 r.flags ++
  le 2 r.hActive ++ le 2 r.hFront ++ le 2 r.hSync ++ le 2 r.hBack ++ le 2 r.vActive ++ le 2 r.vFront ++ le 2 r.vSync ++ le 2 r.vBack ++
  le 4 r.rateNum ++ le 2 r.rateDen ++ le 1 r.syncCfg ++ le 1 r.colorimetry ++ leS 4 r.phaseOffset ++ le 1 r.lanePolarity ++ zeros 3

/-- Conditions within a timing record (R198): SYNC_CFG and PHASE_OFFSET by mode. -/
def timingX (b : Bytes) : Option Nat :=
  let r := timingOf b
  firstOff [(r.mode != 1 && r.syncCfg != 0, 30),
    (((r.mode = 0 || r.mode = 3) && r.phaseOffset != 0) || r.phaseOffset.natAbs * r.rateNum ≥ 1000000000 * r.rateDen, 32)]

/-! Freshness policy and palette, Tables 2-4 and 8-1; safety change entry, Table 8-5. -/

def policyF : List F := [⟨0, 4, .range 1000 600000000⟩, ⟨4, 4, .range 10 600000⟩, ⟨8, 4, .range 0 600000⟩, ⟨12, 1, .range 1 100⟩, ⟨13, 1, .mask 3⟩, ⟨14, 1, .mask 7⟩, ⟨15, 1, .range 1 255⟩]

def policyOf (b : Bytes) : Policy :=
  { ageLimit := rd b 0 4, freezeLimit := rd b 4 4, hbPeriod := rd b 8 4, concealPct := rd b 12 1, control := rd b 13 1, palette := rd b 14 1, recoverFrames := rd b 15 1 }

def policyBytes (p : Policy) : Bytes := le 4 p.ageLimit ++ le 4 p.freezeLimit ++ le 4 p.hbPeriod ++ le 1 p.concealPct ++ le 1 p.control ++ le 1 p.palette ++ le 1 p.recoverFrames

def paletteF : List F := [⟨0, 1, .range 0 7⟩, ⟨1, 1, .zero⟩] ++ rgbF 2 0xFFF ++ rgbF 8 0xFFF ++ rgbF 14 0xFFF ++ rgbF 20 0xFFF ++ [⟨26, 6, .zero⟩]

def paletteOf (b : Bytes) : Palette := { stripeA := rgbAt b 2, stripeB := rgbAt b 8, badgeFg := rgbAt b 14, badgeBg := rgbAt b 20 }

def paletteBytes (p : Palette) (i : Nat) : Bytes := le 1 i ++ [0] ++ rgbBytes p.stripeA ++ rgbBytes p.stripeB ++ rgbBytes p.badgeFg ++ rgbBytes p.badgeBg ++ zeros 6

/-- The largest component difference of two colours. -/
def rgbGap (a b : Rgb) : Nat := max (max ((a.r : Int) - b.r).natAbs ((a.g : Int) - b.g).natAbs) ((a.b : Int) - b.b).natAbs

/-- Reserved fields and the enumerated KIND of a safety change entry. -/
def entryF (b : Bytes) : List F :=
  [⟨0, 1, .upto 2⟩, ⟨2, 2, .zero⟩] ++
  (if rd b 0 1 = 0 then shiftF policyF 4 ++ [⟨20, 16, .zero⟩] else if rd b 0 1 = 1 then shiftF paletteF 4 else [⟨4, 1, .range 0 7⟩, ⟨5, 31, .zero⟩])

def entryX (b : Bytes) : Option Nat :=
  let k := rd b 0 1
  let i := rd b 1 1
  let r := b.drop 4
  let p := paletteOf r
  firstOff [(i > (if k = 0 then 63 else if k = 1 then 7 else 0), 1), (k = 0 && rd r 8 4 != 0 && rd r 8 4 < 100, 12), (k = 1 && rd r 0 1 != i, 4),
    (k = 1 && rgbGap p.stripeA p.stripeB < 1024, 6), (k = 1 && rgbGap p.badgeFg p.badgeBg < 1024, 18)]

def entryOf (b : Bytes) : SafetyEntry := { kind := rd b 0 1, index := rd b 1 1, record := sub b 4 32 }

/-! Encode channel record, Table 9-1. -/

def encodeF : List F :=
  [⟨0, 1, .range 0 31⟩, ⟨1, 1, .upto 2⟩, ⟨2, 1, .upto 1⟩, ⟨3, 1, .range 0 15⟩, ⟨4, 2, .range 0 1023⟩, ⟨6, 1, .oneOf [1, 2, 4]⟩, ⟨7, 1, .range 1 8⟩, ⟨12, 2, .mult 8 128 3840⟩, ⟨14, 2, .mult 8 128 2160⟩,
   ⟨16, 1, .range 0 100⟩, ⟨18, 1, .range 0 24⟩, ⟨19, 1, .mask 7⟩, ⟨20, 4, .range 0 64000000⟩, ⟨24, 1, .upto 1⟩, ⟨26, 1, .range 96 127⟩, ⟨27, 1, .zero⟩, ⟨48, 2, .range 1 65534⟩, ⟨52, 2, .range 0 4094⟩,
   ⟨54, 2, .range 576 8900⟩, ⟨56, 1, .range 0 63⟩, ⟨57, 1, .range 1 255⟩, ⟨58, 6, .zero⟩]

def encodeOf (b : Bytes) : EncodeRec :=
  { channel := rd b 0 1, format := rd b 1 1, input := rd b 2 1, head := rd b 3 1, window := rd b 4 2, down := rd b 6 1, rateDiv := rd b 7 1, x := rd b 8 2, y := rd b 10 2, width := rd b 12 2, height := rd b 14 2
    quality := rd b 16 1, refreshPeriod := rd b 17 1, maxQpRaise := rd b 18 1, flags := rd b 19 1, cap := rd b 20 4, timeBase := rd b 24 1, extId := rd b 25 1, payloadType := rd b 26 1, ssrc := rd b 28 4
    dest := sub b 32 16, udpPort := rd b 48 2, portMask := rd b 50 2, vlan := rd b 52 2, mtu := rd b 54 2, dscp := rd b 56 1, hopLimit := rd b 57 1 }

def encodeBytes (d : EncodeRec) : Bytes :=
  le 1 d.channel ++ le 1 d.format ++ le 1 d.input ++ le 1 d.head ++ le 2 d.window ++ le 1 d.down ++ le 1 d.rateDiv ++ le 2 d.x ++ le 2 d.y ++ le 2 d.width ++ le 2 d.height ++
  le 1 d.quality ++ le 1 d.refreshPeriod ++ le 1 d.maxQpRaise ++ le 1 d.flags ++ le 4 d.cap ++ le 1 d.timeBase ++ le 1 d.extId ++ le 1 d.payloadType ++ [0] ++ le 4 d.ssrc ++
  fit 16 d.dest ++ le 2 d.udpPort ++ le 2 d.portMask ++ le 2 d.vlan ++ le 2 d.mtu ++ le 1 d.dscp ++ le 1 d.hopLimit ++ zeros 6

/-- Conditions of Table 9-1, R252 and R270 beyond one field's range: PORT_MASK selects one port or two (which two is admission's, Table 10-3). -/
def encodeBad (d : EncodeRec) : Option Nat :=
  let host := bit d.flags 1
  let size := rd d.dest 8 4
  let edge (v : Nat) : Bool := if d.input = 1 then v != 0 else v % (2 * d.down) != 0
  let minCap := 16384 + 40 * (cdiv d.width 64 * cdiv d.height 64)
  firstOff [(d.input = 1 && d.head != 0, 3), (d.input = 0 && d.window != 0, 4), (edge d.x, 8), (edge d.y, 10), (d.format = 2 && d.quality != 0, 16),
    (if d.format = 2 then d.refreshPeriod != 0 else d.refreshPeriod < 8 || d.refreshPeriod > 128, 17), (d.format = 2 && d.maxQpRaise != 0, 18),
    (if d.format = 2 then d.cap != 0 else d.cap < minCap, 20), (if d.format = 2 then d.extId < 1 || d.extId > 14 else d.extId != 0, 25),
    (if host then rd d.dest 0 8 % 4096 != 0 || size < 65536 || size > 67108864 || 2 ^ Nat.log2 size != size || rd d.dest 12 4 != 0 else !bit d.flags 2 && (d.dest.drop 4).any (· != 0), 32),
    (let n := (portsOf d.portMask).length; n != 1 && n != 2, 50)]

def encodeX (b : Bytes) : Option Nat := encodeBad (encodeOf b)

/-! Time base configuration and selection, Tables 3-3 and 3-5. -/

/-- SOURCE, PROFILE and TRANSPORT hold what Tables 3-2 and 3-3 list for the base; PROFILE and TRANSPORT matter to PTP alone. -/
def baseF (b : Bytes) : List F :=
  let base := rd b 0 1
  let ptp := rd b 1 1 = 1
  let profile := rd b 2 1
  [⟨0, 1, .range 0 3⟩, ⟨1, 1, .oneOf (if base ≤ 1 then [0, 1] else if base = 2 then [0, 2, 3] else if base = 3 then [4] else [0, 1, 2, 3, 4])⟩, ⟨2, 1, .upto (if ptp then 4 else 255)⟩,
   ⟨4, 1, .oneOf (if !ptp || profile ≤ 1 then [0, 1, 2] else if profile ≤ 3 then [0] else [1])⟩, ⟨5, 1, .srange (-7) 5⟩, ⟨8, 4, .range 50 1000000⟩, ⟨12, 4, .range 250 60000⟩, ⟨16, 4, .range 100 100000⟩, ⟨20, 4, .range 0 1000000⟩, ⟨24, 4, .range 1000 1000000000⟩]

def baseOf (b : Bytes) : BaseRec :=
  { base := rd b 0 1, source := rd b 1 1, profile := rd b 2 1, domainNumber := rd b 3 1, transport := rd b 4 1, logReqInterval := rdS b 5 1, portMask := rd b 6 2, lockThreshold := rd b 8 4, lossTimeout := rd b 12 4
    holdRate := rd b 16 4, asymAllow := rd b 20 4, stepThreshold := rd b 24 4, pulseNum := rd b 28 2, pulseDen := rd b 30 2 }

def baseBytes (d : BaseRec) : Bytes :=
  le 1 d.base ++ le 1 d.source ++ le 1 d.profile ++ le 1 d.domainNumber ++ le 1 d.transport ++ leS 1 d.logReqInterval ++ le 2 d.portMask ++ le 4 d.lockThreshold ++ le 4 d.lossTimeout ++
  le 4 d.holdRate ++ le 4 d.asymAllow ++ le 4 d.stepThreshold ++ le 2 d.pulseNum ++ le 2 d.pulseDen

def baseX (b : Bytes) : Option Nat :=
  let d := baseOf b
  let pulse := d.base = 2 && d.source ≥ 2
  firstOff [(d.source = 1 && d.portMask = 0, 6), (pulse == (d.pulseNum = 0), 28), (pulse == (d.pulseDen = 0), 30)]

def selectF : List F := [⟨0, 1, .upto 1⟩, ⟨5, 3, .zero⟩, ⟨8, 4, .range 0 3600⟩, ⟨12, 4, .range 1000 1000000000⟩]

def selectOf (b : Bytes) : SelectRec := { mode := rd b 0 1, prefs := (List.range 4).map fun i => rd b (1 + i) 1, revertHold := rd b 8 4, slewLimit := rd b 12 4 }

def selectBytes (d : SelectRec) : Bytes := le 1 d.mode ++ d.prefs.flatMap (le 1) ++ zeros 3 ++ le 4 d.revertHold ++ le 4 d.slewLimit

def selectX (b : Bytes) : Option Nat :=
  let d := selectOf b
  let p (i : Nat) : Nat := d.prefs.getD i 255
  firstOff ((List.range 4).map fun i => ((p i > 3 && p i != 255) || (p i != 255 && (List.range i).any fun j => p j = p i) || (i = 0 && d.mode = 1 && p 0 = 255), 1 + i))

/-! Ports, lanes, keys, actions, doors: Tables 12-15, 12-16, 12-18, 12-19. -/

def addressF : List F := [⟨0, 1, .range 0 15⟩, ⟨1, 1, .mask 3⟩, ⟨2, 2, .range 0 4094⟩, ⟨8, 1, .range 0 32⟩, ⟨9, 1, .range 0 128⟩, ⟨10, 2, .zero⟩]

def addressOf (b : Bytes) : PortAddr :=
  { port := rd b 0 1, flags := rd b 1 1, vlan := rd b 2 2, ipv4 := sub b 4 4, prefix4 := rd b 8 1, prefix6 := rd b 9 1, gateway4 := sub b 12 4, ipv6 := sub b 16 16, gateway6 := sub b 32 16 }

def addressBytes (a : PortAddr) : Bytes :=
  le 1 a.port ++ le 1 a.flags ++ le 2 a.vlan ++ fit 4 a.ipv4 ++ le 1 a.prefix4 ++ le 1 a.prefix6 ++ [0, 0] ++ fit 4 a.gateway4 ++ fit 16 a.ipv6 ++ fit 16 a.gateway6

def laneF : List F := [⟨0, 1, .range 0 15⟩, ⟨1, 1, .upto 2⟩, ⟨2, 1, .upto 1⟩, ⟨3, 1, .mask 7⟩, ⟨4, 4, .srange (-1000000) 1000000⟩, ⟨8, 4, .srange (-1000000) 1000000⟩, ⟨12, 4, .zero⟩]

def laneOf (b : Bytes) : LaneCfg := { lane := rd b 0 1, rate := rd b 1 1, fec := rd b 2 1, flags := rd b 3 1, ingressNs := rdS b 4 4, egressNs := rdS b 8 4 }

def laneX (b : Bytes) : Option Nat := firstOff [(rd b 2 1 = 1 && rd b 1 1 != 2, 2)]

def keyF : List F := [⟨0, 1, .range 0 63⟩, ⟨2, 2, .range 50 20000⟩, ⟨4, 2, .range 0 3600⟩, ⟨6, 2, .zero⟩]

def keyOf (b : Bytes) : KeyCfg := { electrode := rd b 0 1, group := rd b 1 1, threshold := rd b 2 2, maxOn := if rd b 4 2 = 0 then 30 else rd b 4 2 }

def keyX (b : Bytes) : Option Nat := firstOff [(rd b 1 1 > 15 && rd b 1 1 != 255, 1)]

def actionF : List F := [⟨0, 1, .range 0 63⟩, ⟨1, 1, .upto 2⟩, ⟨4, 4, .zero⟩]

def actionOf (b : Bytes) : ActionCfg := { electrode := rd b 0 1, action := rd b 1 1, arg := rd b 2 2 }

def actionX (b : Bytes) : Option Nat := firstOff [(rd b 2 2 > (if rd b 1 1 = 1 then 63 else if rd b 1 1 = 2 then 1023 else 65535), 2)]

def regionF : List F := [⟨0, 8, .mult 4096 0 0xFFFFFFFFFFFFFFFF⟩, ⟨8, 4, .range 1 0xFFFFFFFF⟩, ⟨12, 2, .mask 0xFFF⟩, ⟨14, 2, .zero⟩]

def regionOf (b : Bytes) : Region := { base := rd b 0 8, granules := rd b 8 4, attr := rd b 12 2 }

def regionBytes (r : Region) : Bytes := le 8 r.base ++ le 4 r.granules ++ le 2 r.attr ++ [0, 0]

end Sys2Proof.Machine
end

