-- ==== Sys2Proof/Machine/Izent.lean ====
section
/-! DEFINITION. Izent messages: codes, roles, payload layouts, the checks of Table 11-8, responses, holding, sessions' ends (R304–R338). -/

namespace Sys2Proof.Machine

/-! Commands. -/

/-- Command code (Tables 12-3 to 12-27). -/
def code : CmdKind → Nat
  | .systemIdentify => 0x0101 | .systemStatus => 0x0102 | .systemRestart => 0x0103 | .abort => 0x01FF
  | .layoutPropose => 0x0201 | .layoutCommit => 0x0202 | .layoutStore => 0x0203 | .layoutStoredCommit => 0x0204 | .layoutRead => 0x0205
  | .streamOpen => 0x0301 | .streamClose => 0x0302 | .streamStatus => 0x0303 | .decodeStatus => 0x0304 | .sourceSet => 0x0305 | .sourceStatus => 0x0306
  | .windowSet => 0x0401 | .windowGet => 0x0402 | .windowStatus => 0x0403 | .backgroundSet => 0x0404 | .blendSet => 0x0405 | .toneProfileSet => 0x0406
  | .toneProfileGet => 0x0407 | .coefSet => 0x0408 | .coefGet => 0x0409 | .tileRecordsGet => 0x040A | .glyphGet => 0x040B | .safetyArm => 0x040C
  | .safetyApply => 0x040D | .safetyGet => 0x040E | .lanternClear => 0x040F | .lanternStatus => 0x0410 | .alertAck => 0x0411
  | .headTimingSet => 0x0501 | .headTimingGet => 0x0502 | .headStatus => 0x0503 | .headEdidGet => 0x0504
  | .encodeOpen => 0x0601 | .encodeSet => 0x0602 | .encodeClose => 0x0603 | .encodeStatus => 0x0604
  | .timeBaseSet => 0x0701 | .timeSelectSet => 0x0702 | .timeAccept => 0x0703 | .timeConfigGet => 0x0704 | .timeStatus => 0x0705
  | .portAddressSet => 0x0801 | .portAddressGet => 0x0802 | .laneSet => 0x0803 | .laneRead => 0x0804 | .laneModuleRead => 0x0805 | .mgmtSet => 0x0806
  | .touchKeySet => 0x0901 | .touchModeSet => 0x0902 | .localActionSet => 0x0903 | .touchRebaseline => 0x0904 | .touchRead => 0x0905
  | .sessionOpen => 0x0A01 | .sessionClose => 0x0A02 | .sessionList => 0x0A03 | .sessionIdleSet => 0x0A04 | .credentialSet => 0x0A05 | .trustAnchorSet => 0x0A06
  | .deviceCertGet => 0x0A07 | .doorRulesSet => 0x0A08 | .doorRulesGet => 0x0A09 | .debugUnlock => 0x0A0A | .debugLock => 0x0A0B
  | .updatePlan => 0x0B01 | .updateRun => 0x0B02 | .updateConfirm => 0x0B03 | .updateFallback => 0x0B04 | .updateStatus => 0x0B05
  | .recorderRead => 0x0C01 | .recorderClear => 0x0C02 | .recorderSubscribe => 0x0C03 | .recorderFlush => 0x0C04
  | .domainSet => 0x0D01 | .powerCapSet => 0x0D02 | .domainStatus => 0x0D03 | .healthRead => 0x0D04
  | .scanSubmit => 0x0E01 | .scanResult => 0x0E02 | .lanePrbsSet => 0x0E03 | .lanePrbsRead => 0x0E04 | .dramHashSet => 0x0E05

/-- Roles that may issue a command, as a bitmask by role code of Table 11-12 (R343). -/
def roles : CmdKind → Nat
  | .systemRestart => 0x14
  | .layoutPropose | .layoutStore | .streamOpen | .streamClose | .sourceSet | .windowSet | .backgroundSet | .blendSet | .toneProfileSet | .coefSet
  | .headTimingSet | .encodeOpen | .encodeSet | .encodeClose | .timeBaseSet | .timeSelectSet | .timeAccept | .portAddressSet | .laneSet
  | .touchKeySet | .touchModeSet | .localActionSet | .touchRebaseline | .updatePlan | .updateRun | .updateConfirm | .updateFallback | .recorderFlush
  | .domainSet | .powerCapSet | .lanePrbsSet => 0x04
  | .layoutCommit | .layoutStoredCommit => 0x06
  | .safetyArm | .safetyApply | .lanternClear => 0x08
  | .alertAck => 0x0E
  | .mgmtSet | .sessionIdleSet | .credentialSet | .trustAnchorSet | .doorRulesSet => 0x10
  | .sessionList => 0x11
  | .doorRulesGet => 0x30
  | .debugUnlock | .debugLock => 0x20
  | .scanSubmit | .dramHashSet => 0x24
  | _ => 0x3F

/-- Commands that the W16 executes before READY (R328). -/
def early : CmdKind → Bool
  | .systemIdentify | .systemStatus | .systemRestart | .abort | .updatePlan | .updateRun | .updateConfirm | .updateFallback | .updateStatus
  | .recorderRead | .sessionOpen | .domainSet | .powerCapSet | .domainStatus | .healthRead => true
  | _ => false

/-- Commands that take command locks (R330, R331): those that write state, ABORT, the session, recorder and acknowledge commands apart (DEDUCED, log 6). -/
def locks : CmdKind → Bool
  | .systemRestart | .layoutPropose | .layoutCommit | .layoutStore | .layoutStoredCommit | .streamOpen | .streamClose | .sourceSet | .windowSet | .backgroundSet | .blendSet
  | .toneProfileSet | .coefSet | .safetyArm | .safetyApply | .lanternClear | .headTimingSet | .encodeOpen | .encodeSet | .encodeClose | .timeBaseSet | .timeSelectSet
  | .timeAccept | .portAddressSet | .laneSet | .mgmtSet | .touchKeySet | .touchModeSet | .localActionSet | .touchRebaseline | .sessionIdleSet | .credentialSet | .trustAnchorSet
  | .doorRulesSet | .debugUnlock | .debugLock | .updatePlan | .updateRun | .updateConfirm | .updateFallback | .domainSet | .powerCapSet | .lanePrbsSet | .dramHashSet => true
  | _ => false

/-! Payloads. -/

/-- A host-memory descriptor at `o` (Table 11-10); on a network mailbox ADDR is 0 (R315). -/
def descF (net : Bool) (o : Nat) : List F :=
  if net then [⟨o, 8, .zero⟩, ⟨o + 8, 4, .range 1 262144⟩, ⟨o + 12, 4, .zero⟩]
  else [⟨o, 8, .mult 64 0 0xFFFFFFFFFFFFFFFF⟩, ⟨o + 8, 4, .range 1 67108864⟩, ⟨o + 12, 4, .zero⟩]

def selF : List F := [⟨4, 4, .zero⟩]

/-- A table read selector (R354). -/
def readF (hi : Nat) : List F := [⟨0, 1, .range 0 hi⟩, ⟨1, 1, .oneOf [0, 2]⟩, ⟨2, 1, .range 0 3⟩, ⟨3, 1, .zero⟩]

/-- Length of the payload that a command must have, given its first bytes. -/
def paySize (k : CmdKind) (p : Bytes) : Nat :=
  let n1 := rd p 0 1
  match k with
  | .systemIdentify | .systemStatus | .timeConfigGet | .debugLock | .updateStatus | .recorderFlush | .healthRead => 0
  | .systemRestart | .layoutStoredCommit | .streamClose | .glyphGet | .lanternClear | .alertAck | .headEdidGet | .encodeClose | .timeAccept | .laneModuleRead | .mgmtSet | .touchModeSet
  | .sessionClose | .sessionIdleSet | .doorRulesGet | .updateConfirm | .updateFallback | .recorderClear | .recorderSubscribe | .domainSet | .powerCapSet | .scanResult
  | .lanePrbsSet | .lanePrbsRead | .toneProfileGet | .coefGet | .safetyGet => 4
  | .abort | .streamStatus | .decodeStatus | .sourceStatus | .windowGet | .windowStatus | .backgroundSet | .safetyApply | .lanternStatus | .headTimingGet | .headStatus
  | .encodeStatus | .timeStatus | .portAddressGet | .laneRead | .touchRebaseline | .touchRead | .sessionList | .updateRun | .domainStatus => 8
  | .layoutPropose | .layoutCommit | .layoutStore | .layoutRead | .trustAnchorSet => 20
  | .streamOpen => 1124
  | .sourceSet => 48
  | .windowSet => 4 + 64 * rd p 0 2
  | .blendSet => 68
  | .toneProfileSet => 10320
  | .coefSet => 1796
  | .tileRecordsGet => 28
  | .safetyArm => 4 + 36 * n1
  | .headTimingSet => 4 + 40 * n1
  | .encodeOpen => 64
  | .encodeSet => 16
  | .timeBaseSet => 32
  | .timeSelectSet | .deviceCertGet | .scanSubmit => 16
  | .portAddressSet => 48
  | .laneSet => 4 + 16 * n1
  | .touchKeySet | .localActionSet => 4 + 8 * n1
  | .sessionOpen => 112
  | .credentialSet => 108
  | .doorRulesSet => 4 + 16 * rd p 1 1
  | .debugUnlock => 104
  | .updatePlan => 4 + 20 * n1
  | .recorderRead => 24
  | .dramHashSet => 72

/-- Fields of a command's payload. `net` says that it came over a network mailbox. -/
def payF (k : CmdKind) (net : Bool) (p : Bytes) : List F :=
  let n1 := rd p 0 1
  match k with
  | .systemIdentify | .systemStatus | .timeConfigGet | .debugLock | .updateStatus | .recorderFlush | .healthRead => []
  | .systemRestart => [⟨0, 1, .upto 1⟩, ⟨1, 3, .zero⟩]
  | .abort => [⟨0, 1, .upto 5⟩, ⟨1, 1, .zero⟩]
  | .layoutPropose => [⟨0, 4, .mask 1⟩] ++ descF net 4
  | .layoutCommit => [⟨0, 4, .mask 1⟩] ++ (if bit n1 0 then descF net 4 else [⟨4, 16, .zero⟩])
  | .layoutStore => [⟨0, 1, .range 0 63⟩, ⟨1, 1, .mask 1⟩, ⟨2, 2, .zero⟩] ++ (if bit (rd p 1 1) 0 then [⟨4, 16, .zero⟩] else descF net 4)
  | .layoutStoredCommit => [⟨0, 1, .range 0 63⟩, ⟨1, 3, .zero⟩]
  | .layoutRead => [⟨0, 1, .upto 2⟩, ⟨1, 1, .range 0 (if n1 = 2 then 63 else 255)⟩, ⟨2, 2, .zero⟩] ++ descF net 4
  | .streamOpen => streamF p ++ [⟨96, 2, .range 0 1024⟩, ⟨98, 2, .zero⟩] ++ (if rd p 96 2 < 1024 then [⟨100 + rd p 96 2, 1024 - rd p 96 2, .zero⟩] else [])
  | .streamClose => [⟨1, 3, .zero⟩]
  | .streamStatus | .decodeStatus | .sourceStatus | .windowStatus | .lanternStatus | .headTimingGet | .headStatus | .encodeStatus | .timeStatus | .portAddressGet
  | .laneRead | .touchRead | .sessionList | .domainStatus => selF
  | .sourceSet => sourceF p ++ (if rd p 1 1 = 3 then descF net 32 else [⟨32, 16, .zero⟩])
  | .windowSet => [⟨0, 2, .range 1 255⟩, ⟨2, 2, .zero⟩] ++ repeatF windowF 4 64 (min 255 (rd p 0 2))
  | .windowGet => [⟨0, 1, .upto 2⟩, ⟨1, 1, .zero⟩, ⟨6, 2, .zero⟩]
  | .backgroundSet => backgroundF
  | .blendSet => blendF ++ blendStepsF p
  | .toneProfileSet => toneF
  | .toneProfileGet => readF 63
  | .coefSet => coefF
  | .coefGet => readF 31
  | .tileRecordsGet => [⟨0, 1, .range 0 15⟩, ⟨1, 3, .zero⟩] ++ descF net 12
  | .glyphGet => [⟨0, 1, .range 0 22⟩, ⟨1, 1, .upto 1⟩, ⟨2, 2, .zero⟩]
  | .safetyArm => [⟨0, 1, .range 1 72⟩, ⟨1, 3, .zero⟩] ++ (List.range (min 72 n1)).flatMap fun i => shiftF (entryF (p.drop (4 + 36 * i))) (4 + 36 * i)
  | .safetyApply => [⟨2, 2, .zero⟩]
  | .safetyGet => [⟨0, 1, .upto 2⟩, ⟨1, 1, .range 0 (if n1 = 0 then 63 else if n1 = 1 then 7 else 0)⟩, ⟨2, 2, .zero⟩]
  | .lanternClear => [⟨2, 2, .zero⟩]
  | .alertAck => [⟨0, 2, .range 0 1023⟩, ⟨2, 1, .oneOf [1, 2, 3, 4, 5, 6, 7, 8, 9, 10, 11, 12]⟩, ⟨3, 1, .zero⟩]
  | .headTimingSet => [⟨0, 1, .range 1 16⟩, ⟨1, 3, .zero⟩] ++ repeatF timingF 4 40 (min 16 n1)
  | .headEdidGet | .lanePrbsRead => [⟨0, 1, .range 0 15⟩, ⟨1, 3, .zero⟩]
  | .encodeOpen => encodeF
  | .encodeSet => [⟨0, 1, .range 0 31⟩, ⟨1, 1, .mask 15⟩, ⟨2, 2, .zero⟩, ⟨6, 2, .zero⟩]
  | .encodeClose => [⟨0, 1, .range 0 31⟩, ⟨1, 3, .zero⟩]
  | .timeBaseSet => baseF p
  | .timeSelectSet => selectF
  | .timeAccept => [⟨0, 1, .range 0 3⟩, ⟨1, 3, .zero⟩]
  | .portAddressSet => addressF
  | .laneSet => [⟨0, 1, .range 1 16⟩, ⟨1, 3, .zero⟩] ++ repeatF laneF 4 16 (min 16 n1)
  | .laneModuleRead => [⟨0, 1, .range 0 15⟩, ⟨3, 1, .range 1 128⟩]
  | .mgmtSet => []
  | .touchKeySet => [⟨0, 1, .range 1 64⟩, ⟨1, 3, .zero⟩] ++ repeatF keyF 4 8 (min 64 n1)
  | .touchModeSet => [⟨0, 1, .range 0 15⟩, ⟨1, 1, .upto 2⟩, ⟨2, 2, .zero⟩]
  | .localActionSet => [⟨0, 1, .range 1 64⟩, ⟨1, 3, .zero⟩] ++ repeatF actionF 4 8 (min 64 n1)
  | .touchRebaseline | .sessionClose | .powerCapSet => if k = .powerCapSet then [⟨0, 4, .range 20000 118000⟩] else []
  | .sessionOpen => [⟨0, 1, .upto 1⟩, ⟨1, 1, .upto 5⟩, ⟨2, 2, .zero⟩, ⟨12, 4, .zero⟩]
  | .sessionIdleSet => [⟨0, 4, .range 10 86400⟩]
  | .credentialSet => [⟨0, 4, .range 1 0xFFFFFFFE⟩, ⟨4, 1, .upto 5⟩, ⟨5, 1, .upto 1⟩, ⟨6, 2, .zero⟩, ⟨105, 3, .zero⟩]
  | .trustAnchorSet => [⟨0, 1, .range 0 3⟩, ⟨1, 1, .upto 1⟩, ⟨2, 2, .zero⟩] ++ (if rd p 1 1 = 0 then descF net 4 ++ [⟨12, 4, .range 1 4096⟩] else [⟨16, 4, .zero⟩])
  | .deviceCertGet => descF net 0
  | .doorRulesSet => [⟨1, 1, .range 0 64⟩, ⟨2, 2, .zero⟩] ++ repeatF regionF 4 16 (min 64 (rd p 1 1))
  | .doorRulesGet => [⟨1, 3, .zero⟩]
  | .debugUnlock => [⟨0, 1, .upto 1⟩, ⟨1, 3, .zero⟩]
  | .updatePlan => if net then [] else [⟨0, 1, .range 1 8⟩, ⟨1, 3, .zero⟩] ++ (List.range (min 8 n1)).flatMap fun i => shiftF ([⟨0, 1, .upto 7⟩, ⟨1, 3, .zero⟩] ++ descF net 4) (4 + 20 * i)
  | .updateRun => if net then [] else [⟨2, 1, .upto 1⟩, ⟨3, 1, .zero⟩]
  | .updateConfirm | .updateFallback => [⟨2, 2, .zero⟩]
  | .recorderRead => [⟨0, 1, .upto 1⟩, ⟨1, 3, .zero⟩] ++ descF net 8
  | .recorderClear => [⟨0, 1, .upto 1⟩, ⟨1, 3, .zero⟩]
  | .recorderSubscribe => [⟨0, 1, .mask 3⟩, ⟨1, 3, .zero⟩]
  | .domainSet => [⟨0, 1, .range 0 13⟩, ⟨1, 1, .upto 1⟩, ⟨2, 2, .zero⟩]
  | .scanSubmit => [⟨2, 2, .zero⟩, ⟨4, 4, .mult 64 64 1073741824⟩, ⟨8, 8, .mult 64 0 0xFFFFFFFFFFFFFFFF⟩]
  | .scanResult => [⟨2, 2, .zero⟩]
  | .lanePrbsSet => [⟨0, 1, .range 0 15⟩, ⟨1, 1, .upto 4⟩, ⟨2, 1, .mask 3⟩]
  | .dramHashSet => [⟨0, 1, .upto 4⟩, ⟨1, 7, .zero⟩] ++ (if n1 = 4 then [] else [⟨8, 64, .zero⟩])

/-! Responses. -/

/-- What a refusing status reports (Table 11-9). -/
structure Err where
  status : Nat
  check : Nat := 11
  arg : Nat := 0xFFFF
  unitKind : Nat := 0
  holder : Nat := 0
  unit : Nat := 0
  wait : Nat := 0
  dataOff : Nat := 0xFFFFFFFF
  deriving DecidableEq, Repr

def Err.bytes (e : Err) : Bytes := le 2 e.check ++ le 2 e.arg ++ le 1 e.unitKind ++ le 1 e.holder ++ le 2 e.unit ++ le 4 e.wait ++ le 4 e.dataOff

def stOk : Nat := 0
def stBusy : Nat := 1
def stDraining : Nat := 2
def stRefused : Nat := 3
def stAborted : Nat := 4
def stDenied : Nat := 5
def stBadCrc : Nat := 6
def stStale : Nat := 7
def stUnknown : Nat := 8
def stBadArg : Nat := 9
def stTimeout : Nat := 10
def stLocked : Nat := 11

/-- ST_BAD_ARG for the payload field at `o`. -/
def badArg (check o : Nat) : Err := { status := stBadArg, check := check, arg := 32 + o }

/-- ST_BAD_ARG for a field at `o` of descriptor data whose descriptor stands at `d` of the payload. -/
def badData (d o : Nat) : Err := { status := stBadArg, arg := 32 + d, dataOff := o }

/-- A response as it is written, the reserved bits of its head and payload taken from the free values `f`; `req` is the request's payload (R4, R317). -/
def Rsp.bytes (r : Rsp) (f : Nat → Byte) (req : Bytes) : Bytes :=
  (wire (2 + 8 * ((f 3).toNat / 8)) r.command r.status r.session r.sequence r.tag (ofLe [f 24, f 25, f 26, f 27]) (withSpare (fun i => f (32 + i)) (spareBits r.command r.status req r.payload) r.payload) 0x5A49 1 (32 + r.payload.length)).1

/-- Length of a response (Table 11-6). -/
def Rsp.length (r : Rsp) : Nat := 32 + r.payload.length

/-- The bytes of a response to a message on a mailbox (log 36). -/
def State.rspBytes (s : State) (mb : Nat) (m : Msg) (r : Rsp) : Bytes := r.bytes (Config.reserved s.izent.orderCount mb) m.payload

/-- The CRC that a request must carry. -/
def msgCrc (k : Nat) (m : Msg) : Nat := (wire m.flags k m.status m.session m.sequence m.tag m.reserved (fit (m.length - 32) m.payload) m.magic m.version m.length).2

/-- Write a response (R307, R317): into the response buffer of a PCIe mailbox, or to the TLS layer; that of a closed connection is discarded (R314). The local action session's ends its action (R434). -/
def State.respond (s : State) (mb cmd : Nat) (m : Msg) (status : Nat) (payload : Bytes) : State :=
  let x := s.mbx mb
  let r : Rsp := { command := cmd, status := status, session := m.session, sequence := m.sequence, tag := m.tag, payload := payload }
  let own := cmd != 0x01FF || x.job.isNone
  let heard := mb < 16 || mb = 24 || x.conn.isSome
  let x := { x with rsp := if heard then some r else none, job := if own then none else x.job, state := if own then .idle else x.state }
  let ended := own && x.resetting
  if mb < 16 then
    let ok := !m.writeFails && s.hostAllows 1 x.rspAddr r.length
    let s := if m.writeFails then s else s.hostDenied 1 x.rspAddr r.length
    let s := s.setMbx mb { x with done := (x.done || ok) && !ended, addrFault := (x.addrFault || !ok) && !ended, overrun := x.overrun && !ended, resetting := x.resetting && !ended, doneCount := (x.doneCount + 1) % 4294967296 }
    let s := if ok then s.hostWrite x.rspAddr (s.rspBytes mb m r) else s
    if ok && x.irqEnable then s.raise mb else s
  else
    let s := s.setMbx mb { x with doneCount := (x.doneCount + 1) % 4294967296 }
    if mb = 24 then s.localEnded status payload else s

def State.respondErr (s : State) (mb cmd : Nat) (m : Msg) (e : Err) : State := s.respond mb cmd m e.status e.bytes

/-! Calls. -/

/-- A request that its checks have passed: mailbox, role, message, its payload at full length, its doorbell instant and order. -/
structure Call where
  kind : CmdKind
  mb : Nat
  role : Nat
  msg : Msg
  p : Bytes
  since : Time
  /-- The doorbell instant in device time (R9). -/
  rung : Nat := 0
  order : Nat
  deriving DecidableEq, Repr

/-- What a command's own part does: it completes, fails with a state it leaves, is refused with a verdict record, waits for a cause that is not a lock, or stays in progress. -/
inductive Res where
  | ok (s : State) (payload : Bytes)
  | err (s : State) (e : Err)
  | refused (s : State) (payload : Bytes)
  | wait (cause : HoldCause) (e : Err)
  | run (s : State)
  deriving DecidableEq, Repr

/-- Meaning of a command after checks 1–10. -/
abbrev Body := Call → State → Res

def Call.wants (c : Call) : Bool := bit c.msg.flags 0
/-- Descriptor data block `i`, as long as its descriptor at `o` says. -/
def Call.block (c : Call) (i o : Nat) : Bytes := fit (rd c.p (o + 8) 4) (c.msg.data.getD i [])
/-- The host address of the descriptor at `o`. -/
def Call.addr (c : Call) (o : Nat) : Nat := rd c.p o 8
def Call.cap (c : Call) (o : Nat) : Nat := rd c.p (o + 8) 4
def Call.net (c : Call) : Bool := c.mb ≥ 16

/-- The session on a mailbox. -/
def State.session? (s : State) (mb : Nat) : Option Session := s.izent.sessions.find? fun x => x.mailbox == mb

/-- The mailbox whose running command holds the device lock exclusively: a domain that switches on, or door rules that wait for an epoch (R330). -/
def State.deviceHolder (s : State) : Option Nat := (s.izent.mbx.find? fun e => match e.2.job with | some j => j.cause.isNone | none => false).map (·.1)

/-- Hold a command (R332). -/
def State.hold (s : State) (c : Call) (cause : HoldCause) : State :=
  let x := s.mbx c.mb
  s.setMbx c.mb { x with state := .held, command := code c.kind, job := some { kind := c.kind, msg := c.msg, since := c.since, rung := c.rung, order := c.order, cause := some cause } }

/-- Write a result. -/
def State.finish (s : State) (c : Call) (r : Res) : State :=
  match r with
  | .ok s p => s.respond c.mb (code c.kind) c.msg stOk p
  | .err s e => s.respondErr c.mb (code c.kind) c.msg e
  | .refused s p => s.respond c.mb (code c.kind) c.msg stRefused p
  | .wait cause e => if c.wants then s.hold c cause else s.respondErr c.mb (code c.kind) c.msg e
  | .run s =>
    let x := s.mbx c.mb
    s.setMbx c.mb { x with state := .running, job := some { kind := c.kind, msg := c.msg, since := c.since, rung := c.rung, order := c.order } }

/-- Bound within which a domain that shuts down is off, µs (Table 17-2). -/
def offBound (d : Nat) : Nat :=
  match d with
  | 6 => 50000 | 7 | 8 => 20000 | 9 => 30000 | 11 | 12 | 13 => 5000 | _ => 10000

/-- Units that a command would change and that drain, with the remaining bound in µs (R338, R475). -/
def State.drains (s : State) (c : Call) : Option Err :=
  let left (bound since : Nat) : Nat := (bound * us - (s.clk - since)) / us
  let ctx (i : Nat) : Option Err := if (s.ctx i).state = .draining then some { status := stDraining, check := 9, unitKind := 1, unit := i, wait := left 40000 (s.ctx i).drainSince } else none
  let enc (i : Nat) : Option Err := let x : EncChan := Map.get {} s.enc.chan i; if x.state = .draining then some { status := stDraining, check := 9, unitKind := 2, unit := i, wait := left 20000 x.drainSince } else none
  let dom (d : Nat) : Option Err := if (s.dom d).state = .shuttingDown then some { status := stDraining, check := 9, unitKind := 6, unit := d, wait := left (offBound d) (s.dom d).since } else none
  match c.kind with
  | .domainSet => if rd c.p 1 1 = 1 then dom (rd c.p 0 1) else none
  | .streamOpen => ctx (rd c.p 0 1)
  | .encodeOpen | .encodeSet => enc (rd c.p 0 1)
  | _ => none

/-- Checks 9 to 11 and the command's own part (R320, R332). -/
def State.attempt (s : State) (c : Call) (body : Body) : State :=
  let s := if c.mb < 16 && c.msg.session != 0 then { s with upd := { s.upd with requested := true } } else s
  match s.drains c with
  | some e => s.finish c (.wait .drain e)
  | none =>
    match (if locks c.kind then s.deviceHolder else none) with
    | some h => s.finish c (.wait .locks { status := stBusy, check := 10, holder := h, wait := 100000 })
    | none =>
      match (if c.kind = .safetyArm then none else firstBad F.bad11 (payF c.kind c.net c.p) c.p) with
      | some o => s.finish c (.err s (badArg 11 o))
      | none => s.finish c (body c s)

/-- µs of the start-up bound that remain (R328, R478). -/
def State.startLeft (s : State) : Nat :=
  let bound := (if s.power.aonKept && !s.power.forceCold then 3000 else 9000) * ms
  match s.power.startedAt with
  | some t => (t + bound - s.clk) / us
  | none => bound / us

/-- CRED_ID of a commissioning session (R455). -/
def commissioning : Nat := 0xFFFFFFFF

/-- Who sends: the role and whether checks 4 and 6 pass (R324, R325, R343). -/
def State.mayIssue (s : State) (k : CmdKind) (mb : Nat) (m : Msg) (p : Bytes) : Except Err Nat :=
  let denied (n : Nat) : Except Err Nat := .error { status := stDenied, check := n }
  if s.upd.bootRom then
    (if m.session != 0 then denied 4 else if k = .systemIdentify || k = .updateStatus || k = .updatePlan || k = .updateRun then .ok 2 else denied 6)
  else if m.session = 0 then (if k = .sessionOpen || k = .systemIdentify then .ok 0 else denied 6)
  else match s.session? mb with
    | none => denied 4
    | some x =>
      if x.id != m.session then denied 4
      else if k = .sessionOpen || !bit (roles k) x.role || (k = .layoutCommit && x.role = 1 && bit (rd p 0 1) 0) ||
        (x.cred = commissioning && !(k = .credentialSet || k = .trustAnchorSet || k = .deviceCertGet || k = .mgmtSet || k = .sessionClose)) || (k = .dramHashSet && ((x.role = 2 && rd p 0 1 = 4) || (x.role = 5 && rd p 0 1 < 4))) then denied 6
      else .ok x.role

/-- Check 8, then the rest (R320). STATUS lists 0 alone for a request (Table 11-6; DEDUCED, log 6). -/
def State.formCall (s : State) (c : Call) (body : Body) : State :=
  match firstOff [(c.msg.flags ≥ 8, 3), (c.p.length != paySize c.kind c.p, 4), (c.msg.status != 0, 10), (c.msg.reserved != 0, 24)] with
  | some o => s.finish c (.err s { status := stBadArg, check := 8, arg := o })
  | none => match firstBad F.bad8 (payF c.kind c.net c.p) c.p with
    | some o => s.finish c (.err s (badArg 8 o))
    | none => s.attempt c body

/-- Spire A runs: PD_SPIRE is on, its pair is not in recovery, debug has not halted it and its image is not being replaced (R449, R494, R515). -/
def State.spireA (s : State) : Bool := s.domOn 1 && !s.health.recovering.contains 0 && !s.prot.halted.contains 0 && s.upd.spireSwitch.isNone

/-- Checks 5 to 8 after a sender has been identified, then the rest (R320, R328). While Spire A switches, Spire B answers or holds (R515); while it recovers or is halted, what comes waits (R449, R494; DEDUCED, log 6). -/
def State.admitCall (s : State) (c : Call) (body : Body) : State :=
  let busy (w : Nat) : Err := { status := stBusy, check := 7, holder := 255, wait := w }
  let served := c.kind = .abort || c.kind = .systemIdentify || c.kind = .systemStatus
  if !served && (s.health.recovering.contains 0 || s.prot.halted.contains 0) then s.hold c .switching
  else if !served && s.upd.spireSwitch.isSome then s.finish c (.wait .switching (busy (match s.upd.spireSwitch with | some t => (t + 50 * ms - s.clk) / us | none => 0)))
  else if s.izent.devState != .ready && !early c.kind && !s.upd.bootRom then
    if s.izent.devState = .boot || s.izent.devState = .starting then s.finish c (.wait .ready (busy s.startLeft))
    else s.finish c (.err s (busy 0xFFFFFFFF))
  else s.formCall c body

/-- Check 1 of Table 11-8: the first offending field of the header. -/
def headerBad (m : Msg) : Option Nat :=
  firstOff [(m.magic != 0x5A49, 0), (m.version != 1, 2), (bit m.flags 1 || bit m.flags 2, 3), (m.length < 32 || m.length > 16384 || m.length % 4 != 0, 4)]

/-- Checks 1 to 3 of a message that the W16 has read, its code `cmd`; then `go` (R318, R320). -/
def State.headChecks (s : State) (mb cmd : Nat) (m : Msg) (go : State → State) : State :=
  let x := s.mbx mb
  let d := (m.sequence + 4294967296 - x.lastSeq) % 4294967296
  match headerBad m with
  | some o => s.respondErr mb cmd m { status := stBadArg, check := 1, arg := o }
  | none =>
    if m.crc != msgCrc cmd m || (mb ≥ 16 && m.data.map crc32c != m.dataCrc) then s.respondErr mb cmd m { status := stBadCrc, check := 2 }
    else if d < 1 || d > 2147483647 then s.respondErr mb cmd m { status := stStale, check := 3 }
    else go (s.setMbx mb { x with lastSeq := m.sequence })

/-- A request from the session bound to its mailbox: SESSION_IDLE runs anew (R326). -/
def State.heardFrom (s : State) (mb : Nat) (m : Msg) : State :=
  { s with izent := { s.izent with sessions := s.izent.sessions.map fun (y : Session) => if y.mailbox == mb && y.id == m.session then { y with lastRequest := s.now, lastAt := s.clk } else y } }

/-- Checks 1 to 6, then the rest. -/
def State.checkCall (s : State) (k : CmdKind) (mb : Nat) (m : Msg) (since : Time) (order : Nat) (body : Body) : State :=
  s.headChecks mb (code k) m fun s =>
    let p := fit (m.length - 32) m.payload
    match s.mayIssue k mb m p with
    | .error e => (s.heardFrom mb m).respondErr mb (code k) m e
    | .ok role =>
      let s := s.heardFrom mb m
      s.admitCall { kind := k, mb := mb, role := role, msg := m, p := p, since := since, rung := s.now, order := order } body

/-- A code that no command has: checks 1 to 4, then check 5 (R320). -/
def State.checkUnknown (s : State) (mb cmd : Nat) (m : Msg) : State :=
  s.headChecks mb cmd m fun s =>
    let bound : Bool := m.session = 0 || match s.session? mb with | some x => x.id == m.session | none => false
    (s.heardFrom mb m).respondErr mb cmd m (if bound then { status := stUnknown, check := 5 } else { status := stDenied, check := 4 })

/-- Spire A is there to serve mailbox `mb`: PD_SPIRE is on, PCIE_PERST_N leaves the PCIe endpoint, and the boot ROM of R526 serves MB0 only (R468, R482). -/
def State.serves (s : State) (mb : Nat) : Bool := s.domOn 1 && !(s.upd.bootRom && mb != 0) && !(mb < 16 && s.power.perst)

/-- A doorbell on a PCIe mailbox: the message is read, then `go` (R305–R307). -/
def State.ring (s : State) (mb cmd : Nat) (m : Msg) (go : State → State) : State :=
  let x := s.mbx mb
  if x.state != .idle then s.setMbx mb { x with overrun := true }
  else
    let x := { x with reqAddr := x.reqLo + x.reqHi * 4294967296, rspAddr := x.rspLo + x.rspHi * 4294967296, reqTaken := false, command := cmd }
    if m.readFails || !s.hostAllows 0 x.reqAddr (max 32 m.length) then (s.setMbx mb { x with addrFault := true }).hostDenied 0 x.reqAddr (max 32 m.length)
    else go (s.setMbx mb { x with reqTaken := true })

/-- A message of command `k` reaches mailbox `mb` (R305–R307, R314). A network mailbox reads one further message while a command is in progress. -/
def State.issue (s : State) (k : CmdKind) (mb : Nat) (m : Msg) (body : Body) : State :=
  let x := s.mbx mb
  let order := s.izent.orderCount + 1
  if !s.serves mb then s
  else
    let s := { s with izent := { s.izent with orderCount := order } }
    if mb < 16 then s.ring mb (code k) m fun s => s.checkCall k mb m s.clk order body
    else
      match x.conn with
      | none => s
      | some n =>
        if n.role.isNone then s
        else if x.job.isNone then (s.setMbx mb { x with command := code k }).checkCall k mb m s.clk order body
        else if k = .abort then s.checkCall k mb m s.clk order body
        else if x.next.isNone then s.setMbx mb { x with next := some (k, m) }
        else s

/-- The meaning of a command's row. -/
def command (k : CmdKind) (body : Body) (t : Time) (mb : Nat) (m : Msg) (s : State) : Host.Outcome State Fault Refusal :=
  runIf (mb < 24) t s fun s => s.issue k mb m body

/-! Ending commands and sessions (R308, R326, R334–R337). -/

/-- End the command held on a mailbox with a status. -/
def State.endHeld (s : State) (mb status : Nat) : State :=
  match (s.mbx mb).job with
  | some j => if j.cause.isSome then s.respondErr mb (code j.kind) j.msg { status := status, check := 0 } else s
  | none => s

/-- A running domain switch is undone: the domain goes back to off (R335). -/
def State.undoSwitch (s : State) (j : Job) : State :=
  let d := rd j.msg.payload 0 1
  if j.kind = .domainSet && (s.dom d).state = .switchingOn then
    (s.setDom d { s.dom d with state := .off, since := s.clk }).record evDomainChange [p2 d, p1 1, p1 0]
  else s

/-- Abort the command of a mailbox: 0 nothing, 1 aborted, 2 past its commit point (R335, R337). -/
def State.abortAt (s : State) (mb : Nat) : State × Nat :=
  match (s.mbx mb).job with
  | none => (s, 0)
  | some j =>
    if j.cause.isSome || j.kind = .domainSet then ((s.undoSwitch j).respondErr mb (code j.kind) j.msg { status := stAborted, check := 0 }, 1)
    else (s, 2)

/-- Debug locks (R448). -/
def State.lockDebug (s : State) : State :=
  if s.prot.unlockedAt.isSome then ({ s with prot := { s.prot with unlockedAt := none } }).record evDebugLocked [] else s

/-- Close a session (R326): its commands end, its arm is discarded, its subscription ends. `cause` is the place in R326's list; 4 is a revocation, 5 a restart, 6 PCIE_PERST_N (DESIGN CHOICE, log 6). -/
def State.closeSession (s : State) (id cause : Nat) : State :=
  match s.izent.sessions.find? fun x => x.id == id with
  | none => s
  | some x =>
    let (s, _) := s.abortAt x.mailbox
    let s := { s with izent := { s.izent with sessions := s.izent.sessions.filter fun y => y.id != id } }
    let s := match s.comp.arm with | some a => if a.session = id then { s with comp := { s.comp with arm := none } } else s | none => s
    let s := if x.role = 5 then s.lockDebug else s
    s.record evSessionClosed [p1 x.role, p2 x.mailbox, p1 cause]

/-! Forms of answers (Table 12-1). -/

/-- Units that SEL names among those that exist, in increasing index, each with `size` bytes, after `head` bytes of payload (R344); and NEXT. -/
def selected (p : Bytes) (units : List Nat) (size head : Nat) : Except Err (List Nat × Nat) :=
  let first := rd p 0 2
  let count := rd p 2 2
  if !units.any (first ≤ ·) then .error (badArg 11 0)
  else if count = 0 then .error (badArg 11 2)
  else
    let l := (units.filter fun u => first ≤ u && u < first + count).take ((16384 - 32 - 8 - head) / size)
    let next := match l.getLast? with | some u => u + 1 | none => first + count
    .ok (l, if units.any (next ≤ ·) then next else 0xFFFF)

/-- LIST: the records of the selected units. -/
def listForm (p : Bytes) (units : List Nat) (size head : Nat) (f : Nat → Bytes) : Except Err Bytes :=
  match selected p units size head with
  | .error e => .error e
  | .ok (l, next) => .ok (le 2 l.length ++ le 2 size ++ le 2 next ++ [0, 0] ++ l.flatMap fun i => fit size (f i))

/-- A read command that answers with a list. -/
def listRes (s : State) (c : Call) (units : List Nat) (size : Nat) (f : Nat → Bytes) : Res :=
  match listForm c.p units size 0 f with
  | .error e => .err s e
  | .ok b => .ok s b

/-- Write descriptor data of a read command into the host buffer at `o` of its payload; a refused write sets ADDR_FAULT (R345). On a network mailbox the data follows the response in the stream (DEDUCED from R315, log 6). -/
def State.writeBuffer (s : State) (c : Call) (o : Nat) (data : Bytes) : State :=
  if data.isEmpty then s
  else if c.net then { s with out := { s.out with blocks := s.out.blocks ++ [(c.mb, data ++ le 4 (crc32c data))] } }
  else if s.hostAllows 1 (c.addr o) data.length then s.hostWrite (c.addr o) data
  else (s.setMbx c.mb { s.mbx c.mb with addrFault := true }).hostDenied 1 (c.addr o) data.length

/-- The descriptor data at `o` cannot be read: its address is not permitted (R441, Table 16-4). -/
def State.dataDenied (s : State) (c : Call) (o : Nat) : Bool := !c.net && !s.hostAllows 0 (c.addr o) (c.cap o)

/-- What a command with such data does: ADDR_FAULT, and ST_BAD_ARG at the descriptor, since every request is answered (DEDUCED from R307, R323, Table 16-4, log 6). -/
def State.dataFault (s : State) (c : Call) (o : Nat) : Res :=
  .err ((s.setMbx c.mb { s.mbx c.mb with addrFault := true }).hostDenied 0 (c.addr o) (c.cap o)) (badArg 11 o)

/-- NEEDED and WRITTEN of R345. -/
def writeWhole (s : State) (c : Call) (o : Nat) (data : Bytes) : State × Nat × Nat :=
  if data.length > c.cap o then (s, data.length, 0) else (s.writeBuffer c o data, data.length, data.length)

/-- A verdict record of a command's own refusal (R346). -/
def ownRefusal (code_ subject : Nat) (unit demanded available : Nat) : Bytes :=
  [1, 1] ++ le 2 code_ ++ [0, BitVec.ofNat 8 unit] ++ le 2 subject ++ le 8 demanded ++ le 8 available ++ zeros 72

end Sys2Proof.Machine
end

