-- ==== Sys2Proof/Machine/Layout.lean ====
section
/-! DEFINITION. Layout documents, proposals, seals (R189–R193, R277–R282, R339, R350, R351, R558). -/

namespace Sys2Proof.Machine

/-! Documents (R277, R278). -/

/-- An element of a document: its TYPE, the offset of its value, its value. -/
structure El where
  ty : Nat
  off : Nat
  val : Bytes
  deriving DecidableEq, Repr

structure Doc where
  whole : Bool
  layoutId : Nat
  els : List El
  deriving DecidableEq, Repr

/-- Why a document is not one: its CRC, or the first offending field. -/
inductive DocErr where
  | crc
  | field (off : Nat)
  deriving DecidableEq, Repr

/-- Size of an element's value (Table 10-2). -/
def elSize : Nat → Option Nat
  | 1 => some 96 | 2 => some 4 | 3 => some 1028 | 4 => some 64 | 5 => some 8 | 6 => some 68 | 7 => some 64 | 8 => some 4 | 9 => some 32 | _ => none

/-- What an element names, so that nothing is named twice. -/
def El.key (e : El) : Nat × Nat :=
  (if e.ty = 2 then 1 else if e.ty = 8 then 7 else e.ty, rd e.val 0 (if e.ty = 4 then 2 else 1))

/-- The first field of a record that its own table refuses. -/
def recordBad (fs : List F) (x : Bytes → Option Nat) (b : Bytes) : Option Nat :=
  lesser (firstBad (fun f b => f.bad8 b || f.bad11 b) fs b) (x b)

/-- The first offending field of an element's value. -/
def El.bad (e : El) : Option Nat :=
  let b := e.val
  let none_ (_ : Bytes) : Option Nat := none
  match e.ty with
  | 1 => recordBad (streamF b) streamX b
  | 2 => recordBad [⟨1, 3, .zero⟩] none_ b
  | 3 => recordBad [⟨1, 1, .zero⟩, ⟨2, 2, .range 0 1024⟩] (fun b => if (b.drop (4 + rd b 2 2)).any (· != 0) then some (4 + rd b 2 2) else none) b
  | 4 => recordBad windowF windowX b
  | 5 => recordBad backgroundF none_ b
  | 6 => recordBad (blendF ++ blendStepsF b) none_ b
  | 7 => recordBad encodeF encodeX b
  | 8 => recordBad [⟨0, 1, .range 0 31⟩, ⟨1, 3, .zero⟩] none_ b
  | _ => recordBad (sourceF b) sourceX b

/-- Read `n` elements from offset `pos`, and the offset where the framing breaks, if it does; every value size is a multiple of 4. -/
def elements : Nat → Nat → Bytes → List El × Option Nat
  | 0, pos, rest => ([], if rest.isEmpty then none else some pos)
  | n + 1, pos, rest =>
    match elSize (rd rest 0 2) with
    | none => ([], some pos)
    | some z =>
      if rest.length < 4 + z || rd rest 2 2 != z then ([], some (pos + 2))
      else
        let (l, o) := elements n (pos + 4 + z) (rest.drop (4 + z))
        ({ ty := rd rest 0 2, off := pos + 4, val := sub rest 4 z } :: l, o)

/-- The first offending field of the elements `l`, of which `before` come first: a thing named again, parameter sets without their context, a record its table refuses (R278). -/
def elementsBad (l : List El) : List El → List El → Option Nat
  | _, [] => none
  | before, e :: es =>
    if before.any (·.key == e.key) || e.ty == 3 && !l.any (fun x => x.ty == 1 && rd x.val 0 1 == rd e.val 0 1) then some e.off
    else match e.bad with
      | some o => some (e.off + o)
      | none => elementsBad l (e :: before) es

/-- Read a document (R277, R278). Its LENGTH must be the length of its data (DEDUCED, log 21). -/
def parseDoc (d : Bytes) : Except DocErr Doc :=
  if d.length < 32 then .error (.field 8)
  else if rd d 20 4 != crc32c (d.take 20 ++ zeros 4 ++ d.drop 24) then .error .crc
  else match firstOff [(d.take 4 != [0x4C, 0x4B, 0x4C, 0x44], 0), (rd d 4 2 != 1, 4), (rd d 6 2 > 1, 6), (rd d 8 4 != d.length || d.length % 4 != 0 || d.length > 262144, 8), (rd d 12 4 > 2048, 12), (rd d 24 8 != 0, 24)] with
    | some o => .error (.field o)
    | none =>
      let (l, framing) := elements (rd d 12 4) 32 (d.drop 32)
      match lesser (elementsBad l [] l) framing with
      | some o => .error (.field o)
      | none => .ok { whole := bit (rd d 6 2) 0, layoutId := rd d 16 4, els := l }

/-- Build a document from its elements (R350). -/
def buildDoc (els : List (Nat × Bytes)) : Bytes :=
  let body := els.flatMap fun e => le 2 e.1 ++ le 2 e.2.length ++ e.2
  let head (crc : Nat) : Bytes := [0x4C, 0x4B, 0x4C, 0x44] ++ le 2 1 ++ le 2 1 ++ le 4 (32 + body.length) ++ le 4 els.length ++ le 4 0 ++ le 4 crc ++ zeros 8
  head (crc32c (head 0 ++ body)) ++ body

/-! Proposals (R279). -/

/-- The shadow, or a copy of it with a document applied. -/
structure Proposal where
  set : Settings
  staged : Staged
  layoutId : Nat := 0
  deriving DecidableEq, Repr

def State.shadowProposal (s : State) : Proposal := { set := s.comp.shadow, staged := s.comp.staged }

/-- A context is open: JOINING or ACTIVE. -/
def State.ctxOpen (s : State) (c : Nat) : Bool := (s.ctx c).state == .joining || (s.ctx c).state == .active

/-- A channel is open. -/
def State.encOpen (s : State) (c : Nat) : Bool := (s.enc? c).state == .starting || (s.enc? c).state == .running

/-- The first byte in which two strings differ. -/
def firstDiff (a b : Bytes) : Option Nat := findIdx? (fun e => e.1 != e.2) (a.zip b)

/-- What ENCODE_SET may change, set aside (R253). -/
def EncodeRec.fixed (d : EncodeRec) : EncodeRec := { d with quality := 0, cap := 0, maxQpRaise := 0, x := 0, y := 0 }

/-- The first field of an element that the machine does not accept: a STILL that is not the one in force (R278), or a change of an open channel beyond R253 (DEDUCED, log 21). -/
def State.elBad (s : State) (e : El) : Option Nat :=
  match e.ty with
  | 9 =>
    let d := sourceOf e.val
    if d.kind = 3 then (firstDiff e.val (sourceBytes (s.src d.source).decl)).map (e.off + ·) else none
  | 7 =>
    let d := encodeOf e.val
    let old := (s.enc? d.channel).decl
    if s.encOpen d.channel then (firstDiff (encodeBytes (EncodeRec.fixed d)) (encodeBytes (EncodeRec.fixed old))).map (e.off + ·) else none
  | _ => none

/-- A complete layout unbinds and closes what it does not name. -/
def State.emptied (s : State) (p : Proposal) : Proposal :=
  let ctx : Map (Option (StreamRec × Bytes)) := (s.streams.ctx.filter fun e => s.ctxOpen e.1 || s.comp.reopens.any fun r => r.decl.context == e.1).map fun e => (e.1, none)
  let enc : Map (Option EncodeRec) := (s.enc.chan.filter fun e => s.encOpen e.1 || s.comp.reEnc.any fun r => r.1.channel == e.1).map fun e => (e.1, none)
  let src : Map SourceRec := (s.streams.src.filter fun e => e.2.decl.kind != 0).map fun e => (e.1, { source := e.1 })
  { p with set := { p.set with windows := Map.mapV (fun _ (d : WindowDesc) => { d with head := 255 }) p.set.windows }, staged := { ctx := ctx, src := src, enc := enc } }

/-- One element applied; `sets` are the document's parameter sets. -/
def applyEl (sets : Map Bytes) (p : Proposal) (e : El) : Proposal :=
  let b := e.val
  let st := p.staged
  match e.ty with
  | 1 => let d := streamOf b; { p with staged := { st with ctx := Map.set st.ctx d.context (some (d, Map.get [] sets d.context)) } }
  | 2 => { p with staged := { st with ctx := Map.set st.ctx (rd b 0 1) none } }
  | 4 => let d := windowOf b; { p with set := { p.set with windows := Map.set p.set.windows d.window d } }
  | 5 => { p with set := { p.set with bgs := Map.set p.set.bgs (rd b 0 1) (rgbAt b 2) } }
  | 6 => { p with set := { p.set with blends := Map.set p.set.blends (rd b 0 1) (blendOf b) } }
  | 7 => let d := encodeOf b; { p with staged := { st with enc := Map.set st.enc d.channel (some d) } }
  | 8 => { p with staged := { st with enc := Map.set st.enc (rd b 0 1) none } }
  | 9 => let d := sourceOf b; { p with staged := { st with src := Map.set st.src d.source d } }
  | _ => p

/-- A document applied to a proposal. -/
def State.applyDoc (s : State) (p : Proposal) (d : Doc) : Except Nat Proposal :=
  match d.els.findSome? s.elBad with
  | some o => .error o
  | none =>
    let p := if d.whole then s.emptied p else p
    let sets : Map Bytes := (d.els.filter fun e => e.ty == 3).map fun e => (rd e.val 0 1, sub e.val 4 (rd e.val 2 2))
    .ok { d.els.foldl (applyEl sets) p with layoutId := d.layoutId }

/-! What a proposal is admitted as (R282, R558). -/

/-- A declaration keeps the instance that is open, or the one that waits to open (R558). -/
def State.keepsCtx (s : State) (c : Nat) (d : StreamRec) (ps : Bytes) : Bool :=
  match s.comp.reopens.find? fun r => r.decl.context == c with
  | some r => r.decl == d && r.ps == ps
  | none => s.ctxOpen c && (s.ctx c).decl == d && (s.ctx c).ps == ps

/-- The proposal leaves context `c` as it is. -/
def State.sameCtx (s : State) (c : Nat) (x : Option (StreamRec × Bytes)) : Bool :=
  match x with
  | some (d, ps) => s.keepsCtx c d ps
  | none => !s.ctxOpen c && !s.comp.reopens.any fun r => r.decl.context == c

def State.sameEnc (s : State) (c : Nat) (x : Option EncodeRec) : Bool :=
  match x with
  | some d => (s.encOpen c && (s.enc? c).decl == d) || s.comp.reEnc.any fun r => r.1 == d
  | none => !s.encOpen c && !s.comp.reEnc.any fun r => r.1.channel == c

/-- The plan of a proposal. -/
def State.planOf (s : State) (p : Proposal) : Plan :=
  let b := s.plan
  let st := p.staged
  let changes (c : Nat) : Bool := match Map.get? st.ctx c with | some x => !s.sameCtx c x | none => false
  let old := (s.streams.ctx.filterMap fun e => if e.2.state = .closed then none else
    some ({ decl := e.2.decl, engine := e.2.engine, decoder := e.2.decoder, placed := true
            live := e.2.state != .draining && !changes e.1 && !s.comp.reopens.any fun r => r.decl.context == e.1 } : CtxUse)) ++
    (s.comp.reopens.filter fun r => !changes r.decl.context).map fun r => { decl := r.decl, engine := r.engine, decoder := r.decoder, placed := true }
  let new := st.ctx.filterMap fun e => match e.2 with
    | some (d, _) => if changes e.1 then some ({ decl := d } : CtxUse) else none
    | none => none
  let named (c : Nat) : Bool := (Map.get? st.enc c).isSome
  let oldE := s.enc.chan.filterMap fun e =>
    if e.2.state = .closed then none
    else match Map.get? st.enc e.1 with
      | some (some d) => some ({ decl := if e.2.state = .draining then e.2.decl else d, engine := e.2.engine, placed := true, live := e.2.state != .draining } : EncUse)
      | some none => some { decl := e.2.decl, engine := e.2.engine, placed := true, live := false }
      | none => some { decl := e.2.decl, engine := e.2.engine, placed := true, live := e.2.state != .draining }
  let keepE := (s.comp.reEnc.filter fun r => !named r.1.channel || s.sameEnc r.1.channel (some r.1) && Map.get? st.enc r.1.channel == some (some r.1)).map fun r => ({ decl := r.1, engine := r.2.1, placed := true } : EncUse)
  let newE := st.enc.filterMap fun e => match e.2 with
    | some d => if s.encOpen e.1 || s.comp.reEnc.any (fun r => r.1 == d) then none else some ({ decl := d } : EncUse)
    | none => none
  { b with set := p.set, ctx := old ++ new, src := st.src.foldl (fun m e => Map.set m e.1 e.2) b.src, enc := oldE ++ keepE ++ newE }

/-- Contexts, channels and sources stay as they are. -/
def State.sameUnits (s : State) (p : Proposal) : Bool :=
  (p.staged.ctx.all fun e => s.sameCtx e.1 e.2) && (p.staged.enc.all fun e => s.sameEnc e.1 e.2) && p.staged.src.all fun e => (s.src e.1).decl == e.2 || ((s.src e.1).decl.kind == 0 && e.2.kind == 0)

/-- Orotre's verdict on a proposal (R281, R298). While a context is unplaced every admission is full (DEDUCED from R492, log 20). -/
def State.admitProposal (s : State) (p : Proposal) : Verdict :=
  let plan := s.planOf p
  let unplaced := plan.ctx.any fun c => c.live && c.decl.compressed && c.placed && c.decoder == 255
  plan.verdict (plan.fastPath s.comp.committed (s.sameUnits p) && !unplaced)

/-! Seals (R190–R193, R339, R558). -/

/-- The heads that a group drives when they are on. -/
def State.groupHeads (s : State) (g : Nat) : List Nat := allHeads.filter fun h => match (s.head h).timing with | some r => r.sg == g && r.enabled | none => false

/-- A settings copy changes a group (R190). -/
def State.changedBy (s : State) (x : Settings) (g : Nat) : Bool :=
  let grp := s.grpC g
  let b := match grp.next with | some n => n.set | none => grp.act
  let hs := s.groupHeads g
  let ws (y : Settings) : List WindowDesc := y.listed.filter fun d => hs.contains d.head
  ((ws b ++ ws x).any fun d => b.window d.window != x.window d.window) || hs.any (fun h => b.bg h != x.bg h || b.blend h != x.blend h) ||
  (ws x).any fun d => b.tone d.toneProfile != x.tone d.toneProfile || b.coef d.scaleSet != x.coef d.scaleSet

/-- The groups that a settings copy changes. -/
def State.changedGroups (s : State) (x : Settings) : List Nat := (List.range 4).filter (s.changedBy x)

/-- µs until a group's pending flip. -/
def State.flipLeft (s : State) (g : Nat) : Nat :=
  match (s.grpC g).next, s.chief g with
  | some x, some r => cdiv (max (x.sealDt + 1000000) s.now + 2 * r.period - s.now) 1000
  | _, _ => 0xFFFFFFFF

/-- Why a commit, or else a change of timing, of these groups has to wait (R193, R220, R516): for a commit a format change lasts until its first new frame latches. The bound of a COMP activation is not stated (log 20). -/
def State.groupsBusy (s : State) (commit : Bool) (gs : List Nat) : Option Err :=
  let busy (w : Nat) : Err := { status := stBusy, holder := 255, wait := w }
  match gs.find? fun g => (s.grpC g).next.isSome with
  | some g => some (busy (s.flipLeft g))
  | none =>
    match s.comp.formats.find? fun f => f.groups.any fun g => gs.contains g && !(commit && f.latched.contains g) with
    | some f => some (busy (cdiv (f.sealedAt + 250 * ms - s.clk) us))
    | none => if s.comp.compActive.isSome || s.upd.compDue then some (busy 0xFFFFFFFF) else none

/-- An internal source takes a new configuration (R32, R121, R123, R353): it has no previous picture, and a verification of the old image is dropped (DESIGN CHOICE, log 15). `image` are the samples of a STILL; while PD_STREAM is off no tag is written (R555). -/
def State.setSource (s : State) (d : SourceRec) (image : List (List Nat)) : State :=
  let y : Source := { decl := d, intended := d.kind != 0, origin := s.now, image := image }
  let s := ({ s with health := { s.health with stillJobs := s.health.stillJobs.filter (· != d.source) } }).setSrc d.source y
  if d.kind = 3 && s.domOn 6 then s.issueSource d.source y.still s.now else s

/-- One context of a proposal at the seal: closed, kept, replaced or opened. -/
def State.sealCtx (s : State) (adm : Plan) (flip : Option Nat) (c : Nat) (x : Option (StreamRec × Bytes)) : State :=
  let dropped : State := { s with comp := { s.comp with reopens := s.comp.reopens.filter fun r => r.decl.context != c } }
  match x with
  | none => dropped.drainCtx c
  | some (d, ps) =>
    if s.keepsCtx c d ps then s
    else match adm.ctx.find? fun u => u.live && u.decl == d with
      | none => s
      | some u =>
        let r : Reopen := { decl := d, ps := ps, engine := u.engine, decoder := u.decoder, slots := adm.slots d, flip := if (s.ctx c).state = .closed then none else flip }
        let s := { dropped with comp := { dropped.comp with reopens := dropped.comp.reopens ++ [r] } }
        (if flip.isNone then s.drainCtx c else s).openDue c

/-- A context moves to another decoder engine (R131): one that is ACTIVE waits for an entry again (R146). The manual does not say what becomes of its queued access units: they move with it (DESIGN CHOICE, log 37). -/
def State.moveCtx (s : State) (c engine : Nat) : State :=
  let x := s.ctx c
  let y := x.rejoin s.clk
  let s := { s with streams := { s.streams with working := s.streams.working.filter fun w => w.2.context != c } }
  s.setCtx c (if x.join = .idle then { x with decoder := engine, pool := y.pool } else { y with decoder := engine })

/-- Open contexts after a seal: pools take the sealed layout's count, heartbeat slots follow it, unplaced contexts take the engine they got (R51, R139, R492). -/
def State.sealOpen (s : State) (adm : Plan) (set : Settings) : State :=
  s.streams.ctx.foldl (fun s e =>
    let c := e.1
    if !s.ctxOpen c then s
    else
      let x := s.ctx c
      let n := adm.slots x.decl
      let s := s.setCtx c (Ctx.trim x.pool.length { x with slots := n, pool := x.pool ++ List.replicate (n - x.pool.length) {}, hbSlots := hbAssign set c x.hbSlots })
      match adm.ctx.find? fun u => u.live && u.decl == x.decl with
      | some u => if u.decoder != x.decoder then s.moveCtx c u.decoder else s
      | none => s) s

/-- One channel of a proposal at the seal. -/
def State.sealEnc (s : State) (adm : Plan) (c : Nat) (x : Option EncodeRec) : State :=
  let dropped : State := { s with comp := { s.comp with reEnc := s.comp.reEnc.filter fun r => r.1.channel != c } }
  match x with
  | none => if s.encOpen c then dropped.closeEnc c else dropped
  | some d =>
    let (n, m) := adm.rate (adm.encHead d)
    let (level, tier) := signalled d n m
    if s.encOpen c then s.setEnc c { s.enc? c with decl := d, level := level, tier := tier }
    else if s.sameEnc c x then s
    else match adm.enc.find? fun u => u.live && u.decl == d with
      | none => s
      | some u => if (s.enc? c).state = .draining then { dropped with comp := { dropped.comp with reEnc := dropped.comp.reEnc ++ [(d, u.engine, level, tier)] } } else dropped.openEnc d u.engine level tier

/-- Real-time demand of head fetch port `h`, bytes/s (R391). -/
def Plan.portDemand (p : Plan) (x : Settings) (h : Nat) : Frac :=
  match p.rec? h with
  | none => { num := 0 }
  | some r => Frac.sum (((boundOf x).filter fun d => d.head == r.leader h).map fun d =>
      let area (e : Int × Int × Int × Int) : Nat := if rectEmpty e then 0 else (e.2.2.1 - e.1).toNat * (e.2.2.2 - e.2.1).toNat
      let q := area (WinRect d r)
      let f := p.fetch d
      if q = 0 then { num := 0 } else { num := f.num * area (onHead d r h), den := f.den * q })

/-- Demands of the 40 requesters, bytes/s (R388, R391, Table 13-6). A class demand that Table 10-5 gives for several requesters is divided by what each serves (DEDUCED, log 27). -/
def Plan.demands (p : Plan) : Map Frac :=
  let lantern := Frac.sum ((p.windows.filter fun d => d.kind == 2).map p.fetch)
  let heads := ((List.range 16).filter fun h => (p.rec? h).isSome).length
  let fixed (k bytes : Nat) : Nat × Frac := (k, { num := bytes })
  let tower (lo hi : Nat) : Frac := { p with ctx := p.ctx.filter fun c => lo ≤ c.decoder && c.decoder < hi }.decDemand
  let enc (e : Nat) : Frac := Frac.sum ((p.enc.filter fun u => u.engine == e).map fun u => p.encTerm u.decl)
  let copy (lo : Nat) : Frac := Frac.sum ((p.src.filter fun e => lo ≤ e.2.head && e.2.head < lo + 8).map fun e => p.copyTerm e.2)
  let ing (k : Nat) : Frac := ({ p with ctx := p.ctx.filter fun c => c.engine / 4 == k, src := if k = 0 then p.src else [] } : Plan).ingDemand
  ((List.range 16).map fun h => (h, p.portDemand p.set h)) ++ [(16, lantern), fixed 17 (20000000 * heads), (18, tower 0 9), (19, tower 9 18)] ++
  ((List.range 4).map fun e => (20 + e, enc e)) ++ ((List.range 4).map fun k => (24 + k, ing k)) ++ [(28, copy 0), (29, copy 8), fixed 30 200000000, fixed 31 200000000, fixed 32 100000000, fixed 33 100000000, fixed 34 100000000, fixed 35 100000000,
    fixed 36 500000000, fixed 37 50000000, fixed 38 1000000000, fixed 39 400000000]

/-- Tickets of a plan (R388). -/
def Plan.tickets (p : Plan) : Map Nat :=
  let d := p.demands
  let top := Frac.max (d.map (·.2))
  d.map fun e => (e.1, max 1 (cdiv (255 * e.2.num * top.den) (e.2.den * top.num)))

/-- Slots that a demand owns: one per 1 333.333 MB/s (R391). -/
def slotsFor (d : Frac) : Nat := cdiv (3 * d.num) (4000000000 * d.den)

/-- The slot tables that Spire A writes after a seal (R391, R392). -/
def State.writeShadows (s : State) (adm : Plan) (gs : List Nat) : State :=
  let need := (adm.demands.filter fun e => e.1 < 18).map fun e => (e.1, slotsFor e.2)
  let lantern (g : Nat) : Frac := Frac.sum (((adm.inGroup adm.set g).filter fun d => d.kind == 2).map adm.fetch)
  let new := gs.map fun g => ({ group := g, need := need, lantern := lantern g, tickets := adm.tickets } : SlotShadow)
  { s with dram := { s.dram with shadows := s.dram.shadows ++ new } }

/-- Seal an admitted proposal (R191): the state after it, and the flip frames by head. -/
def State.sealCommit (s : State) (p : Proposal) (adm : Plan) : State × List (Nat × Nat) :=
  let seq := s.comp.commitSeq + 1
  let gs := s.changedGroups p.set
  let running := gs.filter fun g => !(s.headsOf g).isEmpty
  let frames := running.flatMap s.flipFrames
  let x : Sealed := { set := p.set, seq := seq, at_ := s.clk, sealDt := s.now, frames := frames }
  let flip := if running.isEmpty then none else some seq
  let open_ := s.alignOpen
  let s := { s with comp := { s.comp with committed := p.set, shadow := p.set, staged := {}, layoutId := p.layoutId, commitSeq := seq }, time := { s.time with committed := true } }
  let s := if open_ then s.judgeBases else s
  let s := running.foldl (fun s g => s.setGrpC g { s.grpC g with next := some x }) s
  let s := (gs.filter fun g => !running.contains g).foldl (fun s g => s.applySet g x s.now) s
  let off := allHeads.filter fun h => !(List.range 4).any fun g => (s.groupHeads g).contains h
  let s := (List.range 4).foldl (fun s g =>
    let q := s.grpC g
    s.setGrpC g { q with act := { q.act with bgs := off.foldl (fun m h => match Map.get? p.set.bgs h with | some c => Map.set m h c | none => m) q.act.bgs
                                             blends := off.foldl (fun m h => match Map.get? p.set.blends h with | some c => Map.set m h c | none => m) q.act.blends } }) s
  let s := p.staged.src.foldl (fun s e => if (s.src e.1).decl == e.2 then s else s.setSource e.2 []) s
  let s := p.staged.ctx.foldl (fun s e => s.sealCtx adm flip e.1 e.2) s
  let s := p.staged.enc.foldl (fun s e => s.sealEnc adm e.1 e.2) s
  ((s.sealOpen adm p.set).writeShadows adm running, frames)

/-- The part of a commit record after the verdict (Table 12-6). -/
def commitTail (sealDt seq : Nat) (frames : List (Nat × Nat)) : Bytes :=
  let mask := bitsOf (allHeads.map fun h => frames.any fun e => e.1 == h)
  le 8 sealDt ++ le 4 seq ++ le 2 mask ++ [0, 0] ++ allHeads.flatMap fun h => le 8 (((frames.find? fun e => e.1 == h).map (·.2)).getD 0xFFFFFFFFFFFF)

/-- A commit of a proposal (R279, R351). -/
def State.commitProposal (s : State) (p : Proposal) : Res :=
  match s.groupsBusy true (s.changedGroups p.set) with
  | some e => .wait .flip e
  | none =>
    let v := s.admitProposal p
    let us_ := s.evalUs v
    let s := s.useFree
    match v.result with
    | .error _ => .refused s (v.bytes us_ p.layoutId)
    | .ok adm =>
      let (t, frames) := s.sealCommit p adm
      .ok t (v.bytes us_ p.layoutId ++ commitTail s.now t.comp.commitSeq frames)

/-- Error of a document whose descriptor stands at `d` of the payload. -/
def docErr (d : Nat) : DocErr → Err
  | .crc => { status := stBadCrc }
  | .field o => badData d o

/-- Read a document and apply it to the shadow. -/
def State.docProposal (s : State) (d : Nat) (data : Bytes) : Except Err Proposal :=
  match parseDoc data with
  | .error e => .error (docErr d e)
  | .ok doc => match s.applyDoc s.shadowProposal doc with
    | .error o => .error (badData d o)
    | .ok p => .ok p

/-! LAYOUT_READ (R350). -/

/-- The elements of a layout: its bound windows, the contexts and channels that are open, configured sources, backgrounds, blend programs. -/
def State.layoutEls (s : State) (set : Settings) (st : Staged) : List (Nat × Bytes) :=
  let ctx : Map (Option (StreamRec × Bytes)) := st.ctx.foldl (fun m e => Map.set m e.1 e.2)
    (s.comp.reopens.foldl (fun m r => Map.set m r.decl.context (some (r.decl, r.ps))) ((s.streams.ctx.filter fun e => s.ctxOpen e.1).map fun e => (e.1, some (e.2.decl, e.2.ps))))
  let enc : Map (Option EncodeRec) := st.enc.foldl (fun m e => Map.set m e.1 e.2)
    (s.comp.reEnc.foldl (fun m r => Map.set m r.1.channel (some r.1)) ((s.enc.chan.filter fun e => s.encOpen e.1).map fun e => (e.1, some e.2.decl)))
  let src : Map SourceRec := st.src.foldl (fun m e => Map.set m e.1 e.2) (s.streams.src.map fun e => (e.1, e.2.decl))
  (ctx.flatMap fun e => match e.2 with
    | some (d, ps) => (1, streamBytes d) :: if ps.isEmpty then [] else [(3, le 1 d.context ++ [0] ++ le 2 ps.length ++ fit 1024 ps)]
    | none => []) ++
  ((boundOf set).map fun d => (4, windowBytes d)) ++ (set.bgs.map fun e => (5, le 1 e.1 ++ [0] ++ rgbBytes e.2)) ++ (set.blends.map fun e => (6, blendBytes e.1 e.2)) ++
  (enc.flatMap fun e => match e.2 with | some d => [(7, encodeBytes d)] | none => []) ++ (src.filter fun e => e.2.kind != 0).map fun e => (9, sourceBytes e.2)

/-- The active settings of all groups as one: each head's and window's from its own group. -/
def State.activeSettings (s : State) : Settings :=
  let own (h : Nat) : Settings := match (s.head h).timing with | some r => (s.grpC r.sg).act | none => (s.grpC 0).act
  { windows := (((List.range 4).flatMap s.groupWindows).foldl (fun (m : Map WindowDesc) d => Map.set m d.window d) [])
    bgs := allHeads.filterMap fun h => (Map.get? (own h).bgs h).map fun c => (h, c)
    blends := allHeads.filterMap fun h => (Map.get? (own h).blends h).map fun c => (h, c) }

end Sys2Proof.Machine
end

