-- ==== Sys2Proof/Machine/Status.lean ====
section
/-! DEFINITION. Units that a command names, state pairs, and the records that the status commands return (R334, R340, R341, Tables 3-7, 4-8, 5-9, 7-5, 8-6, 9-5, 12-8, 12-10, 12-25). -/

namespace Sys2Proof.Machine

/-! Kinds of units, as UNIT_KIND of Table 11-16. -/

def kCtx : Nat := 1
def kEnc : Nat := 2
def kHead : Nat := 3
def kWin : Nat := 4
def kBase : Nat := 5
def kDom : Nat := 6
def kSrc : Nat := 7

/-- The unit that an element of a document names. -/
def El.unit (e : El) : List (Nat × Nat) :=
  match e.ty with
  | 1 | 2 | 3 => [(kCtx, rd e.val 0 1)]
  | 4 => [(kWin, rd e.val 0 2), (kHead, rd e.val 2 1)]
  | 5 | 6 => [(kHead, rd e.val 0 1)]
  | 7 | 8 => [(kEnc, rd e.val 0 1)]
  | 9 => [(kSrc, rd e.val 0 1)]
  | _ => []

def docUnits (data : Bytes) : List (Nat × Nat) :=
  match parseDoc data with
  | .ok d => d.els.flatMap El.unit
  | .error _ => []

/-- The units that a command would change (R334, R340): those of its payload, or of its document. -/
def State.targets (s : State) (j : Job) : List (Nat × Nat) :=
  let p := fit (j.msg.length - 32) j.msg.payload
  let doc (o : Nat) : Bytes := fit (rd p (o + 8) 4) (j.msg.data.getD 0 [])
  match j.kind with
  | .streamOpen | .streamClose => [(kCtx, rd p 0 1)]
  | .sourceSet => [(kSrc, rd p 0 1)]
  | .windowSet => (List.range (rd p 0 2)).flatMap fun i => [(kWin, rd p (4 + 64 * i) 2), (kHead, rd p (6 + 64 * i) 1)]
  | .backgroundSet | .blendSet => [(kHead, rd p 0 1)]
  | .headTimingSet => (List.range (rd p 0 1)).map fun i => (kHead, rd p (4 + 40 * i) 1)
  | .encodeOpen | .encodeSet | .encodeClose => [(kEnc, rd p 0 1)]
  | .timeBaseSet | .timeAccept => [(kBase, rd p 0 1)]
  | .domainSet => [(kDom, rd p 0 1)]
  | .lanternClear => [(kWin, rd p 0 2)]
  | .layoutPropose => docUnits (doc 4)
  | .layoutCommit => if bit (rd p 0 1) 0 then docUnits (doc 4) else []
  | .layoutStoredCommit => docUnits (Map.get [] s.comp.stored (rd p 0 1))
  | _ => []

/-! State codes. -/

def CtxState.code : CtxState → Nat
  | .closed => 0 | .joining => 1 | .active => 2 | .draining => 3

def JoinState.code : JoinState → Nat
  | .idle => 0 | .waitEntry => 1 | .recovering => 2 | .showing => 3

def EncState.code : EncState → Nat
  | .closed => 0 | .starting => 1 | .running => 2 | .draining => 3

def DomState.code : DomState → Nat
  | .off => 0 | .switchingOn => 1 | .on => 2 | .shuttingDown => 3

/-- STATE of an internal source (Table 12-8). -/
def Source.stateCode (x : Source) : Nat := if x.decl.kind = 0 then 0 else if x.verifyFailed then 2 else 1

/-- The group of a window: that of the head that shows it, else of the head it is committed to. -/
def State.windowGroup (s : State) (w : Nat) : Option Nat :=
  match s.groupOf (s.activeWindow w) with
  | some g => some g
  | none => s.groupOf (s.comp.committed.window w)

/-! State pairs (R340, R341). -/

/-- PENDING: a held command or a sealed commit for the unit is outstanding. -/
def State.pendingFor (s : State) (kind unit : Nat) : Bool :=
  (s.izent.mbx.any fun e => match e.2.job with | some j => (s.targets j).contains (kind, unit) | none => false) ||
  (if kind = kCtx then s.comp.reopens.any fun r => r.decl.context == unit
   else if kind = kEnc then s.comp.reEnc.any fun r => r.1.channel == unit
   else if kind = kHead then (List.range 4).any (fun g => (s.grpC g).next.isSome && (s.headsOf g).contains unit) || s.comp.formats.any fun f => f.recs.any fun r => r.head == unit
   else if kind = kWin then
     (match s.windowGroup unit with | some g => (s.grpC g).next.isSome | none => false) || (match s.groupOf (s.comp.committed.window unit) with | some g => (s.grpC g).next.isSome | none => false)
   else false)

/-- A state pair (Table 11-16): unit kind, INTENDED, its ARG, OBSERVED, its ARG. -/
structure Pair where
  kind : Nat
  intended : Bool
  intendedArg : Nat := 0xFF
  observed : Nat
  observedArg : Nat := 0xFF
  deriving DecidableEq, Repr

/-- The pair of a unit. A context's and a channel's two engines are one value, since a swap or a re-placement changes both together (R341). -/
def State.pair (s : State) (kind unit : Nat) : Pair :=
  match kind with
  | 1 => let x := s.ctx unit; { kind := 1, intended := x.intended, intendedArg := x.decoder, observed := x.state.code, observedArg := x.decoder }
  | 2 => let x := s.enc? unit; { kind := 2, intended := x.intended, intendedArg := x.engine, observed := x.state.code, observedArg := x.engine }
  | 3 => { kind := 3, intended := (match (s.head unit).stored with | some r => r.enabled | none => false), observed := s.headState unit }
  | 4 =>
    let want := (s.comp.committed.window unit).head
    let is := (s.activeWindow unit).head
    { kind := 4, intended := want != 255, intendedArg := want, observed := if is = 255 then 0 else 1, observedArg := is }
  | 5 => { kind := 5, intended := unit == 3 || (s.base unit).cfg.source != 0, observed := (s.base unit).state.code }
  | 6 => { kind := 6, intended := (s.dom unit).intended, observed := (s.dom unit).state.code }
  | _ => { kind := 7, intended := (s.src unit).intended, observed := (s.src unit).stateCode }

/-- The pair agrees (Table 11-17). -/
def Pair.agrees (p : Pair) (pending : Bool) : Bool :=
  let o := p.observed
  match p.kind with
  | 1 | 2 => p.intendedArg == p.observedArg && (if p.intended then o == 1 || o == 2 || (o == 3 && pending) else o == 0 || o == 3)
  | 3 => if p.intended then o != 0 else o == 0
  | 4 => if p.intended then pending || (o == 1 && p.observedArg == p.intendedArg) else o == 0
  | 5 => p.intended == (o != 0)
  | 6 => p.intended == (o == 2)
  | _ => p.intended == (o != 0)

/-- The bytes of a unit's pair. -/
def State.pairBytes (s : State) (kind unit : Nat) : Bytes :=
  let p := s.pair kind unit
  let c := s.health.compares.find? fun c => c.kind == kind && c.unit == unit
  let flags := bitsOf [(match c with | some c => c.reportedAt.isSome | none => false), (match c with | some c => c.persistent | none => false), s.pendingFor kind unit]
  [BitVec.ofNat 8 p.kind, if p.intended then 1 else 0] ++ le 1 p.intendedArg ++ le 1 p.observed ++ le 1 p.observedArg ++ le 1 flags ++ le 2 unit ++ le 8 (match c with | some c => c.sinceDt | none => 0)

/-- PAIRS: as LIST, each record after its unit's pair (Table 12-1). -/
def pairsRes (s : State) (c : Call) (kind : Nat) (units : List Nat) (size head : Nat) (before : Bytes) (f : Nat → Bytes) : Res :=
  match listForm c.p units (16 + size) head fun u => s.pairBytes kind u ++ fit size (f u) with
  | .error e => .err s e
  | .ok b => .ok s (before ++ b)

/-! Records. -/

/-- Stream context status (Table 4-8). -/
def State.streamStatus (s : State) (c : Nat) : Bytes :=
  let x := s.ctx c
  let seen (t : Option Time) : Bool := match t with | some a => decide (s.clk ≤ a + 1000 * ms) | none => false
  let sr := match x.report with | some r => decide (s.now < r.arrival + 30 * sec) | none => false
  le 1 c ++ le 1 x.state.code ++ le 1 x.engine ++ le 1 (bitsOf [x.ssrc.isSome, s.compatOf x, seen x.lanA, seen x.lanB, sr]) ++ le 4 (x.ssrc.getD 0) ++ le 8 x.lastArrival ++
  le 4 x.pictures ++ le 4 x.packets ++ le 4 x.lost ++ le 4 x.late ++ le 4 x.dup ++ le 4 x.prpDiscards ++ le 4 x.policed ++ le 4 x.filtered ++ le 4 x.malformed ++ le 4 x.envelopeDrops ++
  le 4 x.lostMarkers ++ le 2 x.wrongLan ++ le 2 x.resyncs

/-- Decode status (Table 5-9). -/
def State.decodeStatus (s : State) (c : Nat) : Bytes :=
  let x := s.ctx c
  le 1 c ++ le 1 x.decoder ++ le 1 x.join.code ++ le 1 (bitsOf [x.seiMode, x.hdrInfo, x.hashPresent, x.fullRange]) ++ le 1 x.profile ++ le 1 x.level ++ le 1 (dpbMax x.decl) ++ le 1 x.pool.length ++
  le 2 x.width ++ le 2 x.height ++ le 1 x.bitDepth ++ (List.range 3).flatMap (fun i => le 1 (x.colour.getD i 2)) ++ le 4 x.picturesOut ++ le 4 x.concealed ++ le 4 x.substitutions ++ le 4 x.syntaxErrors ++
  le 4 x.overruns ++ le 4 x.hashMismatches ++ le 2 x.dpbOverflows ++ le 2 x.seiFaults ++ le 2 x.clampedWrites ++ le 1 x.reorder ++ zeros 1 ++ le 2 x.skipped ++ le 2 x.queueDrops ++ zeros 4

/-- Contexts that decode: all but those whose instance is ST 2110-20 (R162; DEDUCED for closed contexts, log 6). -/
def State.decodeUnits (s : State) : List Nat := (List.range 256).filter fun c => (s.ctx c).state == .closed || (s.ctx c).decl.compressed

/-- Internal source status (Table 12-8). -/
def State.sourceStatus (s : State) (i : Nat) : Bytes :=
  let x := s.src i
  le 1 i ++ le 1 x.decl.kind ++ le 1 x.stateCode ++ zeros 1 ++ le 4 x.alive ++ le 8 (match x.prevTag with | some g => g.complete | none => 0)

/-- Window status (Table 12-10). A window that has latched no picture has no alive sequence and no flags to show: free values (log 5). -/
def State.windowStatus (s : State) (w : Nat) : Bytes :=
  let d := s.activeWindow w
  let x := s.win w
  let hm := if d.head < 16 then (s.head d.head).mask else 0
  let tag : Tag := match x.latched with | some p => p.tag | none => { alive := (Config.free (s.freeCtr + w)).toNat, flags := (Config.free (s.freeCtr + w)).toNat / 4294967296 }
  let run := if x.run > 255 then 255 else x.run
  le 2 w ++ le 1 d.head ++ le 1 (topReason (hm + x.active)) ++ le 2 ((hm + x.active) % 8192) ++ le 1 (bitsOf [x.latched.isSome, d.kind == 2, x.offLast, x.lanternLatched]) ++ le 1 run ++
  le 8 (x.frame % 281474976710656) ++ le 4 x.ageUs ++ le 4 x.freezeMs ++ le 4 tag.alive ++ le 2 tag.flags ++ le 2 x.concealed

/-- The number that a head gave to its current frame. -/
def State.currentFrame (s : State) (h : Nat) : Nat := (s.head h).nextFrame - 1

/-- Head status (Table 7-5). -/
def State.headStatus (s : State) (h : Nat) : Bytes :=
  let x := s.head h
  let g := (x.timing.map TimingRec.sg).map s.gen
  let (n, rate) := x.link.getD (0, 0)
  let ssc := match x.timing, x.sink with | some r, some k => bit r.flags 2 && k.2.2 | _, _ => false
  let st := if x.own.isSome || x.realigned.isSome then 3 else match g with | some y => y.state.code | none => 0
  let e := match g, x.timing with
    | some y, some r => if r.mode = 3 then x.e else if y.state = .free then 0 else y.e
    | _, _ => 0
  le 1 h ++ le 1 (s.headState h) ++ le 1 st ++ le 1 (bitsOf [(match g with | some y => y.atLimit | none => false), x.hpd, ssc && x.link.isSome, x.fallback, x.panic]) ++ le 1 (topReason x.mask) ++
  le 1 n ++ le 1 rate ++ zeros 1 ++ le 8 (s.currentFrame h) ++ le 8 x.tf ++ leS 4 e ++ zeros 4 ++ le 8 x.lp ++
  le 8 (x.disc.getD 0xFFFFFFFFFFFF) ++ le 4 x.underrunFrames ++ le 4 x.panics ++ le 2 x.trainings ++ le 2 x.linkLosses ++ le 2 (match g with | some y => y.spurious | none => 0) ++ zeros 2

/-- Safety windows that meet head `h`. -/
def State.safetyOf (s : State) (h : Nat) : List WindowDesc :=
  match (s.head h).timing with
  | some r => if s.headOn h then s.safetyOn r h else []
  | none => []

/-- Lantern status (Table 8-6). LOAD is that of the committed layout, in kpixel/s rounded up. -/
def State.lanternStatus (s : State) (h : Nat) : Bytes :=
  let x := s.head h
  let ws := s.safetyOf h
  let fault := s.comp.selftestFail || s.comp.domainLost || ws.any fun d => (s.win d.window).lanternLatched
  let load := let x := s.plan.byGroup Plan.lanternLoad; cdiv x.num (1000 * x.den)
  le 1 h ++ le 1 (if fault then 2 else if ws.isEmpty then 0 else 1) ++ le 1 ws.length ++ le 1 (bitsOf [s.comp.selftestFail, x.late, s.comp.domainLost, s.safeCauses != 0]) ++ le 4 (sat 4 load) ++
  le 8 (x.lastCompared.getD 0) ++ le 4 x.framesCompared ++ le 4 x.tilesCompared ++ le 4 x.mismatchTiles ++ le 4 x.decisionMismatches ++ le 4 x.skippedTiles ++ le 2 x.lateFrames ++ le 2 x.latches ++
  le 8 (x.lastMismatch.getD 0xFFFFFFFFFFFF)

/-- Encode channel status (Table 9-5). -/
def State.encodeStatus (s : State) (c : Nat) : Bytes :=
  let x := s.enc? c
  le 1 c ++ le 1 x.state.code ++ le 1 x.engine ++ le 1 (bitsOf [x.atLimit]) ++ le 1 x.raise ++ le 1 x.level ++ le 1 x.tier ++ [0] ++
  le 4 x.pictures ++ le 4 x.clipped ++ le 4 x.recoded ++ le 4 x.drops ++ le 2 x.ringDrops ++ le 2 x.txDrops ++ le 4 x.lastBits

/-- Time base status (Table 3-7). -/
def State.baseStatus (s : State) (b : Nat) : Bytes :=
  let x := s.base b
  let follows := s.time.state == .following b
  let chosen := s.time.state != .free && s.time.base == b
  let port : PtpPort := Map.get {} x.ports x.activePort
  le 1 b ++ le 1 x.state.code ++ le 2 (bitsOf [chosen, follows, follows && (s.dB b).natAbs > 50, x.utcValid, s.time.unset, x.disagree]) ++ le 4 (s.uB b s.now) ++ le 8 x.anchor ++
  leS 8 (x.accepted.headD 0) ++ leS 4 x.freq ++ leS 2 x.utcSeen ++ le 2 x.ignored ++ le 8 x.gm ++ leS 4 port.delay ++ le 1 x.activePort ++ zeros 3 ++ leS 8 (s.dB b)

/-- Power domain status (Table 12-25). -/
def State.domainStatus (s : State) (d : Nat) : Bytes :=
  let x := s.dom d
  le 1 d ++ le 1 x.state.code ++ le 1 (bitsOf [x.atLimit]) ++ zeros 1 ++ le 2 x.mv ++ zeros 2

/-- Lane record (Table 12-17). -/
def State.laneStatus (s : State) (k : Nat) : Bytes :=
  let x := s.lane k
  le 1 k ++ le 1 x.state.code ++ le 1 x.cfg.rate ++ le 1 x.cfg.fec ++ le 1 (bitsOf [x.present, x.los, x.txFault, x.lpiRx, x.lpiTx]) ++ zeros 1 ++ le 1 (if x.state = .noSignal then 0 else x.eyeWidth) ++ le 1 (if x.state = .noSignal then 0 else x.eyeHeight) ++
  le 4 x.fcsErrors ++ le 4 x.fecCorrected ++ le 4 x.fecUncorrected ++ le 4 x.rxFrames ++ le 4 x.txFrames ++ le 4 x.linkDowns

end Sys2Proof.Machine
end

