-- ==== Sys2Proof/Machine/Scan.lean ====
section
/-! DEFINITION. The DRAM address hash, the host unit of the scan engine, and the diagnostics commands (R372, R373, R376–R379, R497–R499). -/

namespace Sys2Proof.Machine

/-! The address hash (R376–R379). -/

/-- XOR of address bits. -/
def xorBits (a : Nat) (is : List Nat) : Bool := is.foldl (fun (x : Bool) i => x != bit a i) false

/-- Address bits whose XOR is channel bit `k` under a named profile (Table 13-3). -/
def channelBits (profile k : Nat) : List Nat :=
  match profile with
  | 1 => [8 + k, 19 + k, 27 + k]
  | 3 => [8 + k, 19 + k, 23 + k, 27 + k, 31 + k]
  | _ => [8 + k]

/-- Address bits whose XOR is bank bit `k` under a named profile (Table 13-3). -/
def bankBits (profile k : Nat) : List Nat :=
  match profile with
  | 1 => [12 + k, 23 + k, 31 + k]
  | 2 => [12 + k, 19 + k, 23 + k, 27 + k, 31 + k]
  | _ => [12 + k]

/-- Bits of a mask within A[34:0]. -/
def maskBits (m : Nat) : List Nat := (List.range 35).filter fun i => bit m i

/-- The channel that serves a DRAM address (R377). -/
def HashProfile.channel (p : HashProfile) (a : Nat) : Nat :=
  bitsOf ((List.range 4).map fun k => xorBits a (if p.profile = 4 then maskBits (p.masks.getD k 0) else channelBits p.profile k))

/-- The bank that serves a DRAM address (R377). -/
def HashProfile.bank (p : HashProfile) (a : Nat) : Nat :=
  bitsOf ((List.range 4).map fun k => xorBits a (if p.profile = 4 then maskBits (p.masks.getD (4 + k) 0) else bankBits p.profile k))

/-- Row of a DRAM address (Table 13-2). -/
def dramRow (a : Nat) : Nat := a / 524288 % 65536

/-- A custom mask meets R378: number `k`, 0–3 for the channel, 4–7 for the bank. -/
def maskOk (k m : Nat) : Bool := m < 2 ^ 35 && m % 256 = 0 && m / 256 % 256 = 2 ^ k

/-! DRAM contents. -/

/-- The byte at a DRAM address, if anything has been written there (log 27). -/
def Dram.byte? (d : Dram) (a : Nat) : Option Byte := (d.mem.find? fun c => c.1 == a).map fun c => c.2

/-- `n` bytes, if all have been written. -/
def Dram.bytes? (d : Dram) (a n : Nat) : Option Bytes := if d.mem.length < n then none else (List.range n).mapM fun i => d.byte? (a + i)

/-! The host unit (R498, R499). -/

/-- The head of the queue starts unless shedding holds new jobs back (R498, R501). -/
def State.startScan (s : State) : State :=
  let h := s.health
  match h.jobs with
  | [] => s
  | j :: _ =>
    if h.scanBusy || h.bgSuspended then s
    else
      let results := match Map.get? h.results j.id with
        | some r => if r.submitted = j.submitted then Map.set h.results j.id { r with state := 2 } else h.results
        | none => h.results
      { s with health := { h with scanBusy := true, results := results } }

/-- The scan engine's doors refuse a read of the range at PL2 (R441, R498). -/
def State.scanRefused (s : State) (j : ScanJob) : Bool :=
  (granules j.start j.length).any fun a => !(doorAllows (s.rulesOf 0x24) 2 0 a && doorAllows (s.rulesOf 0x40) 2 0 a)

/-- SCAN_JOB_DONE (R498, R499): the running job ends with its CRC, or in STATE 4. `refused` says that a read met an uncorrectable error. -/
def execScanJobDone (t : Time) (refused : Bool) (s : State) : Host.Outcome State Fault Refusal :=
  run t s fun s =>
    match s.health.jobs with
    | [] => s
    | j :: rest =>
      if !s.health.scanBusy then s
      else
        let bad := refused || s.scanRefused j
        let data := s.dram.bytes? j.start j.length
        let crc := if bad then 0 else match data with | some b => crc32c b | none => s.fresh.toNat % 4294967296
        let s := if bad || data.isSome then s else s.useFree
        let alive := (s.health.resultAlive + 1) % 4294967296
        let results := match Map.get? s.health.results j.id with
          | some r => if r.submitted = j.submitted then Map.set s.health.results j.id { r with state := if bad then 4 else 3, alive := alive, crc := crc, doneTime := s.now } else s.health.results
          | none => s.health.results
        ({ s with health := { s.health with jobs := rest, scanBusy := false, resultAlive := alive, results := results } }).startScan

/-! Commands. -/

/-- SCAN_SUBMIT (R372, R373, R498): the job joins the queue of 16, and takes over the entry of its JOB_ID. -/
def bodyScanSubmit : Body := fun c s =>
  let h := s.health
  if rd c.p 8 8 ≥ 2 ^ 35 then .err s (badArg 11 8)
  else if h.jobs.length ≥ 16 then .err s { status := stBusy, holder := 255, wait := match h.jobs.head? with | some j => cdiv j.length 400 + 50 | none => 0 }
  else
    let j : ScanJob := { id := rd c.p 0 2, start := rd c.p 8 8, length := rd c.p 4 4, submitted := h.submissions }
    let s := ({ s with health := { h with jobs := h.jobs ++ [j], submissions := h.submissions + 1, results := Map.set h.results j.id { submitted := j.submitted, state := 1 } } }).startScan
    .ok s (le 1 s.health.jobs.length ++ zeros 3)

/-- SCAN_SUBMIT (R498). -/
def execScanSubmit (t : Time) (mb : Nat) (m : Msg) (s : State) : Host.Outcome State Fault Refusal := command .scanSubmit bodyScanSubmit t mb m s

def bodyScanResult : Body := fun c s =>
  let id := rd c.p 0 2
  let r : ScanResult := Map.get { submitted := 0, state := 0 } s.health.results id
  .ok s (le 2 id ++ le 1 r.state ++ zeros 1 ++ le 4 r.alive ++ le 4 r.crc ++ zeros 4 ++ le 8 r.doneTime)

/-- SCAN_RESULT (R499). -/
def execScanResult (t : Time) (mb : Nat) (m : Msg) (s : State) : Host.Outcome State Fault Refusal := command .scanResult bodyScanResult t mb m s

/-- DRAM_HASH_SET (R372, R373, R377, R378): stored for the next cold start. -/
def bodyDramHashSet : Body := fun c s =>
  let prof := rd c.p 0 1
  let masks := (List.range 8).map fun k => rd c.p (8 + 8 * k) 8
  match (if prof = 4 then (List.range 8).find? fun k => !maskOk k (masks.getD k 0) else none) with
  | some k => .err s (badArg 11 (8 + 8 * k))
  | none => .ok { s with dram := { s.dram with hashStored := { profile := prof, masks := if prof = 4 then masks else [] } } } []

/-- DRAM_HASH_SET (R377). -/
def execDramHashSet (t : Time) (mb : Nat) (m : Msg) (s : State) : Host.Outcome State Fault Refusal := command .dramHashSet bodyDramHashSet t mb m s

end Sys2Proof.Machine
end

