-- ==== Sys2Proof/Machine/Memory.lean ====
section
/-! DEFINITION. The DRAM contents: canonical form, writes (R374, R375). -/

namespace Sys2Proof.Machine

/-- Addresses rise strictly from `lo` on and lie in the 35-bit space. -/
def memRises : Nat → List Host.Cell → Bool
  | _, [] => true
  | lo, c :: m => lo ≤ c.1 && c.1 < 2 ^ 35 && memRises (c.1 + 1) m

/-- The canonical form of the DRAM contents: a byte not listed has no value, so no entry is superfluous (log 27). -/
def Memory.wf (m : List Host.Cell) : Bool := memRises 0 m

/-- The contents after a write of one byte. -/
def memPut : List Host.Cell → Nat → Byte → List Host.Cell
  | [], a, b => [(a, b)]
  | c :: m, a, b => if a < c.1 then (a, b) :: c :: m else if a = c.1 then (a, b) :: m else c :: memPut m a b

/-- Write bytes from an address on; what lies outside the DRAM is not written. -/
def Dram.write (d : Dram) (a : Nat) (bs : Bytes) : Dram :=
  { d with mem := bs.zipIdx.foldl (fun m e => if a + e.2 < 2 ^ 35 then memPut m (a + e.2) e.1 else m) d.mem }

end Sys2Proof.Machine
end

