-- ==== Sys2Proof/Machine/Arbiter.lean ====
section
/-! DEFINITION. The DRAM controller: queues, arbitration, slots, refresh, training, error correction, scrubbing and repair (R380–R402). Its grants stand in Grants.lean. -/

namespace Sys2Proof.Machine

def Dram.chan (d : Dram) (c : Nat) : Channel := Map.get {} d.channels c
def State.channel (s : State) (c : Nat) : Channel := s.dram.chan c
def State.setChannel (s : State) (c : Nat) (x : Channel) : State := { s with dram := { s.dram with channels := Map.set s.dram.channels c x } }

/-! Requesters (R383). -/

/-- High-priority requesters (Table 13-5). -/
def highPriority (r : Nat) : Bool := r ≤ 17 || r = 30 || r = 31

/-- Privilege level of a requester's transfers (Table 16-2); a Spire core issues PL0 or PL1. -/
def levelOf (a : Arrival) : Nat :=
  if a.requester = 30 || a.requester = 31 then min 1 a.level
  else if 24 ≤ a.requester && a.requester ≤ 27 then 1
  else if 32 ≤ a.requester && a.requester ≤ 35 then 1
  else if a.requester = 38 then 3
  else 2

/-- Access kind of a transfer: 0 read, 1 write. -/
def accessOf (a : Arrival) : Nat := if a.write then 1 else 0

/-! Queues and ready transfers (R380–R382). -/

/-- The bank of a transfer. -/
def Dram.bankOf (d : Dram) (x : Transfer) : Nat := d.hash.bank x.op.address
/-- The row of a transfer. -/
def Transfer.row (x : Transfer) : Nat := dramRow x.op.address

/-- The bank queue takes a transfer: 32 entries, 8 of one requester (R380). -/
def Dram.fits (d : Dram) (c : Channel) (x : Transfer) : Bool :=
  let q := c.queue.filter fun y => d.bankOf y == d.bankOf x
  q.length < 32 && (q.filter fun y => y.op.requester == x.op.requester).length < 8

/-- No older transfer of its requester to its 64-byte block is queued (R382). -/
def firstOfBlock : List Transfer → List Transfer → List Transfer
  | _, [] => []
  | seen, x :: q =>
    let older := seen.any fun y => y.op.requester == x.op.requester && y.op.address / 64 == x.op.address / 64
    if older then firstOfBlock (x :: seen) q else x :: firstOfBlock (x :: seen) q

/-- A transfer goes to the row that its bank has open. -/
def Dram.hits (d : Dram) (c : Channel) (x : Transfer) : Bool := Map.get? c.openRow (d.bankOf x) == some x.row

/-- The bank has given its 16 consecutive transfers to the open row while another row waits (R381). -/
def Dram.worn (d : Dram) (c : Channel) (b : Nat) : Bool :=
  Map.get 0 c.rowRun b ≥ 16 && c.queue.any fun y => d.bankOf y == b && !d.hits c y

/-- The transfers that the channel can start now, oldest first (R381); `blocked` are the banks that timing or a refresh holds. -/
def Dram.ready (d : Dram) (c : Channel) (blocked : List Nat) : List Transfer :=
  let q := (firstOfBlock [] c.queue).filter fun x => !blocked.contains (d.bankOf x)
  let hit := q.filter fun x => d.hits c x && !d.worn c (d.bankOf x)
  q.filter fun x =>
    if d.hits c x then !d.worn c (d.bankOf x)
    else !hit.any fun y => d.bankOf y == d.bankOf x

/-- Requesters with a ready transfer, in increasing index. -/
def requesters (q : List Transfer) : List Nat := sortBy id (dedup (q.map fun x => x.op.requester))

/-! The lottery (R386). -/

/-- Seed of the LFSR of channel `c`. -/
def lfsrSeed (c : Nat) : Nat := 0x9E37 ^^^ (c * 0x0101)

/-- One step of the LFSR. -/
def lfsrStep (x : Nat) : Nat := x / 2 + (if (bit x 0 != bit x 2) != (bit x 3 != bit x 5) then 32768 else 0)

/-- The first requester whose running ticket sum exceeds `r`. -/
def drawn (tickets : Map Nat) (r : Nat) : Nat → List Nat → Option Nat
  | _, [] => none
  | run, i :: is => if run + Map.get 1 tickets i > r then some i else drawn tickets r (run + Map.get 1 tickets i) is

/-- The requester whose oldest ready transfer has waited longest, ties to the lower index (R385). -/
def longestWaiter (q : List Transfer) : Option Nat :=
  (requesters q).foldl (fun (best : Option (Nat × Time)) r =>
    match (q.filter fun x => x.op.requester == r).map Transfer.since with
    | [] => best
    | t :: ts =>
      let w := ts.foldl min t
      match best with
      | some (_, v) => if w < v then some (r, w) else best
      | none => some (r, w)) none |>.map (·.1)

/-- A draw among eligible requesters: the LFSR's new value and the winner; without tickets the longest waiter. -/
def draw (c : Nat) (x : Channel) (tickets : Map Nat) (q : List Transfer) (who : List Nat) : Nat × Option Nat :=
  let l := lfsrStep (x.lfsr.getD (lfsrSeed c))
  let total := sumL (who.map fun i => Map.get 1 tickets i)
  (l, if total = 0 then longestWaiter (q.filter fun y => who.contains y.op.requester) else drawn tickets (l * total / 65536) 0 who)

/-! Slots (R389, R390). -/

/-- Number of the 12 ns slot at an instant, counted since the wraps began; the slot of the table is its rest modulo 64 (log 27). -/
def slotAt (t : Time) : Nat := t / 12

/-- The owner of slot number `n`; S63 has none. -/
def Channel.owner (x : Channel) (n : Nat) : Option Nat := if n % 64 = 63 then none else Map.get? x.owners (n % 64)

/-- Owners of the slots that ended since the last grant instant without their grant, though a transfer of theirs was queued at its start, carry one slot (R390). -/
def Channel.carry (x : Channel) (now : Nat) : Channel :=
  let ended := (List.range (min 64 (now - x.slotSeen))).map fun i => now - 1 - i
  let late := ended.filterMap fun n => match x.owner n with
    | some r => if x.servedSlot != some n && x.queue.any (fun y => y.op.requester == r && y.since ≤ 12 * n) then some r else none
    | none => none
  { x with carried := dedup (x.carried ++ late), slotSeen := max x.slotSeen now }

/-- What picked a requester (R385). -/
inductive GrantStep where
  | slot | carried | waiter | lottery
  deriving DecidableEq, Repr

/-- Head fetch ports that panic (R393). -/
def State.panicking (s : State) (r : Nat) : Bool := r < 16 && (s.head r).panic

/-- High-priority requesters are masked for the rest of the quota window (R387). -/
def Channel.masked (x : Channel) : Bool := x.high ≥ 192

/-- The requester that channel `c` picks at a grant instant, and the channel after the draw (R385). -/
def State.pick (s : State) (c : Nat) (x : Channel) (q : List Transfer) : Channel × Option (Nat × GrantStep) :=
  let rs := requesters q
  let now := slotAt s.clk
  let own := match x.owner now with | some r => if rs.contains r && x.servedSlot != some now then some r else none | none => none
  let lot (who : List Nat) : Channel × Option (Nat × GrantStep) :=
    let (l, w) := draw c x s.dram.tickets q who
    ({ x with lfsr := some l }, w.map fun r => (r, .lottery))
  match x.carried.find? rs.contains, own with
  | some r, _ => (x, some (r, .carried))
  | none, some r => (x, some (r, .slot))
  | none, none =>
    if x.sinceWaiter ≥ 7 then (x, (longestWaiter q).map fun r => (r, .waiter))
    else if rs.any s.panicking then lot (rs.filter s.panicking)
    else if !x.masked && rs.any highPriority then lot (rs.filter highPriority)
    else if rs.isEmpty then (x, none)
    else lot rs

/-- The counts of a grant: those of step 1 count toward neither N nor the quota (R385, R387). -/
def Channel.counted (x : Channel) (now r : Nat) (p : GrantStep) : Channel :=
  match p with
  | .slot => { x with servedSlot := some now }
  | .carried => { x with carried := x.carried.erase r }
  | _ =>
    let n := x.window + 1
    let h := x.high + (if highPriority r then 1 else 0)
    let x := { x with sinceWaiter := if p == GrantStep.waiter then 0 else x.sinceWaiter + 1 }
    if n ≥ 256 then { x with window := 0, high := 0 } else { x with window := n, high := h }

/-- The transfer of requester `r` that the channel starts: its oldest to an open row, else the first bank in rotating order (R381). -/
def Dram.chosen (d : Dram) (x : Channel) (q : List Transfer) (r : Nat) : Option Transfer :=
  let mine := q.filter fun y => y.op.requester == r
  match mine.find? (d.hits x) with
  | some y => some y
  | none => ((List.range 16).map fun i => (x.lastActivate + 1 + i) % 16).findSome? fun b => mine.find? fun y => d.bankOf y == b

/-- The channel after it has started a transfer. -/
def Dram.start (d : Dram) (x : Channel) (y : Transfer) : Channel :=
  let b := d.bankOf y
  let x := { x with queue := x.queue.erase y }
  if d.hits x y then { x with rowRun := Map.upd 0 x.rowRun b (· + 1) }
  else { x with openRow := Map.set x.openRow b y.row, rowRun := Map.set x.rowRun b 1, lastActivate := b }

/-! Repair (R402). -/

/-- A row is out of use or waits for its repair. -/
def Dram.handled (d : Dram) (r : RowId) : Bool := d.marked.contains r || d.remapped.contains r || d.retired.contains r.row

/-- A marked row is repaired by the first means that is left: its bank's post-package repair, done at the next start-up; a spare row at once; else its block is retired. -/
def State.markRow (s : State) (r : RowId) : State :=
  let d := s.dram
  let spent := d.repaired.contains (r.channel, r.bank) || d.marked.any fun x => x.channel == r.channel && x.bank == r.bank
  if d.handled r then s
  else if !spent then { s with dram := { d with marked := d.marked ++ [r] } }
  else if (d.remapped.filter fun x => x.channel == r.channel && x.bank == r.bank).length < 64 then
    ({ s with dram := { d with remapped := d.remapped ++ [r] } }).record evDramRowRemapped [p2 r.channel, p2 r.bank, p2 r.row]
  else ({ s with dram := { d with retired := d.retired ++ [r.row] } }).record evDramBlockRetired [p2 r.row]

/-- The row of an address. -/
def Dram.rowId (d : Dram) (a : Nat) : RowId := { channel := d.hash.channel a, bank := d.hash.bank a, row := dramRow a }

/-! Error correction (R398, R399). -/

/-- The regions with inline SECDED (Table 13-1). -/
def protected_ (a : Nat) : Bool := 0x700000000 ≤ a && a < 0x7E0000000

/-- Every block of a concealment map (R28, Table 13-7). -/
def fullMap (w h : Nat) : List Nat := (List.range (cdiv h 64)).flatMap fun y => (List.range (cdiv w 64)).map fun x => 64 * y + x

/-- A picture whose concealment map cannot be read. -/
def Picture.unmapped (p : Picture) (c slot : Nat) : Picture := if p.tag.source = c && p.tag.slot = slot then { p with map := fullMap p.width p.height } else p

/-- What follows an uncorrectable error, by what the word held for (Table 13-7). Firmware and configuration records are restored from their second copies. -/
def State.eccAction (s : State) (u : TransferUse) : State :=
  match u with
  | .config true => s.loadSafety
  | .headTag w => s.setWin w { s.win w with badTag := true }
  | .lanternTag w => let h := (s.activeWindow w).head; s.lanternMismatch s.comp.assigns w h (s.frameOf h) 0 0 0 0 0
  | .concealMap c slot =>
    let s := { s with comp := { s.comp with wins := Map.mapV (fun _ (w : Win) => { w with latched := w.latched.map fun (p : Picture) => p.unmapped c slot }) s.comp.wins } }
    if c < 256 then s.setCtx c { s.ctx c with complete := (s.ctx c).complete.map fun (e : Time × Picture) => (e.1, e.2.unmapped c slot) } else s.setSrc (c - 256) { s.src (c - 256) with complete := (s.src (c - 256)).complete.map fun (e : Time × Picture) => (e.1, e.2.unmapped c slot) }
  | .tileRecord h f i => { s with dram := { s.dram with badTiles := if s.dram.badTiles.contains (h, f, i) then s.dram.badTiles else s.dram.badTiles ++ [(h, f, i)] } }
  | .firmware | .config false | .pixels _ | .decode _ _ _ | .encode _ | .packet _ _ | .samples _ _ _ | .other => s

/-- A single-bit error of a row is corrected (R398). -/
def State.corrected (s : State) (a : Nat) : State := s.recordLimited evEccCorrected (s.dram.hash.channel a) [p8 a, p2 (dramRow a)]

/-- An uncorrectable error: recorded, and its row marked (R399, R402). -/
def State.uncorrectable (s : State) (a : Nat) : State := (s.record evEccUncorrectable [p8 a]).markRow (s.dram.rowId a)

/-- Transfers held back at the fabric join their bank queues as far as these take them, in the order of their issue (R380). -/
def Dram.takeIn (d : Dram) (x : Channel) : Channel :=
  x.held.foldl (fun (x : Channel) y => if d.fits x y then { x with queue := x.queue ++ [y] } else { x with held := x.held ++ [y] }) { x with held := [] }

/-! Slot tables (R392). -/

/-- Slots of one requester, rising, are at most `d` apart from the slot `last` on; `first` is the first of the next table, 64 slots on (R391). -/
def slotsNear (d first : Nat) : Nat → List Nat → Bool
  | last, [] => first + 64 ≤ last + d
  | last, k :: l => k ≤ last + d && slotsNear d first k l

/-- The owned slots of a requester are spread as R391 says: at most ⌈63 / s⌉ + 1 apart. -/
def slotsSpread (s : Nat) (l : List Nat) : Bool := match sortBy id l with
  | [] => true
  | a :: rest => slotsNear (cdiv 63 s + 1) a a rest

/-- `s` of the free slots, as evenly spaced as they are. -/
def evenSlots (free : List Nat) (s : Nat) : List Nat :=
  (List.range s).foldl (fun got i =>
    match ((List.range 63).map fun k => (63 * i / s + k) % 63).find? fun k => free.contains k && !got.contains k with
    | some k => got ++ [k]
    | none => got) []

/-- From slot `at_` on, always the last free slot within `d`, until the table's first slot `o` comes within `d`. -/
def slotJumps (free : List Nat) (d o : Nat) : Nat → Nat → List Nat
  | 0, _ => []
  | n + 1, at_ => if o + 64 ≤ at_ + d then [] else match (free.filter fun k => at_ < k && k ≤ at_ + d).getLast? with
    | some k => k :: slotJumps free d o n k
    | none => []

/-- The `s` slots that a requester takes of the free ones, rising in number: evenly spaced ones, or others, where R391's distance asks for it. Which of the free ones the manual leaves open (DESIGN CHOICE, log 27). -/
def takeSlots (free : List Nat) (s : Nat) : List Nat :=
  let even := evenSlots free s
  if slotsSpread s even then even
  else match (free.map fun o => o :: slotJumps free (cdiv 63 s + 1) o 63 o).find? fun l => l.length ≤ s && slotsSpread s l with
    | some l => l ++ (free.filter fun k => !l.contains k).take (s - l.length)
    | none => even

/-- A port takes its slots of a table. -/
def placeSlots (owners : Map Nat) (e : Nat × Nat) : Map Nat :=
  (takeSlots ((List.range 63).filter fun k => (Map.get? owners k).isNone) e.2).foldl (fun m k => Map.set m k e.1) owners

/-- The ports of a group, with Lantern's and the tag port (R392). -/
def State.groupPorts (s : State) (g : Nat) : List Nat := (allHeads.filter fun h => match (s.head h).timing with | some r => r.sg == g | none => false) ++ [16, 17]

/-- A shadow takes effect: only the slots of its group's ports, of Lantern and of the tag port change; the port with most slots takes them first. -/
def State.takeShadow (s : State) (x : Channel) (d : SlotShadow) : Channel :=
  let ports := s.groupPorts d.group
  let keep := x.owners.filter fun e => !ports.contains e.2
  let lantern := Map.set x.lantern d.group d.lantern
  let need := ports.map fun r => (r, if r = 16 then slotsFor (Frac.sum (lantern.map (·.2))) else Map.get 0 d.need r)
  { x with owners := (sortBy (fun e => 63 - e.2) need).foldl placeSlots keep, lantern := lantern }

/-- SLOT_TABLE_WRAP (R392): the shadows whose flip frame has latched take effect in this channel, in the order of their writing. -/
def execSlotTableWrap (t : Time) (c : Nat) (s : State) : Host.Outcome State Fault Refusal :=
  runIf (c < 16) t s fun s =>
    let due (d : SlotShadow) : Bool := !d.taken.contains c && match d.latchedAt with | some x => decide (x ≤ s.clk) | none => false
    if !s.domOn 2 then s
    else
      let x := (s.dram.shadows.filter due).foldl s.takeShadow ((s.channel c).carry (slotAt s.clk))
      let shadows := (s.dram.shadows.map fun (d : SlotShadow) => if due d then { d with taken := d.taken ++ [c] } else d).filter fun d => d.taken.length < 16
      let s := s.setChannel c x
      { s with dram := { s.dram with shadows := shadows } }

/-! Refresh and training (R396, R397). -/

/-- Refreshes that JESD209-5C lets a bank postpone or pull in (PRESUMED 8, log 27). -/
def refreshSlack : Int := 8

/-- DRAM_REFRESH (R396): a bank's refresh falls due. Without queued transfers it is refreshed, ahead of time as far as allowed; with some, or in a panic, it is postponed as far as allowed. A refresh closes the bank. -/
def execDramRefresh (t : Time) (c bank : Nat) (busy : Bool) (s : State) : Host.Outcome State Fault Refusal :=
  runIf (c < 16 && bank < 16) t s fun s =>
    let x := s.channel c
    let panic := allHeads.any s.panicking
    let queued := busy || x.queue.any fun y => s.dram.bankOf y == bank
    let n := Map.get 0 x.refresh bank
    let refreshed (n : Int) : State := s.setChannel c { x with refresh := Map.set x.refresh bank n, openRow := Map.del x.openRow bank, rowRun := Map.del x.rowRun bank }
    if !s.domOn 2 then s
    else if n < refreshSlack && (queued || panic) then s.setChannel c { x with refresh := Map.set x.refresh bank (n + 1) }
    else if queued || panic then refreshed n
    else if -refreshSlack < n then refreshed (n - 1)
    else s.setChannel c { x with refresh := Map.set x.refresh bank (n + 1) }

/-- DRAM_RETRAIN (R397): every 100 ms, or after a change of 5 °C since the last training; on a failure the earlier values stay until the next period. -/
def execDramRetrain (t : Time) (c : Nat) (temp : Int) (ok : Bool) (s : State) : Host.Outcome State Fault Refusal :=
  runIf (c < 16) t s fun s =>
    let x := s.channel c
    if !s.domOn 2 || (s.clk < x.trainedAt + 100 * ms && ((temp - x.trainTemp).natAbs < 50 || x.trainFailed)) then s
    else if ok then s.setChannel c { x with trainedAt := s.clk, trainTemp := temp, trainFailed := false }
    else (s.setChannel c { x with trainedAt := s.clk, trainFailed := true }).record evDramTrainFail [p2 c]

/-! Scrubbing (R401, R402). -/

/-- A correctable error seen by the scrubber counts for its row; the third pass within 24 h that sees one marks the row. -/
def State.rowError (s : State) (a : Nat) : State :=
  let d := s.dram
  let r := d.rowId a
  let old : List (Nat × Time) := match d.errors.find? fun e => e.row == r with | some e => e.passes | none => []
  let recent := old.filter fun e => s.clk < e.2 + 86400 * sec && e.1 != d.scrubPass
  let passes := (d.scrubPass, s.clk) :: recent
  let s := { s with dram := { d with errors := { row := r, passes := passes } :: d.errors.filter fun e => e.row != r } }
  if passes.length ≥ 3 then s.markRow r else s

/-- The scrubbed range: the protected regions and the check bytes. -/
def scrubFrom : Nat := 0x700000000
def scrubTo : Nat := 0x7FC000000

/-- DRAM_SCRUB (R401, R402): the next blocks are read; single-bit errors are corrected. -/
def execDramScrub (t : Time) (found : ScrubFinding) (s : State) : Host.Outcome State Fault Refusal :=
  run t s fun s =>
    if !s.domOn 2 || s.health.bgSuspended then s
    else
      let s := found.errors.foldl (fun s e =>
        if !(scrubFrom ≤ e.1 && e.1 < scrubTo) then s
        else if e.2 then s.uncorrectable e.1
        else (s.corrected e.1).rowError e.1) s
      let d := s.dram
      let at_ := d.scrubAt + 64 * found.blocks
      { s with dram := if at_ < scrubTo then { d with scrubAt := at_ } else { d with scrubAt := scrubFrom, scrubPass := d.scrubPass + 1 } }

end Sys2Proof.Machine
end

