-- ==== Sys2Proof/Machine/CmdStream.lean ====
section
/-! DEFINITION. The stream and internal-source commands (R352, R353). -/

namespace Sys2Proof.Machine

/-- An admitted command of its own, not of a layout: the verdict, then its effect on accept. -/
def State.admitted (s : State) (p : Plan) (effect : State → Plan → State) : Res :=
  let v := p.verdict false
  let b := v.bytes (s.evalUs v) 0
  let s := s.useFree
  match v.result with
  | .error _ => .refused s b
  | .ok adm => .ok ((effect s adm).sealOpen adm s.comp.committed) b

/-- STREAM_OPEN (R95–R99, R353): admitted, then the context enters JOINING. A context that a sealed commit still has to open counts as open (DESIGN CHOICE, log 34). -/
def bodyStreamOpen : Body := fun c s =>
  match streamX c.p with
  | some o => .err s (badArg 11 o)
  | none =>
    let d := streamOf c.p
    let ps := sub c.p 100 (rd c.p 96 2)
    if s.ctxOpen d.context || s.comp.reopens.any (fun r => r.decl.context == d.context) then .err s (badArg 11 0)
    else
      let b := s.plan
      s.admitted { b with ctx := b.ctx ++ [{ decl := d }] } fun s adm =>
        match adm.ctx.find? fun u => u.live && u.decl == d with
        | some u => s.openCtx d ps u.engine u.decoder (List.replicate (adm.slots d) {}) (hbAssign s.comp.committed d.context [])
        | none => s

/-- STREAM_OPEN (R353). -/
def execStreamOpen (t : Time) (mb : Nat) (m : Msg) (s : State) : Host.Outcome State Fault Refusal := command .streamOpen bodyStreamOpen t mb m s

/-- STREAM_CLOSE (R97, R338). -/
def bodyStreamClose : Body := fun c s => .ok (s.drainCtx (rd c.p 0 1)) []

/-- STREAM_CLOSE (R97). -/
def execStreamClose (t : Time) (mb : Nat) (m : Msg) (s : State) : Host.Outcome State Fault Refusal := command .streamClose bodyStreamClose t mb m s

def bodyStreamStatus : Body := fun c s => pairsRes s c kCtx (List.range 256) 64 0 [] s.streamStatus

/-- STREAM_STATUS (R126). -/
def execStreamStatus (t : Time) (mb : Nat) (m : Msg) (s : State) : Host.Outcome State Fault Refusal := command .streamStatus bodyStreamStatus t mb m s

def bodyDecodeStatus : Body := fun c s => pairsRes s c kCtx s.decodeUnits 56 0 [] s.decodeStatus

/-- DECODE_STATUS (R162). -/
def execDecodeStatus (t : Time) (mb : Nat) (m : Msg) (s : State) : Host.Outcome State Fault Refusal := command .decodeStatus bodyDecodeStatus t mb m s

/-- Samples of a still image in raster order, as its three planes (R353). -/
def stillPlanes (d : SourceRec) (b : Bytes) : List (List Nat) :=
  let n := if d.bitDepth = 8 then 1 else 2
  let px := pieces (3 * n) (d.width * d.height) b
  [px.map fun q => rd q 0 n, px.map fun q => rd q n n, px.map fun q => rd q (2 * n) n]

/-- Bytes of a still image (R353). -/
def stillSize (d : SourceRec) : Nat := d.width * d.height * 3 * (if d.bitDepth = 8 then 1 else 2)

/-- SOURCE_SET (R121, R123, R353): a STILL's image is checked, then the configuration is admitted with the windows bound to it (R299). -/
def bodySourceSet : Body := fun c s =>
  match sourceX (c.p.take 32) with
  | some o => .err s (badArg 11 o)
  | none =>
    let d := sourceOf c.p
    let still := d.kind = 3
    if still && rd c.p 40 4 != stillSize d then .err s (badArg 11 40)
    else if still && s.dataDenied c 32 then s.dataFault c 32
    else if still && crc32c (c.block 0 32) != d.stillCrc then .err s { status := stBadCrc }
    else
      let b := s.plan
      s.admitted { b with src := Map.set b.src d.source d } fun s _ => s.setSource d (if still then stillPlanes d (c.block 0 32) else [])

/-- SOURCE_SET (R353). -/
def execSourceSet (t : Time) (mb : Nat) (m : Msg) (s : State) : Host.Outcome State Fault Refusal := command .sourceSet bodySourceSet t mb m s

def bodySourceStatus : Body := fun c s => pairsRes s c kSrc (List.range 16) 16 0 [] s.sourceStatus

/-- SOURCE_STATUS (R352). -/
def execSourceStatus (t : Time) (mb : Nat) (m : Msg) (s : State) : Host.Outcome State Fault Refusal := command .sourceStatus bodySourceStatus t mb m s

end Sys2Proof.Machine
end

