-- ==== Sys2Proof/Machine/CmdComp.lean ====
section
/-! DEFINITION. The composition and safety commands (R232–R234, R244, R246, R354–R356). -/

namespace Sys2Proof.Machine

/-- The `n` records of 64 bytes of WINDOW_SET. -/
def windowRecs (p : Bytes) : List Bytes := pieces 64 (rd p 0 2) (p.drop 4)

/-- The first window descriptor that its table refuses or that names a window again (R356). -/
def windowsBad : Nat → List Nat → List Bytes → Option Nat
  | _, _, [] => none
  | o, seen, b :: bs =>
    if seen.contains (rd b 0 2) then some o
    else match windowX b with
      | some k => some (o + k)
      | none => windowsBad (o + 64) (rd b 0 2 :: seen) bs

/-- Change the shadow (R189). -/
def State.setShadow (s : State) (x : Settings) : State := { s with comp := { s.comp with shadow := x } }

def bodyWindowSet : Body := fun c s =>
  match windowsBad 4 [] (windowRecs c.p) with
  | some o => .err s (badArg 11 o)
  | none => .ok (s.setShadow { s.comp.shadow with windows := (windowRecs c.p).foldl (fun m b => Map.set m (rd b 0 2) (windowOf b)) s.comp.shadow.windows }) []

/-- WINDOW_SET (R354, R356). -/
def execWindowSet (t : Time) (mb : Nat) (m : Msg) (s : State) : Host.Outcome State Fault Refusal := command .windowSet bodyWindowSet t mb m s

/-- The sealed copy of a window where its group has one, else the active copy (R356). -/
def State.sealedWindow (s : State) (w : Nat) : WindowDesc :=
  let of (g : Option Nat) : Option WindowDesc := match g with
    | some g => (s.grpC g).next.map fun x => x.set.window w
    | none => none
  match of (s.groupOf (s.activeWindow w)) with
  | some d => d
  | none => (of (s.groupOf (s.comp.committed.window w))).getD (s.activeWindow w)

def bodyWindowGet : Body := fun c s =>
  let read (w : Nat) : Bytes := windowBytes (match rd c.p 0 1 with | 0 => s.comp.shadow.window w | 1 => s.sealedWindow w | _ => s.activeWindow w)
  match listForm (c.p.drop 2) (List.range 1024) 64 0 read with
  | .error e => .err s { e with arg := e.arg + 2 }
  | .ok b => .ok s b

/-- WINDOW_GET (R356). -/
def execWindowGet (t : Time) (mb : Nat) (m : Msg) (s : State) : Host.Outcome State Fault Refusal := command .windowGet bodyWindowGet t mb m s

def bodyWindowStatus : Body := fun c s => pairsRes (s.useFrees 1024) c kWin (List.range 1024) 32 0 [] s.windowStatus

/-- WINDOW_STATUS (R355). -/
def execWindowStatus (t : Time) (mb : Nat) (m : Msg) (s : State) : Host.Outcome State Fault Refusal := command .windowStatus bodyWindowStatus t mb m s

def bodyBackgroundSet : Body := fun c s => .ok (s.setShadow { s.comp.shadow with bgs := Map.set s.comp.shadow.bgs (rd c.p 0 1) (rgbAt c.p 2) }) []

/-- BACKGROUND_SET (R167, R189). -/
def execBackgroundSet (t : Time) (mb : Nat) (m : Msg) (s : State) : Host.Outcome State Fault Refusal := command .backgroundSet bodyBackgroundSet t mb m s

def bodyBlendSet : Body := fun c s => .ok (s.setShadow { s.comp.shadow with blends := Map.set s.comp.shadow.blends (rd c.p 0 1) (blendOf c.p) }) []

/-- BLEND_SET (R186, R189). -/
def execBlendSet (t : Time) (mb : Nat) (m : Msg) (s : State) : Host.Outcome State Fault Refusal := command .blendSet bodyBlendSet t mb m s

def bodyToneProfileSet : Body := fun c s => .ok (s.setShadow { s.comp.shadow with tones := Map.set s.comp.shadow.tones (rd c.p 0 1) (toneOf c.p) }) []

/-- TONE_PROFILE_SET (R179, R189). -/
def execToneProfileSet (t : Time) (mb : Nat) (m : Msg) (s : State) : Host.Outcome State Fault Refusal := command .toneProfileSet bodyToneProfileSet t mb m s

/-- The copy that a table read selector names (R354). -/
def State.selectedSet (s : State) (p : Bytes) : Settings := if rd p 1 1 = 0 then s.comp.shadow else (s.grpC (rd p 2 1)).act

def bodyToneProfileGet : Body := fun c s => .ok s (toneBytes ((s.selectedSet c.p).tone (rd c.p 0 1)) (rd c.p 0 1))

/-- TONE_PROFILE_GET (R354). -/
def execToneProfileGet (t : Time) (mb : Nat) (m : Msg) (s : State) : Host.Outcome State Fault Refusal := command .toneProfileGet bodyToneProfileGet t mb m s

def bodyCoefSet : Body := fun c s =>
  match coefX c.p with
  | some o => .err s (badArg 11 o)
  | none => .ok (s.setShadow { s.comp.shadow with coefs := Map.set s.comp.shadow.coefs (rd c.p 0 1) (coefOf c.p) }) []

/-- COEF_SET (R175, R189). -/
def execCoefSet (t : Time) (mb : Nat) (m : Msg) (s : State) : Host.Outcome State Fault Refusal := command .coefSet bodyCoefSet t mb m s

def bodyCoefGet : Body := fun c s => .ok s (coefBytes ((s.selectedSet c.p).coef (rd c.p 0 1)) (rd c.p 0 1))

/-- COEF_GET (R354). -/
def execCoefGet (t : Time) (mb : Nat) (m : Msg) (s : State) : Host.Outcome State Fault Refusal := command .coefGet bodyCoefGet t mb m s

/-- A tile record (Table 2-3); its reserved bits stand as 0 here. -/
def TileRec.bytes (r : TileRec) : Bytes := le 4 r.age ++ le 2 r.oldest ++ le 1 r.contrib ++ le 1 r.state ++ le 2 r.flagsOr ++ zeros 2 ++ le 4 r.crc

/-- The frame whose records a head writes: the one it scans, or the one that comes (R356). -/
def State.writingFrame (s : State) (h : Nat) : Nat := if (s.head h).scanning then (s.head h).nextFrame - 1 else (s.head h).nextFrame

/-- TILE_RECORDS_GET serves the two frames before the one whose records are being written (R356); a record that cannot be read is all ones (R399). Bits [63:48] of FRAME, to which Table 12-9 gives no meaning, are not looked at (DESIGN CHOICE, log 34). -/
def bodyTileRecordsGet : Body := fun c s =>
  let h := rd c.p 0 1
  let f := rd c.p 4 8 % 281474976710656
  let n := s.writingFrame h
  let want := if f = 0xFFFFFFFFFFFF then n - 1 else f
  match (s.head h).timing, (s.head h).ring.find? fun e => e.1 == want with
  | none, _ => .err s (badArg 11 0)
  | some r, q =>
    if !s.headOn h then .err s (badArg 11 0)
    else if !(want + 1 == n || want + 2 == n) then .err s (badArg 11 4)
    else match q with
      | none => .err s (badArg 11 4)
      | some e =>
        let bytes := e.2.zipIdx.flatMap fun x => if s.dram.badTiles.contains (h, want, x.2) then List.replicate 16 0xFF else x.1.bytes
        let free (i : Nat) : Byte := Config.reserved s.izent.orderCount c.mb (65536 + i)
        let mask (i : Nat) : Nat := if s.dram.badTiles.contains (h, want, i / 16) then 0 else inRecords 0 16 ((8, 0x80) :: spare 9 3) i
        let (s, needed, written) := writeWhole s c 12 (withSpare free mask bytes)
        .ok s (le 8 want ++ le 1 (tileCols r) ++ le 1 (tileRows r) ++ le 2 (tileCols r * tileRows r) ++ le 4 needed ++ le 4 written ++ zeros 4)

/-- TILE_RECORDS_GET (R356). -/
def execTileRecordsGet (t : Time) (mb : Nat) (m : Msg) (s : State) : Host.Outcome State Fault Refusal := command .tileRecordsGet bodyTileRecordsGet t mb m s

def bodyGlyphGet : Body := fun c s =>
  let g := rd c.p 0 1
  let w := glyphWidth g
  .ok s (le 2 w ++ le 2 24 ++ (List.range (24 * (w / 8))).map (Config.glyph (rd c.p 1 1) g))

/-- GLYPH_GET (R229, R354). -/
def execGlyphGet (t : Time) (mb : Nat) (m : Msg) (s : State) : Host.Outcome State Fault Refusal := command .glyphGet bodyGlyphGet t mb m s

/-! Safety. -/

/-- The entries of SAFETY_ARM as bytes. -/
def safetyEntries (p : Bytes) : List Bytes := pieces 36 (rd p 0 1) (p.drop 4)

/-- The first field of an entry that is outside its range (R233). -/
def entriesBad (p : Bytes) : Option Nat :=
  lesser (firstBad F.bad11 (payF .safetyArm false p) p) ((safetyEntries p).zipIdx.findSome? fun e => (entryX e.1).map (4 + 36 * e.2 + ·))

/-- An ARM_ID: 16 bits whose value is not stated, a free value (R233). -/
def State.newArmId (s : State) : Nat := s.fresh.toNat % 65536

/-- SAFETY_ARM: another session's arm first, then the entries (R233). -/
def bodySafetyArm : Body := fun c s =>
  let held := match s.comp.arm with | some a => a.session != c.msg.session | none => false
  if held then .err s { status := stLocked }
  else match entriesBad c.p with
    | some o => .err s (badArg 11 o)
    | none =>
      let id := s.newArmId
      let crc := crc32c (c.p.drop 4)
      let arm : Arm := { id := id, session := c.msg.session, entries := (safetyEntries c.p).map entryOf, crc := crc, expiry := s.now + 30000 * ms }
      let s := ({ s.useFree with comp := { s.comp with arm := some arm } }).record evSafetyArmed []
      .ok s (le 2 id ++ zeros 2 ++ le 4 crc ++ le 8 (s.now + 30000 * ms))

/-- SAFETY_ARM (R233). -/
def execSafetyArm (t : Time) (mb : Nat) (m : Msg) (s : State) : Host.Outcome State Fault Refusal := command .safetyArm bodySafetyArm t mb m s

/-- One entry applied to a configuration. -/
def SafetyCfg.entry (c : SafetyCfg) (e : SafetyEntry) : SafetyCfg :=
  match e.kind with
  | 0 => { c with policies := Map.set c.policies e.index (policyOf e.record) }
  | 1 => { c with palettes := Map.set c.palettes e.index (paletteOf e.record) }
  | _ => { c with headPalette := rd e.record 0 1 }

/-- SAFETY_APPLY: its five answers in order (R234, R235). -/
def bodySafetyApply : Body := fun c s =>
  match s.comp.arm with
  | none => .err s { status := stTimeout }
  | some a =>
    if a.session != c.msg.session then .err s { status := stLocked }
    else if c.rung > a.expiry then .err s { status := stTimeout }
    else if rd c.p 0 2 != a.id then .err s (badArg 11 0)
    else if rd c.p 4 4 != a.crc then .err s (badArg 11 4)
    else
      let new := { a.entries.foldl SafetyCfg.entry s.comp.safety with generation := s.comp.safety.generation + 1 }
      let v := { s.plan with cfg := new }.verdict false
      let b := v.bytes (s.evalUs v) 0
      let s := { s.useFree with comp := { s.comp with arm := none } }
      if !v.ok then .refused s b
      else
        let s := { s with comp := { s.comp with safety := new, copyA := new, copyB := new, copyAOk := true, copyBOk := true, cfgIntact := true, restored := false } }
        .ok (s.record evSafetyApplied [p4 a.crc]) (b ++ le 4 new.generation ++ zeros 4)

/-- SAFETY_APPLY (R234). -/
def execSafetyApply (t : Time) (mb : Nat) (m : Msg) (s : State) : Host.Outcome State Fault Refusal := command .safetyApply bodySafetyApply t mb m s

/-- SAFETY_GET returns a record of the generation in force (R356). -/
def bodySafetyGet : Body := fun c s =>
  let x := s.comp.safety
  let i := rd c.p 1 1
  let rec_ := match rd c.p 0 1 with
    | 0 => policyBytes (x.policy i)
    | 1 => paletteBytes (x.palette i) i
    | _ => le 1 x.headPalette
  .ok s (le 4 x.generation ++ zeros 4 ++ fit 32 rec_)

/-- SAFETY_GET (R356). -/
def execSafetyGet (t : Time) (mb : Nat) (m : Msg) (s : State) : Host.Outcome State Fault Refusal := command .safetyGet bodySafetyGet t mb m s

/-- LANTERN_CLEAR of a window's latched reason, or of the device-wide faults (R244, R246, R356). -/
def bodyLanternClear : Body := fun c s =>
  let w := rd c.p 0 2
  if w = 0xFFFF then
    if !s.comp.selftestFail && !s.comp.domainLost then .ok s []
    else if !s.domOn 11 || !s.comp.selftestPassed then .err s { status := stDenied }
    else .ok { s with comp := { s.comp with selftestFail := false, domainLost := false, wins := Map.mapV (fun _ (x : Win) => if x.lanternFault then { x with lanternClear := true } else x) s.comp.wins } } []
  else if w > 1023 then .err s (badArg 11 0)
  else .ok (if (s.win w).lanternLatched then s.setWin w { s.win w with lanternClear := true } else s) []

/-- LANTERN_CLEAR (R244, R246). -/
def execLanternClear (t : Time) (mb : Nat) (m : Msg) (s : State) : Host.Outcome State Fault Refusal := command .lanternClear bodyLanternClear t mb m s

def bodyLanternStatus : Body := fun c s => pairsRes s c kHead (List.range 16) 48 0 [] s.lanternStatus

/-- LANTERN_STATUS (R249). -/
def execLanternStatus (t : Time) (mb : Nat) (m : Msg) (s : State) : Host.Outcome State Fault Refusal := command .lanternStatus bodyLanternStatus t mb m s

/-- ALERT_ACK records the acknowledgement and changes no shutter (R356, R63). -/
def bodyAlertAck : Body := fun c s =>
  let w := rd c.p 0 2
  let shown := s.shownNow (s.activeWindow w)
  .ok (s.record evAlertAcknowledged [p2 w, p1 (rd c.p 2 1), p1 shown, p4 c.msg.session]) (le 1 shown ++ zeros 3)

/-- ALERT_ACK (R356). -/
def execAlertAck (t : Time) (mb : Nat) (m : Msg) (s : State) : Host.Outcome State Fault Refusal := command .alertAck bodyAlertAck t mb m s

end Sys2Proof.Machine
end

