-- ==== Sys2Proof/Machine/CmdHead.lean ====
section
/-! DEFINITION. The head and encode commands (R198–R202, R218–R223, R251–R253, R274, R357, R358). -/

namespace Sys2Proof.Machine

/-- The first timing record of a command that its table refuses, or that names a head again (log 34). -/
def timingsBad : Nat → List Nat → List Bytes → Option Nat
  | _, _, [] => none
  | o, seen, b :: bs =>
    if seen.contains (rd b 0 1) then some o
    else match timingX b with
      | some k => some (o + k)
      | none => timingsBad (o + 40) (rd b 0 1 :: seen) bs

/-- A record changes the format of its head (R218, R219, R221). -/
def State.changesFormat (s : State) (r : TimingRec) : Bool :=
  match (s.head r.head).timing with
  | some a => (a.enabled || r.enabled) && !referenceOnly a r
  | none => r.enabled

/-- LEVEL and TIER of a channel in an admitted plan (R257, R275). -/
def Plan.encLevel (p : Plan) (d : EncodeRec) : Nat × Nat := let (n, m) := p.rate (p.encHead d); signalled d n m

/-- The level and tier of the open channels follow the frame rates of an admitted plan (R257). -/
def State.relevel (s : State) (adm : Plan) : State :=
  s.enc.chan.foldl (fun s e => if s.encOpen e.1 then (let (l, t) := adm.encLevel e.2.decl; s.setEnc e.1 { s.enc? e.1 with level := l, tier := t }) else s) s

/-- The effect of one accepted set of records (R218–R221). -/
def State.applyTimings (s : State) (recs : List TimingRec) : State :=
  let new := recs.filter fun r => (s.head r.head).stored != some r
  let formats := new.filter s.changesFormat
  let refs := new.filter fun r => !s.changesFormat r
  let s := new.foldl (fun s r => (s.watchAnew (s.head r.head).stored r).setHead r.head { s.head r.head with stored := some r }) s
  let s := refs.foldl (fun s r => if r.enabled then s.changeReference r else s.setHead r.head { s.head r.head with timing := some r }) s
  if formats.isEmpty then s else s.startFormat formats

/-- A record changes the timing of an enabled head, or enables one. -/
def State.changesTiming (s : State) (r : TimingRec) : Bool :=
  (s.head r.head).stored != some r && (r.enabled || (match (s.head r.head).timing with | some a => a.enabled | none => false))

/-- The groups that changes by these records affect (R220). -/
def State.timingGroups (s : State) (recs : List TimingRec) : List Nat := s.setGroups (recs.filter s.changesTiming)

/-- HEAD_TIMING_SET: busy groups wait, then full admission with all records (R219, R220). -/
def bodyHeadTimingSet : Body := fun c s =>
  let bs := pieces 40 (rd c.p 0 1) (c.p.drop 4)
  match timingsBad 4 [] bs with
  | some o => .err s (badArg 11 o)
  | none =>
    let recs := bs.map timingOf
    match s.groupsBusy false (s.timingGroups recs) with
    | some e => .wait .flip e
    | none =>
      let b := s.plan
      s.admitted { b with recs := recs.foldl (fun m r => Map.set m r.head r) b.recs } fun s adm => (s.applyTimings recs).relevel adm

/-- HEAD_TIMING_SET (R219). -/
def execHeadTimingSet (t : Time) (mb : Nat) (m : Msg) (s : State) : Host.Outcome State Fault Refusal := command .headTimingSet bodyHeadTimingSet t mb m s

def bodyHeadTimingGet : Body := fun c s => listRes s c (List.range 16) 40 fun h => match (s.head h).stored with | some r => timingBytes r | none => le 1 h

/-- HEAD_TIMING_GET returns the stored records (R357). -/
def execHeadTimingGet (t : Time) (mb : Nat) (m : Msg) (s : State) : Host.Outcome State Fault Refusal := command .headTimingGet bodyHeadTimingGet t mb m s

def bodyHeadStatus : Body := fun c s => pairsRes s c kHead (List.range 16) 64 0 [] s.headStatus

/-- HEAD_STATUS (R223). -/
def execHeadStatus (t : Time) (mb : Nat) (m : Msg) (s : State) : Host.Outcome State Fault Refusal := command .headStatus bodyHeadStatus t mb m s

/-- Block `k` of an EDID has a wrong checksum: its 128 bytes do not sum to 0 (PRESUMED, the EDID standard; log 34). -/
def edidBad (e : Bytes) (k : Nat) : Bool := 128 * k < e.length && sumL ((sub e (128 * k) 128).map BitVec.toNat) % 256 != 0

def bodyHeadEdidGet : Body := fun c s =>
  let x := s.head (rd c.p 0 1)
  .ok s (le 2 x.edid.length ++ le 1 (bitsOf ((List.range 4).map (edidBad x.edid))) ++ zeros 1 ++ le 8 x.edidAt ++ fit 512 x.edid)

/-- HEAD_EDID_GET (R205, R357). -/
def execHeadEdidGet (t : Time) (mb : Nat) (m : Msg) (s : State) : Host.Outcome State Fault Refusal := command .headEdidGet bodyHeadEdidGet t mb m s

/-! Encode. -/

/-- ENCODE_OPEN (R251, R252, R358): admitted, then the channel is STARTING. -/
def bodyEncodeOpen : Body := fun c s =>
  match encodeX c.p with
  | some o => .err s (badArg 11 o)
  | none =>
    let d := encodeOf c.p
    if s.encOpen d.channel then .err s (badArg 11 0)
    else
      let b := s.plan
      s.admitted { b with enc := b.enc ++ [{ decl := d }] } fun s adm =>
        match adm.enc.find? fun u => u.live && u.decl == d with
        | some u => let (level, tier) := adm.encLevel d; s.openEnc d u.engine level tier
        | none => s

/-- ENCODE_OPEN (R358). -/
def execEncodeOpen (t : Time) (mb : Nat) (m : Msg) (s : State) : Host.Outcome State Fault Refusal := command .encodeOpen bodyEncodeOpen t mb m s

/-- The fields of ENCODE_SET: MASK bit, offset and size in the request, offset in the record (Table 12-12, Table 9-1). -/
def encodeSetF : List (Nat × Nat × Nat × Nat) := [(0, 4, 1, 16), (2, 5, 1, 18), (1, 8, 4, 20), (3, 12, 2, 8), (3, 14, 2, 10)]

/-- The record that an ENCODE_SET makes. -/
def encodeSet (d : EncodeRec) (p : Bytes) : EncodeRec :=
  let m := rd p 1 1
  { d with quality := if bit m 0 then rd p 4 1 else d.quality, maxQpRaise := if bit m 2 then rd p 5 1 else d.maxQpRaise, cap := if bit m 1 then rd p 8 4 else d.cap
           x := if bit m 3 then rd p 12 2 else d.x, y := if bit m 3 then rd p 14 2 else d.y }

/-- The offset in ENCODE_SET of a field of the record. -/
def encodeSetOff (o : Nat) : Nat := match encodeSetF.find? fun f => f.2.2.2 == o with
  | some f => f.2.1
  | none => 0

/-- ENCODE_SET (R253, R358): fields outside MASK are zero, the new record passes its table and full admission. A channel that is not open is an argument error at CHANNEL (DEDUCED, log 34). -/
def bodyEncodeSet : Body := fun c s =>
  let ch := rd c.p 0 1
  let x := s.enc? ch
  match encodeSetF.find? fun f => !bit (rd c.p 1 1) f.1 && rd c.p f.2.1 f.2.2.1 != 0 with
  | some f => .err s (badArg 11 f.2.1)
  | none =>
    if !s.encOpen ch then .err s (badArg 11 0)
    else
      let d := encodeSet x.decl c.p
      match recordBad encodeF encodeX (encodeBytes d) with
      | some o => .err s (badArg 11 (encodeSetOff o))
      | none =>
        let b := s.plan
        s.admitted { b with enc := b.enc.map fun (u : EncUse) => if u.live && u.decl == x.decl then { u with decl := d } else u } fun s adm =>
          let (level, tier) := adm.encLevel d
          s.setEnc ch { s.enc? ch with decl := d, level := level, tier := tier }

/-- ENCODE_SET (R253). -/
def execEncodeSet (t : Time) (mb : Nat) (m : Msg) (s : State) : Host.Outcome State Fault Refusal := command .encodeSet bodyEncodeSet t mb m s

/-- ENCODE_CLOSE of an open channel drains it; else it has no effect (R274, R338). -/
def bodyEncodeClose : Body := fun c s => .ok (if s.encOpen (rd c.p 0 1) then s.closeEnc (rd c.p 0 1) else s) []

/-- ENCODE_CLOSE (R274). -/
def execEncodeClose (t : Time) (mb : Nat) (m : Msg) (s : State) : Host.Outcome State Fault Refusal := command .encodeClose bodyEncodeClose t mb m s

def bodyEncodeStatus : Body := fun c s => pairsRes s c kEnc (List.range 32) 32 0 [] s.encodeStatus

/-- ENCODE_STATUS (R275). -/
def execEncodeStatus (t : Time) (mb : Nat) (m : Msg) (s : State) : Host.Outcome State Fault Refusal := command .encodeStatus bodyEncodeStatus t mb m s

end Sys2Proof.Machine
end

