-- ==== Sys2Proof/Machine/CmdLayout.lean ====
section
/-! DEFINITION. The layout commands (R279, R349–R351). -/

namespace Sys2Proof.Machine

/-- LAYOUT_PROPOSE admits a document on a copy of the shadow; STAGE writes an accepted copy into the shadow (R279). -/
def bodyLayoutPropose : Body := fun c s =>
  if s.dataDenied c 4 then s.dataFault c 4
  else match s.docProposal 4 (c.block 0 4) with
    | .error e => .err s e
    | .ok p =>
      let v := s.admitProposal p
      let b := v.bytes (s.evalUs v) p.layoutId
      let s := s.useFree
      if !v.ok then .refused s b
      else .ok (if bit (rd c.p 0 1) 0 then { s with comp := { s.comp with shadow := p.set, staged := p.staged } } else s) b

/-- LAYOUT_PROPOSE (R279). -/
def execLayoutPropose (t : Time) (mb : Nat) (m : Msg) (s : State) : Host.Outcome State Fault Refusal := command .layoutPropose bodyLayoutPropose t mb m s

/-- LAYOUT_COMMIT admits the shadow, an attached document applied first, and seals (R279, R351). -/
def bodyLayoutCommit : Body := fun c s =>
  if !bit (rd c.p 0 1) 0 then s.commitProposal s.shadowProposal
  else if s.dataDenied c 4 then s.dataFault c 4
  else match s.docProposal 4 (c.block 0 4) with
    | .error e => .err s e
    | .ok p => s.commitProposal p

/-- LAYOUT_COMMIT (R279). -/
def execLayoutCommit (t : Time) (mb : Nat) (m : Msg) (s : State) : Host.Outcome State Fault Refusal := command .layoutCommit bodyLayoutCommit t mb m s

/-- LAYOUT_STORE writes a checked document to a NAND slot, or empties it (R350). -/
def bodyLayoutStore : Body := fun c s =>
  let slot := rd c.p 0 1
  if bit (rd c.p 1 1) 0 then .ok { s with comp := { s.comp with stored := Map.del s.comp.stored slot } } []
  else if s.dataDenied c 4 then s.dataFault c 4
  else match parseDoc (c.block 0 4) with
    | .error e => .err s (docErr 4 e)
    | .ok _ => .ok { s with comp := { s.comp with stored := Map.set s.comp.stored slot (c.block 0 4) } } []

/-- LAYOUT_STORE (R350). -/
def execLayoutStore (t : Time) (mb : Nat) (m : Msg) (s : State) : Host.Outcome State Fault Refusal := command .layoutStore bodyLayoutStore t mb m s

/-- LAYOUT_STORED_COMMIT acts as LAYOUT_COMMIT with the stored document (R350). The error detail names SLOT (log 34). -/
def bodyLayoutStoredCommit : Body := fun c s =>
  match Map.get? s.comp.stored (rd c.p 0 1) with
  | none => .err s (badArg 11 0)
  | some d => match s.docProposal 0 d with
    | .error e => .err s e
    | .ok p => s.commitProposal p

/-- LAYOUT_STORED_COMMIT (R350). -/
def execLayoutStoredCommit (t : Time) (mb : Nat) (m : Msg) (s : State) : Host.Outcome State Fault Refusal := command .layoutStoredCommit bodyLayoutStoredCommit t mb m s

/-- LAYOUT_READ writes the shadow, the active copies or a stored document (R350). -/
def bodyLayoutRead : Body := fun c s =>
  let which := rd c.p 0 1
  let d := if which = 0 then buildDoc (s.layoutEls s.comp.shadow s.comp.staged) else if which = 1 then buildDoc (s.layoutEls s.activeSettings {}) else Map.get [] s.comp.stored (rd c.p 1 1)
  let (s, needed, written) := writeWhole s c 4 d
  .ok s (le 4 needed ++ le 4 written)

/-- LAYOUT_READ (R350). -/
def execLayoutRead (t : Time) (mb : Nat) (m : Msg) (s : State) : Host.Outcome State Fault Refusal := command .layoutRead bodyLayoutRead t mb m s

end Sys2Proof.Machine
end

