-- ==== Sys2Proof/Machine/Touch.lean ====
section
/-! DEFINITION. The touch front-end: scan frames, presses, baselines, resting keys, and the queue of local actions (*Console touch keys*). -/

namespace Sys2Proof.Machine

/-- STATE codes of Table 12-18. -/
def KeyState.code : KeyState → Nat
  | .released => 0 | .touched => 1 | .masked => 2

/-- An electrode is used (R423). -/
def Electrode.used (e : Electrode) : Bool := e.cfg.group != 255
/-- Δ = C_m − B, 0 of an unused electrode (R423). -/
def Electrode.delta (e : Electrode) : Int := if e.used then (e.cm : Int) - e.baseline else 0
/-- Press level P of a mode (Table 15-1); HOVER has none. -/
def Electrode.press (e : Electrode) (mode : Nat) : Nat := if mode = 1 then e.cfg.threshold / 2 else e.cfg.threshold
/-- Release level ⌊3P/4⌋. -/
def Electrode.release (e : Electrode) (mode : Nat) : Nat := 3 * e.press mode / 4
/-- MAX_ON in s, 30 where 0 (R432). -/
def Electrode.maxOn (e : Electrode) : Nat := if e.cfg.maxOn = 0 then 30 else e.cfg.maxOn
/-- Tracking limit: ⌊P/2⌋, or ⌊T/4⌋ in HOVER (R427). -/
def Electrode.trackLimit (e : Electrode) (mode : Nat) : Nat := if mode = 2 then e.cfg.threshold / 4 else e.press mode / 2

def State.elMode (s : State) (k : Nat) : Nat := (s.grp (s.el k).cfg.group).mode

/-- The touched key of electrode `k` is released, with its flags: bit 0 STUCK, bit 1 RECONFIGURED (R363, R426, R430, R432). -/
def State.releaseKey (s : State) (k flags : Nat) (st : KeyState) : State :=
  let e := s.el k
  let g := s.grp e.cfg.group
  let s := s.setEl k { e with state := st, run := 0, quietSince := none, negSince := none, maxOnDue := false }
  let s := s.setGrp e.cfg.group { g with key := none, candidate := none }
  if e.state = .touched then s.record evKeyRelease [p2 k, p1 flags] else s

/-- PROXIMITY is cleared, and recorded if it was set (R424, R431, Table 15-2). -/
def State.clearProximity (s : State) (k : Nat) : State :=
  if (s.el k).proximity then (s.setEl k { s.el k with proximity := false }).recordLimited evProximity k [p2 k, p1 1] else s

/-- R363, R432: a reconfigured electrode that is touched is reported released and rebaselined; a masked one is unmasked and rebaselined. -/
def State.reconfigured (s : State) (k : Nat) : State :=
  let s := s.clearProximity k
  let e := s.el k
  if e.state = .released then s.setEl k { e with run := 0 }
  else
    let s := if e.state = .touched then s.releaseKey k 2 .released else s
    s.setEl k { s.el k with state := .released, baseline := e.cm, run := 0, quietSince := none, negSince := none }

/-- A key touched for MAX_ON (R432). -/
def State.stuckKey (s : State) (k : Nat) : State := (s.releaseKey k 1 .masked).record evKeyStuck [p2 k]

/-- LOCAL_ACTION_QUEUE (R433, R434): a press reads its entry and queues the command. -/
def State.queueLocal (s : State) (k : Nat) : State :=
  let a := Map.get {} s.touch.actions k
  let reason := s.shownNow (s.activeWindow a.arg)
  if a.action = 0 || (a.action = 2 && reason = 0) then s
  else if s.touch.queue.length ≥ 8 then s.recordLocal k a.action 0 1 0
  else if (s.touch.queue.any fun q => q.electrode == k) || (match s.touch.running with | some r => r.electrode == k | none => false) then s.recordLocal k a.action 0 2 0
  else if s.izent.devState != .ready then s.recordLocal k a.action 0 3 0
  else { s with touch := { s.touch with queue := s.touch.queue ++ [{ electrode := k, action := a.action, arg := a.arg, reason := reason }] } }

/-- Electrode `k` becomes its group's touched key (R425). -/
def State.pressKey (s : State) (k : Nat) : State :=
  let e := s.el k
  let s := s.setEl k { e with state := .touched, touchedAt := s.clk, run := 0, negSince := none }
  let s := s.setGrp e.cfg.group { s.grp e.cfg.group with key := some k, candidate := none }
  (s.record evKeyPress [p2 k]).queueLocal k

/-- The electrodes of a group. -/
def State.members (s : State) (g : Nat) : List Nat := (List.range 64).filter fun k => (s.el k).cfg.group == g

/-- The candidate: the largest Δ/P among the electrodes with Δ ≥ P, ties to the lower number (R425). -/
def State.candidate (s : State) (g mode : Nat) : Option Nat :=
  (s.members g).foldl (fun best k =>
    let e := s.el k
    if e.state = .released && !e.fault && (e.press mode : Int) ≤ e.delta then
      match best with
      | none => some k
      | some b => if (s.el b).delta * (e.press mode : Int) < e.delta * ((s.el b).press mode : Int) then some k else some b
    else best) none

/-- One group in one scan frame: release, candidate, press, or PROXIMITY (R424–R426). -/
def State.scanGroup (s : State) (g : Nat) : State :=
  let gr := s.grp g
  if gr.mode = 2 then
    (s.members g).foldl (fun s k =>
      let e := s.el k
      let meets := if e.proximity then e.delta < ((e.cfg.threshold / 8 : Nat) : Int) else ((e.cfg.threshold / 4 : Nat) : Int) ≤ e.delta
      if e.fault || !meets then s.setEl k { e with run := 0 }
      else if e.run + 1 ≥ 2 then
        (s.setEl k { e with proximity := !e.proximity, run := 0 }).recordLimited evProximity k [p2 k, p1 (if e.proximity then 1 else 0)]
      else s.setEl k { e with run := e.run + 1 }) s
  else match gr.key with
    | some k =>
      let e := s.el k
      if e.delta < (e.release gr.mode : Int) then
        if e.run + 1 ≥ 2 then s.releaseKey k 0 .released else s.setEl k { e with run := e.run + 1 }
      else if e.maxOnDue then s.stuckKey k
      else s.setEl k { e with run := 0 }
    | none =>
      match s.candidate g gr.mode with
      | none => s.setGrp g { gr with candidate := none }
      | some k => if gr.candidate = some k then s.pressKey k else s.setGrp g { gr with candidate := some k }

/-- B = C_m by TOUCH_REBASELINE (R430). -/
def State.rebaseline (s : State) (k : Nat) : State :=
  let s := if (s.el k).state = .touched then s.releaseKey k 2 .released else s
  let e := s.el k
  (s.setEl k { e with rebase := false, state := .released, baseline := e.cm, quietSince := none, negSince := none, run := 0 }).record evTouchRebaselined [p2 k, p1 1]

/-- The measurement of one electrode and what it starts or stops: baseline of start-up, command rebaseline, range, tracking (R422, R427–R432). -/
def State.scanElectrode (s : State) (k cm : Nat) : State :=
  let s := s.setEl k { s.el k with cm := cm }
  let s := if (s.el k).rebase then s.rebaseline k else s
  let e := s.el k
  if s.touch.frames < 16 then
    let sum := e.sum + cm
    s.setEl k { e with sum := sum, baseline := if e.used && s.touch.frames = 15 then sum / 16 else e.baseline }
  else if !e.used then s
  else
    let mode := s.elMode k
    let outside := cm < 4000 || cm > 160000
    let since (c : Bool) (o : Option Time) : Option Time := if c then some (o.getD s.clk) else none
    let e := { e with
      rangeSince := since (outside != e.fault) e.rangeSince
      negSince := since (e.state == .released && !e.fault && e.delta < -((e.press mode / 2 : Nat) : Int)) e.negSince
      quietSince := since (e.state == .masked && e.delta.natAbs ≤ e.press mode / 4) e.quietSince }
    let step := if mode = 0 then 1 else 2
    let e := if e.state = .released && !e.fault && e.delta < (e.trackLimit mode : Int) then
        { e with baseline := if e.baseline ≤ cm then e.baseline + min (cm - e.baseline) step else e.baseline - min (e.baseline - cm) step }
      else e
    s.setEl k e

/-- A mode set for a group takes effect, with R363 for its keys (R424). -/
def State.applyMode (s : State) (g : Nat) : State :=
  let gr := s.grp g
  match gr.nextMode with
  | none => s
  | some m =>
    let s := (s.members g).foldl (fun s k => s.reconfigured k) s
    s.setGrp g { s.grp g with mode := m, nextMode := none, key := none, candidate := none }

/-- The length of a scan frame: 8 ms while a group is in GLOVE or HOVER, otherwise 4 ms (R422). -/
def State.scanLength (s : State) : Time := if (List.range 16).any fun g => (s.grp g).mode != 0 then 8 * ms else 4 * ms

/-- The scan frame in progress, which began when the last one ended or PD_HOUSE came on, ends by now (R422). -/
def State.scanDue (s : State) : Bool := max s.touch.scannedAt (s.dom 3).since + s.scanLength ≤ s.clk

/-- TOUCH_SCAN_FRAME (R422–R431): the end of a scan frame, which measured every electrode once; `cm` are the capacitances in fF. A new mode holds from the next frame on. -/
def execTouchScanFrame (t : Time) (cm : List Nat) (s : State) : Host.Outcome State Fault Refusal :=
  run t s fun s =>
    if !s.domOn 3 || !(s.image 6).good || s.activating 6 || s.prot.halted.contains 28 || !s.scanDue then s
    else
      let started := s.touch.frames ≥ 16
      let s := (List.range 64).foldl (fun s k => s.scanElectrode k (cm.getD k 0)) s
      let s := if started then (List.range 16).foldl (fun s g => s.scanGroup g) s else s
      let s := (List.range 16).foldl (fun s g => s.applyMode g) s
      { s with touch := { s.touch with frames := min 16 (s.touch.frames + 1), scannedAt := s.clk } }

/-- KEY_MAX_ON_EXPIRY (R432): a key touched for MAX_ON is released STUCK and masked, but where its release may fall in the same scan frame, that frame's end decides (R426). -/
def execKeyMaxOnExpiry (t : Time) (k : Nat) (s : State) : Host.Outcome State Fault Refusal :=
  runIf (k < 64) t s fun s =>
    let e := s.el k
    if e.state = .touched && e.touchedAt + e.maxOn * sec ≤ s.clk then (if e.run = 0 then s.stuckKey k else s.setEl k { e with maxOnDue := true }) else s

/-- KEY_UNMASK_TIMER (R432): a masked key quiet for 200 ms. -/
def execKeyUnmaskTimer (t : Time) (k : Nat) (s : State) : Host.Outcome State Fault Refusal :=
  runIf (k < 64) t s fun s =>
    let e := s.el k
    match e.state, e.quietSince with
    | .masked, some t0 =>
      if t0 + 200 * ms ≤ s.clk then
        (((s.setEl k { e with state := .released, baseline := e.cm, quietSince := none }).record evKeyUnmasked [p2 k]).record evTouchRebaselined [p2 k, p1 2])
      else s
    | _, _ => s

/-- NEGATIVE_DELTA_TIMER (R429). -/
def execNegativeDeltaTimer (t : Time) (k : Nat) (s : State) : Host.Outcome State Fault Refusal :=
  runIf (k < 64) t s fun s =>
    let e := s.el k
    match e.state, e.negSince with
    | .released, some t0 =>
      if t0 + 200 * ms ≤ s.clk then (s.setEl k { e with baseline := e.cm, negSince := none }).record evTouchRebaselined [p2 k, p1 0] else s
    | _, _ => s

/-- ELECTRODE_FAULT_TIMER (R431): out of 4–160 pF for 1 000 ms, or back inside for 1 000 ms. -/
def execElectrodeFaultTimer (t : Time) (k : Nat) (s : State) : Host.Outcome State Fault Refusal :=
  runIf (k < 64) t s fun s =>
    let e := s.el k
    match e.rangeSince with
    | none => s
    | some t0 =>
      if s.clk < t0 + 1000 * ms then s
      else if e.fault then (s.setEl k { e with fault := false, baseline := e.cm, rangeSince := none }).record evTouchElectrodeFault [p2 k, p1 1]
      else
        let s := (if e.state = .touched then s.releaseKey k 0 .released else s).clearProximity k
        (s.setEl k { s.el k with fault := true, state := .released, rangeSince := none }).record evTouchElectrodeFault [p2 k, p1 0]

/-- The effect of one TOUCH_KEY_SET entry (R363, R423, R432). An electrode that becomes used takes its last measurement as baseline, and one that becomes unused is in fault no longer (DESIGN CHOICE, log 24). -/
def State.applyKey (s : State) (c : KeyCfg) : State :=
  let k := c.electrode
  let s := s.reconfigured k
  let e := s.el k
  let s := if e.fault && c.group = 255 then (s.setEl k { e with fault := false, rangeSince := none }).record evTouchElectrodeFault [p2 k, p1 1] else s
  s.setEl k { s.el k with cfg := c, baseline := if !e.used && c.group != 255 then e.cm else (s.el k).baseline }

end Sys2Proof.Machine
end

