-- ==== Sys2Proof/Machine/CmdNet.lean ====
section
/-! DEFINITION. The network, lane and touch commands (R360–R363, R404–R406, R415–R419, R423–R433). -/

namespace Sys2Proof.Machine

/-! Network. -/

def bodyPortAddressSet : Body := fun c s =>
  let a := addressOf c.p
  .ok (s.setLane a.port { s.lane a.port with address := a }) []

/-- PORT_ADDRESS_SET (R360). -/
def execPortAddressSet (t : Time) (mb : Nat) (m : Msg) (s : State) : Host.Outcome State Fault Refusal := command .portAddressSet bodyPortAddressSet t mb m s

def bodyPortAddressGet : Body := fun c s => listRes s c (List.range 16) 56 fun k => addressBytes { (s.lane k).address with port := k } ++ macOf k ++ zeros 2

/-- PORT_ADDRESS_GET (R360, R404). -/
def execPortAddressGet (t : Time) (mb : Nat) (m : Msg) (s : State) : Host.Outcome State Fault Refusal := command .portAddressGet bodyPortAddressGet t mb m s

/-- The first lane entry that its table or R405 refuses, or that names a lane again (log 34). -/
def lanesBad : Nat → List Nat → List Bytes → Option Nat
  | _, _, [] => none
  | o, seen, b :: bs =>
    let d := laneOf b
    if seen.contains d.lane then some o
    else if (laneX b).isSome then some (o + 2)
    else if d.fec = 1 && (bit d.flags 1 || bit d.flags 2) then some (o + 3)
    else lanesBad (o + 16) (d.lane :: seen) bs

/-- The PRP flag of lane `k` after these entries. -/
def State.prpFlag (s : State) (ds : List LaneCfg) (k : Nat) : Bool :=
  match ds.find? fun d => d.lane == k with
  | some d => bit d.flags 0
  | none => bit (s.lane k).cfg.flags 0

/-- The line rate code that admission counts for a lane (R293, R416). -/
def State.admittedRate (s : State) (d : LaneCfg) : Nat :=
  let l := s.lane d.lane
  if l.prbsPattern != 0 && l.cfg.rate == d.rate && l.cfg.fec == d.fec then 0 else d.rate

/-- LANE_SET (R361, R405, R406). -/
def bodyLaneSet : Body := fun c s =>
  let bs := pieces 16 (rd c.p 0 1) (c.p.drop 4)
  match lanesBad 4 [] bs with
  | some o => .err s (badArg 11 o)
  | none =>
    let ds := bs.map laneOf
    match findIdx? (fun (d : LaneCfg) => s.prpFlag ds d.lane != s.prpFlag ds (if d.lane % 2 = 0 then d.lane + 1 else d.lane - 1)) ds with
    | some i => .err s (badArg 11 (4 + 16 * i + 3))
    | none =>
      let b := s.plan
      s.admitted { b with rates := ds.foldl (fun m d => Map.set m d.lane (s.admittedRate d)) b.rates, prp := (List.range 8).filter fun k => s.prpFlag ds (2 * k) } fun s _ =>
        ds.foldl State.applyLane s

/-- LANE_SET (R405). -/
def execLaneSet (t : Time) (mb : Nat) (m : Msg) (s : State) : Host.Outcome State Fault Refusal := command .laneSet bodyLaneSet t mb m s

def bodyLaneRead : Body := fun c s => listRes s c (List.range 16) 32 s.laneStatus

/-- LANE_READ (R360). -/
def execLaneRead (t : Time) (mb : Nat) (m : Msg) (s : State) : Host.Outcome State Fault Refusal := command .laneRead bodyLaneRead t mb m s

/-- The first field of LANE_MODULE_READ outside the pages and ranges of R419. -/
def moduleReadBad (p : Bytes) : Option Nat :=
  let last := if rd p 1 1 ≥ 2 && rd p 2 1 < 128 then 128 else 256
  firstOff [(rd p 1 1 > 129, 1), (rd p 2 1 + rd p 3 1 > last, 2)]

/-- LANE_MODULE_READ (R419): a module that is absent or does not acknowledge is an argument error at LANE (log 34). -/
def bodyLaneModuleRead : Body := fun c s =>
  match moduleReadBad c.p, (if (s.lane (rd c.p 0 1)).present then c.msg.module else none) with
  | some o, _ => .err s (badArg 11 o)
  | none, none => .err s (badArg 11 0)
  | none, some b => .ok s (fit (rd c.p 3 1) b)

/-- LANE_MODULE_READ (R419). -/
def execLaneModuleRead (t : Time) (mb : Nat) (m : Msg) (s : State) : Host.Outcome State Fault Refusal := command .laneModuleRead bodyLaneModuleRead t mb m s

/-- Write the security store: both copies, under the next generation count (R454). -/
def State.writeStore (s : State) (f : SecStore → SecStore) : State :=
  let x := { f s.prot.store with generation := s.prot.store.generation + 1 }
  { s with prot := { s.prot with store := x, storeA := x, storeB := x } }

def bodyMgmtSet : Body := fun c s => .ok (s.writeStore fun x => { x with portMask := rd c.p 0 2, tcpPort := if rd c.p 2 2 = 0 then 7416 else rd c.p 2 2 }) []

/-- MGMT_SET: new connections only (R361). -/
def execMgmtSet (t : Time) (mb : Nat) (m : Msg) (s : State) : Host.Outcome State Fault Refusal := command .mgmtSet bodyMgmtSet t mb m s

/-! PRBS. -/

/-- An open context or channel uses the port (R415). -/
def State.portUsed (s : State) (k : Nat) : Bool :=
  (s.streams.ctx.any fun e => s.ctxOpen e.1 && bit e.2.decl.portMask k) || s.enc.chan.any fun e => s.encOpen e.1 && !e.2.decl.toHost && bit e.2.decl.portMask k

def bodyLanePrbsSet : Body := fun c s =>
  let k := rd c.p 0 1
  if (s.lane k).cfg.rate = 0 then .err s (badArg 11 0)
  else if s.portUsed k then .refused s (ownRefusal 0x0105 k 5 1 0)
  else .ok (s.applyPrbs k (rd c.p 1 1) (rd c.p 2 1) (rd c.p 3 1)) []

/-- LANE_PRBS_SET (R415–R417). -/
def execLanePrbsSet (t : Time) (mb : Nat) (m : Msg) (s : State) : Host.Outcome State Fault Refusal := command .lanePrbsSet bodyLanePrbsSet t mb m s

def bodyLanePrbsRead : Body := fun c s =>
  let x := s.lane (rd c.p 0 1)
  .ok s (le 8 x.prbsBits ++ le 8 x.prbsErrors ++ le 1 (if x.prbsLocked then 1 else 0) ++ zeros 7)

/-- LANE_PRBS_READ (R417). -/
def execLanePrbsRead (t : Time) (mb : Nat) (m : Msg) (s : State) : Host.Outcome State Fault Refusal := command .lanePrbsRead bodyLanePrbsRead t mb m s

/-! Touch. -/

/-- The first entry of 8 bytes that `x` refuses, or that names an electrode again (log 34). -/
def keysBad (x : Bytes → Option Nat) : Nat → List Nat → List Bytes → Option Nat
  | _, _, [] => none
  | o, seen, b :: bs =>
    if seen.contains (rd b 0 1) then some o
    else match x b with
      | some k => some (o + k)
      | none => keysBad x (o + 8) (rd b 0 1 :: seen) bs

def keyEntries (p : Bytes) : List Bytes := pieces 8 (rd p 0 1) (p.drop 4)

def bodyTouchKeySet : Body := fun c s =>
  match keysBad keyX 4 [] (keyEntries c.p) with
  | some o => .err s (badArg 11 o)
  | none => .ok ((keyEntries c.p).foldl (fun s b => s.applyKey (keyOf b)) s) []

/-- TOUCH_KEY_SET (R362, R363). -/
def execTouchKeySet (t : Time) (mb : Nat) (m : Msg) (s : State) : Host.Outcome State Fault Refusal := command .touchKeySet bodyTouchKeySet t mb m s

def bodyTouchModeSet : Body := fun c s => .ok (s.setGrp (rd c.p 0 1) { s.grp (rd c.p 0 1) with nextMode := some (rd c.p 1 1) }) []

/-- TOUCH_MODE_SET: the mode takes effect at the next scan frame (R424). -/
def execTouchModeSet (t : Time) (mb : Nat) (m : Msg) (s : State) : Host.Outcome State Fault Refusal := command .touchModeSet bodyTouchModeSet t mb m s

def bodyLocalActionSet : Body := fun c s =>
  match keysBad actionX 4 [] (keyEntries c.p) with
  | some o => .err s (badArg 11 o)
  | none => .ok { s with touch := { s.touch with actions := (keyEntries c.p).foldl (fun m b => Map.set m (rd b 0 1) (actionOf b)) s.touch.actions } } []

/-- LOCAL_ACTION_SET (R363, R433). -/
def execLocalActionSet (t : Time) (mb : Nat) (m : Msg) (s : State) : Host.Outcome State Fault Refusal := command .localActionSet bodyLocalActionSet t mb m s

def bodyTouchRebaseline : Body := fun c s =>
  .ok (((List.range 64).filter fun k => bit (rd c.p 0 8) k).foldl (fun s k => s.setEl k { s.el k with rebase := true }) s) []

/-- TOUCH_REBASELINE (R430). -/
def execTouchRebaseline (t : Time) (mb : Nat) (m : Msg) (s : State) : Host.Outcome State Fault Refusal := command .touchRebaseline bodyTouchRebaseline t mb m s

/-- An electrode as TOUCH_READ shows it (Table 12-18). A DELTA that 16 bits cannot hold is not stated: a free value (log 34). -/
def State.touchRecord (s : State) (k : Nat) : Bytes :=
  let e := s.el k
  let d := e.delta
  let delta := if d < -32768 || d > 32767 then le 2 (Config.free (s.freeCtr + k)).toNat else leS 2 d
  le 1 k ++ le 1 e.state.code ++ le 1 (bitsOf [e.state != .released, e.proximity]) ++ zeros 1 ++ delta ++ le 2 (e.baseline / 100)

def bodyTouchRead : Body := fun c s => listRes (s.useFrees 64) c (List.range 64) 8 s.touchRecord

/-- TOUCH_READ (R362). -/
def execTouchRead (t : Time) (mb : Nat) (m : Msg) (s : State) : Host.Outcome State Fault Refusal := command .touchRead bodyTouchRead t mb m s

end Sys2Proof.Machine
end

