-- ==== Sys2Proof/Machine/Domains.lean ====
section
/-! DEFINITION. What the power domains need, and what their units do as they go off and come on (R17, R127, R471–R476, R488–R490, R555, R557). -/

namespace Sys2Proof.Machine

/-- "Needs on" of Table 1-5. -/
def domNeeds (d : Nat) : List Nat :=
  match d with
  | 0 => [] | 1 => [0] | 2 | 3 | 4 | 5 => [1] | 6 | 7 | 8 | 9 | 10 => [2] | 11 => [2, 3] | _ => [10, 3]

/-- Domains 1–13 that need `d`, directly or not, in increasing index. -/
def domDependents (d : Nat) : List Nat :=
  match d with
  | 0 => (List.range 13).map (· + 1)
  | 1 => (List.range 12).map (· + 2)
  | 2 => [6, 7, 8, 9, 10, 11, 12, 13]
  | 3 => [11, 12, 13]
  | 10 => [12, 13]
  | _ => []

/-- V_MIN and V_MAX in mV (Table 21-4). -/
def vRange (d : Nat) : Nat × Nat :=
  match d with
  | 1 | 2 | 3 | 12 | 13 => (720, 880)
  | 4 | 5 | 11 => (750, 900)
  | 6 => (700, 860)
  | 7 | 8 | 9 => (680, 860)
  | 10 => (700, 880)
  | _ => (800, 800)

/-- A voltage in steps of 5 mV within the range of a domain. -/
def freeVoltage (d : Nat) (w : BitVec 64) : Nat :=
  let (lo, hi) := vRange d
  lo + w.toNat % ((hi - lo) / 5 + 1) * 5

/-- A domain enters a state: DOMAIN_CHANGE (Table 17-5). Its set voltage as it comes on is not stated (log 5). -/
def State.domTo (s : State) (d : Nat) (st : DomState) : State :=
  let x := s.dom d
  if x.state = st then s
  else
    let starts := st == .switchingOn || (st == .on && x.state == .off)
    let y := { x with state := st, since := s.clk, mv := if st = .off then 0 else if starts then freeVoltage d s.fresh else x.mv
                      atLimit := x.atLimit && st != .off, steppedAt := if starts then none else x.steppedAt, belowSince := if starts then none else x.belowSince }
    let s := if starts then s.useFree else s
    (s.setDom d y).record evDomainChange [p2 d, p1 x.state.code, p1 st.code]

/-! Units (R473, R474, R476). -/

/-- Decoder engines of a Tower's domain. -/
def towerEngines (d : Nat) : List Nat := (List.range 9).map fun i => if d = 7 then i else i + 9

/-- The Tower's engine abandons its access unit (R474). -/
def State.towerOff (s : State) (d : Nat) : State :=
  let mine (e : Nat) : Bool := (towerEngines d).contains e
  let ctx := Map.mapV (fun _ (x : Ctx) => if mine x.decoder then { x with pool := x.pool.map fun (z : Slot) => { z with current := false } } else x) s.streams.ctx
  { s with streams := { s.streams with ctx := ctx, working := s.streams.working.filter fun w => !mine w.1 } }

/-- Contexts of a Tower join again on their engines (R131, R473). -/
def State.towerOn (s : State) (d : Nat) : State :=
  s.streams.ctx.foldl (fun s e => if e.2.decl.compressed && e.2.state != .closed && (towerEngines d).contains e.2.decoder then s.moveCtx e.1 e.2.decoder else s) s

/-- Encode channels when PD_ENC is off: those that drain are closed; an open one, which only a fault can meet, stops and stays intended (R342, R476). -/
def State.encOff (s : State) : State :=
  s.enc.chan.foldl (fun s e =>
    if e.2.state = .closed then s
    else if e.2.state = .draining then s.dropEnc e.1
    else s.setEnc e.1 { e.2 with state := .closed, waiting := none, coding := none, atLimit := false }) s

/-- A head stops scanning; its counters and its link's sink stay known (R207, R476). -/
def State.headOff (s : State) (h : Nat) : State :=
  let x := s.head h
  s.setHead h { x with scanning := false, due := false, sending := false, stopped := false, link := none, training := none, failed := none, fallback := false
                       starting := none, retiming := none, updating := none, reason := 0, own := none, rejoin := false, realigned := none, e := 0, first := false, reformat := false, panic := false, toCompare := [] }

/-- The heads of a domain stop (R557): format changes go on for other heads, and groups for theirs. -/
def State.headsOff (s : State) (hs : List Nat) : State :=
  let gs := dedup (hs.filterMap fun h => (s.head h).timing.map TimingRec.sg)
  let s := hs.foldl (fun s h => (s.headOff h).leaveFormat h) s
  gs.foldl State.groupEnd s.restartFormats

/-- Heads of a PD_DISP domain. -/
def dispHeads (d : Nat) : List Nat := (List.range 8).map fun i => if d = 12 then i else i + 8

/-- The composition state of a window is cleared; what Spire B and Lantern hold of it stays. -/
def Win.clear (w : Win) : Win :=
  { w with latched := none, frame := 0, active := setBit 0 7 (bit w.active 7), passes := [], ageUs := 0, freezeMs := 0, concealed := 0, hbLast := none, hbTime := 0, hbNew := true, refused := false, offAt := [], offLast := false
           run := 0, runAt := none, underrunDue := false }

/-- Comparison state of Lantern is cleared; with a safety window bound, the loss is a device-wide fault (R246). -/
def State.lanternOff (s : State) : State :=
  let bound := allHeads.any fun h => !(s.safetyOf h).isEmpty
  let s := { s with comp := { s.comp with selftestPassed := false, findings := [], heads := Map.mapV (fun _ (x : Head) => { x with toCompare := [], late := false }) s.comp.heads } }
  let s := s.setHolds (s.comp.holds.filter fun e => !e.safety)
  if bound then ({ s with comp := { s.comp with domainLost := true } }).record evLanternDomainLost [] else s

/-- The units of a domain stop (R474, R476). -/
def State.unitsOff (s : State) (d : Nat) : State :=
  match d with
  | 4 | 5 => s.lanesRefresh
  | 6 => s.streamOff
  | 7 | 8 => s.towerOff d
  | 9 => s.encOff
  | 10 => { s with comp := { s.comp with wins := Map.mapV (fun _ w => w.clear) s.comp.wins, holds := s.comp.holds.filter Hold.safety } }
  | 11 => s.lanternOff
  | 3 => { s with comp := { s.comp with gens := Map.mapV (fun _ (x : Gen) => x.blank) s.comp.gens } }
  | 12 | 13 => s.headsOff (dispHeads d)
  | _ => s

/-- The contexts of a decoder engine that leaves service: a spare takes them all; else each is re-placed on the powered Towers, in increasing CONTEXT, or left unplaced (R131, R283, R491). -/
def State.leaveEngine (s : State) (e : Nat) (spare : Option Nat) : State :=
  let s := { s with streams := { s.streams with working := s.streams.working.filter fun w => w.1 != e } }
  let place (s : State) (d : StreamRec) : Nat := match spare with
    | some n => n
    | none => match placeDecoder (s.health.engines.filter fun n => s.domOn (if n < 9 then 7 else 8)) (s.ctxUses.filter fun u => u.decoder != e && u.decoder != 255) { decl := d } with
      | .ok n => n
      | .error _ => 255
  let s := (s.streams.ctx.filter fun x => s.ctxOpen x.1 && x.2.decl.compressed && x.2.decoder == e).foldl (fun s x =>
    let n := place s x.2.decl
    let s := s.moveCtx x.1 n
    if n = 255 then s.record evDecodeUnplaced [p2 x.1] else s) s
  (s.comp.reopens.filter fun r => r.decoder == e && r.decl.compressed).foldl (fun s r =>
    let n := place s r.decl
    { s with comp := { s.comp with reopens := s.comp.reopens.map fun (q : Reopen) => if q == r then { q with decoder := n } else q } }) s

/-- Engines and scalers chosen for service as a domain comes on (R127, R490). Work of a unit that is in service no more moves as R491 says (DEDUCED, log 35). -/
def State.chooseUnits (s : State) (d : Nat) : State :=
  if d = 7 || d = 8 then
    let mine := ((towerEngines d).filter fun e => !s.health.failedEngines.contains e).take 8
    let old := s.health.engines.filter (towerEngines d).contains
    let gone := old.filter fun e => !mine.contains e
    let new := mine.filter fun e => !old.contains e
    let s := { s with health := { s.health with engines := sortBy id (s.health.engines.filter (fun e => !(towerEngines d).contains e) ++ mine) } }
    gone.zipIdx.foldl (fun s x => s.leaveEngine x.1 new[x.2]?) s
  else if d = 10 then
    let mine := ((List.range 104).filter fun u => !s.health.failedScalers.contains u).take 96
    let lost := (dedup (s.comp.assigns.flatMap Assign.scalers)).filter fun u => !mine.contains u && !s.health.swaps.any fun x => x.1 == u
    { s with health := { s.health with scalers := mine, swaps := s.health.swaps ++ lost.map fun u => (u, none) } }
  else s

/-- A lane as its domain comes on: its settings, and what stands at its cage, which PD_HOUSE holds (R405, R418, R473). -/
def Lane.poweredUp (x : Lane) : Lane :=
  { cfg := x.cfg, address := x.address, present := x.present, insertedAt := x.insertedAt, los := x.los, txFault := x.txFault, txdisPulse := x.txdisPulse }

/-- The counters of a head as its domain comes on (R223, R473). -/
def Head.poweredUp (x : Head) : Head := { x with underrunFrames := 0, panics := 0, trainings := 0, linkLosses := 0 }

/-- The units of a domain take their power-up state (R473); `ready` says that DEV_STATE is READY, so that heads start by a format change (R557). -/
def State.unitsOn (s : State) (d : Nat) (ready : Bool) : State :=
  let s := s.chooseUnits d
  match d with
  | 4 | 5 => ((List.range 8).foldl (fun s i => let k := 8 * (d - 4) + i; s.setLane k (s.lane k).poweredUp) s).lanesRefresh
  | 6 => s.streamOn
  | 7 | 8 => s.towerOn d
  | 11 => { s with comp := { s.comp with selftestPassed := false, selftestDue := s.clk } }
  | 12 | 13 =>
    let s := (dispHeads d).foldl (fun s h => s.setHead h (s.head h).poweredUp) s
    let recs := (dispHeads d).filterMap fun h => (s.head h).stored.filter TimingRec.enabled
    if !ready || recs.isEmpty then s
    else
      let s := recs.foldl (fun s r => s.setHead r.head { s.head r.head with startDue := !(s.head r.head).included }) s
      s.startFormat recs
  | _ => s

/-! Switching (R471–R475). -/

/-- The mailbox whose running DOMAIN_SET switches domain `d` on. -/
def State.switcher (s : State) (d : Nat) : Option (Nat × Job) :=
  s.izent.mbx.findSome? fun e => match e.2.job with
    | some j => if j.kind = .domainSet && j.cause.isNone && rd j.msg.payload 0 1 = d then some (e.1, j) else none
    | none => none

/-- A switch-on ends: its command is answered (R473). What answers one that fails is not stated: ST_ABORTED (log 28). -/
def State.endSwitch (s : State) (by_ : Option (Nat × Job)) (ok : Bool) : State :=
  match by_ with
  | some (mb, j) => if ok then s.respond mb (code j.kind) j.msg stOk [] else s.respondErr mb (code j.kind) j.msg { status := stAborted }
  | none => s

/-- A domain is on: it has passed its self-test and its engines have loaded. -/
def State.domainOn (s : State) (d : Nat) : State :=
  ((s.domTo d .on).unitsOn d (s.izent.devState == .ready)).endSwitch (s.switcher d) true

/-- A domain enters shutting down (R472, R555). -/
def State.shutDown (s : State) (d : Nat) : State :=
  let s := s.domTo d .shuttingDown
  if d = 6 then s.streamOff else s

/-- A domain goes off at once, without a drain (R469, R476). -/
def State.cutDomain (s : State) (d : Nat) : State :=
  if (s.dom d).state = .off then s else (((s.domTo d .off).unitsOff d).endSwitch (s.switcher d) false)

/-- SRAM arrays repaired at a switch-on (R489). -/
def State.repaired (s : State) (l : List (Nat × Nat)) : State := l.foldl (fun s e => s.record evSramRepaired [p2 e.1, p4 e.2]) s

/-- Decoder engines and scalers whose arrays cannot be repaired join the failed-unit list (R488, R489). -/
def State.failUnits (s : State) (engines scalers : List Nat) : State :=
  { s with health := { s.health with failedEngines := dedup (s.health.failedEngines ++ engines.filter (· < 18)), failedScalers := dedup (s.health.failedScalers ++ scalers.filter (· < 104)) } }

/-- A domain whose arrays cannot be repaired stays off: DOMAIN_FAULT with cause BIST, after the three causes of R476 (R489). -/
def State.bistFault (s : State) (d : Nat) : State := (s.cutDomain d).record evDomainFault [p2 d, p1 3]

/-- DOMAIN_OFF_COMPLETE (R474): a domain that shuts down is off once what it drains has ended. -/
def execDomainOffComplete (t : Time) (d : Nat) (s : State) : Host.Outcome State Fault Refusal :=
  runIf (d < 14) t s fun s =>
    let drains := (d == 6 && s.streams.ctx.any fun e => e.2.state == .draining) || (d == 9 && s.enc.chan.any fun e => e.2.state == .draining && e.2.coding.isSome)
    if (s.dom d).state != .shuttingDown || drains then s else (s.domTo d .off).unitsOff d

/-- DOMAIN_ON_COMPLETE (R473, R489): a domain that switches on passes its self-test, or stays off. `bad` names decoder engines of a Tower, or scalers, that cannot be repaired. -/
def execDomainOnComplete (t : Time) (d : Nat) (repairs : List (Nat × Nat)) (bad : List Nat) (ok : Bool) (s : State) : Host.Outcome State Fault Refusal :=
  runIf (d < 14) t s fun s =>
    if (s.dom d).state != .switchingOn then s
    else
      let s := s.repaired repairs
      let s := if d = 7 || d = 8 then s.failUnits (bad.filter (towerEngines d).contains) [] else if d = 10 then s.failUnits [] bad else s
      if ok then s.domainOn d else s.bistFault d

end Sys2Proof.Machine
end

