-- ==== Sys2Proof/Machine/CmdPower.lean ====
section
/-! DEFINITION. The power commands (R295, R371, R471–R475). -/

namespace Sys2Proof.Machine

/-- What refuses to switch a domain off: a domain that needs it (R19, R472), then *Orotre* on the committed layout (R371). -/
def State.offRefusal (s : State) (d : Nat) : Option Bytes :=
  if d < 4 then some (ownRefusal 0x0102 d 5 1 0)
  else if (domDependents d).any fun e => (s.dom e).state != .off then some (ownRefusal 0x0101 d 5 1 0)
  else
    let p := s.plan
    let enabled := (dispHeads d).find? fun h => match (s.head h).stored with | some r => r.enabled | none => false
    let v : Verdict := match (if d = 12 || d = 13 then enabled else none) with
      | some h => { path := 1, result := .error (plainBreach 1 4 h) }
      | none => { p with doms := p.doms.filter (· != d) }.verdict false
    if v.ok then none else some (v.bytes (s.evalUs v) 0)

/-- DOMAIN_SET (R471–R475): before READY a domain only takes its intended state; one in the requested state already keeps all it has. -/
def bodyDomainSet : Body := fun c s =>
  let d := rd c.p 0 1
  let on := rd c.p 1 1 == 1
  let x := s.dom d
  let wanted : State := s.setDom d { x with intended := on }
  if !on && d < 4 then .refused s (ownRefusal 0x0102 d 5 1 0)
  else if s.izent.devState != .ready && s.izent.devState != .fault then .ok wanted []
  else if (on && x.state = .on) || (!on && (x.state = .off || x.state = .shuttingDown)) then .ok s []
  else if x.state = .switchingOn then .wait .locks { status := stBusy, check := 10, holder := 255, wait := 100000 }
  else if on then
    if (domNeeds d).all s.domOn then .run (wanted.domTo d .switchingOn) else .refused s (ownRefusal 0x0101 d 5 1 0)
  else match s.offRefusal d with
    | some b => .refused s.useFree b
    | none => .ok (wanted.shutDown d).useFree []

/-- DOMAIN_SET (R472). -/
def execDomainSet (t : Time) (mb : Nat) (m : Msg) (s : State) : Host.Outcome State Fault Refusal := command .domainSet bodyDomainSet t mb m s

/-- POWER_CAP_SET: the committed layout must fit the new cap (R295). -/
def bodyPowerCapSet : Body := fun c s =>
  let cap := rd c.p 0 4
  let p := s.plan
  match overBreach 13 0 10 0 p.admitted cap with
  | some b => .refused s.useFree (let v : Verdict := { path := 1, result := .error b }; v.bytes (s.evalUs v) 0)
  | none => .ok { s with power := { s.power with capMw := cap } } []

/-- POWER_CAP_SET (R295). -/
def execPowerCapSet (t : Time) (mb : Nat) (m : Msg) (s : State) : Host.Outcome State Fault Refusal := command .powerCapSet bodyPowerCapSet t mb m s

def bodyDomainStatus : Body := fun c s => pairsRes s c kDom (List.range 14) 8 0 [] s.domainStatus

/-- DOMAIN_STATUS (R371). -/
def execDomainStatus (t : Time) (mb : Nat) (m : Msg) (s : State) : Host.Outcome State Fault Refusal := command .domainStatus bodyDomainStatus t mb m s

/-- Slowest pace ratio over the domains that are on (R484). -/
def State.paceMin (s : State) : Nat :=
  match ((List.range 13).map (· + 1)).filter s.domOn with
  | [] => 1000
  | d :: ds => ds.foldl (fun a e => min a (s.dom e).pace) (s.dom d).pace

/-- Health record (Table 12-26). -/
def State.healthRecord (s : State) : Bytes :=
  let p := s.power
  let ok (f : Nat) : Bool := (s.feed f).cond == .qualified
  le 2 (s.feed 0).mv ++ le 2 (s.feed 1).mv ++ le 2 (if p.kaPresent then p.kaMv else 0) ++ le 1 (if p.ilk then 1 else 0) ++ le 1 (bitsOf [ok 0, ok 1, p.kaPresent, p.pfWarn]) ++
  le 4 p.inputMw ++ leS 2 p.tjMax ++ le 2 p.tjAvg ++ le 2 s.paceMin ++ le 2 (bitsOf ((List.range 14).map s.domOn)) ++ le 2 (bitsOf ((List.range 14).map fun d => (s.dom d).atLimit)) ++
  le 2 ((2 - s.health.failedEngines.length) + 4 * (8 - s.health.failedScalers.length)) ++ le 4 s.plan.estimate ++ le 4 p.capMw ++ le 4 p.handovers ++ le 4 ((s.clk - p.readyAt) / sec) ++
  le 2 (256 - s.dram.repaired.length) ++ zeros 22

/-- The junction temperatures as telemetry measures them at the read: no row of the model feeds them (log 5). -/
def State.measured (s : State) : State :=
  ({ s with power := { s.power with tjMax := (s.fresh.setWidth 16).toInt, tjAvg := (s.fresh.toNat / 65536) % 65536 } }).useFree

def bodyHealthRead : Body := fun _ s => .ok s.measured s.measured.healthRecord

/-- HEALTH_READ (R371). -/
def execHealthRead (t : Time) (mb : Nat) (m : Msg) (s : State) : Host.Outcome State Fault Refusal := command .healthRead bodyHealthRead t mb m s

end Sys2Proof.Machine
end

