-- ==== Sys2Proof/Machine/CmdRecorder.lean ====
section
/-! DEFINITION. The recorder commands (R316, R369, R370, R533–R537). -/

namespace Sys2Proof.Machine

/-- Records of a journal in NAND and in the buffer, in sequence order, without what is cleared (R536, R537). -/
def State.journal (s : State) (audit : Bool) : List Entry :=
  let r := s.recorder
  let nand := (r.nand.filter fun p => p.audit == audit).flatMap Page.recs
  let held := r.buf.filter fun e => e.audit == audit && !nand.any fun n => n.seq == e.seq
  let all := nand ++ held
  if audit || r.clearedTo = 0 then all else all.filter fun e => e.seq != r.clearedTo && (e.seq + 4294967296 - r.clearedTo) % 4294967296 < 2147483648

/-- `a` is `b` or the later of the two sequences (R529). -/
def notBefore (a b : Nat) : Bool := (a + 4294967296 - b) % 4294967296 < 2147483648

/-- The records that fit `room` bytes. -/
def fitting : Nat → List Entry → List Entry
  | _, [] => []
  | room, e :: es => if e.size ≤ room then e :: fitting (room - e.size) es else []

/-- RECORDER_READ: whole records from FROM_SEQ, or from the oldest one held (R370, R529, R536). -/
def bodyRecorderRead : Body := fun c s =>
  let audit := rd c.p 0 1 == 1
  if audit && c.role != 4 then .err s { status := stDenied }
  else
    let all := s.journal audit
    let since := rd c.p 4 4
    let from_ := match all.head? with | some e => if notBefore since e.seq then all.filter fun e => notBefore e.seq since else all | none => []
    let recs := fitting (c.cap 8) from_
    let data := recs.flatMap Entry.bytes
    let next := match recs.getLast?, from_.head? with
      | some e, _ => nextSeq e.seq
      | none, some e => e.seq
      | none, none => nextSeq (if audit then s.recorder.seqAudit else s.recorder.seqOp)
    let first := match recs.head? with | some e => e.seq | none => next
    let refused := !data.isEmpty && !c.net && !s.hostAllows 1 (c.addr 8) data.length
    let s := s.writeBuffer c 8 data
    if refused then .ok s (le 4 first ++ le 4 first ++ zeros 8)
    else .ok s (le 4 first ++ le 4 next ++ le 4 recs.length ++ le 4 data.length)

/-- RECORDER_READ (R370). -/
def execRecorderRead (t : Time) (mb : Nat) (m : Msg) (s : State) : Host.Outcome State Fault Refusal := command .recorderRead bodyRecorderRead t mb m s

/-- RECORDER_CLEAR (R537). -/
def bodyRecorderClear : Body := fun c s =>
  if rd c.p 0 1 = 1 then .err s { status := stDenied }
  else
    let last := s.recorder.seqOp
    let s := { s with recorder := { s.recorder with clearedTo := last } }
    .ok (s.record evJournalCleared [p4 c.msg.session, p4 last]) (le 4 last)

/-- RECORDER_CLEAR (R537). -/
def execRecorderClear (t : Time) (mb : Nat) (m : Msg) (s : State) : Host.Outcome State Fault Refusal := command .recorderClear bodyRecorderClear t mb m s

/-- RECORDER_SUBSCRIBE (R316, R369): network sessions only, the audit journal for SECURITY_ADMIN only. -/
def bodyRecorderSubscribe : Body := fun c s =>
  let j := rd c.p 0 1
  if !c.net then .err s (badArg 11 0)
  else if bit j 1 && c.role != 4 then .err s { status := stDenied }
  else .ok { s with izent := { s.izent with sessions := s.izent.sessions.map fun (x : Session) => if x.mailbox == c.mb then { x with journals := j } else x } } []

/-- RECORDER_SUBSCRIBE (R370). -/
def execRecorderSubscribe (t : Time) (mb : Nat) (m : Msg) (s : State) : Host.Outcome State Fault Refusal := command .recorderSubscribe bodyRecorderSubscribe t mb m s

/-! Flushes (R533, R534). -/

/-- Pages that hold the records, in order: 4 072 bytes of them each (log 32). -/
def pagesOf (audit : Bool) (now : Nat) : Nat → List Entry → List Page
  | 0, _ => []
  | n + 1, es =>
    match fitting 4072 es with
    | [] => []
    | l => { audit := audit, firstSeq := (l.headD { ty := 0, time := 0, seq := 0, payload := [] }).seq, time := now, crc := crc32c (l.flatMap Entry.bytes), recs := l } :: pagesOf audit now n (es.drop l.length)

/-- Pages a journal keeps: its share of the ring less the 2 MiB that stay erased (R534). -/
def pageLimit (audit : Bool) : Nat := if audit then (64 - 2) * 256 else (448 - 2) * 256

/-- The first `n` records of the buffer reach the NAND ring; space returns, and what was dropped is reported (R532–R534). -/
def State.flushRing (s : State) (n : Nat) : State :=
  let r := s.recorder
  let out := r.buf.take n
  let add (audit : Bool) : List Page := let l := out.filter fun e => e.audit == audit; pagesOf audit s.now l.length l
  let keep (audit : Bool) (ps : List Page) : List Page := let l := ps.filter fun p => p.audit == audit; l.drop (l.length - pageLimit audit)
  let ps := r.nand ++ add false ++ add true
  let s := { s with recorder := { r with buf := r.buf.drop n, nand := keep false ps ++ keep true ps, flushing := none, lastFlush := s.clk, dropped := 0 } }
  if r.dropped = 0 then s else s.record evRecordsLost [p1 0, p4 r.dropped]

/-- RECORDER_FLUSH: every record that entered the buffer before the command reaches the NAND ring (R533). FLUSHED_TO is read as the operational journal's last sequence (log 32). -/
def bodyRecorderFlush : Body := fun _ s => let last := s.recorder.seqOp; .ok (s.flushRing s.recorder.buf.length) (le 4 last)

/-- RECORDER_FLUSH (R533). -/
def execRecorderFlush (t : Time) (mb : Nat) (m : Msg) (s : State) : Host.Outcome State Fault Refusal := command .recorderFlush bodyRecorderFlush t mb m s

end Sys2Proof.Machine
end

