-- ==== Sys2Proof/Machine/Cipher.lean ====
section
/-! DEFINITION. The block cipher AES-256 (FIPS 197), its modes GCM (NIST SP 800-38D) and CTR_DRBG (NIST SP 800-90A), and the key derivation of TLS 1.3 (RFC 5869, RFC 8446) that R452 names. PRESUMED from those standards (log 40). -/

namespace Sys2Proof.Machine

/-! AES-256. -/

/-- The substitution table: 32 entries in each number, the first in its lowest byte. -/
def aesBox : List Nat :=
  [0xC072A49CAFA2D4ADF04759FA7DC982CA76ABD7FE2B670130C56F6BF27B777C63, 0x75B227EBE28012079A059618C323C7041531D871F1E5A534CCF73F362693FDB7] ++
  [0xCF584C4A39BECB6A5BB1FC20ED00D153842FE329B3D63B52A05A6E1B1A2C8309, 0xD2F3FF1021DAB6BCF5389D928F40A351A89F3C507F02F94585334D43FBAAEFD0] ++
  [0xDB0B5EDE14B8EE4688902A22DC4F816073195D643D7EA7C41744975FEC130CCD, 0x08AE7A65EAF4566CA94ED58D6D37C8E779E4959162ACD3C25C2406490A3A32E0] ++
  [0x9E1DC186B95735610EF6034866B53E708A8BBD4B1F74DDE8C6B4A61C2E2578BA, 0x16BB54B00F2D99416842E6BF0D89A18CDF2855CEE9871E9B948ED9691198F8E1]

def subByte (b : Nat) : Nat := (aesBox.getD (b / 32) 0 >>> (8 * (b % 32))) % 256

/-- Twice an element of the field of 256. -/
def timesX (b : Nat) : Nat := (2 * b) % 256 ^^^ (if b ≥ 128 then 0x1B else 0)

/-- Further words of the key schedule: `n` more, the last ones first, `r` the round constant. -/
def aesWords : Nat → Nat → List (List Nat) → List (List Nat)
  | 0, _, w => w
  | n + 1, r, w =>
    let i := w.length
    let last := w.headD []
    let t := if i % 8 = 0 then (((last.drop 1 ++ last.take 1).map subByte).zip [r, 0, 0, 0]).map fun e => e.1 ^^^ e.2 else if i % 8 = 4 then last.map subByte else last
    aesWords n (if i % 8 = 0 then timesX r else r) (((w.getD 7 []).zip t).map (fun e => e.1 ^^^ e.2) :: w)

/-- Bytes of a number as numbers, the most significant first. -/
def natBytes (n v : Nat) : List Nat := (List.range n).map fun i => v / 256 ^ (n - 1 - i) % 256

def ofNatBytes (l : List Nat) : Nat := l.foldl (fun a b => 256 * a + b) 0

/-- The 15 round keys of a key of 256 bits. -/
def aesKeys (key : Nat) : List (List Nat) :=
  let first := (List.range 8).map fun i => natBytes 4 (key / 2 ^ (32 * (7 - i)) % 4294967296)
  let words := (aesWords 52 1 first.reverse).reverse
  (List.range 15).map fun i => ((words.drop (4 * i)).take 4).flatMap id

def xorNats (a b : List Nat) : List Nat := (a.zip b).map fun e => e.1 ^^^ e.2

/-- Row r of the state turns left by r; bytes stand column by column. -/
def shiftRows (s : List Nat) : List Nat := (List.range 16).map fun i => s.getD ((i + 4 * (i % 4)) % 16) 0

def mixColumn (c : List Nat) : List Nat :=
  (List.range 4).map fun i =>
    let a (k : Nat) : Nat := c.getD ((i + k) % 4) 0
    timesX (a 0) ^^^ timesX (a 1) ^^^ a 1 ^^^ a 2 ^^^ a 3

def mixColumns (s : List Nat) : List Nat := (List.range 4).flatMap fun i => mixColumn ((s.drop (4 * i)).take 4)

/-- One block of 128 bits under round keys. -/
def aesBlock (keys : List (List Nat)) (x : Nat) : Nat :=
  let s := xorNats (natBytes 16 x) (keys.headD [])
  let s := ((keys.drop 1).take 13).foldl (fun s k => xorNats (mixColumns (shiftRows (s.map subByte))) k) s
  ofNatBytes (xorNats (shiftRows (s.map subByte)) (keys.getD 14 []))

/-! GCM. -/

/-- Product in the field of 2¹²⁸: `n` more bits of `x`, from the highest. -/
def ghashMul (x : Nat) : Nat → Nat → Nat → Nat
  | 0, _, z => z
  | n + 1, v, z => ghashMul x n (v / 2 ^^^ (if v % 2 = 1 then 0xE1 * 2 ^ 120 else 0)) (if x.testBit n then z ^^^ v else z)

/-- GHASH of whole blocks. -/
def ghash (h : Nat) (blocks : List Bytes) : Nat := blocks.foldl (fun y b => ghashMul (y ^^^ ofBe b) 128 h 0) 0

def blocks16 (b : Bytes) : List Bytes := let p := padTo 16 b; pieces 16 (p.length / 16) p

/-- Bytes with a keystream. -/
def xorBytes (a b : Bytes) : Bytes := List.zipWith (· ^^^ ·) a b

/-- The keystream of `n` blocks after the counter block `j`; the low 32 bits count. -/
def gcmStream (keys : List (List Nat)) (j n : Nat) : Bytes :=
  (List.range n).flatMap fun i => be 16 (aesBlock keys (j / 2 ^ 32 * 2 ^ 32 + (j % 2 ^ 32 + i + 1) % 2 ^ 32))

/-- Encryption and decryption of GCM with a nonce of 12 bytes. -/
def gcmCrypt (key : Nat) (nonce text : Bytes) : Bytes := xorBytes text (gcmStream (aesKeys key) (ofBe nonce * 2 ^ 32 + 1) (text.length / 16 + 1))

/-- The tag over additional data and ciphertext. -/
def gcmTag (key : Nat) (nonce aad cipher : Bytes) : Bytes :=
  let keys := aesKeys key
  be 16 (ghash (aesBlock keys 0) (blocks16 aad ++ blocks16 cipher ++ [be 8 (8 * aad.length) ++ be 8 (8 * cipher.length)]) ^^^ aesBlock keys (ofBe nonce * 2 ^ 32 + 1))

/-- The plaintext of what carries the right tag. -/
def gcmOpen (key : Nat) (nonce aad cipher tag : Bytes) : Option Bytes := if gcmTag key nonce aad cipher = tag then some (gcmCrypt key nonce cipher) else none

/-! CTR_DRBG with AES-256, without a derivation function. -/

/-- `n` output blocks. -/
def Drbg.blocks (d : Drbg) (n : Nat) : Bytes :=
  let keys := aesKeys d.key
  (List.range n).flatMap fun i => be 16 (aesBlock keys ((d.v + i + 1) % 2 ^ 128))

/-- The update function with 48 bytes of provided data; `n` blocks were given before. -/
def Drbg.update (d : Drbg) (n : Nat) (data : Bytes) : Drbg :=
  let t := xorBytes (({ d with v := (d.v + n) % 2 ^ 128 } : Drbg).blocks 3) (fit 48 data)
  { key := ofBe (t.take 32), v := ofBe (t.drop 32) }

/-- Instantiation from 48 bytes of entropy. -/
def Drbg.start (entropy : Bytes) : Drbg := ({} : Drbg).update 0 entropy

/-- `n` bytes of output and the state after them. -/
def Drbg.generate (d : Drbg) (n : Nat) : Bytes × Drbg := let k := n / 16 + 1; ((d.blocks k).take n, d.update k (zeros 48))

/-! Key derivation of TLS 1.3 with SHA-384. -/

/-- HKDF-Expand-Label for up to 48 bytes. -/
def expandLabel (secret : Bytes) (label : Bytes) (context : Bytes) (n : Nat) : Bytes :=
  let l : Bytes := [0x74, 0x6C, 0x73, 0x31, 0x33, 0x20] ++ label
  let info : Bytes := be 2 n ++ le 1 l.length ++ l ++ le 1 context.length ++ context
  (hmac384 secret (info ++ [1])).take n

end Sys2Proof.Machine
end

