-- ==== Sys2Proof/Machine/Curve.lean ====
section
/-! DEFINITION. The curve P-384 (NIST SP 800-186): points, ECDSA with SHA-384 (FIPS 186-5) and the shared secret of ECDHE (RFC 8446) that R452 names. PRESUMED from those standards (log 40). -/

namespace Sys2Proof.Machine

/-- The prime of the field, the coefficient b, the order of the group and its generator. -/
def curveP : Nat := 0xFFFFFFFFFFFFFFFFFFFFFFFFFFFFFFFFFFFFFFFFFFFFFFFFFFFFFFFFFFFFFFFEFFFFFFFF0000000000000000FFFFFFFF
def curveB : Nat := 0xB3312FA7E23EE7E4988E056BE3F82D19181D9C6EFE8141120314088F5013875AC656398D8A2ED19D2A85C8EDD3EC2AEF
def curveN : Nat := 0xFFFFFFFFFFFFFFFFFFFFFFFFFFFFFFFFFFFFFFFFFFFFFFFFC7634D81F4372DDF581A0DB248B0A77AECEC196ACCC52973
def curveGx : Nat := 0xAA87CA22BE8B05378EB1C71EF320AD746E1D3B628BA79B9859F741E082542A385502F25DBF55296C3A545E3872760AB7
def curveGy : Nat := 0x3617DE4A96262C6F5D9E98BF9292DC29F8F41DBD289A147CE9DA3113B5F0B8C00A60B1CE1D7E819D7A431D7C90EA0E5F

/-- A value that is computed before it is used. -/
def eager {α : Type} (x : Nat) (k : Nat → α) : α :=
  match x with
  | 0 => k 0
  | n + 1 => k (n + 1)

/-- Difference in the field, of values below its prime. -/
def fieldSub (a b : Nat) : Nat := (a + (curveP - b)) % curveP

/-- A point in Jacobian coordinates: x/z², y/z³; z = 0 is the neutral element. -/
structure Point where
  x : Nat
  y : Nat
  z : Nat
  deriving DecidableEq, Repr

def Point.zero : Point := ⟨1, 1, 0⟩

/-- Twice a point. -/
def Point.double (a : Point) : Point :=
  eager (a.z * a.z % curveP) fun d =>
  eager (a.y * a.y % curveP) fun g =>
  eager (a.x * g % curveP) fun b =>
  eager (3 * (fieldSub a.x d) * (a.x + d) % curveP) fun l =>
  eager (fieldSub (l * l % curveP) (8 * b % curveP)) fun x =>
  eager (fieldSub (l * fieldSub (4 * b % curveP) x % curveP) (8 * g * g % curveP)) fun y =>
  eager (2 * a.y * a.z % curveP) fun z => ⟨x, y, z⟩

/-- The sum of two points. -/
def Point.add (a b : Point) : Point :=
  if a.z = 0 then b
  else if b.z = 0 then a
  else
    eager (a.z * a.z % curveP) fun p =>
    eager (b.z * b.z % curveP) fun q =>
    eager (a.x * q % curveP) fun u =>
    eager (a.y * q * b.z % curveP) fun s =>
    eager (fieldSub (b.x * p % curveP) u) fun h =>
    eager (fieldSub (b.y * p * a.z % curveP) s) fun r =>
    if h = 0 then (if r = 0 then a.double else .zero)
    else
      eager (h * h % curveP) fun hh =>
      eager (hh * h % curveP) fun c =>
      eager (u * hh % curveP) fun v =>
      eager (fieldSub (r * r % curveP) ((c + 2 * v) % curveP)) fun x =>
      eager (fieldSub (r * fieldSub v x % curveP) (s * c % curveP)) fun y =>
      eager (h * a.z * b.z % curveP) fun z => ⟨x, y, z⟩

/-- m · a + k · b from the `n` low bits of m and k; `s` is a + b. -/
def Point.combine (m k : Nat) (a b s : Point) : Nat → Point → Point
  | 0, acc => acc
  | n + 1, acc =>
    let d := acc.double
    Point.combine m k a b s n (if m.testBit n then (if k.testBit n then d.add s else d.add a) else if k.testBit n then d.add b else d)

/-- A multiple of a point. -/
def Point.times (k : Nat) (a : Point) : Point := Point.combine k 0 a .zero a 384 .zero

/-- b to the power e modulo m, from the `n` low bits of e. -/
def powMod (b e m : Nat) : Nat → Nat → Nat
  | 0, acc => acc
  | n + 1, acc => eager (if e.testBit n then acc * acc % m * b % m else acc * acc % m) (powMod b e m n)

/-- The inverse modulo a prime of 384 bits. -/
def invMod (x m : Nat) : Nat := powMod x (m - 2) m 384 1

/-- The generator. -/
def curveG : Point := ⟨curveGx, curveGy, 1⟩

/-- A point as 97 bytes: 4, then x and y, each 48 bytes, the most significant first; none where they are no point of the curve (R456). -/
def pointOf (k : Bytes) : Option Point :=
  let x := rdBe k 1 48
  let y := rdBe k 49 48
  if k.length = 97 && rd k 0 1 = 4 && x < curveP && y < curveP && y * y % curveP = (x * x * x + 3 * (curveP - x) + curveB) % curveP then some ⟨x, y, 1⟩ else none

/-- A point that is not the neutral element, as 97 bytes. -/
def Point.bytes (a : Point) : Bytes :=
  let i := invMod a.z curveP
  4 :: be 48 (a.x * i * i % curveP) ++ be 48 (a.y * i * i * i % curveP)

/-- A signature r, s over a digest verifies under a public key. -/
def ecdsaVerifies (key : Point) (digest r s : Nat) : Bool :=
  0 < r && r < curveN && 0 < s && s < curveN &&
  eager (invMod s curveN) fun w =>
    let q := Point.combine (digest * w % curveN) (r * w % curveN) curveG key (curveG.add key) 384 .zero
    q.z != 0 && (q.x = r * q.z * q.z % curveP || (r + curveN < curveP && q.x = (r + curveN) * q.z * q.z % curveP))

/-- A signature as the W16's formats carry it, r then s of 48 bytes each, verifies over a byte string under a key of 97 bytes (R365, R507). -/
def signatureOk (key message sig : Bytes) : Bool :=
  match pointOf key with
  | some p => ecdsaVerifies p (ofBe (sha384 message)) (rdBe sig 0 48) (rdBe sig 48 48)
  | none => false

/-- The shared secret of a private key and the other side's point (RFC 8446, 7.4.2). -/
def sharedSecret (d : Nat) (share : Point) : Bytes := ((Point.times d share).bytes.drop 1).take 48

/-- The public key of a private key. -/
def publicKey (d : Nat) : Bytes := (Point.times d curveG).bytes

end Sys2Proof.Machine
end

