-- ==== Sys2Proof/Machine/Certs.lean ====
section
/-! DEFINITION. Certificates (X.509 v3 in DER, RFC 5280) and the client's side of a TLS 1.3 handshake (RFC 8446) as R313 and R457 accept them. PRESUMED from those standards (log 40). -/

namespace Sys2Proof.Machine

/-! DER. -/

/-- One element: its tag, its content, the whole element, what follows. -/
def derOne (b : Bytes) : Option (Nat × Bytes × Bytes × Bytes) :=
  match b with
  | t :: l :: rest =>
    let k := if l.toNat < 128 then 0 else l.toNat - 128
    let n := if k = 0 then l.toNat else ofBe (rest.take k)
    let minimal := k = 0 || (if k = 1 then 128 else 256 ^ (k - 1)) ≤ n
    if l.toNat = 128 || k > 3 || rest.length < k + n || !minimal then none
    else some (t.toNat, sub rest k n, b.take (2 + k + n), rest.drop (k + n))
  | _ => none

/-- The elements of a content, at most `fuel`: tag, content, whole element. -/
def derAll : Nat → Bytes → Option (List (Nat × Bytes × Bytes))
  | _, [] => some []
  | 0, _ => none
  | n + 1, b => do
    let (t, c, w, rest) ← derOne b
    return (t, c, w) :: (← derAll n rest)

def derSeq (b : Bytes) : Option (List (Nat × Bytes × Bytes)) := derAll b.length b

/-- The elements of the one sequence that a byte string is. -/
def derTop (b : Bytes) : Option (List (Nat × Bytes × Bytes)) := do
  let (t, c, _, rest) ← derOne b
  if t = 0x30 && rest.isEmpty then derSeq c else none

/-- A non-negative integer. -/
def derNat (e : Nat × Bytes × Bytes) : Option Nat := if e.1 = 2 && 0 < e.2.1.length && (e.2.1.headD 0).toNat < 128 then some (ofBe e.2.1) else none

/-- r and s of an ECDSA signature. -/
def derSignature (b : Bytes) : Option (Nat × Nat) := do
  match ← derTop b with
  | [r, s] => return (← derNat r, ← derNat s)
  | _ => none

/-! Times. -/

/-- Days from 1970-01-01 of a date of the Gregorian calendar. -/
def daysOf (y m d : Nat) : Int :=
  let y' := if m ≤ 2 then y - 1 else y
  let doy := (153 * ((m + 9) % 12) + 2) / 5 + d - 1
  ((365 * y' + y' / 4 - y' / 100 + y' / 400 + doy : Nat) : Int) - 719468

/-- Seconds from 1970 of a UTCTime or GeneralizedTime in UTC. -/
def derTime (e : Nat × Bytes × Bytes) : Option Int :=
  let s := if e.1 = 0x17 then (if (e.2.1.headD 0).toNat < 0x35 then [0x32, 0x30] else [0x31, 0x39]) ++ e.2.1 else e.2.1
  let two (i : Nat) : Nat := ((s.getD i 0).toNat - 48) * 10 + ((s.getD (i + 1) 0).toNat - 48)
  let digits := (s.take 14).all fun b => 48 ≤ b.toNat && b.toNat ≤ 57
  let (m, d, h, mi, sc) := (two 4, two 6, two 8, two 10, two 12)
  if (e.1 = 0x17 || e.1 = 0x18) && s.length = 15 && s.getD 14 0 = 0x5A && digits && 1 ≤ m && m ≤ 12 && 1 ≤ d && d ≤ 31 && h < 24 && mi < 60 && sc < 60 then
    some (daysOf (100 * two 0 + two 2) m d * 86400 + ((h * 3600 + mi * 60 + sc : Nat) : Int))
  else none

/-! Certificates. -/

/-- What R457 reads of a certificate: the signed part, names, validity in s of UTC from 1970, key, CA basic constraint, digitalSignature, signature. -/
structure Cert where
  tbs : Bytes
  issuer : Bytes
  subject : Bytes
  since : Int
  until_ : Int
  key : Bytes
  ca : Bool
  signs : Bool
  sig : Nat × Nat
  deriving DecidableEq, Repr

/-- ecdsa-with-SHA384, and a key of secp384r1, as DER. -/
def oidSignature : Bytes := [0x06, 0x08, 0x2A, 0x86, 0x48, 0xCE, 0x3D, 0x04, 0x03, 0x03]
def spkiPrefix : Bytes := [0x30, 0x10, 0x06, 0x07, 0x2A, 0x86, 0x48, 0xCE, 0x3D, 0x02, 0x01, 0x06, 0x05, 0x2B, 0x81, 0x04, 0x00, 0x22, 0x03, 0x62, 0x00]

/-- The value of an extension by the last byte of its identifier 2.5.29. -/
def extension (exts : List (Nat × Bytes × Bytes)) (id : Byte) : Option Bytes :=
  exts.findSome? fun e => match derSeq e.2.1 with
    | some (o :: rest) => if o.2.2 = [0x06, 0x03, 0x55, 0x1D, id] then (rest.getLast?).map fun v => v.2.1 else none
    | _ => none

/-- An X.509 v3 certificate of a P-384 key signed with ECDSA and SHA-384. -/
def certOf (b : Bytes) : Option Cert := do
  match ← derTop b with
  | [tbs, alg, sig] =>
    match ← derSeq tbs.2.1 with
    | v :: _ :: alg' :: issuer :: validity :: subject :: spki :: more =>
      if v.2.2 != [0xA0, 3, 2, 1, 2] || alg.2.1 != oidSignature || alg'.2.1 != oidSignature || sig.1 != 3 || spki.2.1.take 21 != spkiPrefix || (pointOf (spki.2.1.drop 21)).isNone then none
      else
        let (since, until_) ← match ← derSeq validity.2.1 with
          | [a, z] => do pure (← derTime a, ← derTime z)
          | _ => none
        let exts ← match more.find? fun e => e.1 = 0xA3 with
          | some e => (derTop e.2.1)
          | none => some []
        let ca := match (extension exts 0x13).bind derTop with
          | some (c :: _) => c.2.2 == [1, 1, 0xFF]
          | _ => false
        let signs := match extension exts 0x0F with
          | some u => bit (rd u 3 1) 7
          | none => false
        return { tbs := tbs.2.2, issuer := issuer.2.2, subject := subject.2.2, since, until_, key := spki.2.1.drop 21, ca, signs, sig := ← derSignature (sig.2.1.drop 1) }
    | _ => none
  | _ => none

/-- A byte string is signed under a key of 97 bytes. -/
def signedBy (key message : Bytes) (sig : Nat × Nat) : Bool :=
  match pointOf key with
  | some p => ecdsaVerifies p (ofBe (sha384 message)) sig.1 sig.2
  | none => false

def Cert.issuedBy (c : Cert) (subject key : Bytes) : Bool := c.issuer == subject && signedBy key c.tbs c.sig

/-- Each certificate is issued by the next, the last by an anchor. -/
def chainsTo (anchors : List Cert) : List Cert → Bool
  | [] => false
  | [c] => anchors.any fun a => c.issuedBy a.subject a.key
  | c :: d :: l => c.issuedBy d.subject d.key && chainsTo anchors (d :: l)

/-- What R457 asks of the certificates of a chain, the leaf first: 0 chain, 1 validity, 2 constraints and usage; `utc` is the time of the handshake in s. -/
def chainFault (anchors : List Bytes) (utc : Int) (chain : List Bytes) : Option Nat :=
  match chain.mapM certOf with
  | none => some 0
  | some l =>
    if l.length > 4 || !chainsTo (anchors.filterMap certOf) l then some 0
    else if !l.all fun c => c.since ≤ utc && utc ≤ c.until_ then some 1
    else if !(l.drop 1).all Cert.ca || !(l.take 1).all Cert.signs then some 2
    else none

/-! The client's side of a handshake (RFC 8446, 4.4 and 7.1). -/

def hashOf (b : Bytes) : Bytes := sha384 b

/-- The handshake traffic secret of the client from the shared secret, and the master secret. -/
def tlsSecrets (shared hello : Bytes) : Bytes × Bytes :=
  let derived : Bytes := [0x64, 0x65, 0x72, 0x69, 0x76, 0x65, 0x64]
  let early := hmac384 (zeros 48) (zeros 48)
  let hs := hmac384 (expandLabel early derived (hashOf []) 48) shared
  (expandLabel hs [0x63, 0x20, 0x68, 0x73, 0x20, 0x74, 0x72, 0x61, 0x66, 0x66, 0x69, 0x63] hello 48, hmac384 (expandLabel hs derived (hashOf []) 48) (zeros 48))

/-- verify_data of the client's Finished. -/
def finishedOf (secret transcript : Bytes) : Bytes := hmac384 (expandLabel secret [0x66, 0x69, 0x6E, 0x69, 0x73, 0x68, 0x65, 0x64] [] 48) transcript

/-- The application traffic secrets, of the client and of the W16. -/
def trafficSecrets (master transcript : Bytes) : Bytes × Bytes :=
  let label (x : Byte) : Bytes := [x, 0x20, 0x61, 0x70, 0x20, 0x74, 0x72, 0x61, 0x66, 0x66, 0x69, 0x63]
  (expandLabel master (label 0x63) transcript 48, expandLabel master (label 0x73) transcript 48)

/-- What the client's CertificateVerify signs: 64 spaces, "TLS 1.3, client CertificateVerify", a zero byte, the transcript's hash. -/
def verifyText (transcript : Bytes) : Bytes :=
  List.replicate 64 0x20 ++
  [0x54, 0x4C, 0x53, 0x20, 0x31, 0x2E, 0x33, 0x2C, 0x20, 0x63, 0x6C, 0x69, 0x65, 0x6E, 0x74, 0x20, 0x43, 0x65, 0x72, 0x74, 0x69, 0x66, 0x69, 0x63, 0x61, 0x74, 0x65, 0x56, 0x65, 0x72, 0x69, 0x66, 0x79, 0x00] ++ transcript

/-- The handshake's own checks with the W16's private key `d`: the suite and the group were offered, the share is a point, CertificateVerify and Finished are right. The master secret where they hold. -/
def tlsMaster (c : TlsClient) (d : Nat) (key : Bytes) : Option Bytes :=
  match pointOf c.share, derSignature c.verify with
  | some p, some sig =>
    let secrets := tlsSecrets (sharedSecret d p) c.hello
    if c.offers && signedBy key (verifyText c.upToCert) sig && c.finished == finishedOf secrets.1 c.upToVerify then some secrets.2 else none
  | _, _ => none

end Sys2Proof.Machine
end

