-- ==== Sys2Proof/Machine/CmdSecurity.lean ====
section
/-! DEFINITION. The security and session commands (R324–R326, R364–R366, R438–R448, R454–R458). -/

namespace Sys2Proof.Machine

/-! Failed authentication (R458). -/

/-- The record of a mailbox, or of a source address. -/
def State.authOf (s : State) (who : Nat) : AuthRec := (s.prot.auth.find? fun a => a.who == who).getD { who := who }

def State.setAuth (s : State) (a : AuthRec) : State := { s with prot := { s.prot with auth := a :: s.prot.auth.filter fun b => b.who != a.who } }

/-- SESSION_OPEN or handshakes of `who` are blocked. -/
def State.blocked (s : State) (who : Nat) : Bool := match (s.authOf who).blockedUntil with
  | some t => s.clk < t
  | none => false

/-- `who` as an authentication subject: a source address stands above the mailboxes. -/
def addressWho (a : Bytes) : Nat := 65536 + ofLe (fit 16 a)

/-- The values that AUTH_FAILED and AUTH_BACKOFF name: the mailbox, or the source address. -/
def authVals (who : Nat) : List (Nat × Int) := if who < 65536 then [p2 who] else [(16, (who - 65536 : Nat))]

/-- A failed attempt: five within 60 s block for 60 s (R458). -/
def State.authFail (s : State) (who : Nat) : State :=
  let s := s.recordLimited evAuthFailed who (authVals who)
  let a := s.authOf who
  let fails := s.clk :: a.fails.filter fun t => s.clk < t + 60 * sec
  if fails.length ≥ 5 then (s.setAuth { a with fails := [], blockedUntil := some (s.clk + 60 * sec) }).recordLimited evAuthBackoff who (authVals who)
  else s.setAuth { a with fails := fails }

/-! Random numbers and signatures (R452). -/

/-- `n` random bytes. The generator is seeded with entropy, a free value, when it is first used after a power-up or restart, and not again (DESIGN CHOICE, log 40). -/
def State.random (s : State) (n : Nat) : Bytes × State :=
  let d := s.prot.drbg.getD (Drbg.start (s.freeBytes 48))
  let s := if s.prot.drbg.isNone then s.useFrees 48 else s
  ((d.generate n).1, { s with prot := { s.prot with drbg := some (d.generate n).2 } })

/-- The byte string that a challenge's answer signs (R365). -/
def State.challengeText (s : State) (mb role cred : Nat) : Bytes :=
  let nonce := match (s.mbx mb).challenge with | some ch => ch.nonce | none => []
  fit 48 nonce ++ le 1 mb ++ le 1 role ++ le 4 cred ++ le 8 s.prot.serial

/-! Sessions. -/

/-- An identifier that is not 0 and not used in this power cycle, from a free value (R324). -/
def State.newSessionId (s : State) : Nat :=
  let used := Config.localSession.toNat :: s.izent.usedIds
  let start := (s.fresh.toNat) % 4294967296
  ((List.range (used.length + 2)).map fun i => (start + i) % 4294967296).find? (fun x => x != 0 && !used.contains x) |>.getD 1

/-- Open a session on a mailbox (R324). -/
def State.openSession (s : State) (mb role cred : Nat) : State × Nat :=
  let id := s.newSessionId
  let x : Session := { id := id, role := role, mailbox := mb, opened := s.now, lastRequest := s.now, lastAt := s.clk, cred := cred }
  let s := { s.useFree with izent := { s.izent with sessions := s.izent.sessions ++ [x], usedIds := id :: s.izent.usedIds } }
  (s.record evSessionOpened [p1 role, p2 mb], id)

/-- A NONCE_ID: 32 bits whose value is not stated, a free value (R365). -/
def State.newNonceId (s : State) : Nat := (Config.free (s.freeCtr + 48)).toNat % 4294967296

/-- Issue a challenge on a mailbox (R365): 48 random bytes; its identifier is a free value. -/
def State.issueChallenge (s : State) (mb : Nat) (debug : Bool) : State × Challenge :=
  let (nonce, u) := s.random 48
  let ch : Challenge := { id := s.newNonceId, nonce := nonce, since := s.clk, debug := debug }
  let s := u.useFrees 49
  (s.setMbx mb { s.mbx mb with challenge := some ch }, ch)

/-- Whether a challenge presented is good: none where the mailbox does not hold it, else whether it is in time (R365). -/
def State.challengeOk (s : State) (mb id : Nat) (debug : Bool) : Option Bool :=
  match (s.mbx mb).challenge with
  | some ch => if ch.id = id && ch.debug == debug then some (s.clk ≤ ch.since + 10000 * ms) else none
  | none => none

/-- A challenge is used once. -/
def State.useChallenge (s : State) (mb : Nat) : State := s.setMbx mb { s.mbx mb with challenge := none }

/-- A SECURITY_ADMIN credential is installed: commissioning is closed (R455). -/
def State.commissioned (s : State) : Bool := s.prot.store.creds.any fun c => c.role == 4

def openAnswer (id role nonceId : Nat) (nonce : Bytes) : Bytes := le 4 id ++ le 1 role ++ zeros 3 ++ le 4 nonceId ++ zeros 4 ++ fit 48 nonce

/-- A SESSION_OPEN that names what its path does not carry: zero fields of Table 12-20 (log 34). -/
def sessionOpenBad (c : Call) : Option Nat :=
  let p := c.p
  let phase := rd p 0 1
  firstOff [(c.net && phase = 0, 0), (c.net && rd p 4 4 != 0, 4), ((phase = 0 || c.net) && rd p 8 4 != 0, 8), ((phase = 0 || c.net) && (sub p 16 96).any (· != 0), 16)]

/-- Phase 1 on a PCIe mailbox (R365, R455). -/
def openSigned (c : Call) (s : State) : Res :=
  let p := c.p
  let role := rd p 1 1
  let cred := rd p 4 4
  let denied : Err := { status := stDenied }
  let opened (s : State) : Res := let (s, id) := s.openSession c.mb role cred; .ok s (openAnswer id role 0 [])
  if cred = commissioning && role = 4 && !s.commissioned && (sub p 16 96).all (· == 0) then opened s
  else match s.challengeOk c.mb (rd p 8 4) false with
    | none => .err s denied
    | some false => .err (s.useChallenge c.mb) { status := stTimeout }
    | some true =>
      let text := s.challengeText c.mb role cred
      let s := s.useChallenge c.mb
      match s.prot.store.creds.find? fun x => x.id == cred with
      | some x => if x.role = role && signatureOk x.key text (sub p 16 96) then opened s else .err (s.authFail c.mb) denied
      | none => .err (s.authFail c.mb) denied

def bodySessionOpen : Body := fun c s =>
  let role := rd c.p 1 1
  let denied : Err := { status := stDenied }
  match sessionOpenBad c with
  | some o => .err s (badArg 11 o)
  | none =>
    if s.blocked c.mb then .err s denied
    else if (s.session? c.mb).isSome || (role = 5 && s.izent.sessions.any fun x => x.role == 5) then .err s { status := stLocked }
    else if c.net then
      match (s.mbx c.mb).conn with
      | some n => if n.role = some role && s.prot.store.creds.any fun x => x.id == n.cred && x.role == role && x.key == n.key then (let (s, id) := s.openSession c.mb role n.cred; .ok s (openAnswer id role 0 [])) else .err (s.authFail c.mb) denied
      | none => .err s denied
    else if rd c.p 0 1 = 0 then
      if !s.prot.entropyOk then .err s denied
      else let (s, ch) := s.issueChallenge c.mb false; .ok s (openAnswer 0 role ch.id ch.nonce)
    else openSigned c s

/-- SESSION_OPEN (R324, R365). -/
def execSessionOpen (t : Time) (mb : Nat) (m : Msg) (s : State) : Host.Outcome State Fault Refusal := command .sessionOpen bodySessionOpen t mb m s

/-- SESSION_CLOSE: only SECURITY_ADMIN closes another's session; the local action session is never closed (R326, R327, R365). -/
def bodySessionClose : Body := fun c s =>
  let id := if rd c.p 0 4 = 0 then c.msg.session else rd c.p 0 4
  if id != c.msg.session && (c.role != 4 || id == Config.localSession.toNat) then .err s { status := stDenied } else .ok (s.closeSession id 0) []

/-- SESSION_CLOSE (R326). -/
def execSessionClose (t : Time) (mb : Nat) (m : Msg) (s : State) : Host.Outcome State Fault Refusal := command .sessionClose bodySessionClose t mb m s

/-- One mailbox's session; SESSION 0 where it has none (DEDUCED, log 34). -/
def State.sessionRecord (s : State) (mb : Nat) : Bytes :=
  if mb = 24 then le 4 Config.localSession.toNat ++ le 1 1 ++ le 1 24 ++ zeros 18
  else match s.session? mb with
    | some x => le 4 x.id ++ le 1 x.role ++ le 1 mb ++ zeros 2 ++ le 8 x.opened ++ le 8 x.lastRequest
    | none => zeros 5 ++ le 1 mb ++ zeros 18

def bodySessionList : Body := fun c s => listRes s c (List.range 25) 24 s.sessionRecord

/-- SESSION_LIST (R364). -/
def execSessionList (t : Time) (mb : Nat) (m : Msg) (s : State) : Host.Outcome State Fault Refusal := command .sessionList bodySessionList t mb m s

def bodySessionIdleSet : Body := fun c s =>
  let s := s.writeStore fun x => { x with idle := rd c.p 0 4 }
  .ok { s with izent := { s.izent with idle := rd c.p 0 4 } } []

/-- SESSION_IDLE_SET: the time applies to open sessions too (R326). -/
def execSessionIdleSet (t : Time) (mb : Nat) (m : Msg) (s : State) : Host.Outcome State Fault Refusal := command .sessionIdleSet bodySessionIdleSet t mb m s

/-! Credentials and certificates. -/

/-- Close the sessions opened with a credential (R365, R456); as a cause, a revocation follows R326's list (log 6). -/
def State.closeCred (s : State) (cred : Nat) : State := ((s.izent.sessions.filter fun x => x.cred == cred).map Session.id).foldl (fun s id => s.closeSession id 4) s

/-- Commissioning closes or reopens with the credentials (R455). -/
def State.commission (s : State) (was : Bool) : State :=
  if !was && s.commissioned then (s.closeCred commissioning).record evCommissioningClosed []
  else if was && !s.commissioned then s.record evCommissioningReopened []
  else s

/-- CREDENTIAL_SET (R365, R455, R456). -/
def bodyCredentialSet : Body := fun c s =>
  let id := rd c.p 0 4
  let role := rd c.p 4 1
  let key := sub c.p 8 97
  let creds := s.prot.store.creds
  let old := creds.any fun x => x.id == id
  let was := s.commissioned
  let rest := creds.filter fun x => x.id != id
  let changed (s : State) : Res := .ok ((((if old then s.closeCred id else s).record evCredentialChanged [p4 id, p1 role, p1 (rd c.p 5 1)])).commission was) []
  if rd c.p 5 1 = 1 then
    if old then changed (s.writeStore fun x => { x with creds := rest }) else .ok s []
  else if (pointOf key).isNone || rest.any fun x => x.key == key then .err s (badArg 11 8)
  else if !old && creds.length ≥ 64 then .err s (badArg 11 0)
  else changed (s.writeStore fun x => { x with creds := rest ++ [{ id := id, role := role, key := key }] })

/-- CREDENTIAL_SET (R456). -/
def execCredentialSet (t : Time) (mb : Nat) (m : Msg) (s : State) : Host.Outcome State Fault Refusal := command .credentialSet bodyCredentialSet t mb m s

/-- TRUST_ANCHOR_SET (R364). -/
def bodyTrustAnchorSet : Body := fun c s =>
  let slot := rd c.p 0 1
  let done (s : State) : Res := .ok (s.record evTrustAnchorChanged [p2 slot, p1 (rd c.p 1 1)]) []
  if rd c.p 1 1 = 1 then done (s.writeStore fun x => { x with anchors := Map.del x.anchors slot })
  else if s.dataDenied c 4 then s.dataFault c 4
  else if (certOf (c.block 0 4)).isNone then .err s (badArg 11 4)
  else done (s.writeStore fun x => { x with anchors := Map.set x.anchors slot (c.block 0 4) })

/-- TRUST_ANCHOR_SET (R364). -/
def execTrustAnchorSet (t : Time) (mb : Nat) (m : Msg) (s : State) : Host.Outcome State Fault Refusal := command .trustAnchorSet bodyTrustAnchorSet t mb m s

def bodyDeviceCertGet : Body := fun c s =>
  let (s, needed, written) := writeWhole s c 0 s.prot.deviceCert
  .ok s (le 4 needed ++ le 4 written)

/-- DEVICE_CERT_GET (R345, R451). -/
def execDeviceCertGet (t : Time) (mb : Nat) (m : Msg) (s : State) : Host.Outcome State Fault Refusal := command .deviceCertGet bodyDeviceCertGet t mb m s

/-! Doors. -/

/-- The `n` regions of DOOR_RULES_SET as bytes. -/
def regionRecs (p : Bytes) : List Bytes := pieces 16 (rd p 1 1) (p.drop 4)

/-- Two regions overlap. -/
def regionOverlaps (a b : Region) : Bool := a.base < b.base + b.granules * 4096 && b.base < a.base + a.granules * 4096

/-- The first region with an execute bit, or that overlaps one before it (R438, R440). -/
def regionsBad : Nat → List Region → List Region → Option Nat
  | _, _, [] => none
  | o, seen, r :: rs =>
    if seen.any (regionOverlaps r) then some o
    else if r.attr &&& 0x924 != 0 then some (o + 12)
    else regionsBad (o + 16) (r :: seen) rs

/-- DOOR_RULES_SET installs the rules under the next epoch and answers once the old one has retired (R440, R444, R446). -/
def bodyDoorRulesSet : Body := fun c s =>
  let d := rd c.p 0 1
  let rs := (regionRecs c.p).map regionOf
  if d != 0x28 && d != 0x47 then .err s (badArg 11 0)
  else match regionsBad 4 [] rs with
    | some o => .err s (badArg 11 o)
    | none =>
      if s.prot.retiring.isSome then .wait .locks { status := stBusy, check := 10, holder := 255, wait := 50 }
      else
        let old := s.rulesOf d
        let e := s.prot.epoch
        let s := s.writeStore fun x => if d = 0x28 then { x with debugRules := rs } else { x with hostRules := rs }
        .run { s with prot := { s.prot with epoch := if e ≥ 0xFFFFFFFF then 1 else e + 1, retiring := some e, installedAt := s.clk, oldRules := [(d, old)] } }

/-- DOOR_RULES_SET (R446). -/
def execDoorRulesSet (t : Time) (mb : Nat) (m : Msg) (s : State) : Host.Outcome State Fault Refusal := command .doorRulesSet bodyDoorRulesSet t mb m s

def bodyDoorRulesGet : Body := fun c s =>
  let d := rd c.p 0 1
  let rs := s.rulesOf d
  if !doorExists d then .err s (badArg 11 0) else .ok s (le 1 d ++ le 1 rs.length ++ zeros 2 ++ rs.flatMap regionBytes ++ le 4 s.prot.epoch)

/-- DOOR_RULES_GET (R438). -/
def execDoorRulesGet (t : Time) (mb : Nat) (m : Msg) (s : State) : Host.Outcome State Fault Refusal := command .doorRulesGet bodyDoorRulesGet t mb m s

/-! Debug. -/

/-- DEBUG_UNLOCK: a challenge, then the debug authority's signature over it (R365, R448, R453). -/
def bodyDebugUnlock : Body := fun c s =>
  let p := c.p
  if rd p 0 1 = 0 then
    match firstOff [(rd p 4 4 != 0, 4), ((sub p 8 96).any (· != 0), 8)] with
    | some o => .err s (badArg 11 o)
    | none =>
      if !s.prot.entropyOk then .err s { status := stDenied }
      else let (s, ch) := s.issueChallenge c.mb true; .ok s (le 4 ch.id ++ zeros 4 ++ fit 48 ch.nonce)
  else match s.challengeOk c.mb (rd p 4 4) true with
    | none => .err s { status := stDenied }
    | some false => .err (s.useChallenge c.mb) { status := stTimeout }
    | some true =>
      let text := s.challengeText c.mb 5 0
      let s := s.useChallenge c.mb
      if !signatureOk s.prot.debugKey text (sub p 8 96) then .err s { status := stDenied }
      else .ok (({ s with prot := { s.prot with unlockedAt := some s.clk, wasUnlocked := true } }).record evDebugUnlocked []) (zeros 56)

/-- DEBUG_UNLOCK (R448). -/
def execDebugUnlock (t : Time) (mb : Nat) (m : Msg) (s : State) : Host.Outcome State Fault Refusal := command .debugUnlock bodyDebugUnlock t mb m s

def bodyDebugLock : Body := fun _ s => .ok s.lockDebug []

/-- DEBUG_LOCK (R448). -/
def execDebugLock (t : Time) (mb : Nat) (m : Msg) (s : State) : Host.Outcome State Fault Refusal := command .debugLock bodyDebugLock t mb m s

end Sys2Proof.Machine
end

