-- ==== Sys2Proof/Machine/CmdSystem.lean ====
section
/-! DEFINITION. The System commands (R347, R348, R334–R337). -/

namespace Sys2Proof.Machine

/-- STATE of DEV_STATE (Table 11-2). -/
def DevState.code : DevState → Nat
  | .boot => 0 | .starting => 1 | .ready => 2 | .fault => 3 | .powerFail => 4

/-- DEV_FLAGS (Table 11-2). -/
def State.devFlags (s : State) : Nat := setBit s.flagBits 1 (s.safeCauses != 0)

/-- DEV_MISMATCHES. -/
def State.mismatches (s : State) : Nat := (s.health.compares.filter fun c => c.reportedAt.isSome).length

/-- DEV_SESSIONS; the local action session is not one of `sessions`. -/
def State.devSessions (s : State) : Nat := s.izent.sessions.length + 256 * (s.izent.mbx.filter fun e => e.2.conn.isSome).length

/-- The 32 bytes at BAR0 0x0010 to 0x002F as one snapshot; the snapshot latches nothing (DEDUCED, log 34). -/
def State.healthRegs (s : State) : Bytes :=
  le 4 s.izent.devState.code ++ le 4 s.devFlags ++ le 4 s.izent.alive ++ le 4 s.izent.healthEvents ++ le 8 s.now ++ le 4 s.mismatches ++ le 4 s.devSessions

/-- Identity record (Table 12-4). -/
def State.identity (s : State) : Bytes :=
  le 2 0x4C4B ++ le 2 0x0016 ++ le 1 0x42 ++ le 1 1 ++ le 2 Config.pciVendor.toNat ++ le 8 s.prot.serial ++ le 1 s.izent.devState.code ++ zeros 3 ++
  (List.range 8).flatMap (fun i => le 4 (s.image i).running.version) ++ le 2 1 ++ le 2 16384 ++ le 1 16 ++ le 1 8 ++ zeros 6

def bodySystemIdentify : Body := fun _ s => .ok s s.identity

/-- SYSTEM_IDENTIFY (R347). -/
def execSystemIdentify (t : Time) (mb : Nat) (m : Msg) (s : State) : Host.Outcome State Fault Refusal := command .systemIdentify bodySystemIdentify t mb m s

def bodySystemStatus : Body := fun _ s => .ok s s.healthRegs

/-- SYSTEM_STATUS (R347). -/
def execSystemStatus (t : Time) (mb : Nat) (m : Msg) (s : State) : Host.Outcome State Fault Refusal := command .systemStatus bodySystemStatus t mb m s

/-- SYSTEM_RESTART waits for flips (R348) and for a plan that is RUNNING (R518); else the restart follows 1 ms after the response. -/
def bodySystemRestart : Body := fun c s =>
  let flips := (List.range 4).filter fun g => (s.grpC g).next.isSome
  if !flips.isEmpty then .wait .flip { status := stBusy, holder := 255, wait := maxL (flips.map s.flipLeft) }
  else if s.upd.planState = .running then .wait .switching { status := stBusy, holder := 255, wait := 0xFFFFFFFF }
  else .ok { s with power := { s.power with restart := some (rd c.p 0 1, s.clk + 1 * ms) } } []

/-- SYSTEM_RESTART (R348). -/
def execSystemRestart (t : Time) (mb : Nat) (m : Msg) (s : State) : Host.Outcome State Fault Refusal := command .systemRestart bodySystemRestart t mb m s

/-- The mailboxes whose command an ABORT names (R334). -/
def State.abortTargets (s : State) (kind target session : Nat) : List Nat :=
  let busy := s.izent.mbx.filter fun e => e.2.job.isSome
  match kind with
  | 0 => (busy.filter fun e => e.1 == target).map (·.1)
  | 1 => (busy.filter fun e => if e.1 = 24 then session = Config.localSession.toNat else (match s.session? e.1 with | some x => x.id == session | none => false)).map (·.1)
  | _ =>
    let k := if kind = 2 then kHead else if kind = 3 then kWin else if kind = 4 then kCtx else kEnc
    (busy.filter fun e => match e.2.job with | some j => (s.targets j).contains (k, target) | none => false).map (·.1)

/-- The sender may end the command of a mailbox (R336); the local action session may be ended as an OPERATOR's. -/
def State.mayAbort (s : State) (c : Call) (mb : Nat) : Bool :=
  let r := if mb = 24 then 1 else match s.session? mb with | some x => x.role | none => 0
  mb == c.mb || (if r ≤ 2 then c.role != 0 else r == c.role)

/-- ABORT's counts: ended, completed, denied. -/
def State.abortAll (s : State) (c : Call) (targets : List Nat) : State × Nat × Nat × Nat :=
  targets.foldl (fun (r : State × Nat × Nat × Nat) mb =>
    let (s, a, d, x) := r
    if !s.mayAbort c mb then (s, a, d, x + 1)
    else match s.abortAt mb with
      | (s, 1) => (s, a + 1, d, x)
      | (s, 2) => (s, a, d + 1, x)
      | (s, _) => (s, a, d, x)) (s, 0, 0, 0)

def bodyAbort : Body := fun c s =>
  let kind := rd c.p 0 1
  let target := rd c.p 2 2
  let last := if kind = 0 then 24 else if kind = 1 then 0 else if kind = 2 then 15 else if kind = 3 then 1023 else if kind = 4 then 255 else 31
  if target > last then .err s (badArg 11 2)
  else if kind != 1 && rd c.p 4 4 != 0 then .err s (badArg 11 4)
  else
    let (s, a, d, x) := s.abortAll c (s.abortTargets kind target (rd c.p 4 4))
    .ok s (le 2 a ++ le 2 d ++ le 2 x ++ zeros 2)

/-- ABORT (R334–R337). -/
def execAbort (t : Time) (mb : Nat) (m : Msg) (s : State) : Host.Outcome State Fault Refusal := command .abort bodyAbort t mb m s

end Sys2Proof.Machine
end

