-- ==== Sys2Proof/Machine/CmdTime.lean ====
section
/-! DEFINITION. The time commands (R74, R80, R84, R93, R359). -/

namespace Sys2Proof.Machine

/-- A refusal by one check of Orotre on its own (R287, R359). -/
def State.refuseOne (s : State) (b : Breach) : Res :=
  let v : Verdict := { path := 1, result := .error b }
  .refused s.useFree (v.bytes (s.evalUs v) 0)

/-- TIME_BASE_SET is checked against R294 for the committed layout (R74, R359). -/
def bodyTimeBaseSet : Body := fun c s =>
  match baseX c.p with
  | some o => .err s (badArg 11 o)
  | none =>
    let r := baseOf c.p
    let p := s.plan
    match { p with bases := Map.set p.bases r.base r }.time with
    | some b => s.refuseOne b
    | none => .ok (s.setBaseCfg r) []

/-- TIME_BASE_SET (R74). -/
def execTimeBaseSet (t : Time) (mb : Nat) (m : Msg) (s : State) : Host.Outcome State Fault Refusal := command .timeBaseSet bodyTimeBaseSet t mb m s

def bodyTimeSelectSet : Body := fun c s =>
  match selectX c.p with
  | some o => .err s (badArg 11 o)
  | none => .ok { s with time := { s.time with sel := selectOf c.p } } []

/-- TIME_SELECT_SET (R80); the next evaluation uses the record. -/
def execTimeSelectSet (t : Time) (mb : Nat) (m : Msg) (s : State) : Host.Outcome State Fault Refusal := command .timeSelectSet bodyTimeSelectSet t mb m s

/-- TIME_ACCEPT clears DISAGREE and lets the base be selected while it stays LOCKED (R84). -/
def bodyTimeAccept : Body := fun c s =>
  let b := rd c.p 0 1
  if !(s.base b).disagree then .err s (badArg 11 0) else .ok (s.setBase b { s.base b with disagree := false, acceptance := true }) []

/-- TIME_ACCEPT (R84). -/
def execTimeAccept (t : Time) (mb : Nat) (m : Msg) (s : State) : Host.Outcome State Fault Refusal := command .timeAccept bodyTimeAccept t mb m s

def bodyTimeConfigGet : Body := fun _ s => .ok s ((List.range 4).flatMap (fun b => baseBytes (s.base b).cfg) ++ selectBytes s.time.sel)

/-- TIME_CONFIG_GET (R359). -/
def execTimeConfigGet (t : Time) (mb : Nat) (m : Msg) (s : State) : Host.Outcome State Fault Refusal := command .timeConfigGet bodyTimeConfigGet t mb m s

/-- The device-time block of TIME_STATUS (Table 12-13). BASE in HOLD is the base last followed (DEDUCED, log 34). -/
def State.deviceTime (s : State) : Bytes :=
  le 1 s.time.state.code ++ le 1 (if s.time.state = .free then 0xFF else s.time.base) ++ le 2 (bitsOf [s.time.unset]) ++ le 4 (s.uDt s.now) ++ le 8 s.now

def bodyTimeStatus : Body := fun c s => pairsRes s c kBase (List.range 4) 56 16 s.deviceTime s.baseStatus

/-- TIME_STATUS (R93, R359). -/
def execTimeStatus (t : Time) (mb : Nat) (m : Msg) (s : State) : Host.Outcome State Fault Refusal := command .timeStatus bodyTimeStatus t mb m s

end Sys2Proof.Machine
end

