-- ==== Sys2Proof/Machine/Update.lean ====
section
/-! DEFINITION. Firmware update: the order of activation, staging, activation, confirmation, fallback, and the settings that images own (R510–R525). -/

namespace Sys2Proof.Machine

/-! Containers (R506–R508). -/

/-- The header of a container (Table 19-2). -/
def containerOf (b : Bytes) : Container :=
  { image := rd b 6 1, securityVersion := rd b 7 1, version := rd b 8 4, iface := rd b 12 2, settingsFormat := rd b 14 2, migrateFrom := rd b 16 2, writesFrom := rd b 18 2
    confirmCriteria := rd b 20 2, settleS := rd b 22 2, plainLength := rd b 24 4, blocks := rd b 28 4, serial := rd b 32 8
    requires := (List.range 8).map fun i => (rd b (80 + 4 * i) 2, rd b (82 + 4 * i) 2) }

/-- Length of a container (R506). -/
def containerSize (c : Container) : Nat := 512 + 65568 * c.blocks

/-- A container that R507 takes as valid, by its header. -/
def State.headerValid (s : State) (b : Bytes) : Bool :=
  let c := containerOf b
  c.serial == s.prot.serial && rd b 4 2 == 1 && c.blocks == cdiv c.plainLength 65536 && signatureOk s.prot.rootKey (b.take 416) (sub b 416 96)

/-- The plaintext of a container whose CRCs and tags are right (R508, steps 1 and 2). -/
def plaintextOf (header : Bytes) (blocks : List CipherBlock) : Option Bytes :=
  let key := (Config.updateKey (sub header 48 32)).toNat
  let open_ (e : CipherBlock × Nat) : Option Bytes :=
    if e.1.cipher.length = 65536 && crc32c (e.1.cipher ++ e.1.tag) = e.1.crc then gcmOpen key (sub header 40 8 ++ le 4 e.2) (header.take 32) e.1.cipher e.1.tag else none
  (blocks.zipIdx.mapM open_).map fun l => l.flatMap id

/-- An image passes R508 under the counter in force. -/
def State.passes (s : State) (header : Bytes) (blocks : List CipherBlock) : Bool :=
  let c := containerOf header
  blocks.length = c.blocks && s.upd.counter ≤ c.securityVersion &&
  (match plaintextOf header blocks with
  | some plain => signatureOk s.prot.rootKey (plain.take c.plainLength) (sub header 112 96)
  | none => false)

/-! Configurations (R510–R512). -/

/-- The configuration with the new versions of the images in `l`. -/
def State.config (s : State) (new : List Container) (l : List Nat) (i : Nat) : Container :=
  match (if l.contains i then new.find? fun c => c.image == i else none) with
  | some c => c
  | none => (s.image i).running

/-- Image `x` accepts the interface of image `y`. -/
def accepts (cfg : Nat → Container) (x y : Nat) : Bool :=
  let r := (cfg x).requires.getD y (0, 0xFFFF)
  r.1 ≤ (cfg y).iface && (cfg y).iface ≤ r.2

/-- Images that the matrix check runs against: while the boot ROM serves, those that remain valid (R526). -/
def State.checked (s : State) (l : List Nat) : List Nat := (List.range 8).filter fun i => !s.upd.bootRom || (s.image i).good || l.contains i

/-- The first image whose requirement is not met (R510). -/
def State.misfit (s : State) (new : List Container) (l : List Nat) : Option Nat :=
  let cfg := s.config new l
  let all := s.checked l
  all.find? fun x => all.any fun y => !accepts cfg x y

/-- The first sequence in lexicographic order that fits after every step (R512): `done` fits, `rest` rises. -/
def State.orderFrom (s : State) (new : List Container) : Nat → List Nat → List Nat → Option (List Nat)
  | 0, done, _ => some done
  | n + 1, done, rest =>
    rest.findSome? fun c =>
      if (s.misfit new (done ++ [c])).isSome then none
      else s.orderFrom new n (done ++ [c]) (rest.erase c)

/-- The image whose requirement fails first in the first order tried (R511). -/
def State.firstMisfit (s : State) (new : List Container) : Nat → List Nat → List Nat → Option Nat
  | 0, _, _ => none
  | _ + 1, _, [] => none
  | n + 1, done, c :: rest =>
    match s.misfit new (done ++ [c]) with
    | some x => some x
    | none => s.firstMisfit new n (done ++ [c]) rest

/-! Settings (R523). -/

/-- The settings in force that images own (Table 19-1). -/
def State.owned (s : State) : Owned :=
  { stored := s.comp.stored, timings := s.comp.heads.map fun e => (e.1, e.2.stored), lanes := s.lanes.lane.map fun e => (e.1, e.2.cfg), addresses := s.lanes.lane.map fun e => (e.1, e.2.address)
    bases := (List.range 4).map fun b => (b, (s.base b).cfg), sel := s.time.sel, intended := s.power.domains.map fun e => (e.1, e.2.intended), store := s.prot.store
    safety := s.comp.safety, tones := s.comp.shadow.tones, coefs := s.comp.shadow.coefs, keys := s.touch.el.map fun e => (e.1, e.2.cfg), actions := s.touch.actions }

/-- The settings of image `i` go back to a snapshot (R523). -/
def State.restoreOwned (s : State) (i : Nat) (o : Owned) : State :=
  match i with
  | 0 =>
    let s := { s with comp := { s.comp with stored := o.stored }, prot := { s.prot with store := o.store, storeA := o.store, storeB := o.store }, time := { s.time with sel := o.sel }, izent := { s.izent with idle := o.store.idle } }
    let s := s.comp.heads.foldl (fun s e => s.setHead e.1 { s.head e.1 with stored := Map.get none o.timings e.1 }) s
    let s := s.lanes.lane.foldl (fun s e =>
      let c : LaneCfg := Map.get { lane := e.1 } o.lanes e.1
      let s := if (s.lane e.1).cfg == c then s else s.applyLane c
      s.setLane e.1 { s.lane e.1 with address := Map.get { port := e.1 } o.addresses e.1 }) s
    let s := o.bases.foldl (fun s e => if (s.base e.1).cfg == e.2 then s else s.setBaseCfg e.2) s
    s.power.domains.foldl (fun s e => s.setDom e.1 { s.dom e.1 with intended := Map.get true o.intended e.1 }) s
  | 1 => { s with comp := { s.comp with safety := o.safety, copyA := o.safety, copyB := o.safety } }
  | 3 => { s with comp := { s.comp with shadow := { s.comp.shadow with tones := o.tones, coefs := o.coefs } } }
  | 6 =>
    let s := s.touch.el.foldl (fun s e => s.setEl e.1 { s.el e.1 with cfg := Map.get { electrode := e.1 } o.keys e.1 }) s
    { s with touch := { s.touch with actions := o.actions } }
  | _ => s

/-- A new image converts the settings it owns; MIGRATE_ONCE keeps a snapshot (R523). -/
def State.migrate (s : State) (i : Nat) (c : Container) : State :=
  let x := s.image i
  if c.settingsFormat = 0 || c.settingsFormat = x.settings then s
  else (s.setImage i { x with settings := c.settingsFormat, snapshot := if s.upd.migration = 0 then some (x.settings, s.owned) else none }).record evSettingsMigrated [p2 i]

/-! Activation (R514–R518). -/

/-- Bound of an activation, ns; COMP's is its last head's return, BOOT2 has none (R514, R517). -/
def activationBound (i : Nat) : Option Nat :=
  match i with
  | 0 | 1 => some (100 * ms)
  | 2 => some ((50 + 16 * 5) * ms)
  | 4 => some ((50 + 22 * 2) * ms)
  | 5 | 6 => some (200 * ms)
  | _ => none

/-- The activation, or the return, of an image is due: Spire A waits for the command in progress, COMP for pending flips (R515, R516). -/
def State.activate (s : State) (i : Nat) : State :=
  let s := s.setImage i { s.image i with state := 2 }
  let u := { s.upd with current := i }
  if i = 0 then { s with upd := { u with spireDue := true } }
  else if i = 3 then { s with upd := { u with compDue := true } }
  else { s with upd := { u with activating := some (i, s.clk) } }

/-- A restart follows 1 ms later (R518). -/
def State.planRestart (s : State) (mode : Nat) : State :=
  { s with power := { s.power with restart := some (mode, s.clk + 1 * ms) }, upd := { s.upd with restarting := true, current := 255 } }

/-- PLAN_STATE becomes CONFIRM_PENDING (R519, R521). -/
def State.pendConfirm (s : State) : State :=
  { s with upd := { s.upd with planState := .confirmPending, deadline := s.now + s.upd.confirmS * sec, settledFrom := s.clk, requested := false, current := 255, restarting := false } }

/-- A fallback ends: snapshots are restored, PLAN_STATE reads FALLEN_BACK (R520, R523). -/
def State.fallen (s : State) (cause : Nat) : State :=
  let s := (List.range 8).foldl (fun s i => match (s.image i).snapshot with
    | some (f, o) => (s.setImage i { s.image i with snapshot := none, settings := f }).restoreOwned i o
    | none => s) s
  let s := ({ s with upd := { s.upd with planState := .fallenBack, falling := none, deadline := 0, current := 255, spireDue := false, compDue := false } }).record evUpdateFallback [p1 cause]
  if s.upd.order.contains 7 then s.planRestart 0 else s

/-- What follows an activation or a return (R514, R518–R520). -/
def State.nextImage (s : State) : State :=
  match s.upd.falling with
  | some cause => (match s.upd.activated.getLast? with
    | some i => s.activate i
    | none => s.fallen cause)
  | none => (match s.upd.order.find? fun i => !s.upd.activated.contains i with
    | some i => s.activate i
    | none => if s.upd.order.contains 7 then s.planRestart 0 else s.pendConfirm)

/-- An image runs its new version (R514). -/
def State.imageRuns (s : State) (i : Nat) : State :=
  let x := s.image i
  match x.staged with
  | none => s
  | some c =>
    let s := s.migrate i c
    let x := s.image i
    let s := s.setImage i { x with running := c, fallback := some x.running, staged := none, state := 3, good := true }
    ({ s with upd := { s.upd with activated := s.upd.activated ++ [i] } }).record evUpdateActivated [p2 i]

/-- An image runs its former version again (R520). Under DUAL_KEEP its settings stay, in the old format (R523). -/
def State.imageReturns (s : State) (i : Nat) : State :=
  let x := s.image i
  let old := x.fallback.getD x.running
  let s := s.setImage i { x with running := old, fallback := none, state := 0, settings := if x.snapshot.isNone && old.settingsFormat != 0 then old.settingsFormat else x.settings }
  { s with upd := { s.upd with activated := s.upd.activated.filter (· != i) } }

/-- An activation that is due and has not begun is dropped: its image is still staged, or keeps its version. -/
def State.dropDue (s : State) : State :=
  let drop (i : Nat) (due : Bool) (s : State) : State := if due && (s.image i).state = 2 then s.setImage i { s.image i with state := 1 } else s
  let s := drop 3 s.upd.compDue (drop 0 s.upd.spireDue s)
  { s with upd := { s.upd with spireDue := false, compDue := false } }

/-- The fallback of R520 starts. An activation that is due but has not begun is not in progress; one that failed has not replaced its version (DEDUCED, log 31). -/
def State.fallBack (s : State) (cause : Nat) : State :=
  let s := { s with upd := { s.upd with falling := some cause, deadline := 0 } }
  if s.upd.activating.isSome then s else s.dropDue.nextImage

/-- The activation in progress ends without its new version (R514). -/
def State.dropActivation (s : State) : State :=
  match s.upd.activating with
  | none => s
  | some (i, _) =>
    let s := { s with upd := { s.upd with activating := none, spireSwitch := none, compDue := false }, comp := { s.comp with compActive := none } }
    if s.upd.activated.contains i then s.imageReturns i else s.setImage i { s.image i with state := 1 }

/-- The free slot of an image holds nothing valid (R470, R522). -/
def State.spoilSlot (s : State) (i : Nat) : State := s.setImage i { s.image i with staged := none, fallback := none, state := 0 }

/-- UPDATE_STAGE_DONE (R508, R513): the container that the W16 read of the image being staged is verified and written, or the plan fails; the cause is the place in R513's list. A container that fails before the write leaves the slot as it was (DEDUCED, log 31). A header other than the planned one fails the verification (DEDUCED, log 31). `written` says that the NAND write did not fail twice; after a power-fail warning none completes (R469). -/
def execUpdateStageDone (t : Time) (x : ContainerRead) (written : Bool) (s : State) : Host.Outcome State Fault Refusal :=
  run t s fun s =>
    match s.upd.order[s.upd.stagedCount]? with
    | none => s
    | some i =>
      if s.upd.planState != .running || s.upd.falling.isSome || s.power.pfWarn then s
      else
        let src := Map.get (0, 0) s.upd.sources i
        let reads := s.hostAllows 0 src.1 src.2
        let planned := if s.headerValid x.header && s.passes x.header x.blocks then s.upd.plan.find? fun c => c.image == i && c == containerOf x.header else none
        match (if reads && written then planned else none) with
        | none =>
          let s := if reads then s else s.hostDenied 0 src.1 src.2
          let s := if reads && planned.isSome then s.spoilSlot i else s
          ({ s with upd := { s.upd with planState := .failed, current := 255 } }).record evUpdateFailed [p2 i, p1 (if !reads then 1 else if planned.isNone then 0 else 2)]
        | some c =>
          let s := s.setImage i { s.image i with staged := some c, fallback := none, state := 1 }
          let n := s.upd.stagedCount + 1
          let s := { s with upd := { s.upd with stagedCount := n, current := s.upd.order.getD n 255 } }
          if n < s.upd.order.length then s
          else if s.upd.bootRom then
            let s := s.upd.order.foldl (fun s i => match (s.image i).staged with
              | some c => s.setImage i { s.image i with running := c, staged := none, state := 0, good := true }
              | none => s) s
            ({ s with upd := { s.upd with planState := .done } }).planRestart 1
          else s.nextImage

/-- SPIRE_A_SWITCH (R515): Spire A switches once no command is in progress. -/
def execSpireASwitch (t : Time) (s : State) : Host.Outcome State Fault Refusal :=
  run t s fun s =>
    let busy := (s.izent.mbx.any fun e => match e.2.job with | some j => j.cause.isNone | none => false) || s.touch.running.isSome
    if !s.upd.spireDue || busy then s
    else { s with upd := { s.upd with spireDue := false, spireSwitch := some s.clk, activating := some (0, s.clk) } }

/-- COMP_ACTIVATION (R516): it starts once no group has a pending flip; groups without an enabled head switch at once. -/
def execCompActivation (t : Time) (s : State) : Host.Outcome State Fault Refusal :=
  run t s fun s =>
    let pendingFlip := (List.range 4).any fun g => (s.grpC g).next.isSome
    if !s.upd.compDue || s.upd.activating.isSome || pendingFlip then s
    else
      let s := { s with upd := { s.upd with activating := some (3, s.clk) }, comp := { s.comp with compActive := some [] } }
      (List.range 4).foldl (fun s g => if (s.headsOf g).isEmpty then s.resetCoefs g else s) s

/-- IMAGE_RUNNING (R514, R517): the image in activation reports running, or fails; then the next one follows. -/
def execImageRunning (t : Time) (ok : Bool) (s : State) : Host.Outcome State Fault Refusal :=
  run t s fun s =>
    match s.upd.activating with
    | none => s
    | some (i, _) =>
      if i = 3 && !s.compEnded then s
      else
        let back := s.upd.activated.contains i
        let s := { s with upd := { s.upd with activating := none, spireSwitch := none, compDue := false }, comp := { s.comp with compActive := none } }
        if back then (s.imageReturns i).nextImage
        else if ok then (s.imageRuns i).nextImage
        else (s.setImage i { s.image i with state := 1 }).fallBack (s.upd.falling.getD 2)

/-- ACTIVATION_TIMEOUT (R514): the image has not reported within its bound. -/
def execActivationTimeout (t : Time) (s : State) : Host.Outcome State Fault Refusal :=
  run t s fun s =>
    match s.upd.activating with
    | none => s
    | some (i, since) =>
      match activationBound i with
      | none => s
      | some b => if since + b ≤ s.clk then s.dropActivation.fallBack (s.upd.falling.getD 2) else s

/-! Confirmation (R519, R521, R524). -/

/-- The anti-rollback counter follows the smallest SECURITY_VERSION that runs (R524). -/
def State.advanceCounter (s : State) : State :=
  let least := (List.range 8).foldl (fun a i => min a (s.image i).running.securityVersion) 127
  if least > s.upd.counter then ({ s with upd := { s.upd with counter := least } }).record evRollbackAdvanced [p4 s.upd.counter, p4 least] else s

/-- The plan is confirmed: source 0 HOST, 1 SELF_TEST (R519, R521). -/
def State.confirmPlan (s : State) (source : Nat) : State :=
  let s := ({ s with upd := { s.upd with planState := .done, deadline := 0 } }).advanceCounter
  let s := s.upd.activated.foldl (fun s i =>
    let x := s.image i
    let kept : Bool := match x.fallback with | some f => s.upd.counter ≤ f.securityVersion | none => false
    s.setImage i { x with state := if kept then 4 else 0, fallback := if kept then x.fallback else none, snapshot := none }) s
  s.record evUpdateConfirmed [p1 source]

/-- An UPDATE_CONFIRM of the plan that was rung before the deadline is held (R519). -/
def State.confirmHeld (s : State) : Bool :=
  s.izent.mbx.any fun e => match e.2.job with | some j => j.kind = .updateConfirm && rd j.msg.payload 0 2 = s.upd.planId && j.rung < s.upd.deadline | none => false

/-- CONFIRM_DEADLINE (R519, R520): a confirmation rung before it still counts. -/
def execConfirmDeadline (t : Time) (s : State) : Host.Outcome State Fault Refusal :=
  run t s fun s =>
    if s.upd.planState == .confirmPending && s.upd.falling.isNone && s.upd.deadline ≤ s.now && !s.confirmHeld then s.fallBack 0 else s

/-- SELF_TEST_SETTLED (R521): every criterion has held for the largest SETTLE_S, and every image names one. -/
def execSelfTestSettled (t : Time) (s : State) : Host.Outcome State Fault Refusal :=
  run t s fun s =>
    let u := s.upd
    let named := u.plan.all fun c => c.confirmCriteria != 0
    let settle := maxL (u.plan.map Container.settleS)
    if u.planState == .confirmPending && u.falling.isNone && named && !criterionBroken s s && (!bit s.criteria 6 || u.requested) && u.settledFrom + settle * sec ≤ s.clk then s.confirmPlan 1
    else s

end Sys2Proof.Machine
end

