-- ==== Sys2Proof/Machine/CmdUpdate.lean ====
section
/-! DEFINITION. The update commands (R367, R368, R509–R513, R519, R520). -/

namespace Sys2Proof.Machine

def PlanState.code : PlanState → Nat
  | .none => 0 | .planned => 1 | .running => 2 | .confirmPending => 3 | .done => 4 | .fallenBack => 5 | .failed => 6

/-- What checks 1 to 3 of R511 answer for the entries from number `i` on, given the images named before. -/
def State.entriesBad (s : State) (c : Call) : Nat → Nat → List Nat → Option Res
  | 0, _, _ => none
  | n + 1, i, seen =>
    let o := 4 + 20 * i
    let b := fit 512 (c.msg.data.getD i [])
    let h := containerOf b
    if !s.hostAllows 0 (c.addr (o + 4)) 512 then some (s.dataFault c (o + 4))
    else if !s.headerValid b || h.image != rd c.p o 1 || seen.contains h.image || c.cap (o + 4) != containerSize h ||
      (s.upd.bootRom && !(h.image = 0 || h.image = 1 || h.image = 7)) then some (.err s (badArg 11 o))
    else if h.securityVersion < s.upd.counter then some (.refused s (ownRefusal 0x0104 h.image 5 s.upd.counter h.securityVersion))
    else if h.settingsFormat != 0 && h.migrateFrom > (s.image h.image).settings then some (.refused s (ownRefusal 0x0103 h.image 5 1 0))
    else s.entriesBad c n (i + 1) (h.image :: seen)

/-- A plan is RUNNING or CONFIRM_PENDING (R368). -/
def State.planBusy (s : State) : Bool := s.upd.planState == .running || s.upd.planState == .confirmPending

def planBusyErr : Err := { status := stBusy, holder := 255, wait := 0xFFFFFFFF }

/-- The codes of an order, 0xFF where unused. -/
def orderBytes (l : List Nat) : Bytes := (List.range 8).flatMap fun i => le 1 (l.getD i 255)

/-- A new PLAN_ID (R511): 16 bits, not 0 (Table 12-23) and not given before while one is left; its value is not stated, so it comes from a free value. -/
def State.newPlanId (s : State) : Nat :=
  let start := s.fresh.toNat % 65536
  ((List.range (s.upd.usedPlans.length + 2)).map fun i => (start + i) % 65536).find? (fun x => x != 0 && !s.upd.usedPlans.contains x) |>.getD (start % 65535 + 1)

/-- UPDATE_PLAN reads the headers, checks them and orders the images; it writes nothing to NAND (R368, R509–R512). -/
def bodyUpdatePlan : Body := fun c s =>
  let n := rd c.p 0 1
  if c.net then .err s (badArg 11 0)
  else if s.planBusy then .err s planBusyErr
  else match s.entriesBad c n 0 [] with
    | some r => r
    | none =>
      let new := (List.range n).map fun i => containerOf (fit 512 (c.msg.data.getD i []))
      let codes := sortBy id (new.map Container.image)
      match s.orderFrom new n [] codes with
      | none => .refused s (ownRefusal 0x0103 ((s.firstMisfit new n [] codes).getD 0) 5 1 0)
      | some order =>
        let id := s.newPlanId
        let sources : Map (Nat × Nat) := (List.range n).foldl (fun m i => Map.set m (rd c.p (4 + 20 * i) 1) (c.addr (8 + 20 * i), c.cap (8 + 20 * i))) []
        let u := { s.upd with planId := id, usedPlans := id :: s.upd.usedPlans, planState := .planned, plan := new, order := order, sources := sources, stagedCount := 0, activated := [], falling := none, deadline := 0, current := 255 }
        .ok { s.useFree with upd := u } (le 2 id ++ le 1 n ++ zeros 1 ++ orderBytes order ++ zeros 4)

/-- UPDATE_PLAN (R511). -/
def execUpdatePlan (t : Time) (mb : Nat) (m : Msg) (s : State) : Host.Outcome State Fault Refusal := command .updatePlan bodyUpdatePlan t mb m s

/-- UPDATE_RUN answers when the staging of the first image has started (R513, R523). -/
def bodyUpdateRun : Body := fun c s =>
  let confirm := rd c.p 4 4
  let keepsOld (x : Container) : Bool := let f := (s.image x.image).settings; x.settingsFormat = 0 || x.settingsFormat = f || x.writesFrom ≤ f
  if c.net then .err s (badArg 11 0)
  else if s.planBusy then .err s planBusyErr
  else if s.upd.planState != .planned || rd c.p 0 2 != s.upd.planId then .err s (badArg 11 0)
  else if rd c.p 2 1 = 1 && !s.upd.plan.all keepsOld then .err s (badArg 11 2)
  else if confirm != 0 && (confirm < 60 || confirm > 86400) then .err s (badArg 11 4)
  else
    .ok { s with upd := { s.upd with planState := .running, migration := rd c.p 2 1, confirmS := if confirm = 0 then 900 else confirm, stagedCount := 0, activated := [], current := s.upd.order.headD 255
                                     headsRunning := allHeads.filter fun h => s.headState h == 2, lanesUp := (List.range 16).filter fun k => (s.lane k).state == .up } } []

/-- UPDATE_RUN (R513). -/
def execUpdateRun (t : Time) (mb : Nat) (m : Msg) (s : State) : Host.Outcome State Fault Refusal := command .updateRun bodyUpdateRun t mb m s

/-- UPDATE_CONFIRM (R519): only with a doorbell before the deadline, and only while the plan waits. -/
def bodyUpdateConfirm : Body := fun c s =>
  if s.upd.planState != .confirmPending || s.upd.falling.isSome || rd c.p 0 2 != s.upd.planId || s.upd.deadline ≤ c.rung then .err s (badArg 11 0)
  else .ok (s.confirmPlan 0) []

/-- UPDATE_CONFIRM (R519). -/
def execUpdateConfirm (t : Time) (mb : Nat) (m : Msg) (s : State) : Host.Outcome State Fault Refusal := command .updateConfirm bodyUpdateConfirm t mb m s

/-- UPDATE_FALLBACK of a plan that is RUNNING or CONFIRM_PENDING (R520, R522). -/
def bodyUpdateFallback : Body := fun c s =>
  if !s.planBusy || s.upd.falling.isSome || rd c.p 0 2 != s.upd.planId then .err s (badArg 11 0)
  else .ok (s.fallBack 1) []

/-- UPDATE_FALLBACK (R520). -/
def execUpdateFallback (t : Time) (mb : Nat) (m : Msg) (s : State) : Host.Outcome State Fault Refusal := command .updateFallback bodyUpdateFallback t mb m s

/-- Update status record (Table 12-23). -/
def State.updateStatus (s : State) : Bytes :=
  let u := s.upd
  let version (c : Option Container) : Nat := match c with | some x => x.version | none => 0
  le 2 u.planId ++ le 1 u.planState.code ++ le 1 u.current ++ zeros 4 ++ le 8 u.deadline ++
  (List.range 8).flatMap fun i => let x := s.image i; le 1 i ++ le 1 x.state ++ zeros 2 ++ le 4 x.running.version ++ le 4 (version x.staged) ++ le 4 (version x.fallback)

def bodyUpdateStatus : Body := fun _ s => .ok s s.updateStatus

/-- UPDATE_STATUS (R367). -/
def execUpdateStatus (t : Time) (mb : Nat) (m : Msg) (s : State) : Host.Outcome State Fault Refusal := command .updateStatus bodyUpdateStatus t mb m s

end Sys2Proof.Machine
end

