-- ==== Sys2Proof/Machine/Bodies.lean ====
section
/-! DEFINITION. The command of each code, for the doorbells, the held commands and the local actions that name one by its code. -/

namespace Sys2Proof.Machine

/-- The commands in the order of Tables 12-3 to 12-27. -/
def allCmds : List CmdKind := List.flatten
  [[.systemIdentify, .systemStatus, .systemRestart, .abort, .layoutPropose, .layoutCommit, .layoutStore, .layoutStoredCommit, .layoutRead, .streamOpen],
   [.streamClose, .streamStatus, .decodeStatus, .sourceSet, .sourceStatus, .windowSet, .windowGet, .windowStatus, .backgroundSet, .blendSet],
   [.toneProfileSet, .toneProfileGet, .coefSet, .coefGet, .tileRecordsGet, .glyphGet, .safetyArm, .safetyApply, .safetyGet, .lanternClear],
   [.lanternStatus, .alertAck, .headTimingSet, .headTimingGet, .headStatus, .headEdidGet, .encodeOpen, .encodeSet, .encodeClose, .encodeStatus],
   [.timeBaseSet, .timeSelectSet, .timeAccept, .timeConfigGet, .timeStatus, .portAddressSet, .portAddressGet, .laneSet, .laneRead, .laneModuleRead],
   [.mgmtSet, .touchKeySet, .touchModeSet, .localActionSet, .touchRebaseline, .touchRead, .sessionOpen, .sessionClose, .sessionList, .sessionIdleSet],
   [.credentialSet, .trustAnchorSet, .deviceCertGet, .doorRulesSet, .doorRulesGet, .debugUnlock, .debugLock, .updatePlan, .updateRun, .updateConfirm],
   [.updateFallback, .updateStatus, .recorderRead, .recorderClear, .recorderSubscribe, .recorderFlush, .domainSet, .powerCapSet, .domainStatus, .healthRead],
   [.scanSubmit, .scanResult, .lanePrbsSet, .lanePrbsRead, .dramHashSet]]

/-- The command of a code (R319). -/
def kindOf (n : Nat) : Option CmdKind := allCmds.find? fun k => code k == n

/-- The meaning of a command after its checks. -/
def bodyOf : CmdKind → Body
  | .systemIdentify => bodySystemIdentify
  | .systemStatus => bodySystemStatus
  | .systemRestart => bodySystemRestart
  | .abort => bodyAbort
  | .layoutPropose => bodyLayoutPropose
  | .layoutCommit => bodyLayoutCommit
  | .layoutStore => bodyLayoutStore
  | .layoutStoredCommit => bodyLayoutStoredCommit
  | .layoutRead => bodyLayoutRead
  | .streamOpen => bodyStreamOpen
  | .streamClose => bodyStreamClose
  | .streamStatus => bodyStreamStatus
  | .decodeStatus => bodyDecodeStatus
  | .sourceSet => bodySourceSet
  | .sourceStatus => bodySourceStatus
  | .windowSet => bodyWindowSet
  | .windowGet => bodyWindowGet
  | .windowStatus => bodyWindowStatus
  | .backgroundSet => bodyBackgroundSet
  | .blendSet => bodyBlendSet
  | .toneProfileSet => bodyToneProfileSet
  | .toneProfileGet => bodyToneProfileGet
  | .coefSet => bodyCoefSet
  | .coefGet => bodyCoefGet
  | .tileRecordsGet => bodyTileRecordsGet
  | .glyphGet => bodyGlyphGet
  | .safetyArm => bodySafetyArm
  | .safetyApply => bodySafetyApply
  | .safetyGet => bodySafetyGet
  | .lanternClear => bodyLanternClear
  | .lanternStatus => bodyLanternStatus
  | .alertAck => bodyAlertAck
  | .headTimingSet => bodyHeadTimingSet
  | .headTimingGet => bodyHeadTimingGet
  | .headStatus => bodyHeadStatus
  | .headEdidGet => bodyHeadEdidGet
  | .encodeOpen => bodyEncodeOpen
  | .encodeSet => bodyEncodeSet
  | .encodeClose => bodyEncodeClose
  | .encodeStatus => bodyEncodeStatus
  | .timeBaseSet => bodyTimeBaseSet
  | .timeSelectSet => bodyTimeSelectSet
  | .timeAccept => bodyTimeAccept
  | .timeConfigGet => bodyTimeConfigGet
  | .timeStatus => bodyTimeStatus
  | .portAddressSet => bodyPortAddressSet
  | .portAddressGet => bodyPortAddressGet
  | .laneSet => bodyLaneSet
  | .laneRead => bodyLaneRead
  | .laneModuleRead => bodyLaneModuleRead
  | .mgmtSet => bodyMgmtSet
  | .touchKeySet => bodyTouchKeySet
  | .touchModeSet => bodyTouchModeSet
  | .localActionSet => bodyLocalActionSet
  | .touchRebaseline => bodyTouchRebaseline
  | .touchRead => bodyTouchRead
  | .sessionOpen => bodySessionOpen
  | .sessionClose => bodySessionClose
  | .sessionList => bodySessionList
  | .sessionIdleSet => bodySessionIdleSet
  | .credentialSet => bodyCredentialSet
  | .trustAnchorSet => bodyTrustAnchorSet
  | .deviceCertGet => bodyDeviceCertGet
  | .doorRulesSet => bodyDoorRulesSet
  | .doorRulesGet => bodyDoorRulesGet
  | .debugUnlock => bodyDebugUnlock
  | .debugLock => bodyDebugLock
  | .updatePlan => bodyUpdatePlan
  | .updateRun => bodyUpdateRun
  | .updateConfirm => bodyUpdateConfirm
  | .updateFallback => bodyUpdateFallback
  | .updateStatus => bodyUpdateStatus
  | .recorderRead => bodyRecorderRead
  | .recorderClear => bodyRecorderClear
  | .recorderSubscribe => bodyRecorderSubscribe
  | .recorderFlush => bodyRecorderFlush
  | .domainSet => bodyDomainSet
  | .powerCapSet => bodyPowerCapSet
  | .domainStatus => bodyDomainStatus
  | .healthRead => bodyHealthRead
  | .scanSubmit => bodyScanSubmit
  | .scanResult => bodyScanResult
  | .lanePrbsSet => bodyLanePrbsSet
  | .lanePrbsRead => bodyLanePrbsRead
  | .dramHashSet => bodyDramHashSet

end Sys2Proof.Machine
end

