-- ==== Sys2Proof/Machine/Registers.lean ====
section
/-! DEFINITION. BAR0: register writes and the reads with an effect, mailbox resets, and the event ring's registers (R7, R8, R302–R312). -/

namespace Sys2Proof.Machine

/-- BAR0 answers: the PCIe endpoint is powered and not in reset (R303, R482). -/
def State.bar0Up (s : State) : Bool := s.domOn 1 && !s.power.perst

def State.setRing (s : State) (r : EventRing) : State := { s with izent := { s.izent with ring := r } }

/-! Reads (R4, R7, R24, R25, R302–R304, R309). -/

/-- STATE of MBX_STATUS (Table 11-3). -/
def MbxState.code : MbxState → Nat
  | .idle => 0 | .taking => 1 | .running => 2 | .held => 3

/-- A mailbox register (Table 11-3) and its reserved bits; MBX_CONTROL.RESET is WO and reads zero. -/
def State.mbxWord (s : State) (mb r : Nat) : Nat × Nat :=
  let x := s.mbx mb
  match r with
  | 0x00 => (x.reqLo, 0)
  | 0x04 => (x.reqHi, 0)
  | 0x08 => (x.rspLo, 0)
  | 0x0C => (x.rspHi, 0)
  | 0x10 => (x.state.code + 4 * bitsOf [x.reqTaken, x.done, x.overrun, x.addrFault], 0xFFFFFFC0)
  | 0x14 => (x.lastSeq, 0)
  | 0x18 => (match s.session? mb with | some y => y.id | none => 0, 0)
  | 0x1C => (bitsOf [x.irqEnable], 0xFFFFFFFC)
  | 0x20 => (x.doneCount, 0)
  | 0x24 => (x.command, 0xFFFF0000)
  | _ => (0, 0)

/-- An event ring register (Table 11-4) and its reserved bits. -/
def EventRing.word (r : EventRing) (off : Nat) : Nat × Nat :=
  match off with
  | 0x3000 => (r.baseLo, 0)
  | 0x3004 => (r.baseHi, 0)
  | 0x3008 => (r.log2, 0xFFFFFFE0)
  | 0x300C => (bitsOf [r.enable, r.operational, r.audit] + 65536 * r.holdoff, 0xFC00FFF8)
  | 0x3010 => (r.producer, 0)
  | 0x3014 => (r.consumer, 0)
  | 0x3018 => (r.drops, 0)
  | 0x301C => (bitsOf [r.enable, r.fault], 0xFFFFFFFC)
  | _ => (0, 0)

/-- A device health register (Table 11-2) and its reserved bits. -/
def State.healthWord (s : State) (off : Nat) : Nat × Nat :=
  match off with
  | 0x10 => (s.izent.devState.code, 0xFFFFFFF0)
  | 0x14 => (s.devFlags, 0xFFFFFF80)
  | 0x18 => (s.izent.alive, 0)
  | 0x1C => (s.izent.healthEvents, 0xFFFFFFF8)
  | 0x20 => (s.now % 4294967296, 0)
  | 0x24 => (s.izent.timeHi, 0)
  | 0x28 => (s.mismatches, 0xFFFF0000)
  | 0x2C => (s.devSessions, 0xFFFFF0E0)
  | _ => (0, 0)

/-- An identity register (Table 1-6); DEV_REVISION reads 0x0000_4201 at silicon revision B1 (R24). -/
def State.identityWord (s : State) (off : Nat) : Nat :=
  match off with
  | 0x0 => 0x4C4B0016
  | 0x4 => 0x00004201
  | 0x8 => s.prot.serial % 4294967296
  | 0xC => s.prot.serial / 4294967296
  | _ => 0

/-- The word at an aligned offset of BAR0, with the reserved bits it holds; an offset that no table assigns, and a doorbell, which is written only, read zero. A vector control word of the MSI-X table is 1 until it is written (log 33). -/
def State.bar0Word (s : State) (off : Nat) : Nat × Nat :=
  if off < 0x10 then (s.identityWord off, 0)
  else if off < 0x40 then s.healthWord off
  else if 0x1000 ≤ off && off < 0x1400 then s.mbxWord ((off - 0x1000) / 64) (off % 64)
  else if 0x3000 ≤ off && off < 0x3020 then s.izent.ring.word off
  else if 0x4000 ≤ off && off < 0x4200 then (Map.get (if off % 16 = 12 then 1 else 0) s.izent.msixTable (off - 0x4000), 0)
  else if off = 0x5000 then (s.izent.msixPending % 4294967296, 0)
  else (0, 0)

/-- What an access of `size` bytes at an offset of BAR0 reads, none while the endpoint does not answer: the current value, its reserved bits free (R4, R7); a narrower or unaligned access reads zero (R302). The reads that change the state are the rows DEV_TIME_LO_READ and EVR_DROPS_READ. -/
def State.bar0Read (s : State) (off size : Nat) : Option Nat :=
  if !s.bar0Up then none
  else if size != 4 || off % 4 != 0 then some 0
  else
    let (v, spare) := s.bar0Word off
    some (v % 4294967296 - (v % 4294967296 &&& spare) + ((Config.barSpare s.freeCtr off).toNat &&& spare))

/-- The words of PCIe configuration space that the manual gives (R25): Vendor ID and Device ID, and Revision ID 0x21 with Class Code 0x04_8000. -/
def pcieConfig (off : Nat) : Option Nat :=
  match off with
  | 0x0 => some (Config.pciVendor.toNat + 65536 * 0x0016)
  | 0x8 => some (0x21 + 256 * 0x048000)
  | _ => none

/-! Mailboxes. -/

/-- Reset a mailbox (R308). A command past its commit point still answers, and then the reset is complete. -/
def State.mbxReset (s : State) (mb : Nat) : State :=
  let s := (s.abortAt mb).1
  let s := match s.session? mb with | some x => s.closeSession x.id 1 | none => s
  let x := s.mbx mb
  let busy := x.job.isSome
  s.setMbx mb { x with lastSeq := 0, state := if busy then x.state else .idle, overrun := false, done := false, addrFault := false, resetting := busy }

/-- MBX_RESET (R308). -/
def execMbxReset (t : Time) (mb : Nat) (s : State) : Host.Outcome State Fault Refusal :=
  runIf (mb < 16) t s fun s => if s.bar0Up then s.mbxReset mb else s

/-- A write of `v` to the mailbox register at offset `r` (Table 11-3). `hits` are the W1C bits that hardware sets in the same cycle, which win (R8). -/
def State.writeMbx (s : State) (mb r v hits : Nat) : State :=
  let x := s.mbx mb
  let kept (i : Nat) (b : Bool) : Bool := bit hits i || (b && !bit v i)
  match r with
  | 0x00 => s.setMbx mb { x with reqLo := v }
  | 0x04 => s.setMbx mb { x with reqHi := v }
  | 0x08 => s.setMbx mb { x with rspLo := v }
  | 0x0C => s.setMbx mb { x with rspHi := v }
  | 0x10 => s.setMbx mb { x with done := kept 3 x.done, overrun := kept 4 x.overrun, addrFault := kept 5 x.addrFault }
  | 0x1C =>
    let s := s.setMbx mb { x with irqEnable := bit v 0 }
    if bit v 1 then s.mbxReset mb else s
  | _ => s

/-- A doorbell: the message that stands in the request buffer is read and checked (R305, R306). -/
def State.doorbell (s : State) (mb cmd : Nat) (m : Msg) : State :=
  match kindOf cmd with
  | some k => s.issue k mb m (bodyOf k)
  | none =>
    if !s.serves mb then s
    else ({ s with izent := { s.izent with orderCount := s.izent.orderCount + 1 } }).ring mb cmd m fun s => s.checkUnknown mb cmd m

/-! Event ring (R309). -/

/-- A write to EVR_CONTROL: ENABLE from 0 to 1 zeroes the offsets and clears FAULT. -/
def State.ringControl (s : State) (v : Nat) : State :=
  let r := s.izent.ring
  let on := bit v 0
  let r := if on && !r.enable then { r with producer := 0, consumer := 0, fault := false } else r
  s.setRing { r with enable := on, operational := bit v 1, audit := bit v 2, holdoff := min 1000 (field v 16 10) }

/-- A write to EVR_CONSUMER: only a multiple of 8 inside the ring is stored. -/
def State.ringConsumer (s : State) (v : Nat) : State :=
  let r := s.izent.ring
  if v % 8 = 0 && v < r.size then s.setRing { r with consumer := v } else s

/-- A write to the ring's registers (Table 11-4); base and size keep their value while ENABLE is 1. -/
def State.writeEvr (s : State) (off v : Nat) : State :=
  let r := s.izent.ring
  match off with
  | 0x3000 => if r.enable then s else s.setRing { r with baseLo := v }
  | 0x3004 => if r.enable then s else s.setRing { r with baseHi := v }
  | 0x3008 => if r.enable || v % 32 < 16 || v % 32 > 24 then s else s.setRing { r with log2 := v % 32 }
  | 0x300C => s.ringControl v
  | 0x3014 => s.ringConsumer v
  | _ => s

/-- EVR_ENABLE (R309). -/
def execEvrEnable (t : Time) (val : Nat) (s : State) : Host.Outcome State Fault Refusal :=
  run t s fun s => if s.bar0Up then s.ringControl (val % 4294967296) else s

/-- EVR_CONSUMER_WRITE (R309). -/
def execEvrConsumerWrite (t : Time) (val : Nat) (s : State) : Host.Outcome State Fault Refusal :=
  run t s fun s => if s.bar0Up then s.ringConsumer (val % 4294967296) else s

/-- EVR_DROPS_READ (R7, R8): the read returns the count and clears it; drops of the same access count anew. -/
def execEvrDropsRead (t : Time) (hits : Nat) (s : State) : Host.Outcome State Fault Refusal :=
  run t s fun s =>
    if s.bar0Up then ({ s with izent := { s.izent with lastRead := (s.bar0Word 0x3018).1 } }).setRing { s.izent.ring with drops := hits % 4294967296 } else s

/-- EVR_HOLDOFF_EXPIRY (R310): a producer change during the hold-off raises vector 16 at its end. -/
def execEvrHoldoffExpiry (t : Time) (s : State) : Host.Outcome State Fault Refusal :=
  run t s fun s =>
    let r := s.izent.ring
    let passed := match r.raisedAt with | some x => decide (x + r.holdoff * us ≤ s.clk) | none => true
    if r.pendingIrq && passed then (s.setRing { r with raisedAt := some s.clk, pendingIrq := false }).raise 16 else s

/-! Device health and MSI-X. -/

/-- A write to DEV_HEALTH_EVENTS clears the bits written 1; one that hardware sets in the same cycle wins (R8). -/
def State.writeHealthEvents (s : State) (v hits : Nat) : State :=
  let s := s.setHealth (bit hits 0) (bit hits 1) (bit hits 2)
  let kept (i : Nat) : Bool := bit s.izent.healthEvents i && (bit hits i || !bit v i)
  { s with izent := { s.izent with healthEvents := bitsOf [kept 0, kept 1, kept 2] } }

/-- A write to the MSI-X table; a vector that is unmasked is no longer pending (log 33). -/
def State.writeMsix (s : State) (off v : Nat) : State :=
  let s := { s with izent := { s.izent with msixTable := Map.set s.izent.msixTable off v } }
  if off % 16 = 12 && !bit v 0 then { s with izent := { s.izent with msixPending := setBit s.izent.msixPending (off / 16) false } } else s

/-- DEV_TIME_LO_READ (R303): the read latches the high half. -/
def execDevTimeLoRead (t : Time) (s : State) : Host.Outcome State Fault Refusal :=
  run t s fun s =>
    if s.bar0Up then { s with izent := { s.izent with lastRead := (s.bar0Word 0x20).1, timeHi := s.now / 4294967296 % 4294967296 } } else s

/-- DEV_ALIVE_TICK (R303): Spire B counts every ms from the start of STARTING, unless it recovers or its new image starts (R494). -/
def execDevAliveTick (t : Time) (s : State) : Host.Outcome State Fault Refusal :=
  run t s fun s =>
    if s.domOn 1 && s.izent.devState != .boot && !s.health.recovering.contains 1 && !s.activating 1 then { s with izent := { s.izent with alive := (s.izent.alive + 1) % 4294967296 } } else s

/-- REGISTER_WRITE (R7, R302): an aligned 32-bit write to BAR0; an offset that no table assigns takes none. -/
def execRegisterWrite (t : Time) (off : Nat) (val : Nat) (aux : WriteAux) (s : State) : Host.Outcome State Fault Refusal :=
  run t s fun s =>
    let v := val % 4294967296
    if !s.bar0Up || off % 4 != 0 then s
    else if off = 0x1C then s.writeHealthEvents v aux.hits
    else if 0x1000 ≤ off && off < 0x1400 then s.writeMbx ((off - 0x1000) / 64) (off % 64) v aux.hits
    else if 0x2000 ≤ off && off < 0x2040 then s.doorbell ((off - 0x2000) / 4) aux.command aux.msg
    else if 0x3000 ≤ off && off < 0x3020 then s.writeEvr off v
    else if 0x4000 ≤ off && off < 0x4200 then s.writeMsix (off - 0x4000) v
    else s

/-! PCIE_PERST_N (R482). -/

/-- The PCIe endpoint takes its reset values: mailboxes, event ring and MSI-X; its sessions close. -/
def State.pcieReset (s : State) : State :=
  let s := ((s.izent.sessions.filter fun x => x.mailbox < 16).map Session.id).foldl (fun s id => s.closeSession id 6) s
  let s := (List.range 16).foldl (fun s mb => (s.abortAt mb).1) s
  { s with izent := { s.izent with mbx := s.izent.mbx.filter (fun e => e.1 ≥ 16), ring := {}, msixTable := [], msixPending := 0 } }

/-- PCIE_PERST (R482). -/
def execPciePerst (t : Time) (asserted : Bool) (s : State) : Host.Outcome State Fault Refusal :=
  run t s fun s =>
    let s := { s with power := { s.power with perst := asserted } }
    if asserted && s.domOn 1 then s.pcieReset else s

end Sys2Proof.Machine
end

