-- ==== Sys2Proof/Machine/Connections.lean ====
section
/-! DEFINITION. Management connections, expiries, the entropy source, the test access port, and epochs (R313, R314, R326, R444–R458). -/

namespace Sys2Proof.Machine

/-! Management connections (R313, R314, R457). -/

def State.setConn (s : State) (mb : Nat) (n : Option Conn) : State := s.setMbx mb { s.mbx mb with conn := n }

/-- The connections that are open. -/
def State.connections (s : State) : Nat := (s.izent.mbx.filter fun e => e.2.conn.isSome).length

/-- A connection closes: its session closes, its commands end, and what they answer is discarded (R314). -/
def State.dropConn (s : State) (mb cause : Nat) : State :=
  let s := match s.session? mb with | some x => s.closeSession x.id cause | none => s
  let s := (s.abortAt mb).1
  s.setMbx mb { s.mbx mb with conn := none, next := none, challenge := none, rsp := none }

/-- The management port listens: Spire A serves, and a named port is up (R313, R361, R468). -/
def State.listens (s : State) : Bool := s.serves 16 && (List.range 16).any fun k => bit s.prot.store.portMask k && (s.lane k).state == .up

/-- MGMT_TCP_CONNECT (R314, R453, R458): a connection takes a free network mailbox, which starts at its reset values; it is closed as the ninth, while the entropy source fails, or while its address is blocked. -/
def execMgmtTcpConnect (t : Time) (address : Bytes) (s : State) : Host.Outcome State Fault Refusal :=
  run t s fun s =>
    match (List.range 8).find? fun i => (s.mbx (16 + i)).conn.isNone && (s.mbx (16 + i)).job.isNone with
    | some i =>
      if s.listens && s.prot.entropyOk && !s.blocked (addressWho address) then s.setMbx (16 + i) { conn := some { address := address, since := s.clk } }
      else s
    | none => s

/-- UTC in s at the handshake: device time less the last valid currentUtcOffset, none counted where no base has accepted one (DESIGN CHOICE, log 40). -/
def State.utcNow (s : State) : Int := (s.now : Int) / 1000000000 - s.time.utcAny.getD 0

/-- What fails a handshake: 0 chain, 1 validity, 2 usage, 3 key, by their places in R457's list, 4 the handshake itself (DESIGN CHOICE, log 26); or the credential that its leaf names and the master secret. `d` is the W16's ephemeral private key. -/
def State.judgeTls (s : State) (chain : List Bytes) (c : TlsClient) (d : Nat) : Nat ⊕ (Credential × Bytes) :=
  if !c.offers || (pointOf c.share).isNone then .inl 4
  else match chainFault (s.prot.store.anchors.map (·.2)) s.utcNow chain with
    | some cause => .inl cause
    | none => match (chain.head?.bind certOf).bind fun leaf => s.prot.store.creds.find? fun x => x.key == leaf.key with
      | none => .inl 3
      | some x => match tlsMaster c d x.key with
        | some master => .inr (x, master)
        | none => .inl 4

/-- TLS_HANDSHAKE (R313, R452, R453, R457, R458) with the client's certificates, the leaf first: the leaf's key names the credential whose role the connection takes. -/
def execTlsHandshake (t : Time) (mb : Nat) (chain : List Bytes) (c : TlsClient) (s : State) : Host.Outcome State Fault Refusal :=
  runIf (16 ≤ mb && mb < 24) t s fun s =>
    match (s.mbx mb).conn with
    | none => s
    | some n =>
      if n.role.isSome then s
      else if !s.prot.entropyOk || n.since + 2000 * ms < s.clk || s.blocked (addressWho n.address) then s.dropConn mb 2
      else
        let (r, s) := s.random 48
        match s.judgeTls chain c (ofBe r % (curveN - 1) + 1) with
        | .inr (x, master) => s.setConn mb (some { n with role := some x.role, cred := x.id, key := x.key, secrets := trafficSecrets master c.upToServer })
        | .inl cause =>
          let s := s.recordLimited evTlsFailed (addressWho n.address) [(16, ofLe (fit 16 n.address)), p1 cause]
          (s.authFail (addressWho n.address)).dropConn mb 2

/-- MGMT_HANDSHAKE_TIMEOUT (R313). -/
def execMgmtHandshakeTimeout (t : Time) (mb : Nat) (s : State) : Host.Outcome State Fault Refusal :=
  runIf (16 ≤ mb && mb < 24) t s fun s =>
    match (s.mbx mb).conn with
    | some n => if n.role.isNone && n.since + 2000 * ms ≤ s.clk then s.dropConn mb 2 else s
    | none => s

/-- MGMT_CONNECTION_LOSS (R314, R326). -/
def execMgmtConnectionLoss (t : Time) (mb : Nat) (s : State) : Host.Outcome State Fault Refusal :=
  runIf (16 ≤ mb && mb < 24) t s fun s => if (s.mbx mb).conn.isSome then s.dropConn mb 2 else s

/-- SESSION_IDLE_EXPIRY (R326). -/
def execSessionIdleExpiry (t : Time) (mb : Nat) (s : State) : Host.Outcome State Fault Refusal :=
  runIf (mb < 24) t s fun s =>
    match s.session? mb with
    | some x => if x.lastAt + s.izent.idle * sec ≤ s.clk then s.closeSession x.id 3 else s
    | none => s

/-! Expiries and the entropy source. -/

/-- DEBUG_UNLOCK_EXPIRY (R448). -/
def execDebugUnlockExpiry (t : Time) (s : State) : Host.Outcome State Fault Refusal :=
  run t s fun s =>
    match s.prot.unlockedAt with
    | some x => if x + 3600 * sec ≤ s.clk then s.lockDebug else s
    | none => s

/-- AUTH_BACKOFF_END (R458): `who` is a mailbox, or a source address above the mailboxes. -/
def execAuthBackoffEnd (t : Time) (who : Nat) (s : State) : Host.Outcome State Fault Refusal :=
  run t s fun s =>
    match (s.authOf who).blockedUntil with
    | some x => if x ≤ s.clk then s.setAuth { s.authOf who with blockedUntil := none } else s
    | none => s

/-- ENTROPY_TEST_FAIL (R453). -/
def execEntropyTestFail (t : Time) (s : State) : Host.Outcome State Fault Refusal :=
  run t s fun s => if s.prot.entropyOk then ({ s with prot := { s.prot with entropyOk := false } }).record evEntropyFail [] else s

/-- ENTROPY_RETEST (R453): service resumes after a pass. -/
def execEntropyRetest (t : Time) (pass : Bool) (s : State) : Host.Outcome State Fault Refusal :=
  run t s fun s => if pass then { s with prot := { s.prot with entropyOk := true } } else s

/-! Debug (R447–R450). -/

/-- DEV_STATE becomes FAULT. -/
def State.toFault (s : State) : State := { s with izent := { s.izent with devState := .fault } }

/-- Engines that debug may halt: Spire A, the stream engines, the sequencers and the house engines (R449). -/
def haltable (e : Nat) : Bool := e = 0 || (2 ≤ e && e < 30)

/-- IDCODE (R447). -/
def idcode : Nat := 2 * 2 ^ 28 + 0x4C16 * 2 ^ 12 + Config.jep106.toNat * 2 + 1

/-- An instruction of the test access port takes force. Locked, all but three act as BYPASS (R447). A step or a resume of what is not halted, and a halt of what may not be halted, change nothing. -/
def State.tapRun (s : State) (ins : JtagIns) : State :=
  let tapTo (x : Jtag) (s : State) : State := { s with prot := { s.prot with tap := x, tapData := if x = .idcode then some idcode else none } }
  let halts (f : List Nat → List Nat) (s : State) : State := { s with prot := { s.prot with halted := f s.prot.halted } }
  let open_ := s.prot.unlockedAt.isSome
  match ins with
  | .bypass => tapTo .bypass s
  | .idcode => tapTo .idcode s
  | .sample => tapTo .sample s
  | .extest => if open_ then (tapTo .extest s).toFault else tapTo .bypass s
  | .clamp => if open_ then (tapTo .clamp s).toFault else tapTo .bypass s
  | .highz => if open_ then (tapTo .highz s).toFault else tapTo .bypass s
  | .halt e => if !open_ then tapTo .bypass s else if haltable e then halts (fun l => if l.contains e then l else e :: l) (tapTo (.halt e) s) else s
  | .step e => if !open_ then tapTo .bypass s else if haltable e then tapTo (.stepEngine e) s else s
  | .resume e => if !open_ then tapTo .bypass s else if haltable e then halts (fun l => l.erase e) (tapTo (.resume e) s) else s
  | .other => tapTo .bypass s

/-- JTAG_INSTRUCTION (R447, R449). -/
def execJtagInstruction (t : Time) (ins : JtagIns) (s : State) : Host.Outcome State Fault Refusal :=
  run t s fun s => s.tapRun ins

/-- The door that refuses a PL3 transfer of the debug master, and the address it refused (R436, R441). -/
def State.debugRefused (s : State) (kind a : Nat) : Option (Nat × Nat) := (s.initiatorRefused 0x28 3 kind a).or (s.targetRefused 0x28 3 kind a)

/-- A permitted transfer of one aligned word (log 26). Host memory and the control registers lie outside the model: a read of them is a free value. -/
def State.debugWord (s : State) (acc : DebugAccess) : State :=
  let a := acc.address / 4 * 4
  let got (s : State) (v : Nat) : State := { s with prot := { s.prot with debugData := some v } }
  if acc.write then
    if a < 2 ^ 35 then (if s.domOn 2 then { s with dram := s.dram.write a (le 4 acc.data) } else s)
    else if 2 ^ 63 ≤ a then s.hostWrite (a - 2 ^ 63) (le 4 acc.data)
    else s
  else match (if a < 2 ^ 35 then s.dram.bytes? a 4 else none) with
    | some b => got s (ofLe b)
    | none => got s.useFree (s.fresh.toNat % 4294967296)

/-- DEBUG_MEMORY_ACCESS (R449, R450): a transfer that either door refuses returns no data, sets DENIED and is recorded. -/
def execDebugMemoryAccess (t : Time) (acc : DebugAccess) (s : State) : Host.Outcome State Fault Refusal :=
  run t s fun s =>
    if s.prot.unlockedAt.isNone then s
    else
      let kind := if acc.write then 1 else 0
      match s.debugRefused kind acc.address with
      | none => s.debugWord acc
      | some (d, a) =>
        let s := { s with prot := { s.prot with denied := true, debugData := if acc.write then s.prot.debugData else none } }
        (s.recordLimited evDebugDenied 0x28 [p8 acc.address, p2 d]).doorDenied d 0x28 3 kind a s.prot.epoch

/-- The conditions of the evaluated configuration that the W16 itself can see: 1, 2, 5, 6 and 9 of R461, and no debug unlock since the last restart. -/
def State.evaluated (s : State) : Bool :=
  s.commissioned && !(s.prot.store.creds.any fun c => c.role == 5) && s.prot.unlockedAt.isNone && !s.prot.wasUnlocked && s.prot.store.debugRules.isEmpty
    && s.izent.idle ≤ 900 && s.dram.hash.profile != 4

/-! Epochs (R444–R446). -/

/-- A DRAM transfer of an epoch is in flight. -/
def State.inFlight (s : State) (epoch : Nat) : Bool := s.dram.channels.any fun e => (e.2.queue ++ e.2.held).any fun x => x.epoch == epoch

/-- The DOOR_RULES_SET that waits for its epoch. -/
def State.rulesJob (s : State) : Option (Nat × Job) :=
  s.izent.mbx.findSome? fun e => match e.2.job with | some j => if j.kind = .doorRulesSet && j.cause.isNone then some (e.1, j) else none | none => none

/-- EPOCH_RETIRE (R445, R446, R366): the old epoch retires once nothing of it is in flight; the command that replaced it answers. -/
def execEpochRetire (t : Time) (s : State) : Host.Outcome State Fault Refusal :=
  run t s fun s =>
    match s.prot.retiring with
    | none => s
    | some e =>
      if s.inFlight e then s
      else
        let took := (s.clk - s.prot.installedAt) / us
        let doors := s.prot.oldRules.map (·.1)
        let job := s.rulesJob
        let s := { s with prot := { s.prot with retiring := none, oldRules := [] } }
        let s := doors.foldl (fun s d => if d = 0x28 || d = 0x47 then s.record evDoorRulesChanged [p2 d, p4 e, p4 s.prot.epoch, p4 took] else s) s
        match job with
        | some (mb, j) => s.respond mb (code j.kind) j.msg stOk (le 4 s.prot.epoch ++ le 4 took)
        | none => s

end Sys2Proof.Machine
end

