-- ==== Sys2Proof/Machine/Start.lean ====
section
/-! DEFINITION. Resets and start-up (R69, R348, R477–R482, R522, R525, R526, R535). -/

namespace Sys2Proof.Machine

/-! What a reset leaves (R69, R454, R470, R481). -/

/-- Device time after a reset that keeps PD_AON: it goes on from TB3, in HOLD, with TB3's bound (R69). -/
def State.timeFromTb3 (s : State) : TimeState :=
  let x := s.base 3
  let x := if x.state = .locked then { x with state := .holdover, m3 := some (s.uDt s.now), anchor := s.now, count := s.time.dt, freq := s.time.freq } else x
  { clk := s.time.clk, dt := x.count, state := .hold, base := 3, freq := x.freq, uh := x.m3.getD maxU, th := x.anchor, unset := s.time.unset, sel := s.time.sel
    bases := [(0, { cfg := (s.base 0).cfg }), (1, { cfg := (s.base 1).cfg }), (2, { cfg := (s.base 2).cfg }), (3, x)] }

/-- The device time of the latest flush, saved in the NAND ring (R69, R534). -/
def State.savedTime (s : State) : Nat := maxL (s.recorder.nand.map Page.time)

/-- Device time where PD_AON was unpowered: from the value saved in NAND, FREE (R69). -/
def State.timeFromNand (s : State) : TimeState :=
  { clk := s.time.clk, dt := (s.savedTime * tu : Nat), unset := true, sel := s.time.sel
    bases := [(0, { cfg := (s.base 0).cfg }), (1, { cfg := (s.base 1).cfg }), (2, { cfg := (s.base 2).cfg }), (3, { cfg := (s.base 3).cfg, state := .holdover, count := (s.savedTime * tu : Nat) })] }

/-- A head after a reset: its stored record and what stands at its connector; its frame counter while PD_AON stays powered (R207). -/
def Head.restarted (x : Head) (aon : Bool) : Head :=
  { stored := x.stored, hpd := x.hpd, sink := x.sink, edid := x.edid, edidAt := x.edidAt, nextFrame := if aon then x.nextFrame else 0, broken := aon && x.nextFrame != 0 }

/-- A lane after a reset: its settings and what stands at its cage. -/
def Lane.restarted (x : Lane) : Lane := { cfg := x.cfg, address := x.address, present := x.present, los := x.los, txFault := x.txFault }

/-- The plan at a reset: the confirm time that remains is kept (R522). -/
def Update.restarted (u : Update) (now : Nat) : Update :=
  { u with bootRom := false, activating := none, spireSwitch := none, spireDue := false, compDue := false, requested := false, current := 255, images := Map.mapV (fun _ (x : Image) => if x.state = 2 then { x with state := if x.staged.isSome then 1 else 3 } else x) u.images
           remaining := if u.planState = .confirmPending then some (u.remaining.getD (u.deadline - now)) else none, deadline := 0 }

/-- Everything goes off but PD_AON, which `aon` says stays powered. What NAND, OTP, PD_AON and the pins hold stays; a tone profile or coefficient set is one of COMP's settings (Table 19-1; DEDUCED, log 28). -/
def State.cleared (s : State) (aon : Bool) : State :=
  let tables : Settings := { tones := s.comp.shadow.tones, coefs := s.comp.shadow.coefs }
  let p := s.power
  { time := if aon then s.timeFromTb3 else s.timeFromNand
    izent := { usedIds := if aon then s.izent.usedIds else [] }
    recorder := if aon then { s.recorder with flushing := none } else { nand := s.recorder.nand, clearedTo := s.recorder.clearedTo, lastFlush := s.clk }
    prot := { store := s.prot.store, storeA := s.prot.storeA, storeB := s.prot.storeB, deviceCert := s.prot.deviceCert, serial := s.prot.serial, rootKey := s.prot.rootKey, debugKey := s.prot.debugKey }
    power := { feeds := p.feeds, holder := p.holder, ilk := p.ilk, copies := p.copies, missed := p.missed, linkFault := p.linkFault, kaMv := p.kaMv, kaPresent := p.kaPresent, kaSince := p.kaSince
               domains := (List.range 14).map fun d => (d, { state := if d = 0 && aon then .on else .off, intended := (s.dom d).intended, since := s.clk })
               handovers := p.handovers, startFailures := p.startFailures, forceCold := p.forceCold, aonKept := p.aonKept && aon, perst := p.perst }
    health := { failedEngines := s.health.failedEngines, failedScalers := s.health.failedScalers }
    upd := s.upd.restarted s.now
    comp := { shadow := tables, committed := tables, heads := Map.mapV (fun _ x => x.restarted aon) s.comp.heads, copyA := s.comp.copyA, copyB := s.comp.copyB, copyAOk := s.comp.copyAOk, copyBOk := s.comp.copyBOk
              safety := s.comp.safety, restored := s.comp.restored, stored := s.comp.stored }
    lanes := { lane := Map.mapV (fun _ x => x.restarted) s.lanes.lane }
    touch := { el := Map.mapV (fun _ (x : Electrode) => { cfg := x.cfg }) s.touch.el, actions := s.touch.actions }
    dram := { hash := s.dram.hash, hashStored := s.dram.hashStored, repaired := s.dram.repaired, marked := s.dram.marked, remapped := s.dram.remapped, retired := s.dram.retired, errors := s.dram.errors
              trained := s.dram.trained && aon, channels := Map.mapV (fun _ (x : Channel) => { trainedAt := x.trainedAt, trainTemp := x.trainTemp }) s.dram.channels }
    out := s.out
    freeCtr := s.freeCtr
    pending := s.pending }

/-- A feed is QUALIFIED, and its front-end may take the load: one that has reported an internal fault may only once its feed has become QUALIFIED anew (R463, R467). -/
def State.feedOk (s : State) (f : Nat) : Bool := (s.feed f).cond == .qualified && !(s.feed f).fault

/-- t_s (R478): a feed is QUALIFIED while every domain but PD_AON is off. -/
def State.beginStart (s : State) : State :=
  if (s.feedOk 0 || s.feedOk 1) && s.power.startedAt.isNone then { s with power := { s.power with startedAt := some s.clk, stage := 0, stageAt := s.clk } } else s

/-- The time states that a reset ends are recorded: device time goes to HOLD, and TB3 with it to HOLDOVER (R69, R82, R94). -/
def State.timeFalls (s : State) : State :=
  let s := if s.time.state = .hold then s else s.record evTimeStateChange [p2 255, p1 s.time.state.code, p1 1]
  if (s.base 3).state = .locked then s.record evTimeStateChange [p2 3, p1 3, p1 4] else s

/-- Every domain but PD_AON goes off at once, those first that need others (R469, R481). -/
def State.allOff (s : State) : State := [13, 12, 11, 10, 9, 8, 7, 6, 5, 4, 3, 2, 1].foldl (fun s d => s.cutDomain d) s

/-- A reset by itself: debug locks, commands go unanswered, the domains go off, what the reset leaves, the start if a feed is there (R448, R481). -/
def State.resetNow (s : State) (cause : Nat) (cold : Bool) : State :=
  let s := s.lockDebug.timeFalls
  let s := { s with izent := { s.izent with mbx := [] } }.allOff
  let c := s.cleared true
  ({ c with power := { c.power with resetCause := some (cause, s.now), forceCold := s.power.forceCold || cold } }).beginStart

/-- PD_AON loses power: the next start is a power-on (R468, R481). -/
def State.aonLost (s : State) : State :=
  let c := s.cleared false
  { c with power := { c.power with holder := none, resetCause := some (0, c.now), startedAt := none } }

/-- The power-fail sequence ends: the buffer is flushed, every domain but PD_AON is off, and that too without KA (R469). -/
def State.failEnds (s : State) : State :=
  let s := s.flushRing s.recorder.buf.length
  let s := s.allOff
  if s.power.kaPresent then s.resetNow 1 false else s.aonLost.beginStart

/-- A reset with its cause of Table 17-4 (R481). One that arises during a power-fail sequence ends it, and cause 1 stands (R547). -/
def State.resetTo (s : State) (cause : Nat) (cold : Bool) : State := if s.power.pfAt.isSome then s.failEnds else s.resetNow cause cold

/-! Start-up (R477–R480). -/

/-- Bound of step `n` of Table 17-3, ms; step 5 of a warm start has no work. -/
def stepBound (n : Nat) (warm : Bool) : Nat :=
  match n with
  | 1 => 5 | 2 => 200 | 3 => 400 | 4 => if warm then 200 else 2000 | 5 => if warm then 0 else 2500 | 6 => 100 | 7 => 1200 | 8 => 600 | _ => 100

/-- A step fails or exceeds its bound (R480): a cold start follows, and after a second failure in succession FAULT. -/
def State.startFailed (s : State) (step : Nat) : State :=
  let s := s.record evStartFailed [p1 step]
  let n := s.power.startFailures + 1
  let s := { s with power := { s.power with startFailures := n } }
  if n ≥ 2 then ({ s with power := { s.power with startedAt := none } }).toFault else s.resetTo 6 true

/-- The front-end that takes the load: the one whose feed was first to become QUALIFIED, FE_A if both did in one switching cycle (R463). -/
def State.firstFeed (s : State) : Option Nat :=
  let cycle (f : Nat) : Nat := match (s.feed f).inRange with | some t => (t + 100 * ms) / 500 | none => 0
  if s.feedOk 0 && s.feedOk 1 then some (if cycle 1 < cycle 0 then 1 else 0)
  else if s.feedOk 0 then some 0
  else if s.feedOk 1 then some 1
  else none

/-- A start is warm (R477). -/
def State.startsWarm (s : State) (temp : Int) : Bool :=
  s.power.aonKept && s.dram.trained && ((List.range 16).all fun c => (temp - (s.channel c).trainTemp).natAbs ≤ 50) && !s.power.forceCold && s.dram.hash == s.dram.hashStored

/-- Step 1: a front-end takes the load; where PD_AON was unpowered, device time starts from what NAND has saved (R69, R478). -/
def State.startLoad (s : State) (f : Nat) (temp : Int) : State :=
  let h := s.power.holder.getD f
  let s := match s.power.resetCause with
    | some (0, _) => { s with time := s.timeFromNand }
    | _ => s
  let s := if (s.dom 0).state = .on then s else s.domTo 0 .on
  let warm := s.startsWarm temp
  { s with power := { s.power with holder := some h, ilk := h == 1, warm := warm, tjMax := temp }, time := { s.time with unset := s.time.unset || s.time.state == .free } }

/-- A domain is switched on by the start-up. -/
def State.startDomain (s : State) (d : Nat) : State := (s.domTo d .switchingOn).domainOn d

/-- The update plan at a start (R522, Table 19-5): `cause` is the reset's. A fallback from CONFIRM_PENDING that the reset cut short is completed (DEDUCED, log 31); only a reset of cause 2 is the plan's own (R518). -/
def State.planAtStart (s : State) (cause : Nat) : State :=
  let u := s.upd
  let fall (reason : Nat) (s : State) : State :=
    let s := u.activated.reverse.foldl (fun s i => s.imageReturns i) s
    let s := ({ s with upd := { s.upd with remaining := none } }).fallen reason
    { s with upd := { s.upd with restarting := false }, power := { s.power with restart := none } }
  if u.planState = .running && !(u.restarting && cause = 2) then
    if u.activated.isEmpty then
      let s := match u.order[u.stagedCount]? with | some i => s.spoilSlot i | none => s
      { s with upd := { s.upd with planState := .failed, falling := none, restarting := false } }
    else fall 3 s
  else if u.planState = .confirmPending then
    match u.falling with
    | some reason => fall reason s
    | none => if cause ≥ 5 then fall 3 s else s
  else s

/-- The other slot of an image, if it holds a version that fits (R525). -/
def State.otherSlot (s : State) (i : Nat) (bad : List Nat) : Option Container :=
  match (match (s.image i).fallback with | some c => some c | none => (s.image i).staged) with
  | some c => if bad.contains i || c.securityVersion < s.upd.counter || (s.misfit [c] [i]).isSome then none else some c
  | none => none

/-- An image is verified as it is loaded; its other slot takes the place of one that fails (R508, R525). -/
def State.loadImage (s : State) (o : StartObs) (i : Nat) : State :=
  let x := s.image i
  if !o.badRunning.contains i && s.upd.counter ≤ x.running.securityVersion then s.setImage i { x with good := true }
  else match s.otherSlot i o.badOther with
    | some c => ((s.setImage i { x with running := c, staged := none, fallback := none, state := 0, good := true }).record evImageInvalid [p2 i]).record evImageSlotSwitched [p2 i]
    | none => s.setImage i { x with good := false }

/-- The boot ROM stays in BOOT (R526). -/
def State.stayInBoot (s : State) : State := { s with upd := { s.upd with bootRom := true }, power := { s.power with startedAt := none }, izent := { s.izent with devState := .boot } }

/-- The recorder at a start (R535): pages whose CRC fails are skipped, the buffer is flushed, each journal's sequence goes on from the highest found. -/
def State.scanRing (s : State) (bad : List Nat) : State :=
  let r := s.recorder
  let kept := (r.nand.zipIdx.filter fun e => !bad.contains e.2).map (·.1)
  let lost (audit : Bool) : Nat := (r.nand.zipIdx.filter fun e => bad.contains e.2 && e.1.audit == audit).length
  let last (audit : Bool) (now : Nat) : Nat :=
    match ((kept.filter fun p => p.audit == audit).flatMap Page.recs ++ r.buf.filter fun e => e.audit == audit).getLast? with | some e => e.seq | none => now
  let s := { s with recorder := { r with nand := kept, seqOp := last false r.seqOp, seqAudit := last true r.seqAudit } }
  let s := s.flushRing s.recorder.buf.length
  let s := if lost false = 0 then s else s.record evRecordsLost [p1 0, p4 (lost false)]
  if lost true = 0 then s else s.record evRecordsLost [p1 1, p4 (lost true)]

/-- Step 4: training, and on a cold start the hash profile that was stored (R373, R397). -/
def State.trainDram (s : State) (o : StartObs) : State :=
  let warm := s.power.warm
  let chans : Map Channel := (List.range 16).map fun c =>
    let x := s.channel c
    (c, if warm then { trainedAt := x.trainedAt, trainTemp := x.trainTemp } else { trainedAt := s.clk, trainTemp := o.temp })
  let s := { s with dram := { s.dram with channels := chans, hash := if warm then s.dram.hash else s.dram.hashStored, trained := true } }
  if warm then s else (o.trainFails.filter (· < 16)).foldl (fun s c => s.record evDramTrainFail [p2 c]) s

/-- A marked row takes its bank's post-package repair (R402). -/
def State.repairRow (s : State) (r : RowId) : State :=
  ({ s with dram := { s.dram with repaired := s.dram.repaired ++ [(r.channel, r.bank)], marked := s.dram.marked.erase r, remapped := s.dram.remapped.erase r } }).record evDramRowRepaired [p2 r.channel, p2 r.bank, p2 r.row]

/-- Step 5 of a cold start: rows that fail are marked; marked rows, and remapped rows of banks that still have it, take their repair (R402). -/
def State.testRows (s : State) (fails : List (Nat × Nat × Nat)) : State :=
  let s := fails.foldl (fun s e => s.markRow { channel := e.1, bank := e.2.1, row := e.2.2 }) s
  let s := s.dram.marked.foldl State.repairRow s
  s.dram.remapped.foldl (fun s r => if s.dram.repaired.contains (r.channel, r.bank) then s else s.repairRow r) s

/-- The authentic copy of the security store with the higher generation (R454). -/
def authentic (a b : SecStore) (okA okB : Bool) : Option SecStore :=
  if okA && (!okB || b.generation ≤ a.generation) then some a else if okB then some b else none

/-- Images 2 to 6, the settings and the tables are loaded (step 7). -/
def State.loadSettings (s : State) (o : StartObs) : State :=
  let s := [2, 3, 4, 5, 6].foldl (fun s i => s.loadImage o i) s
  let s := match authentic s.prot.storeA s.prot.storeB o.storeA o.storeB with
    | some x => { s with prot := { s.prot with store := x } }
    | none => ({ s with prot := { s.prot with store := {} } }).record evSecurityStoreLost []
  let s := { s with izent := { s.izent with idle := s.prot.store.idle }, comp := { s.comp with copyAOk := o.copyA, copyBOk := o.copyB } }
  let s := s.loadSafety
  [0, 1, 2].foldl (fun s b => if (s.base b).cfg.source = 0 then s else s.setBaseCfg (s.base b).cfg) s

/-- The image that the units of a domain run (Table 19-1). -/
def domImages (d : Nat) : List Nat :=
  match d with
  | 4 | 5 => [5] | 6 => [2] | 7 | 8 | 9 => [4] | 10 => [3] | 12 | 13 => [3, 5] | _ => []

/-- Step 8: the intended domains come on in the order of Table 1-5, and the heads start (R222). Units whose image is missing stay stopped (R525). -/
def State.startDomains (s : State) (o : StartObs) : State :=
  let s := (s.repaired o.repairs).failUnits o.badEngines o.badScalers
  let s := (List.range 10).foldl (fun s i =>
    let d := i + 4
    if !(s.dom d).intended || !(domNeeds d).all s.domOn || !(domImages d).all (fun k => (s.image k).good) then s
    else if o.badDomains.contains d then (s.domTo d .switchingOn).bistFault d
    else s.startDomain d) s
  s.startHeads

/-- What a start that ends does with the update plan (R518, R519, R522). -/
def State.planAtReady (s : State) : State :=
  if s.upd.restarting && s.upd.planState = .running then s.pendConfirm
  else
    let u := { s.upd with restarting := false }
    match u.remaining with
    | some n => { s with upd := { u with remaining := none, deadline := s.now + n, settledFrom := s.clk, requested := false } }
    | none => { s with upd := u }

/-- Step 9: READY, or FAULT where an image is missing (R478, R525). -/
def State.startEnds (s : State) : State :=
  let took := match s.power.startedAt with | some t => (s.clk - t) / us | none => 0
  let s := { s with power := { s.power with startedAt := none, startFailures := 0, forceCold := false, aonKept := true, readyAt := s.clk, resetCause := none } }
  if (List.range 8).all fun i => (s.image i).good then
    let s := { s with izent := { s.izent with devState := .ready } }
    (s.record evStartComplete [p1 (if s.power.warm then 1 else 0), p4 took]).planAtReady
  else s.toFault

/-- The work of step `n` of Table 17-3. -/
def State.startStep (s : State) (n : Nat) (o : StartObs) : State :=
  match n with
  | 2 =>
    let s := (s.startDomain 1).planAtStart (match s.power.resetCause with | some c => c.1 | none => 0)
    let s := s.loadImage o 7
    if (s.image 7).good then s else s.stayInBoot
  | 3 =>
    let s := (s.loadImage o 0).loadImage o 1
    if !((s.image 0).good && (s.image 1).good) then s.stayInBoot
    else
      let s := ({ s with izent := { s.izent with devState := .starting } }).scanRing o.badPages
      match s.power.resetCause with | some c => s.record evResetCause [p1 c.1, p8 c.2] | none => s
  | 4 => (s.startDomain 2).trainDram o
  | 5 => if s.power.warm then s else s.testRows o.rowFails
  | 6 => (s.repaired o.repairs).startDomain 3
  | 7 => s.loadSettings o
  | 8 => s.startDomains o
  | 9 => s.startEnds
  | _ => s

end Sys2Proof.Machine
end

