-- ==== Sys2Proof/Machine/Feeds.lean ====
section
/-! DEFINITION. Feeds, the front-ends, keep-alive, the power-fail sequence, domain faults, resets and the start-up rows (R462–R470, R476–R481). -/

namespace Sys2Proof.Machine

/-! The power-fail sequence (R469, R470). -/

/-- What has fallen due since the warning: the fast domains at 50 µs, then at 3 ms, after the flush, everything but PD_AON, and that too without KA. -/
def State.failStages (s : State) : State :=
  if s.power.pfAt.isNone then s
  else
    let s := if s.pastFail (50 * us) then [6, 7, 8, 9, 4, 5].foldl (fun s d => s.cutDomain d) s else s
    if s.pastFail (3 * ms) then s.failEnds else s

/-- A command in progress answers ST_ABORTED (R470). -/
def State.abortRunning (s : State) : State :=
  s.izent.mbx.foldl (fun s e => match e.2.job with
    | some j => if j.cause.isNone then (s.undoSwitch j).respondErr e.1 (code j.kind) j.msg { status := stAborted, check := 0 } else s
    | none => s) s

/-- The power-fail warning is raised (R469). -/
def State.powerFail (s : State) : State :=
  if s.power.pfAt.isSome then s
  else
    let s := { s with power := { s.power with holder := none, pfWarn := true, pfAt := some s.clk, startedAt := none }, izent := { s.izent with devState := .powerFail } }
    (s.abortRunning.record evPowerFailWarning []).failStages

/-- An event of the power system: what the power-fail sequence has due comes first. -/
def powerRun (t : Time) (s : State) (f : State → State) : Host.Outcome State Fault Refusal := run t s fun s => f s.failStages

/-! Feeds (R462–R467). -/

/-- A feed qualifies: within 8.0–20.0 V for 100 ms by `at_`. -/
def State.qualify (s : State) (f : Nat) (at_ : Time) : State :=
  let x := s.feed f
  match x.inRange with
  | some t => if x.cond = .present && t + 100 * ms ≤ at_ then (s.setFeed f { x with cond := .qualified, fault := false }).record evFeedQualified [p2 f] else s
  | none => s

/-- A feed's voltage, which has stood for `elapsed` ns (Table 17-1). -/
def State.feedTo (s : State) (f mv elapsed : Nat) : State :=
  let x := s.feed f
  let outside := mv < 7500 || mv > 21000
  let good := 8000 ≤ mv && mv ≤ 20000
  let x := { x with mv := mv, inRange := if !good then none else match x.inRange with | some t => some t | none => some (s.clk - elapsed) }
  if outside && elapsed ≥ 200 && x.cond != .lost then (s.setFeed f { x with cond := .lost, inRange := none }).record evFeedLost [p2 f]
  else if !outside && x.cond = .lost then s.setFeed f { x with cond := .present }
  else s.setFeed f x

/-- The standby takes the load (R466): cause 0 the feed, 1 over-temperature, 2 a failed switch (log 28). -/
def State.handover (s : State) (next cause : Nat) : State :=
  ({ s with power := { s.power with holder := some next, ilk := next == 1, copies := 0, missed := 0, handovers := (s.power.handovers + 1) % 4294967296 } }).record evFeedHandover [p1 cause, p2 next]

/-- The holder must stop (R466, R467): the standby takes the load if its feed is QUALIFIED, else the warning is raised. -/
def State.mustStop (s : State) (h cause : Nat) : State :=
  let b := 1 - h
  if s.feedOk b then s.handover b cause else s.powerFail

/-- FEED_VOLTAGE_CHANGE (R462–R467, R469): both feeds as they stand in one switching cycle. A qualification period that ends by the end of the cycle counts. -/
def execFeedVoltageChange (t : Time) (a b elapsed : Nat) (s : State) : Host.Outcome State Fault Refusal :=
  powerRun t s fun s =>
    let s := (s.feedTo 0 a elapsed).feedTo 1 b elapsed
    match s.power.holder with
    | none => s
    | some h => if (s.feed h).cond != .lost then s else (s.qualify (1 - h) (cdiv s.clk 500 * 500)).mustStop h 0

/-- FEED_QUALIFY_TIMER (R462, R478): a feed that qualifies while all but PD_AON is off begins a start. -/
def execFeedQualifyTimer (t : Time) (s : State) : Host.Outcome State Fault Refusal :=
  powerRun t s fun s =>
    let s := (s.qualify 0 s.clk).qualify 1 s.clk
    if s.power.pfAt.isNone && (List.range 13).all fun d => (s.dom (d + 1)).state == .off then (if s.izent.devState = .boot && !s.upd.bootRom then s.beginStart else s) else s

/-- SWITCHING_CYCLE_END (R465): the holder copies its state to the standby. -/
def execSwitchingCycleEnd (t : Time) (copied : Bool) (s : State) : Host.Outcome State Fault Refusal :=
  powerRun t s fun s =>
    let p := s.power
    if p.holder.isNone then s
    else if copied then
      let n := min 4 (p.copies + 1)
      let s := { s with power := { p with copies := n, missed := 0, linkFault := p.linkFault && n < 4 } }
      if p.linkFault && n = 4 then s.record evFeedLinkFault [p1 1] else s
    else
      let n := min 4 (p.missed + 1)
      let s := { s with power := { p with copies := 0, missed := n, linkFault := p.linkFault || n = 4 } }
      if !p.linkFault && n = 4 then s.record evFeedLinkFault [p1 0] else s

/-- FRONT_END_FAULT (R463, R466): over-temperature or a failed switch of the holder. -/
def execFrontEndFault (t : Time) (cause : Nat) (s : State) : Host.Outcome State Fault Refusal :=
  powerRun t s fun s =>
    match s.power.holder with
    | none => s
    | some h => (s.setFeed h { s.feed h with fault := true }).mustStop h cause

/-! Keep-alive (R468). -/

/-- KA_CHANGE: present after 10 ms within 2.7–5.5 V, absent below 2.5 V. Without KA and without a holder PD_AON loses power. -/
def execKaChange (t : Time) (mv : Nat) (s : State) : Host.Outcome State Fault Refusal :=
  powerRun t s fun s =>
    let p := s.power
    let within := 2700 ≤ mv && mv ≤ 5500
    let since := if within then (match p.kaSince with | some x => some x | none => some s.clk) else none
    let s := { s with power := { p with kaMv := mv, kaSince := since } }
    match since with
    | some x =>
      if !p.kaPresent && x + 10 * ms ≤ s.clk then
        let s := { s with power := { s.power with kaPresent := true } }
        let s := if (s.dom 0).state = .on then s else s.domTo 0 .on
        s.record evKaChange [p1 1]
      else s
    | none =>
      if p.kaPresent && mv < 2500 then
        let s := { s with power := { s.power with kaPresent := false } }
        if p.holder.isNone && p.pfAt.isNone then s.aonLost else s.record evKaChange [p1 0]
      else s

/-! Faults and resets (R476, R481). -/

/-- DOMAIN_FAULT (R476): the domain and all that need it go off at once; of PD_SPIRE, PD_MEM or PD_HOUSE it is a brown-out. -/
def execDomainFault (t : Time) (d cause : Nat) (s : State) : Host.Outcome State Fault Refusal :=
  runIf (d < 14) t s fun s =>
    let s := s.failStages
    if (s.dom d).state = .off then s
    else
      let s := s.record evDomainFault [p2 d, p1 cause]
      if d = 0 then s.aonLost
      else if d < 4 then s.resetTo 5 true
      else (domDependents d).reverse.foldl (fun s e => s.cutDomain e) s |>.cutDomain d

/-- SYS_RESET (R481, R547): SYS_RESET_N has been low for `held` ns and is released. -/
def execSysReset (t : Time) (held : Nat) (s : State) : Host.Outcome State Fault Refusal :=
  powerRun t s fun s => if held < 10000 || !(s.dom 0).state == .on then s else s.resetTo 4 false

/-- RESTART_DELAY (R348): 1 ms after the response every session closes and the boot ROM starts again. -/
def execRestartDelay (t : Time) (s : State) : Host.Outcome State Fault Refusal :=
  powerRun t s fun s =>
    match s.power.restart with
    | none => s
    | some (mode, at_) =>
      if s.clk < at_ then s
      else
        let s := (s.izent.sessions.map Session.id).foldl (fun s id => s.closeSession id 5) s
        s.resetTo (if mode = 1 then 3 else 2) (mode == 1)

/-! Start-up rows (R478, R480). -/

/-- START_UP (R478): the next step of Table 17-3 ends, within its bound and without failure. -/
def execStartUp (t : Time) (o : StartObs) (s : State) : Host.Outcome State Fault Refusal :=
  powerRun t s fun s =>
    let p := s.power
    let n := p.stage + 1
    if p.startedAt.isNone then s
    else if !o.ok || p.stageAt + stepBound n p.warm * ms < s.clk && !(n = 5 && p.warm) then s.startFailed n
    else if n = 1 then
      match s.firstFeed with
      | none => s.powerFail
      | some f => let s := s.startLoad f o.temp; { s with power := { s.power with stage := 1, stageAt := s.clk } }
    else
      let s := s.startStep n o
      if s.upd.bootRom || n ≥ 9 then s else { s with power := { s.power with stage := n, stageAt := s.clk } }

/-- START_STEP_TIMEOUT (R480). -/
def execStartStepTimeout (t : Time) (stage : Nat) (s : State) : Host.Outcome State Fault Refusal :=
  powerRun t s fun s =>
    let p := s.power
    if p.startedAt.isSome && p.stage + 1 = stage && p.stageAt + stepBound stage p.warm * ms < s.clk then s.startFailed stage else s

end Sys2Proof.Machine
end

