-- ==== Sys2Proof/Machine/Health.lean ====
section
/-! DEFINITION. Supervision, repair, lockstep recovery, shedding, the adaptive loops of voltage and power, and the recorder's timers (R264, R342, R484–R503, R533, R554). -/

namespace Sys2Proof.Machine

/-- A period has passed since the last time, or there was none. -/
def State.periodDue (s : State) (last : Option Time) (period : Time) : Bool := match last with
  | some x => decide (x + period ≤ s.clk)
  | none => true

/-- Spire B runs: PD_SPIRE is on, its pair is not in recovery and its image is not being replaced (R494, R514). -/
def State.spireB (s : State) : Bool := s.domOn 1 && !s.health.recovering.contains 1 && !s.activating 1

/-! Reconciliation (R341, R342). -/

/-- The units that have a pair: what is listed, the bases and the domains. A unit that is not listed agrees. -/
def State.pairUnits (s : State) : List (Nat × Nat) :=
  let keys {α : Type} (k : Nat) (m : Map α) : List (Nat × Nat) := m.map fun e => (k, e.1)
  let wins := dedup ((s.comp.committed.windows.map (·.1)) ++ (List.range 4).flatMap fun g => (s.grpC g).act.windows.map (·.1))
  keys kCtx s.streams.ctx ++ keys kEnc s.enc.chan ++ keys kHead s.comp.heads ++ wins.map (fun w => (kWin, w)) ++ (List.range 4).map (fun b => (kBase, b)) ++ (List.range 14).map (fun d => (kDom, d)) ++ keys kSrc s.streams.src

/-- The intended configuration of a unit can be applied now: the locks of the unit are free and its domain is there (R333, R476; DEDUCED, log 35). -/
def State.canApply (s : State) (kind unit : Nat) : Bool :=
  match kind with
  | 1 | 7 => s.domOn 6
  | 2 => s.domOn 9
  | 3 => s.domOn (headDomain unit) && s.domOn 10 && !s.comp.formats.any fun f => f.recs.any fun r => r.head == unit
  | 6 => s.deviceHolder.isNone && (if (s.dom unit).intended then (domNeeds unit).all s.domOn && (s.dom unit).state == .off else (domDependents unit).all fun d => (s.dom d).state == .off)
  | _ => true

/-- The committed settings are sealed once more for a group (R342). -/
def State.resealGroup (s : State) (g : Nat) : State :=
  let x : Sealed := { set := s.comp.committed, seq := s.comp.commitSeq, at_ := s.clk, sealDt := s.now }
  if (s.headsOf g).isEmpty then s.applySet g x s.now else s.setGrpC g { s.grpC g with next := some x }

/-- Spire B applies the intended configuration of a unit (R342). -/
def State.applyIntended (s : State) (kind unit : Nat) : State :=
  match kind with
  | 1 =>
    let x := s.ctx unit
    if !x.intended then s.drainCtx unit
    else
      let r : Reopen := { decl := x.decl, ps := x.ps, engine := x.engine, decoder := x.decoder, slots := s.plan.slots x.decl, flip := none }
      ({ s with comp := { s.comp with reopens := s.comp.reopens ++ [r] } }).openDue unit
  | 2 =>
    let x := s.enc? unit
    if !x.intended then s.closeEnc unit else s.openEnc x.decl x.engine x.level x.tier
  | 3 => match (s.head unit).stored with
    | some r => s.startFormat [r]
    | none => s
  | 4 => match s.groupOf (s.comp.committed.window unit), s.groupOf (s.activeWindow unit) with
    | some g, some k => if g = k then s.resealGroup g else (s.resealGroup g).resealGroup k
    | some g, none | none, some g => s.resealGroup g
    | none, none => s
  | 5 => s.setBaseCfg (s.base unit).cfg
  | 6 => if (s.dom unit).intended then s.domTo unit .switchingOn else s.shutDown unit
  | _ => let x := s.src unit; if x.intended then s.setSource x.decl x.image else s.setSource { source := unit } []

/-- Replace what is known of a unit's disagreement. -/
def State.setCompare (s : State) (c : Compare) : State :=
  { s with health := { s.health with compares := s.health.compares.map fun (x : Compare) => if x.kind == c.kind && x.unit == c.unit then c else x } }

/-- STATE_MISMATCH with the unit, both states and PERSISTENT (R342; order DEDUCED, log 35). -/
def State.recordMismatch (s : State) (kind unit : Nat) (persistent : Bool) : State :=
  let p := s.pair kind unit
  s.record evStateMismatch [p1 kind, p2 unit, p1 (if p.intended then 1 else 0), p1 p.intendedArg, p1 p.observed, p1 p.observedArg, p1 (if persistent then 1 else 0)]

/-- The re-application that a reported unit still waits for (R333, R342). -/
def State.tryApply (s : State) (c : Compare) : State :=
  if c.applied || c.persistent || !s.canApply c.kind c.unit then s else (s.setCompare { c with applied := true }).applyIntended c.kind c.unit

/-- One unit's comparison (R342). -/
def State.compareUnit (s : State) (kind unit : Nat) : State :=
  let ok := (s.pair kind unit).agrees (s.pendingFor kind unit)
  match s.health.compares.find? fun c => c.kind == kind && c.unit == unit with
  | none => if ok then s else { s with health := { s.health with compares := s.health.compares ++ [{ kind := kind, unit := unit, sinceDt := s.now, since := s.clk }] } }
  | some c =>
    if ok then
      let s := { s with health := { s.health with compares := s.health.compares.filter fun x => !(x.kind == kind && x.unit == unit) } }
      if c.reportedAt.isSome then s.record evStateMismatchCleared [p1 kind, p2 unit] else s
    else match c.reportedAt with
      | none =>
        if s.clk < c.since + 100 * ms then s
        else
          let c := { c with reportedAt := some s.clk }
          ((s.setCompare c).recordMismatch kind unit false).tryApply c
      | some at_ =>
        if !c.persistent && at_ + 1000 * ms ≤ s.clk then (s.setCompare { c with persistent := true }).recordMismatch kind unit true
        else s.tryApply c

/-- RECONCILE (R342): every 10 ms. Spire B compares while the W16 is READY (DEDUCED, log 35); it pauses while its pair recovers (R494). -/
def execReconcile (t : Time) (s : State) : Host.Outcome State Fault Refusal :=
  run t s fun s =>
    if s.izent.devState != .ready || !s.spireB || !s.periodDue s.health.comparedAt (10 * ms) then s
    else s.pairUnits.foldl (fun s u => s.compareUnit u.1 u.2) { s with health := { s.health with comparedAt := some s.clk } }

/-! Adaptive voltage and the power cap (R484–R487). -/

/-- One sample of a domain: its pace ratio, and a step of its loop. -/
def State.pace (s : State) (d ratio : Nat) : State :=
  let x := { s.dom d with pace := sat 2 ratio }
  let (lo, hi) := vRange d
  let due := match x.steppedAt with | some at_ => decide (at_ + 10 * ms ≤ s.clk) | none => true
  if due && ratio < 1030 then
    if x.mv < hi then
      let mv := min hi (x.mv + 5)
      s.setDom d { x with mv := mv, steppedAt := some s.clk, belowSince := if mv < hi then x.belowSince else none }
    else if x.atLimit then s.setDom d x
    else (s.setDom d { x with atLimit := true, belowSince := none }).record evDomainAtLimit [p2 d, p1 0]
  else if due && ratio > 1080 && lo < x.mv then
    s.setDom d { x with mv := max lo (x.mv - 5), steppedAt := some s.clk, belowSince := if x.mv = hi then some s.clk else x.belowSince }
  else s.setDom d x

/-- A loop that has stepped down from V_MAX and stayed below it for 1 000 ms releases the bound. -/
def State.releaseBound (s : State) (d : Nat) : State :=
  let x := s.dom d
  match x.belowSince with
  | some at_ => if x.atLimit && at_ + 1000 * ms ≤ s.clk then (s.setDom d { x with atLimit := false }).record evDomainAtLimit [p2 d, p1 1] else s
  | none => s

/-- PACE_SAMPLE (R484, R485, R515): every 1 ms, the ratios of the pace monitors of domains 1–13 in order; that of a domain is the slowest. House engine 0 samples; each loop holds while it reloads with Spire A or is halted. -/
def execPaceSample (t : Time) (monitors : List (List Nat)) (s : State) : Host.Outcome State Fault Refusal :=
  run t s fun s =>
    if !s.domOn 3 || s.activating 0 || s.prot.halted.contains 26 || !s.periodDue s.health.sampledAt ms then s
    else ((List.range 13).map (· + 1)).foldl (fun s d =>
      match monitors.getD (d - 1) [] with
      | r :: rs => if s.domOn d then (s.pace d (rs.foldl min r)).releaseBound d else s
      | [] => s) { s with health := { s.health with sampledAt := some s.clk } }

/-- POWER_OVER_CAP (R487): INPUT_MW is measured; AT_LIMIT is set, and cleared, after 1 000 ms without a break. -/
def execPowerOverCap (t : Time) (mw : Nat) (s : State) : Host.Outcome State Fault Refusal :=
  run t s fun s =>
    if !s.domOn 3 then s
    else
      let p := s.power
      let above := p.capMw < mw
      let mark (b : Bool) (x : Option Time) : Option Time := if !b then none else match x with | some y => some y | none => some s.clk
      let p := { p with inputMw := mw, overSince := mark above p.overSince, underSince := mark (!above) p.underSince }
      let passed (x : Option Time) : Bool := match x with | some y => decide (y + 1000 * ms ≤ s.clk) | none => false
      if passed p.overSince && !p.capAtLimit then ({ s with power := { p with capAtLimit := true } }).record evPowerOverCap []
      else { s with power := { p with capAtLimit := p.capAtLimit && !passed p.underSince } }

/-! Failed units (R488, R490, R491, R493). -/

/-- UNIT_FAILED and SPARE_SWAP name the kind of the unit, 0 decoder engine and 1 scaler, then the units (DEDUCED, log 35). -/
def State.failEngine (s : State) (e : Nat) : State :=
  if s.health.failedEngines.contains e then s
  else
    let h := s.health
    let d := if e < 9 then 7 else 8
    let was := h.engines.contains e
    let spare := (towerEngines d).find? fun x => x != e && !h.engines.contains x && !h.failedEngines.contains x
    let s := ({ s with health := { h with failedEngines := h.failedEngines ++ [e], engines := if was then sortBy id (h.engines.filter (· != e) ++ spare.toList) else h.engines } }).record evUnitFailed [p1 0, p2 e]
    if !was then s
    else
      let s := match spare with
        | some x => s.record evSpareSwap [p1 0, p2 e, p2 x]
        | none => s
      s.leaveEngine e spare

/-- A failed scaler: its assignments move at the next latch instant of each group concerned, to a spare if one remains. -/
def State.failScaler (s : State) (u : Nat) : State :=
  if s.health.failedScalers.contains u then s
  else
    let h := s.health
    let was := h.scalers.contains u
    let spare := (List.range 104).find? fun x => x != u && !h.scalers.contains x && !h.failedScalers.contains x
    let used := s.comp.assigns.any fun a => a.scalers.contains u
    let s := ({ s with health := { h with failedScalers := h.failedScalers ++ [u], scalers := if was then sortBy id (h.scalers.filter (· != u) ++ spare.toList) else h.scalers
                                          swaps := if was && used then h.swaps ++ [(u, spare)] else h.swaps } }).record evUnitFailed [p1 1, p2 u]
    match was, spare with
    | true, some x => s.record evSpareSwap [p1 1, p2 u, p2 x]
    | _, _ => s

/-- DECODER_SELF_TEST (R491): an engine in service, between two access units, every 10 s. -/
def execDecoderSelfTest (t : Time) (e : Nat) (pass : Bool) (s : State) : Host.Outcome State Fault Refusal :=
  runIf (e < 18) t s fun s =>
    if !s.health.engines.contains e || !s.domOn (if e < 9 then 7 else 8) || (Map.get? s.streams.working e).isSome || !s.periodDue (Map.get? s.health.engineTested e) (10 * sec) then s
    else
      let s := { s with health := { s.health with engineTested := Map.set s.health.engineTested e s.clk } }
      if pass then s else s.failEngine e

/-- A scaler can run its test: a head that it serves is in vertical blanking, or any head if it serves none (R491). -/
def State.scalerIdle (s : State) (u : Nat) : Bool :=
  let served := (s.comp.assigns.filter fun a => a.scalers.contains u).map fun a => (s.activeWindow a.window).head
  if served.isEmpty then allHeads.any fun h => !(s.head h).scanning else served.any fun h => !(s.head h).scanning

/-- SCALER_SELF_TEST (R491): a scaler in service, in a vertical blanking, every 1 000 ms. -/
def execScalerSelfTest (t : Time) (u : Nat) (pass : Bool) (s : State) : Host.Outcome State Fault Refusal :=
  runIf (u < 104) t s fun s =>
    if !s.health.scalers.contains u || !s.domOn 10 || !s.scalerIdle u || !s.periodDue (Map.get? s.health.scalerTested u) (1000 * ms) then s
    else
      let s := { s with health := { s.health with scalerTested := Map.set s.health.scalerTested u s.clk } }
      if pass then s else s.failScaler u

/-- LANTERN_DIAGNOSIS (R493): in a vertical blanking of the window's head, the test is repeated on the scalers that served the window in the mismatching frame; those in `failed` fail it. -/
def execLanternDiagnosis (t : Time) (w : Nat) (failed : List Nat) (s : State) : Host.Outcome State Fault Refusal :=
  runIf (w < 1024) t s fun s =>
    let x := s.win w
    match x.diagnose with
    | some served =>
      if !s.domOn 10 || (s.head (s.activeWindow w).head).scanning then s
      else (failed.filter fun u => served.contains u && s.health.scalers.contains u).foldl State.failScaler (s.setWin w { x with diagnose := none })
    | none => s

/-- SRAM_SCRUB (R491, R496): house engine 0 scrubs; an uncorrectable error fails a decoder engine or a scaler. Shedding suspends it. -/
def execSramScrub (t : Time) (f : SramFinding) (s : State) : Host.Outcome State Fault Refusal :=
  run t s fun s =>
    if !s.domOn 3 || s.health.bgSuspended || s.prot.halted.contains 26 then s
    else match f with
      | .engine e => if e < 18 && s.domOn (if e < 9 then 7 else 8) then s.failEngine e else s
      | .scaler u => if u < 104 && s.domOn 10 then s.failScaler u else s
      | .clean | .other => s

/-! Lockstep recovery and reloads (R494, R495). -/

/-- Every command in progress or held is answered ST_ABORTED. -/
def State.lockstepAbort (s : State) : State :=
  s.izent.mbx.foldl (fun s e => match (s.mbx e.1).job with
    | some j => if j.cause.isSome then s.endHeld e.1 stAborted else (s.undoSwitch j).respondErr e.1 (code j.kind) j.msg { status := stAborted, check := 0 }
    | none => s) s

/-- A Spire pair recovers, for cause 0 a mismatch, 1 an uncorrectable error, 2 a refused transfer (log 35). What strikes it during recovery, or for the third time within 600 s, resets the device (R494, R522). -/
def State.recoverPair (s : State) (pair cause : Nat) : State :=
  let h := s.health
  let past := h.recoveries.filter fun x => x.1 == pair && s.clk ≤ x.2 + 600 * sec
  let s := s.record evSpireLockstep [p2 pair, p1 cause]
  if h.recovering.contains pair || past.length ≥ 2 then s.resetTo 7 false
  else
    let s := { s with health := { s.health with recovering := h.recovering ++ [pair], recoveries := (h.recoveries.filter fun x => s.clk ≤ x.2 + 600 * sec) ++ [(pair, s.clk)] } }
    let s := if pair = 0 then s.lockstepAbort else s
    if s.upd.planState = .running && s.upd.falling.isNone then s.fallBack 2 else s

/-- SPIRE_LOCKSTEP (R494, R522): pair 0 is Spire A, 1 Spire B. -/
def execSpireLockstep (t : Time) (pair cause : Nat) (s : State) : Host.Outcome State Fault Refusal :=
  runIf (pair < 2) t s fun s => if s.domOn 1 then s.recoverPair pair cause else s

/-- SPIRE_RECOVERY_DONE (R494). -/
def execSpireRecoveryDone (t : Time) (pair : Nat) (s : State) : Host.Outcome State Fault Refusal :=
  runIf (pair < 2) t s fun s => { s with health := { s.health with recovering := s.health.recovering.filter (· != pair) } }

/-- A house engine abandons an operation; the third within 60 s reloads it (R495). -/
def State.abandonOp (s : State) (e : Nat) : State :=
  let h := s.health
  let kept := (h.abandoned.filter fun x => s.clk < x.2 + 60 * sec) ++ [(e, s.clk)]
  if (kept.filter fun x => x.1 == e).length ≥ 3 then ({ s with health := { h with abandoned := kept.filter fun x => x.1 != e } }).record evUnitReloaded [p2 e]
  else { s with health := { h with abandoned := kept } }

/-- HOUSE_ENGINE_RELOAD (R495): a house engine has an operation abandoned. -/
def execHouseEngineReload (t : Time) (e : Nat) (s : State) : Host.Outcome State Fault Refusal :=
  runIf (e < 4) t s fun s => if s.domOn 3 then s.abandonOp e else s

/-! Shedding (R264, R500–R502). -/

/-- The conditions of Table 18-3 over the last period. -/
def State.shortfall (s : State) : Nat :=
  let h := s.health
  let slow := ((List.range 13).map (· + 1)).any fun d => s.domOn d && (s.dom d).mv = (vRange d).2 && (s.dom d).pace < 1000
  bitsOf [bit h.conditions 0, bit h.conditions 1 || s.streams.ctx.any (fun x => x.2.skipping), bit h.conditions 2, slow, s.enc.dropped]

/-- QP_RAISE of one channel rises by 6, up to its bound, which it then holds (R264). -/
def State.raiseQp (s : State) (c : Nat) : State :=
  let x := s.enc? c
  if !(s.encOpen c && x.decl.h265) then s
  else
    let n := min x.decl.maxQpRaise (x.raise + 6)
    let s := s.setEnc c { x with raise := n, atLimit := n == x.decl.maxQpRaise }
    if n = x.decl.maxQpRaise && !x.atLimit then s.record evEncodeAtLimit [p2 c] else s

/-- Some H.265 channel is below its MAX_QP_RAISE. -/
def State.qpRoom (s : State) : Bool := allChannels.any fun c => s.encOpen c && (s.enc? c).decl.h265 && (s.enc? c).raise < (s.enc? c).decl.maxQpRaise

/-- QP_RAISE of every channel falls by 6 (R264). -/
def State.lowerQp (s : State) : State :=
  allChannels.foldl (fun s c =>
    let x := s.enc? c
    if x.decl.h265 then
      let n := x.raise - 6
      s.setEnc c { x with raise := n, atLimit := x.atLimit && n == x.decl.maxQpRaise }
    else s) s

/-- The window that is shed next: the largest real-time term, then the higher number. -/
def State.nextShed (s : State) : Option WindowDesc :=
  let p := s.plan
  let ws := sortBy WindowDesc.window ((List.range 4).flatMap s.groupWindows)
  (ws.filter fun d => bit d.flags 1 && d.kind != 2 && !s.health.shed.contains d.window).foldl (fun (a : Option WindowDesc) d => match a with
    | some x => if (p.rtTerm d).below (p.rtTerm x) then a else some d
    | none => some d) none

/-- The next action of R501. -/
def State.shedNext (s : State) (bits : Nat) : State :=
  let step (s : State) (action w : Nat) : State := s.record evShedStep [p1 action, p2 w, p2 bits]
  if !s.health.bgSuspended then step { s with health := { s.health with bgSuspended := true } } 0 0xFFFF
  else
    let room := s.qpRoom
    let s := allChannels.foldl State.raiseQp s
    if room then step { s with health := { s.health with qpSteps := s.health.qpSteps + 1 } } 1 0xFFFF
    else match s.nextShed with
      | some d => step ({ s with health := { s.health with shed := d.window :: s.health.shed } }.setWin d.window { s.win d.window with shed := true }) 2 d.window
      | none => if s.health.exhausted then s else ({ s with health := { s.health with exhausted := true } }).record evShedExhausted []

/-- SHED_EVALUATION (R500, R501): every 100 ms. -/
def execShedEvaluation (t : Time) (s : State) : Host.Outcome State Fault Refusal :=
  run t s fun s =>
    if !s.spireB || !s.periodDue s.health.evaluatedAt (100 * ms) then s
    else
      let bits := s.shortfall
      let s := { s with health := { s.health with evaluatedAt := some s.clk, conditions := 0, shortfallAt := if bits = 0 then s.health.shortfallAt else s.clk, exhausted := s.health.exhausted && bits != 0 }, enc := { s.enc with dropped := false } }
      if bits = 0 then s else s.shedNext bits

/-- An action may be undone now (R502). -/
def State.unwindDue (s : State) : Bool := s.spireB && s.health.shortfallAt + 10000 * ms ≤ s.clk && (s.health.unwoundAt = 0 || s.health.unwoundAt + 1000 * ms ≤ s.clk)

/-- SHED_RELEASE with the action undone. -/
def State.released (s : State) (action w : Nat) : State := ({ s with health := { s.health with unwoundAt := s.clk } }).record evShedRelease [p1 action, p2 w]

/-- The encoder quality action is the next to be undone. -/
def State.qpUndoDue (s : State) : Bool := s.unwindDue && s.health.shed.isEmpty && s.health.qpSteps != 0

/-- Undo one encoder quality action (R264). -/
def State.undoQp (s : State) : State := ({ s with health := { s.health with qpSteps := s.health.qpSteps - 1 } }.lowerQp).released 1 0xFFFF

/-- SHED_UNWIND (R502): windows, then encoder quality, then the background. -/
def execShedUnwind (t : Time) (s : State) : Host.Outcome State Fault Refusal :=
  run t s fun s =>
    if !s.unwindDue then s
    else match s.health.shed with
      | w :: ws => ({ s with health := { s.health with shed := ws } }.setWin w { s.win w with shed := false }).released 2 w
      | [] =>
        if s.health.qpSteps != 0 then s.undoQp
        else if s.health.bgSuspended then ({ s with health := { s.health with bgSuspended := false } }.released 0 0xFFFF).startScan
        else s

/-- QP_RAISE_DECAY (R264, R502): the encoder quality action falls due to be undone. -/
def execQpRaiseDecay (t : Time) (s : State) : Host.Outcome State Fault Refusal :=
  run t s fun s => if s.qpUndoDue then s.undoQp else s

/-! The recorder's timers (R533, R554). -/

/-- FLUSH_TIMER (R533): 10 s since the last flush. -/
def execFlushTimer (t : Time) (s : State) : Host.Outcome State Fault Refusal :=
  run t s fun s => if s.spireB && s.recorder.flushing.isNone && s.recorder.lastFlush + 10 * sec ≤ s.clk then s.startFlush else s

/-- RECORDER_FLUSH_DONE (R532–R534). -/
def execRecorderFlushDone (t : Time) (s : State) : Host.Outcome State Fault Refusal :=
  run t s fun s => match s.recorder.flushing with
    | some n => if s.spireB then s.flushRing n else s
    | none => s

/-- RATE_LIMIT_CLOSE (R554): 1 000 ms after the last record, the closing record of what was suppressed. -/
def execRateLimitClose (t : Time) (ty subject : Nat) (s : State) : Host.Outcome State Fault Refusal :=
  run t s fun s =>
    let mine (e : RateEntry) : Bool := e.ty == ty && e.subject == subject
    match s.recorder.rate.find? mine with
    | some e =>
      if e.suppressed = 0 || s.clk < e.lastAt + 1000 * ms then s
      else
        let next : RateEntry := { ty := ty, subject := subject, lastAt := s.clk }
        ({ s with recorder := { s.recorder with rate := next :: s.recorder.rate.filter fun x => !mine x } }).recordRaw ty e.time (pvPlace e.payload 4 (le 4 (sat 4 e.suppressed)))
    | none => s

end Sys2Proof.Machine
end

