-- ==== Sys2Proof/Machine/Grants.lean ====
section
/-! DEFINITION. The grants of the DRAM controller: the doors, the data, and what follows a refusal or an error (R380–R394, R398, R399, R441–R444, R494, R495). -/

namespace Sys2Proof.Machine

/-- What a refused transfer means to its initiator (Table 16-4). A scan job's range is judged when the job ends; the scrubber and the NAND and crypto DMA start again by themselves (R495). -/
def State.refusedAction (s : State) (a : Arrival) : State :=
  if a.requester = 30 || a.requester = 31 then s.recoverPair (a.requester - 30) 2
  else if 32 ≤ a.requester && a.requester ≤ 35 then s.abandonOp (a.requester - 32)
  else match a.use with
  | .pixels w => if a.requester < 16 then s.setWin w { s.win w with refused := true } else s
  | .lanternTag _ => if a.requester = 16 then s.eccAction a.use else s
  | .headTag _ | .concealMap _ _ | .tileRecord _ _ _ => if a.requester = 17 then s.eccAction a.use else s
  | .decode c u area =>
    let mark (d : Decoding) : Decoding :=
      if d.context != c then d else if a.write then { d with refusedUnit := some (d.refusedUnit.getD u) } else { d with refusedAreas := area :: d.refusedAreas }
    if a.requester = 18 || a.requester = 19 then { s with streams := { s.streams with working := Map.mapV (fun _ d => mark d) s.streams.working } } else s
  | .encode c =>
    if 20 ≤ a.requester && a.requester ≤ 23 then s.dropRefused c false else if a.requester = 28 || a.requester = 29 then s.dropRefused c true else s
  | .packet c q => if 24 ≤ a.requester && a.requester ≤ 27 then s.setCtx c { s.ctx c with jitter := (s.ctx c).jitter.filter fun h => h.seq != q } else s
  | .samples c rtp line =>
    if 24 ≤ a.requester && a.requester ≤ 27 then
      s.setCtx c { s.ctx c with assembly := (s.ctx c).assembly.map fun x => if x.rtp = rtp then { x with segments := x.segments.filter fun g => g.line != line } else x }
    else s
  | .firmware | .config _ | .other => s

/-- A door refuses a transfer of an epoch (R443). -/
def State.refuse (s : State) (door : Nat) (a : Arrival) (address epoch : Nat) : State :=
  (s.doorDenied door a.requester (levelOf a) (accessOf a) address epoch).refusedAction a

/-- The transfer takes effect at its target: both doors under its own epoch, then the data (R382, R398, R441, R443, R444). -/
def State.transfer (s : State) (y : Transfer) (ecc : EccResult) : State :=
  let a := y.op.address
  let leaving (data : Option Bytes) (s : State) : State := { s with dram := { s.dram with last := some y, lastData := data } }
  let reach := if y.op.requester = 37 then a < 0x7FC000000 else doorAllows (s.rulesAt y.epoch 0x40) (levelOf y.op) (accessOf y.op) a
  if !reach then leaving none (s.refuse 0x40 y.op a y.epoch)
  else if y.op.write then leaving none { s with dram := s.dram.write a (y.op.data.take (min 64 (64 - a % 64))) }
  else
    let data := s.dram.bytes? a (min 64 (64 - a % 64))
    match (if protected_ a then ecc else .clean) with
    | .clean => leaving data s
    | .corrected => leaving data (s.corrected a)
    | .uncorrectable =>
      let s := leaving none ((s.uncorrectable a).eccAction y.op.use)
      if y.op.requester = 30 || y.op.requester = 31 then s.recoverPair (y.op.requester - 30) 1 else s

/-- A transfer arrives at its initiator door and takes the current epoch; then its bank queue takes it, or it is held back at the fabric (R380, R441, R444). One to another target has only its doors to pass in this model (log 26). -/
def State.arrive (s : State) (c : Nat) (a : Arrival) : State :=
  if a.requester ≥ 40 then s
  else match (if a.requester = 37 then none else s.initiatorRefused a.requester (levelOf a) (accessOf a) a.address) with
    | some (d, x) => s.refuse d a x s.prot.epoch
    | none =>
      if 2 ^ 35 ≤ a.address then
        match s.targetRefused a.requester (levelOf a) (accessOf a) a.address with
        | some (d, x) => s.refuse d a x s.prot.epoch
        | none => s
      else if s.dram.hash.channel a.address != c then s
      else s.setChannel c (s.dram.takeIn { s.channel c with held := (s.channel c).held ++ [{ op := a, epoch := s.prot.epoch, since := s.clk }] })

/-- DRAM_GRANT (R380–R394): what has arrived joins the queues, and the channel grants one requester one transfer. -/
def execDramGrant (t : Time) (c : Nat) (g : GrantInfo) (s : State) : Host.Outcome State Fault Refusal :=
  runIf (c < 16) t s fun s =>
    if !s.domOn 2 then s
    else
      let s := g.arrivals.foldl (fun s a => s.arrive c a) s
      let now := slotAt s.clk
      let x := (s.dram.takeIn (s.channel c)).carry now
      let q := s.dram.ready x g.blocked
      match s.pick c x q with
      | (x, none) => s.setChannel c x
      | (x, some (r, p)) => match s.dram.chosen x q r with
        | none => s.setChannel c x
        | some y => (s.setChannel c (s.dram.start (x.counted now r p) y)).transfer y g.ecc

end Sys2Proof.Machine
end

