-- ==== Sys2Proof/Machine/Held.lean ====
section
/-! DEFINITION. Held commands, the further message of a network mailbox, the local action session, and the expiry of an arm (R233, R314, R327, R332, R433, R434). -/

namespace Sys2Proof.Machine

/-- A command has been held for more than 10 s (R332). -/
def State.heldLong (s : State) (j : Job) : Bool := j.since + 10 * sec ≤ s.clk

/-- The call of a held job. -/
def State.callOf (s : State) (mb : Nat) (j : Job) : Call :=
  let role := if mb = 24 then 1 else match s.session? mb with | some x => x.role | none => if s.upd.bootRom then 2 else 0
  { kind := j.kind, mb := mb, role := role, msg := j.msg, p := fit (j.msg.length - 32) j.msg.payload, since := j.since, rung := j.rung, order := j.order }

/-- A command held earlier waits for locks too; the queue is first-come (R332). -/
def State.queuedBefore (s : State) (j : Job) : Bool :=
  s.izent.mbx.any fun e => match e.2.job with | some k => k.cause == some .locks && k.order < j.order | none => false

/-- A held command starts again: from check 8 where it waited for READY, else from check 9 (R328, R332). -/
def State.startHeld (s : State) (mb : Nat) (j : Job) : State :=
  let c := s.callOf mb j
  match j.cause with
  | none => s
  | some .ready => if s.izent.devState = .ready then s.formCall c (bodyOf j.kind) else s
  | some .switching => s.admitCall c (bodyOf j.kind)
  | some .locks => if s.queuedBefore j then s else s.attempt c (bodyOf j.kind)
  | some .drain => s.attempt c (bodyOf j.kind)
  | some .flip => s.attempt c (bodyOf j.kind)

/-- The further message that a network mailbox has read is checked once nothing is in progress (R314). -/
def State.startNext (s : State) (mb : Nat) : State :=
  let x := s.mbx mb
  match x.next with
  | none => s
  | some (k, m) =>
    if x.job.isSome || !s.serves mb then s
    else (s.setMbx mb { x with next := none, command := code k }).checkCall k mb m s.clk s.izent.orderCount (bodyOf k)

/-- HELD_COMMAND_START (R332). -/
def execHeldCommandStart (t : Time) (mb : Nat) (s : State) : Host.Outcome State Fault Refusal :=
  runIf (mb < 25) t s fun s =>
    match (s.mbx mb).job with
    | some j => if !s.domOn 1 then s else if j.cause.isSome && s.heldLong j then s.endHeld mb stTimeout else s.startHeld mb j
    | none => s.startNext mb

/-- HOLD_TIMEOUT (R332). -/
def execHoldTimeout (t : Time) (mb : Nat) (s : State) : Host.Outcome State Fault Refusal :=
  runIf (mb < 25) t s fun s =>
    match (s.mbx mb).job with
    | some j => if j.cause.isSome && s.heldLong j then s.endHeld mb stTimeout else s
    | none => s

/-- A SAFETY_APPLY of the arm's session, rung in time, is held (R234). -/
def State.applyHeld (s : State) (a : Arm) : Bool :=
  s.izent.mbx.any fun e => match e.2.job with | some j => j.kind = .safetyApply && j.msg.session = a.session && j.rung ≤ a.expiry | none => false

/-- SAFETY_ARM_EXPIRY (R233, R234). -/
def execSafetyArmExpiry (t : Time) (s : State) : Host.Outcome State Fault Refusal :=
  run t s fun s =>
    match s.comp.arm with
    | some a => if a.expiry < s.now && !s.applyHeld a then { s with comp := { s.comp with arm := none } } else s
    | none => s

/-- The message of a local action: LAYOUT_STORED_COMMIT with WAIT = 1, or ALERT_ACK (R433). -/
def localMsg (a : LocalAct) : CmdKind × Msg :=
  let m : Msg := { flags := 1, length := 36, session := Config.localSession.toNat }
  if a.action = 1 then (.layoutStoredCommit, { m with payload := le 4 a.arg }) else (.alertAck, { m with flags := 0, payload := le 2 a.arg ++ le 2 a.reason })

/-- LOCAL_ACTION_START (R327, R434, R515): the local action session runs the next queued command on mailbox 24, while Spire A runs. -/
def execLocalActionStart (t : Time) (s : State) : Host.Outcome State Fault Refusal :=
  run t s fun s =>
    match s.touch.queue with
    | [] => s
    | a :: rest =>
      if s.touch.running.isSome || !s.spireA then s
      else
        let (k, m) := localMsg a
        let s := { s with touch := { s.touch with queue := rest, running := some a }, izent := { s.izent with orderCount := s.izent.orderCount + 1 } }
        let s := s.setMbx 24 { s.mbx 24 with command := code k }
        s.admitCall { kind := k, mb := 24, role := 1, msg := m, p := m.payload, since := s.clk, rung := s.now, order := s.izent.orderCount } (bodyOf k)

end Sys2Proof.Machine
end

