-- ==== Sys2Proof/Machine/Dispatch.lean ====
section
/-! DEFINITION. The meaning of each command: one arm per constructor. -/

namespace Sys2Proof.Machine

/-- What a command does to everything but the queue. -/
def exec (i : Instr) (s : State) : Host.Outcome State Fault Refusal :=
  match i with
  | .systemIdentify t mb m => Sys2Proof.Machine.execSystemIdentify t mb m s
  | .systemStatus t mb m => Sys2Proof.Machine.execSystemStatus t mb m s
  | .systemRestart t mb m => Sys2Proof.Machine.execSystemRestart t mb m s
  | .abort t mb m => Sys2Proof.Machine.execAbort t mb m s
  | .layoutPropose t mb m => Sys2Proof.Machine.execLayoutPropose t mb m s
  | .layoutCommit t mb m => Sys2Proof.Machine.execLayoutCommit t mb m s
  | .layoutStore t mb m => Sys2Proof.Machine.execLayoutStore t mb m s
  | .layoutStoredCommit t mb m => Sys2Proof.Machine.execLayoutStoredCommit t mb m s
  | .layoutRead t mb m => Sys2Proof.Machine.execLayoutRead t mb m s
  | .streamOpen t mb m => Sys2Proof.Machine.execStreamOpen t mb m s
  | .streamClose t mb m => Sys2Proof.Machine.execStreamClose t mb m s
  | .streamStatus t mb m => Sys2Proof.Machine.execStreamStatus t mb m s
  | .decodeStatus t mb m => Sys2Proof.Machine.execDecodeStatus t mb m s
  | .sourceSet t mb m => Sys2Proof.Machine.execSourceSet t mb m s
  | .sourceStatus t mb m => Sys2Proof.Machine.execSourceStatus t mb m s
  | .windowSet t mb m => Sys2Proof.Machine.execWindowSet t mb m s
  | .windowGet t mb m => Sys2Proof.Machine.execWindowGet t mb m s
  | .windowStatus t mb m => Sys2Proof.Machine.execWindowStatus t mb m s
  | .backgroundSet t mb m => Sys2Proof.Machine.execBackgroundSet t mb m s
  | .blendSet t mb m => Sys2Proof.Machine.execBlendSet t mb m s
  | .toneProfileSet t mb m => Sys2Proof.Machine.execToneProfileSet t mb m s
  | .toneProfileGet t mb m => Sys2Proof.Machine.execToneProfileGet t mb m s
  | .coefSet t mb m => Sys2Proof.Machine.execCoefSet t mb m s
  | .coefGet t mb m => Sys2Proof.Machine.execCoefGet t mb m s
  | .tileRecordsGet t mb m => Sys2Proof.Machine.execTileRecordsGet t mb m s
  | .glyphGet t mb m => Sys2Proof.Machine.execGlyphGet t mb m s
  | .safetyArm t mb m => Sys2Proof.Machine.execSafetyArm t mb m s
  | .safetyApply t mb m => Sys2Proof.Machine.execSafetyApply t mb m s
  | .safetyGet t mb m => Sys2Proof.Machine.execSafetyGet t mb m s
  | .lanternClear t mb m => Sys2Proof.Machine.execLanternClear t mb m s
  | .lanternStatus t mb m => Sys2Proof.Machine.execLanternStatus t mb m s
  | .alertAck t mb m => Sys2Proof.Machine.execAlertAck t mb m s
  | .headTimingSet t mb m => Sys2Proof.Machine.execHeadTimingSet t mb m s
  | .headTimingGet t mb m => Sys2Proof.Machine.execHeadTimingGet t mb m s
  | .headStatus t mb m => Sys2Proof.Machine.execHeadStatus t mb m s
  | .headEdidGet t mb m => Sys2Proof.Machine.execHeadEdidGet t mb m s
  | .encodeOpen t mb m => Sys2Proof.Machine.execEncodeOpen t mb m s
  | .encodeSet t mb m => Sys2Proof.Machine.execEncodeSet t mb m s
  | .encodeClose t mb m => Sys2Proof.Machine.execEncodeClose t mb m s
  | .encodeStatus t mb m => Sys2Proof.Machine.execEncodeStatus t mb m s
  | .timeBaseSet t mb m => Sys2Proof.Machine.execTimeBaseSet t mb m s
  | .timeSelectSet t mb m => Sys2Proof.Machine.execTimeSelectSet t mb m s
  | .timeAccept t mb m => Sys2Proof.Machine.execTimeAccept t mb m s
  | .timeConfigGet t mb m => Sys2Proof.Machine.execTimeConfigGet t mb m s
  | .timeStatus t mb m => Sys2Proof.Machine.execTimeStatus t mb m s
  | .portAddressSet t mb m => Sys2Proof.Machine.execPortAddressSet t mb m s
  | .portAddressGet t mb m => Sys2Proof.Machine.execPortAddressGet t mb m s
  | .laneSet t mb m => Sys2Proof.Machine.execLaneSet t mb m s
  | .laneRead t mb m => Sys2Proof.Machine.execLaneRead t mb m s
  | .laneModuleRead t mb m => Sys2Proof.Machine.execLaneModuleRead t mb m s
  | .mgmtSet t mb m => Sys2Proof.Machine.execMgmtSet t mb m s
  | .touchKeySet t mb m => Sys2Proof.Machine.execTouchKeySet t mb m s
  | .touchModeSet t mb m => Sys2Proof.Machine.execTouchModeSet t mb m s
  | .localActionSet t mb m => Sys2Proof.Machine.execLocalActionSet t mb m s
  | .touchRebaseline t mb m => Sys2Proof.Machine.execTouchRebaseline t mb m s
  | .touchRead t mb m => Sys2Proof.Machine.execTouchRead t mb m s
  | .sessionOpen t mb m => Sys2Proof.Machine.execSessionOpen t mb m s
  | .sessionClose t mb m => Sys2Proof.Machine.execSessionClose t mb m s
  | .sessionList t mb m => Sys2Proof.Machine.execSessionList t mb m s
  | .sessionIdleSet t mb m => Sys2Proof.Machine.execSessionIdleSet t mb m s
  | .credentialSet t mb m => Sys2Proof.Machine.execCredentialSet t mb m s
  | .trustAnchorSet t mb m => Sys2Proof.Machine.execTrustAnchorSet t mb m s
  | .deviceCertGet t mb m => Sys2Proof.Machine.execDeviceCertGet t mb m s
  | .doorRulesSet t mb m => Sys2Proof.Machine.execDoorRulesSet t mb m s
  | .doorRulesGet t mb m => Sys2Proof.Machine.execDoorRulesGet t mb m s
  | .debugUnlock t mb m => Sys2Proof.Machine.execDebugUnlock t mb m s
  | .debugLock t mb m => Sys2Proof.Machine.execDebugLock t mb m s
  | .updatePlan t mb m => Sys2Proof.Machine.execUpdatePlan t mb m s
  | .updateRun t mb m => Sys2Proof.Machine.execUpdateRun t mb m s
  | .updateConfirm t mb m => Sys2Proof.Machine.execUpdateConfirm t mb m s
  | .updateFallback t mb m => Sys2Proof.Machine.execUpdateFallback t mb m s
  | .updateStatus t mb m => Sys2Proof.Machine.execUpdateStatus t mb m s
  | .recorderRead t mb m => Sys2Proof.Machine.execRecorderRead t mb m s
  | .recorderClear t mb m => Sys2Proof.Machine.execRecorderClear t mb m s
  | .recorderSubscribe t mb m => Sys2Proof.Machine.execRecorderSubscribe t mb m s
  | .recorderFlush t mb m => Sys2Proof.Machine.execRecorderFlush t mb m s
  | .domainSet t mb m => Sys2Proof.Machine.execDomainSet t mb m s
  | .powerCapSet t mb m => Sys2Proof.Machine.execPowerCapSet t mb m s
  | .domainStatus t mb m => Sys2Proof.Machine.execDomainStatus t mb m s
  | .healthRead t mb m => Sys2Proof.Machine.execHealthRead t mb m s
  | .scanSubmit t mb m => Sys2Proof.Machine.execScanSubmit t mb m s
  | .scanResult t mb m => Sys2Proof.Machine.execScanResult t mb m s
  | .lanePrbsSet t mb m => Sys2Proof.Machine.execLanePrbsSet t mb m s
  | .lanePrbsRead t mb m => Sys2Proof.Machine.execLanePrbsRead t mb m s
  | .dramHashSet t mb m => Sys2Proof.Machine.execDramHashSet t mb m s
  | .registerWrite t off val aux => Sys2Proof.Machine.execRegisterWrite t off val aux s
  | .mbxReset t mb => Sys2Proof.Machine.execMbxReset t mb s
  | .devTimeLoRead t => Sys2Proof.Machine.execDevTimeLoRead t s
  | .evrDropsRead t hits => Sys2Proof.Machine.execEvrDropsRead t hits s
  | .evrEnable t val => Sys2Proof.Machine.execEvrEnable t val s
  | .evrConsumerWrite t val => Sys2Proof.Machine.execEvrConsumerWrite t val s
  | .evrHoldoffExpiry t => Sys2Proof.Machine.execEvrHoldoffExpiry t s
  | .mgmtTcpConnect t address => Sys2Proof.Machine.execMgmtTcpConnect t address s
  | .tlsHandshake t mb chain client => Sys2Proof.Machine.execTlsHandshake t mb chain client s
  | .mgmtHandshakeTimeout t mb => Sys2Proof.Machine.execMgmtHandshakeTimeout t mb s
  | .mgmtConnectionLoss t mb => Sys2Proof.Machine.execMgmtConnectionLoss t mb s
  | .sessionIdleExpiry t mb => Sys2Proof.Machine.execSessionIdleExpiry t mb s
  | .heldCommandStart t mb => Sys2Proof.Machine.execHeldCommandStart t mb s
  | .holdTimeout t mb => Sys2Proof.Machine.execHoldTimeout t mb s
  | .safetyArmExpiry t => Sys2Proof.Machine.execSafetyArmExpiry t s
  | .debugUnlockExpiry t => Sys2Proof.Machine.execDebugUnlockExpiry t s
  | .authBackoffEnd t who => Sys2Proof.Machine.execAuthBackoffEnd t who s
  | .entropyTestFail t => Sys2Proof.Machine.execEntropyTestFail t s
  | .entropyRetest t pass => Sys2Proof.Machine.execEntropyRetest t pass s
  | .jtagInstruction t ins => Sys2Proof.Machine.execJtagInstruction t ins s
  | .debugMemoryAccess t acc => Sys2Proof.Machine.execDebugMemoryAccess t acc s
  | .epochRetire t => Sys2Proof.Machine.execEpochRetire t s
  | .devAliveTick t => Sys2Proof.Machine.execDevAliveTick t s
  | .reconcile t => Sys2Proof.Machine.execReconcile t s
  | .latchInstant t latch => Sys2Proof.Machine.execLatchInstant t latch s
  | .frameStart t head => Sys2Proof.Machine.execFrameStart t head s
  | .frameEnd t head => Sys2Proof.Machine.execFrameEnd t head s
  | .lineDeadline t head line late => Sys2Proof.Machine.execLineDeadline t head line late s
  | .headPanic t head line => Sys2Proof.Machine.execHeadPanic t head line s
  | .syncInEdge t inp edge => Sys2Proof.Machine.execSyncInEdge t inp edge s
  | .syncPulseMissed t sg => Sys2Proof.Machine.execSyncPulseMissed t sg s
  | .syncTrimRelease t sg => Sys2Proof.Machine.execSyncTrimRelease t sg s
  | .hpdChange t head level sink => Sys2Proof.Machine.execHpdChange t head level sink s
  | .irqHpd t head lost => Sys2Proof.Machine.execIrqHpd t head lost s
  | .linkTrainingDone t head works => Sys2Proof.Machine.execLinkTrainingDone t head works s
  | .linkRetryTimer t head => Sys2Proof.Machine.execLinkRetryTimer t head s
  | .lanternCompareDone t head frame seen reports => Sys2Proof.Machine.execLanternCompareDone t head frame seen reports s
  | .lanternLate t head frame => Sys2Proof.Machine.execLanternLate t head frame s
  | .lanternRetry t window => Sys2Proof.Machine.execLanternRetry t window s
  | .lanternSelftest t pass => Sys2Proof.Machine.execLanternSelftest t pass s
  | .lanternDiagnosis t window failed => Sys2Proof.Machine.execLanternDiagnosis t window failed s
  | .frameReceived t frame => Sys2Proof.Machine.execFrameReceived t frame s
  | .prpHoldExpiry t pair => Sys2Proof.Machine.execPrpHoldExpiry t pair s
  | .prpEntryForget t pair mac => Sys2Proof.Machine.execPrpEntryForget t pair mac s
  | .jumpHoldExpiry t context => Sys2Proof.Machine.execJumpHoldExpiry t context s
  | .accessUnitDeadline t context => Sys2Proof.Machine.execAccessUnitDeadline t context s
  | .st2110PictureDeadline t context => Sys2Proof.Machine.execSt2110PictureDeadline t context s
  | .igmpQuery t query => Sys2Proof.Machine.execIgmpQuery t query s
  | .igmpReportRepeat t context => Sys2Proof.Machine.execIgmpReportRepeat t context s
  | .patternPicture t source => Sys2Proof.Machine.execPatternPicture t source s
  | .stillVerifyPeriod t source => Sys2Proof.Machine.execStillVerifyPeriod t source s
  | .stillVerifyDone t crc => Sys2Proof.Machine.execStillVerifyDone t crc s
  | .scanJobDone t refused => Sys2Proof.Machine.execScanJobDone t refused s
  | .configAudit t corrupt copyOk => Sys2Proof.Machine.execConfigAudit t corrupt copyOk s
  | .decodeStart t engine context => Sys2Proof.Machine.execDecodeStart t engine context s
  | .decodeEnd t engine result => Sys2Proof.Machine.execDecodeEnd t engine result s
  | .workBudgetExpiry t engine result => Sys2Proof.Machine.execWorkBudgetExpiry t engine result s
  | .tagWriteAck t source => Sys2Proof.Machine.execTagWriteAck t source s
  | .noEntryTimer t context => Sys2Proof.Machine.execNoEntryTimer t context s
  | .contextDrainEnd t context => Sys2Proof.Machine.execContextDrainEnd t context s
  | .encodePictureDone t channel coded => Sys2Proof.Machine.execEncodePictureDone t channel coded s
  | .encodeDrainEnd t channel => Sys2Proof.Machine.execEncodeDrainEnd t channel s
  | .qpRaiseDecay t => Sys2Proof.Machine.execQpRaiseDecay t s
  | .ptpMessage t port msg => Sys2Proof.Machine.execPtpMessage t port msg s
  | .ptpRequestInterval t base => Sys2Proof.Machine.execPtpRequestInterval t base s
  | .timeBaseLossTimeout t base => Sys2Proof.Machine.execTimeBaseLossTimeout t base s
  | .timeSelectEval t => Sys2Proof.Machine.execTimeSelectEval t s
  | .dramGrant t channel g => Sys2Proof.Machine.execDramGrant t channel g s
  | .slotTableWrap t channel => Sys2Proof.Machine.execSlotTableWrap t channel s
  | .dramRefresh t channel bank busy => Sys2Proof.Machine.execDramRefresh t channel bank busy s
  | .dramRetrain t channel temp ok => Sys2Proof.Machine.execDramRetrain t channel temp ok s
  | .dramScrub t found => Sys2Proof.Machine.execDramScrub t found s
  | .laneSignalChange t lane cond => Sys2Proof.Machine.execLaneSignalChange t lane cond s
  | .laneStateTimer t lane => Sys2Proof.Machine.execLaneStateTimer t lane s
  | .laneFlapQuiet t lane => Sys2Proof.Machine.execLaneFlapQuiet t lane s
  | .laneAdaptLimit t lane held => Sys2Proof.Machine.execLaneAdaptLimit t lane held s
  | .laneEyeCheck t lane height width => Sys2Proof.Machine.execLaneEyeCheck t lane height width s
  | .lpiIdleTimer t lane => Sys2Proof.Machine.execLpiIdleTimer t lane s
  | .modabsChange t lane high => Sys2Proof.Machine.execModabsChange t lane high s
  | .moduleReadDelay t lane bytes => Sys2Proof.Machine.execModuleReadDelay t lane bytes s
  | .txfltChange t lane level => Sys2Proof.Machine.execTxfltChange t lane level s
  | .txdisCycle t lane => Sys2Proof.Machine.execTxdisCycle t lane s
  | .moduleOvercurrent t lane => Sys2Proof.Machine.execModuleOvercurrent t lane s
  | .touchScanFrame t cm => Sys2Proof.Machine.execTouchScanFrame t cm s
  | .keyMaxOnExpiry t electrode => Sys2Proof.Machine.execKeyMaxOnExpiry t electrode s
  | .keyUnmaskTimer t electrode => Sys2Proof.Machine.execKeyUnmaskTimer t electrode s
  | .negativeDeltaTimer t electrode => Sys2Proof.Machine.execNegativeDeltaTimer t electrode s
  | .electrodeFaultTimer t electrode => Sys2Proof.Machine.execElectrodeFaultTimer t electrode s
  | .localActionStart t => Sys2Proof.Machine.execLocalActionStart t s
  | .feedVoltageChange t a b elapsed => Sys2Proof.Machine.execFeedVoltageChange t a b elapsed s
  | .feedQualifyTimer t => Sys2Proof.Machine.execFeedQualifyTimer t s
  | .switchingCycleEnd t copied => Sys2Proof.Machine.execSwitchingCycleEnd t copied s
  | .frontEndFault t cause => Sys2Proof.Machine.execFrontEndFault t cause s
  | .kaChange t mv => Sys2Proof.Machine.execKaChange t mv s
  | .domainOffComplete t domain => Sys2Proof.Machine.execDomainOffComplete t domain s
  | .domainOnComplete t domain repairs bad ok => Sys2Proof.Machine.execDomainOnComplete t domain repairs bad ok s
  | .domainFault t domain cause => Sys2Proof.Machine.execDomainFault t domain cause s
  | .sysReset t held => Sys2Proof.Machine.execSysReset t held s
  | .pciePerst t asserted => Sys2Proof.Machine.execPciePerst t asserted s
  | .startUp t obs => Sys2Proof.Machine.execStartUp t obs s
  | .startStepTimeout t stage => Sys2Proof.Machine.execStartStepTimeout t stage s
  | .restartDelay t => Sys2Proof.Machine.execRestartDelay t s
  | .paceSample t monitors => Sys2Proof.Machine.execPaceSample t monitors s
  | .powerOverCap t mw => Sys2Proof.Machine.execPowerOverCap t mw s
  | .decoderSelfTest t engine pass => Sys2Proof.Machine.execDecoderSelfTest t engine pass s
  | .scalerSelfTest t scaler pass => Sys2Proof.Machine.execScalerSelfTest t scaler pass s
  | .spireLockstep t pair cause => Sys2Proof.Machine.execSpireLockstep t pair cause s
  | .houseEngineReload t engine => Sys2Proof.Machine.execHouseEngineReload t engine s
  | .shedEvaluation t => Sys2Proof.Machine.execShedEvaluation t s
  | .shedUnwind t => Sys2Proof.Machine.execShedUnwind t s
  | .updateStageDone t container written => Sys2Proof.Machine.execUpdateStageDone t container written s
  | .spireASwitch t => Sys2Proof.Machine.execSpireASwitch t s
  | .compActivation t => Sys2Proof.Machine.execCompActivation t s
  | .imageRunning t ok => Sys2Proof.Machine.execImageRunning t ok s
  | .activationTimeout t => Sys2Proof.Machine.execActivationTimeout t s
  | .confirmDeadline t => Sys2Proof.Machine.execConfirmDeadline t s
  | .selfTestSettled t => Sys2Proof.Machine.execSelfTestSettled t s
  | .flushTimer t => Sys2Proof.Machine.execFlushTimer t s
  | .recorderFlushDone t => Sys2Proof.Machine.execRecorderFlushDone t s
  | .rateLimitClose t ty subject => Sys2Proof.Machine.execRateLimitClose t ty subject s
  | .synthesiserLockChange t head locked => Sys2Proof.Machine.execSynthesiserLockChange t head locked s
  | .spireRecoveryDone t pair => Sys2Proof.Machine.execSpireRecoveryDone t pair s
  | .ptpMasterLoss t base port => Sys2Proof.Machine.execPtpMasterLoss t base port s
  | .sramScrub t unit => Sys2Proof.Machine.execSramScrub t unit s

end Sys2Proof.Machine
end

