-- ==== Sys2Proof/WellFormed.lean ====
section
/-! DEFINITION. Well-formed commands: the fields of a message fit their sizes (Table 11-6), and a unit that is named is one that the W16 has (R14). -/

namespace Sys2Proof

/-- The header fields fit their sizes, and the payload and the data are no longer than their lengths can say (Table 11-6). -/
def Msg.wellFormed (m : Msg) : Bool :=
  m.magic < 65536 && m.version < 256 && m.flags < 256 && m.length < 4294967296 && m.status < 65536 && m.session < 4294967296 && m.sequence < 4294967296 &&
  m.tag < 4294967296 && m.reserved < 4294967296 && m.crc < 4294967296 && m.payload.length ≤ 16352 && m.dataCrc.all (· < 4294967296)

/-- A command is well-formed. -/
def Instr.wellFormed (i : Instr) : Bool :=
  match i with
  | .systemIdentify _ mb m => mb < 24 && m.wellFormed
  | .systemStatus _ mb m => mb < 24 && m.wellFormed
  | .systemRestart _ mb m => mb < 24 && m.wellFormed
  | .abort _ mb m => mb < 24 && m.wellFormed
  | .layoutPropose _ mb m => mb < 24 && m.wellFormed
  | .layoutCommit _ mb m => mb < 24 && m.wellFormed
  | .layoutStore _ mb m => mb < 24 && m.wellFormed
  | .layoutStoredCommit _ mb m => mb < 24 && m.wellFormed
  | .layoutRead _ mb m => mb < 24 && m.wellFormed
  | .streamOpen _ mb m => mb < 24 && m.wellFormed
  | .streamClose _ mb m => mb < 24 && m.wellFormed
  | .streamStatus _ mb m => mb < 24 && m.wellFormed
  | .decodeStatus _ mb m => mb < 24 && m.wellFormed
  | .sourceSet _ mb m => mb < 24 && m.wellFormed
  | .sourceStatus _ mb m => mb < 24 && m.wellFormed
  | .windowSet _ mb m => mb < 24 && m.wellFormed
  | .windowGet _ mb m => mb < 24 && m.wellFormed
  | .windowStatus _ mb m => mb < 24 && m.wellFormed
  | .backgroundSet _ mb m => mb < 24 && m.wellFormed
  | .blendSet _ mb m => mb < 24 && m.wellFormed
  | .toneProfileSet _ mb m => mb < 24 && m.wellFormed
  | .toneProfileGet _ mb m => mb < 24 && m.wellFormed
  | .coefSet _ mb m => mb < 24 && m.wellFormed
  | .coefGet _ mb m => mb < 24 && m.wellFormed
  | .tileRecordsGet _ mb m => mb < 24 && m.wellFormed
  | .glyphGet _ mb m => mb < 24 && m.wellFormed
  | .safetyArm _ mb m => mb < 24 && m.wellFormed
  | .safetyApply _ mb m => mb < 24 && m.wellFormed
  | .safetyGet _ mb m => mb < 24 && m.wellFormed
  | .lanternClear _ mb m => mb < 24 && m.wellFormed
  | .lanternStatus _ mb m => mb < 24 && m.wellFormed
  | .alertAck _ mb m => mb < 24 && m.wellFormed
  | .headTimingSet _ mb m => mb < 24 && m.wellFormed
  | .headTimingGet _ mb m => mb < 24 && m.wellFormed
  | .headStatus _ mb m => mb < 24 && m.wellFormed
  | .headEdidGet _ mb m => mb < 24 && m.wellFormed
  | .encodeOpen _ mb m => mb < 24 && m.wellFormed
  | .encodeSet _ mb m => mb < 24 && m.wellFormed
  | .encodeClose _ mb m => mb < 24 && m.wellFormed
  | .encodeStatus _ mb m => mb < 24 && m.wellFormed
  | .timeBaseSet _ mb m => mb < 24 && m.wellFormed
  | .timeSelectSet _ mb m => mb < 24 && m.wellFormed
  | .timeAccept _ mb m => mb < 24 && m.wellFormed
  | .timeConfigGet _ mb m => mb < 24 && m.wellFormed
  | .timeStatus _ mb m => mb < 24 && m.wellFormed
  | .portAddressSet _ mb m => mb < 24 && m.wellFormed
  | .portAddressGet _ mb m => mb < 24 && m.wellFormed
  | .laneSet _ mb m => mb < 24 && m.wellFormed
  | .laneRead _ mb m => mb < 24 && m.wellFormed
  | .laneModuleRead _ mb m => mb < 24 && m.wellFormed
  | .mgmtSet _ mb m => mb < 24 && m.wellFormed
  | .touchKeySet _ mb m => mb < 24 && m.wellFormed
  | .touchModeSet _ mb m => mb < 24 && m.wellFormed
  | .localActionSet _ mb m => mb < 24 && m.wellFormed
  | .touchRebaseline _ mb m => mb < 24 && m.wellFormed
  | .touchRead _ mb m => mb < 24 && m.wellFormed
  | .sessionOpen _ mb m => mb < 24 && m.wellFormed
  | .sessionClose _ mb m => mb < 24 && m.wellFormed
  | .sessionList _ mb m => mb < 24 && m.wellFormed
  | .sessionIdleSet _ mb m => mb < 24 && m.wellFormed
  | .credentialSet _ mb m => mb < 24 && m.wellFormed
  | .trustAnchorSet _ mb m => mb < 24 && m.wellFormed
  | .deviceCertGet _ mb m => mb < 24 && m.wellFormed
  | .doorRulesSet _ mb m => mb < 24 && m.wellFormed
  | .doorRulesGet _ mb m => mb < 24 && m.wellFormed
  | .debugUnlock _ mb m => mb < 24 && m.wellFormed
  | .debugLock _ mb m => mb < 24 && m.wellFormed
  | .updatePlan _ mb m => mb < 24 && m.wellFormed
  | .updateRun _ mb m => mb < 24 && m.wellFormed
  | .updateConfirm _ mb m => mb < 24 && m.wellFormed
  | .updateFallback _ mb m => mb < 24 && m.wellFormed
  | .updateStatus _ mb m => mb < 24 && m.wellFormed
  | .recorderRead _ mb m => mb < 24 && m.wellFormed
  | .recorderClear _ mb m => mb < 24 && m.wellFormed
  | .recorderSubscribe _ mb m => mb < 24 && m.wellFormed
  | .recorderFlush _ mb m => mb < 24 && m.wellFormed
  | .domainSet _ mb m => mb < 24 && m.wellFormed
  | .powerCapSet _ mb m => mb < 24 && m.wellFormed
  | .domainStatus _ mb m => mb < 24 && m.wellFormed
  | .healthRead _ mb m => mb < 24 && m.wellFormed
  | .scanSubmit _ mb m => mb < 24 && m.wellFormed
  | .scanResult _ mb m => mb < 24 && m.wellFormed
  | .lanePrbsSet _ mb m => mb < 24 && m.wellFormed
  | .lanePrbsRead _ mb m => mb < 24 && m.wellFormed
  | .dramHashSet _ mb m => mb < 24 && m.wellFormed
  | .registerWrite _ off val aux => off < 65536 && off % 4 = 0 && val < 4294967296 && aux.msg.wellFormed
  | .mbxReset _ mb => mb < 16
  | .devTimeLoRead _ => true
  | .evrDropsRead _ hits => hits < 4294967296
  | .evrEnable _ val => val < 4294967296
  | .evrConsumerWrite _ val => val < 4294967296
  | .evrHoldoffExpiry _ => true
  | .mgmtTcpConnect _ _ => true
  | .tlsHandshake _ mb _ _ => 16 ≤ mb && mb < 24
  | .mgmtHandshakeTimeout _ mb => 16 ≤ mb && mb < 24
  | .mgmtConnectionLoss _ mb => 16 ≤ mb && mb < 24
  | .sessionIdleExpiry _ mb => mb < 24
  | .heldCommandStart _ mb => mb < 25
  | .holdTimeout _ mb => mb < 25
  | .safetyArmExpiry _ => true
  | .debugUnlockExpiry _ => true
  | .authBackoffEnd _ _ => true
  | .entropyTestFail _ => true
  | .entropyRetest _ _ => true
  | .jtagInstruction _ _ => true
  | .debugMemoryAccess _ _ => true
  | .epochRetire _ => true
  | .devAliveTick _ => true
  | .reconcile _ => true
  | .latchInstant _ latch => latch.sg < 4
  | .frameStart _ head => head < 16
  | .frameEnd _ head => head < 16
  | .lineDeadline _ head _ _ => head < 16
  | .headPanic _ head _ => head < 16
  | .syncInEdge _ inp _ => inp < 2
  | .syncPulseMissed _ sg => sg < 4
  | .syncTrimRelease _ sg => sg < 4
  | .hpdChange _ head _ _ => head < 16
  | .irqHpd _ head _ => head < 16
  | .linkTrainingDone _ head _ => head < 16
  | .linkRetryTimer _ head => head < 16
  | .lanternCompareDone _ head _ _ _ => head < 16
  | .lanternLate _ head _ => head < 16
  | .lanternRetry _ window => window < 1024
  | .lanternSelftest _ _ => true
  | .lanternDiagnosis _ window _ => window < 1024
  | .frameReceived _ frame => frame.lane < 16
  | .prpHoldExpiry _ pair => pair < 8
  | .prpEntryForget _ pair _ => pair < 8
  | .jumpHoldExpiry _ context => context < 256
  | .accessUnitDeadline _ context => context < 256
  | .st2110PictureDeadline _ context => context < 256
  | .igmpQuery _ query => query.port < 16
  | .igmpReportRepeat _ context => context < 256
  | .patternPicture _ source => source < 16
  | .stillVerifyPeriod _ source => source < 16
  | .stillVerifyDone _ _ => true
  | .scanJobDone _ _ => true
  | .configAudit _ _ _ => true
  | .decodeStart _ engine context => engine < 18 && context < 256
  | .decodeEnd _ engine _ => engine < 18
  | .workBudgetExpiry _ engine _ => engine < 18
  | .tagWriteAck _ source => source < 272
  | .noEntryTimer _ context => context < 256
  | .contextDrainEnd _ context => context < 256
  | .encodePictureDone _ channel _ => channel < 32
  | .encodeDrainEnd _ channel => channel < 32
  | .qpRaiseDecay _ => true
  | .ptpMessage _ port _ => port < 16
  | .ptpRequestInterval _ base => base < 2
  | .timeBaseLossTimeout _ base => base < 3
  | .timeSelectEval _ => true
  | .dramGrant _ channel _ => channel < 16
  | .slotTableWrap _ channel => channel < 16
  | .dramRefresh _ channel bank _ => channel < 16 && bank < 16
  | .dramRetrain _ channel _ _ => channel < 16
  | .dramScrub _ _ => true
  | .laneSignalChange _ lane _ => lane < 16
  | .laneStateTimer _ lane => lane < 16
  | .laneFlapQuiet _ lane => lane < 16
  | .laneAdaptLimit _ lane _ => lane < 16
  | .laneEyeCheck _ lane _ _ => lane < 16
  | .lpiIdleTimer _ lane => lane < 16
  | .modabsChange _ lane _ => lane < 16
  | .moduleReadDelay _ lane _ => lane < 16
  | .txfltChange _ lane _ => lane < 16
  | .txdisCycle _ lane => lane < 16
  | .moduleOvercurrent _ lane => lane < 16
  | .touchScanFrame _ _ => true
  | .keyMaxOnExpiry _ electrode => electrode < 64
  | .keyUnmaskTimer _ electrode => electrode < 64
  | .negativeDeltaTimer _ electrode => electrode < 64
  | .electrodeFaultTimer _ electrode => electrode < 64
  | .localActionStart _ => true
  | .feedVoltageChange _ _ _ _ => true
  | .feedQualifyTimer _ => true
  | .switchingCycleEnd _ _ => true
  | .frontEndFault _ _ => true
  | .kaChange _ _ => true
  | .domainOffComplete _ domain => domain < 14
  | .domainOnComplete _ domain _ _ _ => domain < 14
  | .domainFault _ domain _ => domain < 14
  | .sysReset _ _ => true
  | .pciePerst _ _ => true
  | .startUp _ _ => true
  | .startStepTimeout _ _ => true
  | .restartDelay _ => true
  | .paceSample _ _ => true
  | .powerOverCap _ _ => true
  | .decoderSelfTest _ engine _ => engine < 18
  | .scalerSelfTest _ scaler _ => scaler < 104
  | .spireLockstep _ pair _ => pair < 2
  | .houseEngineReload _ engine => engine < 4
  | .shedEvaluation _ => true
  | .shedUnwind _ => true
  | .updateStageDone _ _ _ => true
  | .spireASwitch _ => true
  | .compActivation _ => true
  | .imageRunning _ _ => true
  | .activationTimeout _ => true
  | .confirmDeadline _ => true
  | .selfTestSettled _ => true
  | .flushTimer _ => true
  | .recorderFlushDone _ => true
  | .rateLimitClose _ _ _ => true
  | .synthesiserLockChange _ head _ => head < 16
  | .spireRecoveryDone _ pair => pair < 2
  | .ptpMasterLoss _ base port => base < 2 && port < 16
  | .sramScrub _ _ => true

end Sys2Proof
end

