-- ==== Sys2Proof/Safety.lean ====
section
/-! DEFINITION. The terms of the claims: what a command or event completes with, when an Izent command is accepted, what a response says, what a step leaves alone. -/

namespace Sys2Proof.Machine

/-- The command or event completes, and the next state has the property. -/
def Completes (i : Instr) (s : State) (P : State → Prop) : Prop := ∃ u, exec i s = .next u ∧ P u

/-- The units of `u` are those of `a`: what differs, if anything, is the Izent interface, the recorder, what was sent out and an update's self-test count. -/
structure State.SameBlock (a u : State) : Prop where
  time : u.time = a.time
  prot : u.prot = a.prot
  power : u.power = a.power
  health : u.health = a.health
  streams : u.streams = a.streams
  comp : u.comp = a.comp
  enc : u.enc = a.enc
  lanes : u.lanes = a.lanes
  touch : u.touch = a.touch
  dram : u.dram = a.dram
  images : u.upd.images = a.upd.images
  planState : u.upd.planState = a.upd.planState
  plan : u.upd.plan = a.upd.plan
  order : u.upd.order = a.upd.order
  activated : u.upd.activated = a.upd.activated
  falling : u.upd.falling = a.upd.falling
  activating : u.upd.activating = a.upd.activating
  counter : u.upd.counter = a.upd.counter
  devState : u.izent.devState = a.izent.devState
  sessions : u.izent.sessions = a.izent.sessions
  idle : u.izent.idle = a.izent.idle

/-- The response that stands for a message on a mailbox (R307, R317). A payload is its fields; what is written in its reserved bits is free (R4, Rsp.bytes). -/
def State.responds (u : State) (k : CmdKind) (mb : Nat) (m : Msg) (status : Nat) (payload : Bytes) : Prop :=
  (u.mbx mb).rsp = some { command := code k, status := status, session := m.session, sequence := m.sequence, tag := m.tag, payload := payload }

/-- The payload of a message at its full length (Table 11-6). -/
def messagePayload (m : Msg) : Bytes := fit (m.length - 32) m.payload

/-- The request address of a mailbox (R305). -/
def Mailbox.request (x : Mailbox) : Nat := x.reqLo + x.reqHi * 4294967296

/-- The message reaches Spire A: by the doorbell of an idle PCIe mailbox whose request buffer can be read (R305–R307), or over a connection that has shown its certificate and on which no command is in progress (R314, R315). -/
def State.reaches (a : State) (mb : Nat) (m : Msg) : Prop :=
  a.serves mb = true ∧
  ((mb < 16 ∧ (a.mbx mb).state = .idle ∧ m.readFails = false ∧ a.hostAllows 0 (a.mbx mb).request (max 32 m.length) = true) ∨
   (16 ≤ mb ∧ mb < 24 ∧ (∃ n, (a.mbx mb).conn = some n ∧ n.role.isSome = true) ∧ (a.mbx mb).job = none ∧ m.data.map crc32c = m.dataCrc))

/-- The state once a message has been taken (R305–R307). -/
def State.rung (a : State) (k : CmdKind) (mb : Nat) : State :=
  let s : State := { a with izent := { a.izent with orderCount := a.izent.orderCount + 1 } }
  let x := s.mbx mb
  if mb < 16 then s.setMbx mb { x with reqAddr := x.request, rspAddr := x.rspLo + x.rspHi * 4294967296, command := code k, reqTaken := true }
  else s.setMbx mb { x with command := code k }

/-- The state in which a command's own part runs: its sequence number is noted (R318), its session marked as used (R326), and a host request counted for an update's self-test (R521). -/
def State.atBody (a : State) (k : CmdKind) (mb : Nat) (m : Msg) : State :=
  let s := a.rung k mb
  let s := s.setMbx mb { s.mbx mb with lastSeq := m.sequence }
  let s := s.heardFrom mb m
  if mb < 16 && m.session != 0 then { s with upd := { s.upd with requested := true } } else s

/-- The call that a command's own part sees. -/
def State.callAt (a : State) (k : CmdKind) (mb : Nat) (m : Msg) (role : Nat) : Call :=
  { kind := k, mb := mb, role := role, msg := m, p := messagePayload m, since := a.clk, rung := a.now, order := a.izent.orderCount + 1 }

/-- Commands that are served whatever Spire A does (R449, R494, R515). -/
def always (k : CmdKind) : Bool := k = .abort || k = .systemIdentify || k = .systemStatus

/-- A message passes the checks of Table 11-8, and no lock or drain stands in its way (R305, R318–R332). `a` is the state at its arrival, `role` the sender's. -/
structure Accepted (k : CmdKind) (mb : Nat) (m : Msg) (role : Nat) (a : State) : Prop where
  arrives : a.reaches mb m
  header : headerBad m = none
  crc : m.crc = msgCrc (code k) m
  newer : 1 ≤ (m.sequence + 4294967296 - (a.mbx mb).lastSeq) % 4294967296
  inWindow : (m.sequence + 4294967296 - (a.mbx mb).lastSeq) % 4294967296 ≤ 2147483647
  sender : a.mayIssue k mb m (messagePayload m) = .ok role
  spireA : always k = true ∨ (a.health.recovering.contains 0 = false ∧ a.prot.halted.contains 0 = false ∧ a.upd.spireSwitch = none)
  ready : a.izent.devState = .ready ∨ early k = true ∨ a.upd.bootRom = true
  length : (messagePayload m).length = paySize k (messagePayload m)
  reserved : m.reserved = 0
  status : m.status = 0
  flags : m.flags < 8
  fields : firstBad F.bad8 (payF k (16 ≤ mb) (messagePayload m)) (messagePayload m) = none
  noDrain : (a.atBody k mb m).drains (a.callAt k mb m role) = none
  noLock : locks k = true → (a.atBody k mb m).deviceHolder = none
  values : k = .safetyArm ∨ firstBad F.bad11 (payF k (16 ≤ mb) (messagePayload m)) (messagePayload m) = none

/-- The constructor of a command. -/
def cmdInstr (k : CmdKind) (t : Time) (mb : Nat) (m : Msg) : Instr :=
  match k with
  | .systemIdentify => .systemIdentify t mb m
  | .systemStatus => .systemStatus t mb m
  | .systemRestart => .systemRestart t mb m
  | .abort => .abort t mb m
  | .layoutPropose => .layoutPropose t mb m
  | .layoutCommit => .layoutCommit t mb m
  | .layoutStore => .layoutStore t mb m
  | .layoutStoredCommit => .layoutStoredCommit t mb m
  | .layoutRead => .layoutRead t mb m
  | .streamOpen => .streamOpen t mb m
  | .streamClose => .streamClose t mb m
  | .streamStatus => .streamStatus t mb m
  | .decodeStatus => .decodeStatus t mb m
  | .sourceSet => .sourceSet t mb m
  | .sourceStatus => .sourceStatus t mb m
  | .windowSet => .windowSet t mb m
  | .windowGet => .windowGet t mb m
  | .windowStatus => .windowStatus t mb m
  | .backgroundSet => .backgroundSet t mb m
  | .blendSet => .blendSet t mb m
  | .toneProfileSet => .toneProfileSet t mb m
  | .toneProfileGet => .toneProfileGet t mb m
  | .coefSet => .coefSet t mb m
  | .coefGet => .coefGet t mb m
  | .tileRecordsGet => .tileRecordsGet t mb m
  | .glyphGet => .glyphGet t mb m
  | .safetyArm => .safetyArm t mb m
  | .safetyApply => .safetyApply t mb m
  | .safetyGet => .safetyGet t mb m
  | .lanternClear => .lanternClear t mb m
  | .lanternStatus => .lanternStatus t mb m
  | .alertAck => .alertAck t mb m
  | .headTimingSet => .headTimingSet t mb m
  | .headTimingGet => .headTimingGet t mb m
  | .headStatus => .headStatus t mb m
  | .headEdidGet => .headEdidGet t mb m
  | .encodeOpen => .encodeOpen t mb m
  | .encodeSet => .encodeSet t mb m
  | .encodeClose => .encodeClose t mb m
  | .encodeStatus => .encodeStatus t mb m
  | .timeBaseSet => .timeBaseSet t mb m
  | .timeSelectSet => .timeSelectSet t mb m
  | .timeAccept => .timeAccept t mb m
  | .timeConfigGet => .timeConfigGet t mb m
  | .timeStatus => .timeStatus t mb m
  | .portAddressSet => .portAddressSet t mb m
  | .portAddressGet => .portAddressGet t mb m
  | .laneSet => .laneSet t mb m
  | .laneRead => .laneRead t mb m
  | .laneModuleRead => .laneModuleRead t mb m
  | .mgmtSet => .mgmtSet t mb m
  | .touchKeySet => .touchKeySet t mb m
  | .touchModeSet => .touchModeSet t mb m
  | .localActionSet => .localActionSet t mb m
  | .touchRebaseline => .touchRebaseline t mb m
  | .touchRead => .touchRead t mb m
  | .sessionOpen => .sessionOpen t mb m
  | .sessionClose => .sessionClose t mb m
  | .sessionList => .sessionList t mb m
  | .sessionIdleSet => .sessionIdleSet t mb m
  | .credentialSet => .credentialSet t mb m
  | .trustAnchorSet => .trustAnchorSet t mb m
  | .deviceCertGet => .deviceCertGet t mb m
  | .doorRulesSet => .doorRulesSet t mb m
  | .doorRulesGet => .doorRulesGet t mb m
  | .debugUnlock => .debugUnlock t mb m
  | .debugLock => .debugLock t mb m
  | .updatePlan => .updatePlan t mb m
  | .updateRun => .updateRun t mb m
  | .updateConfirm => .updateConfirm t mb m
  | .updateFallback => .updateFallback t mb m
  | .updateStatus => .updateStatus t mb m
  | .recorderRead => .recorderRead t mb m
  | .recorderClear => .recorderClear t mb m
  | .recorderSubscribe => .recorderSubscribe t mb m
  | .recorderFlush => .recorderFlush t mb m
  | .domainSet => .domainSet t mb m
  | .powerCapSet => .powerCapSet t mb m
  | .domainStatus => .domainStatus t mb m
  | .healthRead => .healthRead t mb m
  | .scanSubmit => .scanSubmit t mb m
  | .scanResult => .scanResult t mb m
  | .lanePrbsSet => .lanePrbsSet t mb m
  | .lanePrbsRead => .lanePrbsRead t mb m
  | .dramHashSet => .dramHashSet t mb m

/-- What a LIST or PAIRS read returns: the unit numbers, the size of each unit's record, the bytes before the list, and the record of a unit. -/
structure ListRead where
  units : List Nat
  size : Nat
  before : Bytes := []
  record : Nat → Bytes

/-- A PAIRS read: the pair of a unit, then its record (Table 12-1). -/
def pairsOf (s : State) (kind : Nat) (units : List Nat) (size : Nat) (f : Nat → Bytes) : ListRead :=
  { units := units, size := 16 + size, record := fun u => s.pairBytes kind u ++ fit size (f u) }

/-- The reads whose request is SEL alone (Tables 12-3 to 12-26). -/
def listRead (s : State) : CmdKind → Option ListRead
  | .streamStatus => some (pairsOf s kCtx (List.range 256) 64 s.streamStatus)
  | .decodeStatus => some (pairsOf s kCtx s.decodeUnits 56 s.decodeStatus)
  | .sourceStatus => some (pairsOf s kSrc (List.range 16) 16 s.sourceStatus)
  | .windowStatus => some (pairsOf s kWin (List.range 1024) 32 s.windowStatus)
  | .lanternStatus => some (pairsOf s kHead (List.range 16) 48 s.lanternStatus)
  | .headTimingGet => some { units := List.range 16, size := 40, record := fun h => match (s.head h).stored with | some r => timingBytes r | none => le 1 h }
  | .headStatus => some (pairsOf s kHead (List.range 16) 64 s.headStatus)
  | .encodeStatus => some (pairsOf s kEnc (List.range 32) 32 s.encodeStatus)
  | .timeStatus => some { pairsOf s kBase (List.range 4) 56 s.baseStatus with before := s.deviceTime }
  | .portAddressGet => some { units := List.range 16, size := 56, record := fun k => addressBytes { (s.lane k).address with port := k } ++ macOf k ++ zeros 2 }
  | .laneRead => some { units := List.range 16, size := 32, record := s.laneStatus }
  | .touchRead => some { units := List.range 64, size := 8, record := s.touchRecord }
  | .sessionList => some { units := List.range 25, size := 24, record := s.sessionRecord }
  | .domainStatus => some (pairsOf s kDom (List.range 14) 8 s.domainStatus)
  | _ => none

/-- The payload of a read of the units `l`, NEXT after them (R344, Table 12-1). -/
def ListRead.payload (r : ListRead) (l : List Nat) (next : Nat) : Bytes :=
  r.before ++ (le 2 l.length ++ le 2 r.size ++ le 2 next ++ [0, 0] ++ l.flatMap fun i => fit r.size (r.record i))

/-- An accepted command for which `pre` holds completes: it answers ST_OK with the payload, and leaves the state `next` but for the interface and the recorder. Both are read off the call and the state that the command's own part sees. -/
def Answers (k : CmdKind) (pre : Call → State → Prop) (payload : Call → State → Bytes) (next : Call → State → State) : Prop :=
  ∀ (t : Time) (mb : Nat) (m : Msg) (role : Nat) (s : State), Accepted k mb m role (s.tick t) →
    pre ((s.tick t).callAt k mb m role) ((s.tick t).atBody k mb m) →
    Completes (cmdInstr k t mb m) s fun u =>
      u.responds k mb m stOk (payload ((s.tick t).callAt k mb m role) ((s.tick t).atBody k mb m)) ∧
      State.SameBlock (next ((s.tick t).callAt k mb m role) ((s.tick t).atBody k mb m)) u

/-- As `Answers`, with what else holds of the next state: what the response does not carry, of the interface, the recorder and what is sent out. -/
def AnswersWith (k : CmdKind) (pre : Call → State → Prop) (payload : Call → State → Bytes) (next : Call → State → State) (also : Call → State → State → Prop) : Prop :=
  ∀ (t : Time) (mb : Nat) (m : Msg) (role : Nat) (s : State), Accepted k mb m role (s.tick t) →
    pre ((s.tick t).callAt k mb m role) ((s.tick t).atBody k mb m) →
    Completes (cmdInstr k t mb m) s fun u =>
      u.responds k mb m stOk (payload ((s.tick t).callAt k mb m role) ((s.tick t).atBody k mb m)) ∧
      State.SameBlock (next ((s.tick t).callAt k mb m role) ((s.tick t).atBody k mb m)) u ∧
      also ((s.tick t).callAt k mb m role) ((s.tick t).atBody k mb m) u

/-- Data that a command writes to the descriptor at `o` of its payload, where they fit: to host memory where the host link's door permits it, or as a descriptor data block of a network mailbox (R315, R323, R345). -/
def State.wrote (a : State) (c : Call) (o : Nat) (data : Bytes) (u : State) : Prop :=
  data ≠ [] → data.length ≤ c.cap o →
    (c.net = true → (c.mb, data ++ le 4 (crc32c data)) ∈ u.out.blocks) ∧
    (c.net = false → a.hostAllows 1 (c.addr o) data.length = true → (c.addr o, data) ∈ u.out.host)

/-- The tile records of a frame as they are written: a record that cannot be read is all ones, and reserved bits are free (R4, R356, R399). -/
def State.tileData (a : State) (mb h n : Nat) (l : List TileRec) : Bytes :=
  withSpare (fun i => Config.reserved a.izent.orderCount mb (65536 + i)) (fun i => if a.dram.badTiles.contains (h, n, i / 16) then 0 else inRecords 0 16 ((8, 0x80) :: spare 9 3) i)
    (l.zipIdx.flatMap fun x => if a.dram.badTiles.contains (h, n, x.2) then List.replicate 16 0xFF else x.1.bytes)

/-- Every record of a list stands in a page of its journal in the NAND ring (R534). -/
def State.inRing (u : State) (l : List Entry) : Prop := ∀ e ∈ l, ∃ p ∈ u.recorder.nand, p.audit = e.audit ∧ e ∈ p.recs

/-- A read that needs nothing more: it answers and changes nothing. -/
def Reads (k : CmdKind) (payload : Call → State → Bytes) : Prop := Answers k (fun _ _ => True) payload fun _ a => a

/-- A command or event completes, and leaves the state `b` but for the interface and the recorder. -/
def Leaves (i : Instr) (s b : State) : Prop := Completes i s fun u => State.SameBlock b u

/-- *Orotre* admits a plan, with these placements (R281, R298). -/
def admits (p adm : Plan) : Prop := (p.verdict false).result = .ok adm

/-- The verdict record of a plan (R279, R345). -/
def State.verdictOn (a : State) (p : Plan) : Bytes := (p.verdict false).bytes (a.evalUs (p.verdict false)) 0

/-- The committed layout with one more context (R298). -/
def State.planStream (a : State) (d : StreamRec) : Plan := let b := a.plan; { b with ctx := b.ctx ++ [{ decl := d }] }

/-- The committed layout with a source's new configuration. -/
def State.planSource (a : State) (d : SourceRec) : Plan := let b := a.plan; { b with src := Map.set b.src d.source d }

/-- The committed layout with one more channel. -/
def State.planEncode (a : State) (d : EncodeRec) : Plan := let b := a.plan; { b with enc := b.enc ++ [{ decl := d }] }

/-- The committed layout with the new record of channel `ch`. -/
def State.planEncodeSet (a : State) (ch : Nat) (d : EncodeRec) : Plan :=
  let b := a.plan
  { b with enc := b.enc.map fun (u : EncUse) => if u.live && u.decl == (a.enc? ch).decl then { u with decl := d } else u }

/-- The committed layout with new timing records. -/
def State.planTimings (a : State) (recs : List TimingRec) : Plan := let b := a.plan; { b with recs := recs.foldl (fun m r => Map.set m r.head r) b.recs }

/-- The committed layout with new lane settings. -/
def State.planLanes (a : State) (ds : List LaneCfg) : Plan :=
  let b := a.plan
  { b with rates := ds.foldl (fun m d => Map.set m d.lane (a.admittedRate d)) b.rates, prp := (List.range 8).filter fun k => a.prpFlag ds (2 * k) }

/-- The state in which an evaluation that found a shortfall acts (R501). -/
def State.shedStart (a : State) : State :=
  { a with health := { a.health with evaluatedAt := some a.clk, conditions := 0, shortfallAt := a.clk }, enc := { a.enc with dropped := false } }

/-- SAFE_FAULT is asserted (R247). -/
def State.safeFault (s : State) : Bool := s.safeCauses != 0

end Sys2Proof.Machine
end

