-- ==== Sys2Proof/Certificates/Slice0/Obligations.lean ====
section
/-! DEFINITION. The claims about the W16. Every claim speaks of the state at the arrival of a command or event, `s.tick t`: time has advanced, nothing else has happened. -/

open Sys2Proof Sys2Proof.Machine

/-! The queue, and rules of the whole machine. -/

/-- A step runs the command at the front of the queue on the state with the queue's rest; on an empty queue the block idles (the model's choice, log 1). -/
def Obligations.StepRunsFront : Prop :=
  (∀ (c : Instr) (rest : List Instr) (s : State), s.pending = c :: rest → step s = exec c { s with pending := rest }) ∧
  ∀ s : State, s.pending = [] → step s = .next s

/-- Every command and event whose unit exists answers a next state; none of them ends in a fault or a refusal (R14). -/
def Obligations.WellFormedCompletes : Prop := ∀ (i : Instr) (s : State), i.wellFormed = true → ∃ u, exec i s = .next u

/-- Table 11-2: after every command and event, bit 0 of DEV_HEALTH_EVENTS is 1 if DEV_STATE changed, bit 1 if a bit of DEV_FLAGS but SAFE_FAULT changed, bit 2 if SAFE_FAULT changed; and the pin's change is never lost. -/
def Obligations.HealthEventsFollow : Prop :=
  ∀ (i : Instr) (s u : State), exec i s = .next u →
    (u.izent.devState ≠ s.izent.devState → bit u.izent.healthEvents 0 = true) ∧
    (u.flagBits ≠ s.flagBits → bit u.izent.healthEvents 1 = true) ∧
    (u.safeFault ≠ s.safeFault → bit u.izent.healthEvents 2 = true)

/-- Table 11-2: DEV_HEALTH_EVENTS holds its three bits and no other, and every step keeps it so. -/
def Obligations.HealthEventsReserved : Prop :=
  ∀ s u : State, s.izent.healthEvents < 8 → step s = .next u → u.izent.healthEvents < 8

/-- R36, R49, R50, R56, R86: device time is trusted exactly while it follows TB0 or TB1 and that base is LOCKED; a picture passes the trusted-time check only if it is PTP-stamped, its TB_LOCKED is 1 and time is trusted. STALE fails above AGE_LIMIT and passes at it; FROZEN fails where the freeze time is above FREEZE_LIMIT; TIME fails under CONTROL[0] = 1 where the trusted-time check does, and does not apply otherwise. -/
def Obligations.FreshnessChecks : Prop :=
  (∀ s : State, s.trusted = true ↔ (s.time.state = .following 0 ∧ (s.base 0).state = .locked) ∨ (s.time.state = .following 1 ∧ (s.base 1).state = .locked)) ∧
  (∀ (g : Tag) (trusted : Bool), g.trusted trusted = true ↔ g.cls = 0 ∧ bit g.info 2 = true ∧ trusted = true) ∧
  ∀ (w v : Win) (d : WindowDesc) (pol : Policy) (f : FrameCtx) (p : Picture) (age : Nat), age = ageUs p.tag (rowInstant f.tf f.lp (evalRow d f.rec_ f.heads)) f.u → v = w.judge d pol f p →
    v.ageUs = age ∧ (pol.ageLimit < age → bit v.active 1 = true ∧ Map.get 0 v.passes 0 = 0) ∧ (age ≤ pol.ageLimit → Map.get 0 v.passes 0 = Map.get 0 w.passes 0 + 1) ∧
    (pol.freezeLimit * 1000000 < rowInstant f.tf f.lp (evalRow d f.rec_ f.heads) - p.tag.advance → bit v.active 2 = true ∧ Map.get 0 v.passes 1 = 0) ∧
    (bit pol.control 0 = true → p.tag.trusted f.trusted = false → bit v.active 5 = true ∧ Map.get 0 v.passes 3 = 0) ∧
    (bit pol.control 0 = true → p.tag.trusted f.trusted = true → Map.get 0 v.passes 3 = Map.get 0 w.passes 3 + 1) ∧
    (bit pol.control 0 = false → bit v.active 5 = false)

/-- R59, R63, R64: a window that is judged shows the reason of highest priority that is active for it, a head likewise at its frame boundary, and that is 0 only if none is active; and while a window or its head shows a reason, no pixel of the head depends on the window's picture. -/
def Obligations.NoContentUnderAReason : Prop :=
  (∀ m : Nat, topReason m = 0 ↔ ∀ k, 1 ≤ k → k ≤ 12 → bit m k = false) ∧
  (∀ (s : State) (g : Group) (f : FrameCtx) (d : WindowDesc), ((s.evaluate g f d).win d.window).shown = topReason ((s.evaluate g f d).win d.window).active) ∧
  (∀ (s : State) (h tf n : Nat) (retime : Bool), ((s.headReasons h retime tf n).head h).reason = topReason ((s.headReasons h retime tf n).head h).mask) ∧
  ∀ (s : State) (w h x y : Nat) (r : TimingRec) (p : Option Picture), (s.head h).reason ≠ 0 ∨ (s.win w).shown ≠ 0 →
    (s.setWin w { s.win w with latched := p }).outPixel r h x y = s.outPixel r h x y

/-! Reads. -/

/-- R344: SEL names at least one unit: the read returns the units from FIRST upward, as many as COUNT, the last unit and the response allow, each with its record of the stated size, and NEXT; nothing but the interface changes. -/
def Obligations.ListReadsAnswer : Prop :=
  ∀ (k : CmdKind) (r : ListRead) (t : Time) (mb : Nat) (m : Msg) (role : Nat) (s : State),
    Accepted k mb m role (s.tick t) → listRead ((s.tick t).atBody k mb m) k = some r →
    (∃ x ∈ r.units, rd (messagePayload m) 0 2 ≤ x) → rd (messagePayload m) 2 2 ≠ 0 →
    Completes (cmdInstr k t mb m) s fun u => State.SameBlock ((s.tick t).atBody k mb m) u ∧
      ∃ l next, selected (messagePayload m) r.units r.size r.before.length = .ok (l, next) ∧ u.responds k mb m stOk (r.payload l next)

/-- Tables 12-4, 11-2, 12-11, 12-13, 12-23, 12-26 and R354, R356, R357, R417, R438, R499: the reads of one record return it as it stands. -/
def Obligations.RecordReadsAnswer : Prop :=
  Reads .systemIdentify (fun _ a => a.identity) ∧
  Reads .systemStatus (fun _ a => a.healthRegs) ∧
  Reads .toneProfileGet (fun c a => toneBytes ((a.selectedSet c.p).tone (rd c.p 0 1)) (rd c.p 0 1)) ∧
  Reads .coefGet (fun c a => coefBytes ((a.selectedSet c.p).coef (rd c.p 0 1)) (rd c.p 0 1)) ∧
  Reads .glyphGet (fun c _ => le 2 (glyphWidth (rd c.p 0 1)) ++ le 2 24 ++ (List.range (24 * (glyphWidth (rd c.p 0 1) / 8))).map (Config.glyph (rd c.p 1 1) (rd c.p 0 1))) ∧
  Reads .safetyGet (fun c a => le 4 a.comp.safety.generation ++ zeros 4 ++ fit 32 (match rd c.p 0 1 with
    | 0 => policyBytes (a.comp.safety.policy (rd c.p 1 1)) | 1 => paletteBytes (a.comp.safety.palette (rd c.p 1 1)) (rd c.p 1 1) | _ => le 1 a.comp.safety.headPalette)) ∧
  Reads .headEdidGet (fun c a => le 2 (a.head (rd c.p 0 1)).edid.length ++ le 1 (bitsOf ((List.range 4).map (edidBad (a.head (rd c.p 0 1)).edid))) ++ zeros 1 ++
    le 8 (a.head (rd c.p 0 1)).edidAt ++ fit 512 (a.head (rd c.p 0 1)).edid) ∧
  Reads .timeConfigGet (fun _ a => (List.range 4).flatMap (fun b => baseBytes (a.base b).cfg) ++ selectBytes a.time.sel) ∧
  Reads .lanePrbsRead (fun c a => le 8 (a.lane (rd c.p 0 1)).prbsBits ++ le 8 (a.lane (rd c.p 0 1)).prbsErrors ++ le 1 (if (a.lane (rd c.p 0 1)).prbsLocked then 1 else 0) ++ zeros 7) ∧
  Reads .updateStatus (fun _ a => a.updateStatus) ∧
  Reads .scanResult (fun c a => let r : ScanResult := Map.get { submitted := 0, state := 0 } a.health.results (rd c.p 0 2)
    le 2 (rd c.p 0 2) ++ le 1 r.state ++ zeros 1 ++ le 4 r.alive ++ le 4 r.crc ++ zeros 4 ++ le 8 r.doneTime) ∧
  Answers .healthRead (fun _ _ => True) (fun _ a => a.measured.healthRecord) (fun _ a => a.measured) ∧
  Answers .doorRulesGet (fun c _ => doorExists (rd c.p 0 1) = true)
    (fun c a => le 1 (rd c.p 0 1) ++ le 1 (a.rulesOf (rd c.p 0 1)).length ++ zeros 2 ++ (a.rulesOf (rd c.p 0 1)).flatMap regionBytes ++ le 4 a.prot.epoch) (fun _ a => a)

/-- R356: WINDOW_GET returns the shadow, the sealed or the active copy of the windows that its selector names. -/
def Obligations.WindowGetAnswers : Prop :=
  ∀ (l : List Nat) (next : Nat),
    Answers .windowGet (fun c _ => selected (c.p.drop 2) (List.range 1024) 64 0 = .ok (l, next))
      (fun c a => le 2 l.length ++ le 2 64 ++ le 2 next ++ zeros 2 ++ l.flatMap fun w =>
        fit 64 (windowBytes (match rd c.p 0 1 with | 0 => a.comp.shadow.window w | 1 => a.sealedWindow w | _ => a.activeWindow w)))
      (fun _ a => a)

/-! Settings. -/

/-- R189: the composition settings enter the shadow and nothing else; no head shows them before a seal. -/
def Obligations.ShadowSettingsAnswer : Prop :=
  Answers .windowSet (fun c _ => windowsBad 4 [] (windowRecs c.p) = none) (fun _ _ => [])
    (fun c a => a.setShadow { a.comp.shadow with windows := (windowRecs c.p).foldl (fun m b => Map.set m (rd b 0 2) (windowOf b)) a.comp.shadow.windows }) ∧
  Answers .backgroundSet (fun _ _ => True) (fun _ _ => []) (fun c a => a.setShadow { a.comp.shadow with bgs := Map.set a.comp.shadow.bgs (rd c.p 0 1) (rgbAt c.p 2) }) ∧
  Answers .blendSet (fun _ _ => True) (fun _ _ => []) (fun c a => a.setShadow { a.comp.shadow with blends := Map.set a.comp.shadow.blends (rd c.p 0 1) (blendOf c.p) }) ∧
  Answers .toneProfileSet (fun _ _ => True) (fun _ _ => []) (fun c a => a.setShadow { a.comp.shadow with tones := Map.set a.comp.shadow.tones (rd c.p 0 1) (toneOf c.p) }) ∧
  Answers .coefSet (fun c _ => coefX c.p = none) (fun _ _ => []) (fun c a => a.setShadow { a.comp.shadow with coefs := Map.set a.comp.shadow.coefs (rd c.p 0 1) (coefOf c.p) })

/-- R74, R80, R84, R93: an accepted base record takes effect where admission for the committed layout passes, a selection record is kept for the next evaluation, and TIME_ACCEPT clears DISAGREE and lets the base be selected. -/
def Obligations.TimeSettingsAnswer : Prop :=
  Answers .timeBaseSet (fun c a => baseX c.p = none ∧ ({ a.plan with bases := Map.set a.plan.bases (baseOf c.p).base (baseOf c.p) } : Plan).time = none) (fun _ _ => []) (fun c a => a.setBaseCfg (baseOf c.p)) ∧
  Answers .timeSelectSet (fun c _ => selectX c.p = none) (fun _ _ => []) (fun c a => { a with time := { a.time with sel := selectOf c.p } }) ∧
  Answers .timeAccept (fun c a => (a.base (rd c.p 0 1)).disagree = true) (fun _ _ => []) (fun c a => a.setBase (rd c.p 0 1) { a.base (rd c.p 0 1) with disagree := false, acceptance := true })

/-- R360–R363, R415–R417, R419, R424, R430, R433: the network, lane test and touch settings, and the read of a module that answers. -/
def Obligations.PortAndTouchSettingsAnswer : Prop :=
  Answers .portAddressSet (fun _ _ => True) (fun _ _ => []) (fun c a => a.setLane (addressOf c.p).port { a.lane (addressOf c.p).port with address := addressOf c.p }) ∧
  Answers .lanePrbsSet (fun c a => (a.lane (rd c.p 0 1)).cfg.rate ≠ 0 ∧ a.portUsed (rd c.p 0 1) = false) (fun _ _ => []) (fun c a => a.applyPrbs (rd c.p 0 1) (rd c.p 1 1) (rd c.p 2 1) (rd c.p 3 1)) ∧
  Answers .touchKeySet (fun c _ => keysBad keyX 4 [] (keyEntries c.p) = none) (fun _ _ => []) (fun c a => (keyEntries c.p).foldl (fun s b => s.applyKey (keyOf b)) a) ∧
  Answers .touchModeSet (fun _ _ => True) (fun _ _ => []) (fun c a => a.setGrp (rd c.p 0 1) { a.grp (rd c.p 0 1) with nextMode := some (rd c.p 1 1) }) ∧
  Answers .localActionSet (fun c _ => keysBad actionX 4 [] (keyEntries c.p) = none) (fun _ _ => [])
    (fun c a => { a with touch := { a.touch with actions := (keyEntries c.p).foldl (fun m b => Map.set m (rd b 0 1) (actionOf b)) a.touch.actions } }) ∧
  Answers .touchRebaseline (fun _ _ => True) (fun _ _ => []) (fun c a => ((List.range 64).filter fun k => bit (rd c.p 0 8) k).foldl (fun s k => s.setEl k { s.el k with rebase := true }) a) ∧
  ∀ bytes, Answers .laneModuleRead (fun c a => moduleReadBad c.p = none ∧ (a.lane (rd c.p 0 1)).present = true ∧ c.msg.module = some bytes) (fun c _ => fit (rd c.p 3 1) bytes) (fun _ a => a)

/-- R295, R326, R361, R377, R378: the device settings: the power cap where the committed layout fits it, the idle time of open sessions too, the management ports, and the hash profile of the next cold start. -/
def Obligations.DeviceSettingsAnswer : Prop :=
  Answers .powerCapSet (fun c a => overBreach 13 0 10 0 a.plan.admitted (rd c.p 0 4) = none) (fun _ _ => []) (fun c a => { a with power := { a.power with capMw := rd c.p 0 4 } }) ∧
  Answers .sessionIdleSet (fun _ _ => True) (fun _ _ => [])
    (fun c a => { a.writeStore fun x => { x with idle := rd c.p 0 4 } with izent := { a.izent with idle := rd c.p 0 4 } }) ∧
  Answers .mgmtSet (fun _ _ => True) (fun _ _ => []) (fun c a => a.writeStore fun x => { x with portMask := rd c.p 0 2, tcpPort := if rd c.p 2 2 = 0 then 7416 else rd c.p 2 2 }) ∧
  Answers .dramHashSet (fun c _ => rd c.p 0 1 = 4 → ∀ k < 8, maskOk k (rd c.p (8 + 8 * k) 8) = true) (fun _ _ => [])
    (fun c a => { a with dram := { a.dram with hashStored := { profile := rd c.p 0 1, masks := if rd c.p 0 1 = 4 then (List.range 8).map (fun k => rd c.p (8 + 8 * k) 8) else [] } } })

/-! Admitted commands. -/

/-- R279, R345, R350, R351: LAYOUT_PROPOSE answers the verdict and with STAGE keeps the accepted copy in the shadow; each commit, of the shadow, of an attached or of a stored document, seals the admitted proposal where no group it changes is busy; LAYOUT_STORE keeps or empties its slot; LAYOUT_READ answers the size of the document, and writes it where the buffer takes it. -/
def Obligations.LayoutCommandsAnswer : Prop :=
  (∀ p : Proposal, Answers .layoutPropose
    (fun c a => a.dataDenied c 4 = false ∧ a.docProposal 4 (c.block 0 4) = .ok p ∧ (a.admitProposal p).ok = true)
    (fun _ a => (a.admitProposal p).bytes (a.evalUs (a.admitProposal p)) p.layoutId)
    (fun c a => if bit (rd c.p 0 1) 0 then { a with comp := { a.comp with shadow := p.set, staged := p.staged } } else a)) ∧
  (∀ (k : CmdKind) (p : Proposal) (adm : Plan), k = .layoutCommit ∨ k = .layoutStoredCommit → Answers k
    (fun c a => (if k = .layoutStoredCommit then ∃ d, Map.get? a.comp.stored (rd c.p 0 1) = some d ∧ a.docProposal 0 d = .ok p
        else if bit (rd c.p 0 1) 0 then a.dataDenied c 4 = false ∧ a.docProposal 4 (c.block 0 4) = .ok p else p = a.shadowProposal) ∧
      a.groupsBusy true (a.changedGroups p.set) = none ∧ (a.admitProposal p).result = .ok adm)
    (fun _ a => (a.admitProposal p).bytes (a.evalUs (a.admitProposal p)) p.layoutId ++
      commitTail a.now (a.useFree.sealCommit p adm).1.comp.commitSeq (a.useFree.sealCommit p adm).2)
    (fun _ a => (a.useFree.sealCommit p adm).1)) ∧
  Answers .layoutStore (fun c _ => bit (rd c.p 1 1) 0 = true) (fun _ _ => []) (fun c a => { a with comp := { a.comp with stored := Map.del a.comp.stored (rd c.p 0 1) } }) ∧
  (∀ d : Doc, Answers .layoutStore (fun c a => bit (rd c.p 1 1) 0 = false ∧ a.dataDenied c 4 = false ∧ parseDoc (c.block 0 4) = .ok d) (fun _ _ => [])
    (fun c a => { a with comp := { a.comp with stored := Map.set a.comp.stored (rd c.p 0 1) (c.block 0 4) } })) ∧
  (∀ doc : Bytes, Answers .layoutRead
    (fun c a => doc = (if rd c.p 0 1 = 0 then buildDoc (a.layoutEls a.comp.shadow a.comp.staged) else if rd c.p 0 1 = 1 then buildDoc (a.layoutEls a.activeSettings {}) else Map.get [] a.comp.stored (rd c.p 1 1)))
    (fun c _ => le 4 doc.length ++ le 4 (if c.cap 4 < doc.length then 0 else doc.length))
    (fun _ a => a))

/-- R97, R121, R123, R353, R358, R251–R253, R274: a stream, a source or a channel that admission takes opens with the placement it got; a close drains what is open. -/
def Obligations.StreamAndEncodeCommandsAnswer : Prop :=
  (∀ (adm : Plan) (x : CtxUse), Answers .streamOpen
    (fun c a => streamX c.p = none ∧ a.ctxOpen (streamOf c.p).context = false ∧ a.comp.reopens.any (fun r => r.decl.context == (streamOf c.p).context) = false ∧ admits (a.planStream (streamOf c.p)) adm ∧
      adm.ctx.find? (fun u => u.live && u.decl == streamOf c.p) = some x)
    (fun c a => a.verdictOn (a.planStream (streamOf c.p)))
    (fun c a => (a.useFree.openCtx (streamOf c.p) (sub c.p 100 (rd c.p 96 2)) x.engine x.decoder (List.replicate (adm.slots (streamOf c.p)) {})
      (hbAssign a.comp.committed (streamOf c.p).context [])).sealOpen adm a.comp.committed)) ∧
  Answers .streamClose (fun _ _ => True) (fun _ _ => []) (fun c a => a.drainCtx (rd c.p 0 1)) ∧
  (∀ adm : Plan, Answers .sourceSet
    (fun c a => sourceX (c.p.take 32) = none ∧ admits (a.planSource (sourceOf c.p)) adm ∧
      ((sourceOf c.p).kind = 3 → rd c.p 40 4 = stillSize (sourceOf c.p) ∧ a.dataDenied c 32 = false ∧ crc32c (c.block 0 32) = (sourceOf c.p).stillCrc))
    (fun c a => a.verdictOn (a.planSource (sourceOf c.p)))
    (fun c a => (a.useFree.setSource (sourceOf c.p) (if (sourceOf c.p).kind = 3 then stillPlanes (sourceOf c.p) (c.block 0 32) else [])).sealOpen adm a.comp.committed)) ∧
  (∀ (adm : Plan) (x : EncUse), Answers .encodeOpen
    (fun c a => encodeX c.p = none ∧ a.encOpen (encodeOf c.p).channel = false ∧ admits (a.planEncode (encodeOf c.p)) adm ∧
      adm.enc.find? (fun u => u.live && u.decl == encodeOf c.p) = some x)
    (fun c a => a.verdictOn (a.planEncode (encodeOf c.p)))
    (fun c a => (a.useFree.openEnc (encodeOf c.p) x.engine (adm.encLevel (encodeOf c.p)).1 (adm.encLevel (encodeOf c.p)).2).sealOpen adm a.comp.committed)) ∧
  (∀ (adm : Plan) (d : EncodeRec), Answers .encodeSet
    (fun c a => encodeSetF.find? (fun f => !bit (rd c.p 1 1) f.1 && rd c.p f.2.1 f.2.2.1 != 0) = none ∧ a.encOpen (rd c.p 0 1) = true ∧ d = encodeSet (a.enc? (rd c.p 0 1)).decl c.p ∧
      recordBad encodeF encodeX (encodeBytes d) = none ∧ admits (a.planEncodeSet (rd c.p 0 1) d) adm)
    (fun c a => a.verdictOn (a.planEncodeSet (rd c.p 0 1) d))
    (fun c a => (a.useFree.setEnc (rd c.p 0 1) { a.enc? (rd c.p 0 1) with decl := d, level := (adm.encLevel d).1, tier := (adm.encLevel d).2 }).sealOpen adm a.comp.committed)) ∧
  Answers .encodeClose (fun _ _ => True) (fun _ _ => []) (fun c a => if a.encOpen (rd c.p 0 1) then a.closeEnc (rd c.p 0 1) else a)

/-- R219–R221, R361, R405, R406: timing records and lane settings that admission takes are applied together; HEAD_TIMING_SET needs groups that are free. -/
def Obligations.HeadAndLaneCommandsAnswer : Prop :=
  (∀ (adm : Plan) (recs : List TimingRec), Answers .headTimingSet
    (fun c a => timingsBad 4 [] (pieces 40 (rd c.p 0 1) (c.p.drop 4)) = none ∧ recs = (pieces 40 (rd c.p 0 1) (c.p.drop 4)).map timingOf ∧
      a.groupsBusy false (a.timingGroups recs) = none ∧ admits (a.planTimings recs) adm)
    (fun _ a => a.verdictOn (a.planTimings recs))
    (fun _ a => ((a.useFree.applyTimings recs).relevel adm).sealOpen adm a.comp.committed)) ∧
  (∀ (adm : Plan) (ds : List LaneCfg), Answers .laneSet
    (fun c a => lanesBad 4 [] (pieces 16 (rd c.p 0 1) (c.p.drop 4)) = none ∧ ds = (pieces 16 (rd c.p 0 1) (c.p.drop 4)).map laneOf ∧
      (∀ d ∈ ds, a.prpFlag ds d.lane = a.prpFlag ds (if d.lane % 2 = 0 then d.lane + 1 else d.lane - 1)) ∧ admits (a.planLanes ds) adm)
    (fun _ a => a.verdictOn (a.planLanes ds))
    (fun _ a => (ds.foldl State.applyLane a.useFree).sealOpen adm a.comp.committed))

/-! Safety, sessions and security. -/

/-- R63, R233, R234, R244, R246, R356: SAFETY_ARM holds the entries for 30 s under an ARM_ID; SAFETY_APPLY of what its session armed in time, with the armed CRC, and that admission takes, makes it the next generation in all copies; LANTERN_CLEAR frees a latched window, or the device-wide faults once the self-test has passed; ALERT_ACK answers the reason shown and changes no window. -/
def Obligations.SafetyCommandsAnswer : Prop :=
  Answers .safetyArm (fun c a => (∀ x, a.comp.arm = some x → x.session = c.msg.session) ∧ entriesBad c.p = none)
    (fun c a => le 2 a.newArmId ++ zeros 2 ++ le 4 (crc32c (c.p.drop 4)) ++ le 8 (a.now + 30000000000))
    (fun c a => { a with comp := { a.comp with
      arm := some { id := a.newArmId, session := c.msg.session, entries := (safetyEntries c.p).map entryOf, crc := crc32c (c.p.drop 4), expiry := a.now + 30000000000 } } }) ∧
  (∀ (x : Arm) (new : SafetyCfg) (adm : Plan), Answers .safetyApply
    (fun c a => a.comp.arm = some x ∧ x.session = c.msg.session ∧ c.rung ≤ x.expiry ∧ rd c.p 0 2 = x.id ∧ rd c.p 4 4 = x.crc ∧
      new = { x.entries.foldl SafetyCfg.entry a.comp.safety with generation := a.comp.safety.generation + 1 } ∧ admits { a.plan with cfg := new } adm)
    (fun _ a => a.verdictOn { a.plan with cfg := new } ++ le 4 new.generation ++ zeros 4)
    (fun _ a => { a with comp := { a.comp with arm := none, safety := new, copyA := new, copyB := new, copyAOk := true, copyBOk := true, cfgIntact := true, restored := false } })) ∧
  Answers .lanternClear (fun c _ => rd c.p 0 2 ≤ 1023) (fun _ _ => [])
    (fun c a => if (a.win (rd c.p 0 2)).lanternLatched then a.setWin (rd c.p 0 2) { a.win (rd c.p 0 2) with lanternClear := true } else a) ∧
  Answers .lanternClear (fun c a => rd c.p 0 2 = 0xFFFF ∧ (a.comp.selftestFail = true ∨ a.comp.domainLost = true) ∧ a.domOn 11 = true ∧ a.comp.selftestPassed = true) (fun _ _ => [])
    (fun _ a => { a with comp := { a.comp with selftestFail := false, domainLost := false, wins := Map.mapV (fun _ (x : Win) => if x.lanternFault then { x with lanternClear := true } else x) a.comp.wins } }) ∧
  Answers .lanternClear (fun c a => rd c.p 0 2 = 0xFFFF ∧ a.comp.selftestFail = false ∧ a.comp.domainLost = false) (fun _ _ => []) (fun _ a => a) ∧
  Answers .alertAck (fun _ _ => True) (fun c a => le 1 (a.shownNow (a.activeWindow (rd c.p 0 2))) ++ zeros 3) (fun _ a => a)

/-- R324, R326, R365, R455: SESSION_OPEN answers a challenge of 48 bytes, and with the signature of the credential over it, or where nothing has been commissioned, a session on its mailbox; SESSION_CLOSE ends the session it may end. -/
def Obligations.SessionCommandsAnswer : Prop :=
  Answers .sessionOpen
    (fun c a => c.net = false ∧ sessionOpenBad c = none ∧ a.blocked c.mb = false ∧ a.session? c.mb = none ∧ (rd c.p 1 1 = 5 → ∀ x ∈ a.izent.sessions, x.role ≠ 5) ∧ rd c.p 0 1 = 0 ∧ a.prot.entropyOk = true)
    (fun c a => zeros 4 ++ le 1 (rd c.p 1 1) ++ zeros 3 ++ le 4 a.newNonceId ++ zeros 4 ++ fit 48 (a.random 48).1)
    (fun _ a => (a.random 48).2) ∧
  (∀ cred : Credential, Answers .sessionOpen
    (fun c a => c.net = false ∧ sessionOpenBad c = none ∧ a.blocked c.mb = false ∧ a.session? c.mb = none ∧ (rd c.p 1 1 = 5 → ∀ x ∈ a.izent.sessions, x.role ≠ 5) ∧ rd c.p 0 1 = 1 ∧ rd c.p 4 4 ≠ commissioning ∧
      a.challengeOk c.mb (rd c.p 8 4) false = some true ∧ a.prot.store.creds.find? (fun x => x.id == rd c.p 4 4) = some cred ∧ cred.role = rd c.p 1 1 ∧
      signatureOk cred.key (a.challengeText c.mb (rd c.p 1 1) (rd c.p 4 4)) (sub c.p 16 96) = true)
    (fun c a => le 4 a.newSessionId ++ le 1 (rd c.p 1 1) ++ zeros 59)
    (fun c a => { a with izent := { a.izent with sessions := a.izent.sessions ++ [{ id := a.newSessionId, role := rd c.p 1 1, mailbox := c.mb, opened := a.now, lastRequest := a.now, lastAt := a.clk, cred := rd c.p 4 4 }] } })) ∧
  Answers .sessionOpen
    (fun c a => c.net = false ∧ sessionOpenBad c = none ∧ a.blocked c.mb = false ∧ a.session? c.mb = none ∧ rd c.p 0 1 = 1 ∧ rd c.p 1 1 = 4 ∧ rd c.p 4 4 = commissioning ∧ a.commissioned = false ∧ (sub c.p 16 96).all (· == 0) = true)
    (fun _ a => le 4 a.newSessionId ++ [4] ++ zeros 59)
    (fun c a => { a with izent := { a.izent with sessions := a.izent.sessions ++ [{ id := a.newSessionId, role := 4, mailbox := c.mb, opened := a.now, lastRequest := a.now, lastAt := a.clk, cred := commissioning }] } }) ∧
  (∀ n : Conn, Answers .sessionOpen
    (fun c a => c.net = true ∧ sessionOpenBad c = none ∧ a.blocked c.mb = false ∧ a.session? c.mb = none ∧ (rd c.p 1 1 = 5 → ∀ x ∈ a.izent.sessions, x.role ≠ 5) ∧ (a.mbx c.mb).conn = some n ∧ n.role = some (rd c.p 1 1) ∧
      a.prot.store.creds.any (fun x => x.id == n.cred && x.role == rd c.p 1 1 && x.key == n.key) = true)
    (fun c a => le 4 a.newSessionId ++ le 1 (rd c.p 1 1) ++ zeros 59)
    (fun c a => { a with izent := { a.izent with sessions := a.izent.sessions ++ [{ id := a.newSessionId, role := rd c.p 1 1, mailbox := c.mb, opened := a.now, lastRequest := a.now, lastAt := a.clk, cred := n.cred }] } })) ∧
  (∀ id : Nat, Answers .sessionClose
    (fun c _ => id = (if rd c.p 0 4 = 0 then c.msg.session else rd c.p 0 4) ∧ (id = c.msg.session ∨ (c.role = 4 ∧ id ≠ Config.localSession.toNat)))
    (fun _ _ => []) (fun _ a => a.closeSession id 0))

/-- R364, R365, R448, R451, R455, R456: credentials and trust anchors are written to the security store in its next generation, the sessions of a changed credential close, the certificate is returned where the buffer takes it, and debug unlocks with the debug authority's signature over a challenge that is in time, and locks. -/
def Obligations.SecurityCommandsAnswer : Prop :=
  (∀ (id role : Nat) (key : Bytes), Answers .credentialSet
    (fun c a => id = rd c.p 0 4 ∧ role = rd c.p 4 1 ∧ key = sub c.p 8 97 ∧ rd c.p 5 1 = 0 ∧ (pointOf key).isSome = true ∧
      (a.prot.store.creds.filter fun x => x.id != id).any (fun x => x.key == key) = false ∧ a.prot.store.creds.length < 64)
    (fun _ _ => [])
    (fun _ a => let b := a.writeStore fun x => { x with creds := (a.prot.store.creds.filter fun x => x.id != id) ++ [{ id := id, role := role, key := key }] }
      ((if a.prot.store.creds.any (fun x => x.id == id) then b.closeCred id else b).record evCredentialChanged [p4 id, p1 role, p1 0]).commission a.commissioned)) ∧
  Answers .credentialSet (fun c a => rd c.p 5 1 = 1 ∧ a.prot.store.creds.any (fun x => x.id == rd c.p 0 4) = true) (fun _ _ => [])
    (fun c a => (((a.writeStore fun x => { x with creds := a.prot.store.creds.filter fun x => x.id != rd c.p 0 4 }).closeCred (rd c.p 0 4)).record evCredentialChanged [p4 (rd c.p 0 4), p1 (rd c.p 4 1), p1 1]).commission a.commissioned) ∧
  Answers .trustAnchorSet (fun c a => rd c.p 1 1 = 0 ∧ a.dataDenied c 4 = false ∧ (certOf (c.block 0 4)).isSome = true) (fun _ _ => [])
    (fun c a => a.writeStore fun x => { x with anchors := Map.set x.anchors (rd c.p 0 1) (c.block 0 4) }) ∧
  Answers .trustAnchorSet (fun c _ => rd c.p 1 1 = 1) (fun _ _ => []) (fun c a => a.writeStore fun x => { x with anchors := Map.del x.anchors (rd c.p 0 1) }) ∧
  Answers .deviceCertGet (fun _ _ => True) (fun c a => le 4 a.prot.deviceCert.length ++ le 4 (if c.cap 0 < a.prot.deviceCert.length then 0 else a.prot.deviceCert.length)) (fun _ a => a) ∧
  Answers .debugUnlock (fun c a => rd c.p 0 1 = 0 ∧ rd c.p 4 4 = 0 ∧ (sub c.p 8 96).all (· == 0) = true ∧ a.prot.entropyOk = true)
    (fun _ a => le 4 a.newNonceId ++ zeros 4 ++ fit 48 (a.random 48).1)
    (fun _ a => (a.random 48).2) ∧
  Answers .debugUnlock (fun c a => rd c.p 0 1 = 1 ∧ a.challengeOk c.mb (rd c.p 4 4) true = some true ∧ signatureOk a.prot.debugKey (a.challengeText c.mb 5 0) (sub c.p 8 96) = true) (fun _ _ => zeros 56)
    (fun _ a => { a with prot := { a.prot with unlockedAt := some a.clk, wasUnlocked := true } }) ∧
  Answers .debugLock (fun _ _ => True) (fun _ _ => []) (fun _ a => { a with prot := { a.prot with unlockedAt := none } })

/-! Updates, the recorder, power and scans. -/

/-- R368, R509–R513, R519, R520: a plan whose headers pass the checks is PLANNED in its order and writes nothing; UPDATE_RUN makes it RUNNING; UPDATE_CONFIRM before the deadline and UPDATE_FALLBACK end its wait. -/
def Obligations.UpdateCommandsAnswer : Prop :=
  (∀ (new : List Container) (order : List Nat), Answers .updatePlan
    (fun c a => c.net = false ∧ a.planBusy = false ∧ a.entriesBad c (rd c.p 0 1) 0 [] = none ∧
      new = (List.range (rd c.p 0 1)).map (fun i => containerOf (fit 512 (c.msg.data.getD i []))) ∧ a.orderFrom new (rd c.p 0 1) [] (sortBy id (new.map Container.image)) = some order)
    (fun c a => le 2 a.newPlanId ++ le 1 (rd c.p 0 1) ++ zeros 1 ++ orderBytes order ++ zeros 4)
    (fun c a => { a with upd := { a.upd with
      planId := a.newPlanId, usedPlans := a.newPlanId :: a.upd.usedPlans, planState := .planned, plan := new, order := order, stagedCount := 0, activated := [], falling := none, deadline := 0, current := 255
      sources := (List.range (rd c.p 0 1)).foldl (fun m i => Map.set m (rd c.p (4 + 20 * i) 1) (c.addr (8 + 20 * i), c.cap (8 + 20 * i))) [] } })) ∧
  Answers .updateRun
    (fun c a => c.net = false ∧ a.upd.planState = .planned ∧ rd c.p 0 2 = a.upd.planId ∧
      (rd c.p 2 1 = 1 → ∀ x ∈ a.upd.plan, x.settingsFormat = 0 ∨ x.settingsFormat = (a.image x.image).settings ∨ x.writesFrom ≤ (a.image x.image).settings) ∧
      (rd c.p 4 4 = 0 ∨ (60 ≤ rd c.p 4 4 ∧ rd c.p 4 4 ≤ 86400)))
    (fun _ _ => [])
    (fun _ a => { a with upd := { a.upd with planState := .running, activated := [] } }) ∧
  Answers .updateConfirm (fun c a => a.upd.planState = .confirmPending ∧ a.upd.falling = none ∧ rd c.p 0 2 = a.upd.planId ∧ c.rung < a.upd.deadline) (fun _ _ => []) (fun _ a => a.confirmPlan 0) ∧
  Answers .updateFallback (fun c a => a.planBusy = true ∧ a.upd.falling = none ∧ rd c.p 0 2 = a.upd.planId) (fun _ _ => []) (fun _ a => a.fallBack 1)

/-- R316, R335–R337, R348, R369, R370, R498, R533, R537: RECORDER_CLEAR clears the operational journal up to the record it names, keeps the NAND ring and the buffer, and records JOURNAL_CLEARED; RECORDER_FLUSH brings every record of the buffer into its ring, and reports what was dropped; a subscription is the sender's session's; a restart is due 1 ms later; a scan job joins the queue; ABORT answers its counts, and every command it ends answers ST_ABORTED. -/
def Obligations.RecorderAndScanCommandsAnswer : Prop :=
  AnswersWith .recorderClear (fun c _ => rd c.p 0 1 = 0) (fun _ a => le 4 a.recorder.seqOp) (fun _ a => a) (fun c a u =>
    u.recorder.clearedTo = a.recorder.seqOp ∧ u.recorder.nand = a.recorder.nand ∧
    (a.recorder.buf ++ [{ ty := 0x8C01, time := a.now, seq := nextSeq a.recorder.seqAudit, payload := le 4 (sat 4 c.msg.session) ++ le 4 (sat 4 a.recorder.seqOp) }]) <+: u.recorder.buf ∧
    (a.recorder.seqOp ≠ 0 → ∀ e ∈ u.journal false, e.seq ≠ a.recorder.seqOp ∧ (e.seq + 4294967296 - a.recorder.seqOp) % 4294967296 < 2147483648)) ∧
  AnswersWith .recorderFlush (fun _ _ => True) (fun _ a => le 4 a.recorder.seqOp) (fun _ a => a) (fun _ a u =>
    u.recorder.lastFlush = a.clk ∧ u.recorder.nand = (a.flushRing a.recorder.buf.length).recorder.nand ∧
    ((∀ e ∈ a.recorder.buf, e.size ≤ 4072) → a.recorder.buf.length ≤ 15872 → u.inRing a.recorder.buf) ∧
    (a.recorder.dropped ≠ 0 → ∃ e ∈ u.recorder.buf, e.ty = 0x1401 ∧ e.time = a.now ∧ e.seq = nextSeq a.recorder.seqOp)) ∧
  Answers .recorderSubscribe (fun c _ => c.net = true ∧ (bit (rd c.p 0 1) 1 = true → c.role = 4)) (fun _ _ => [])
    (fun c a => { a with izent := { a.izent with sessions := a.izent.sessions.map fun (x : Session) => if x.mailbox == c.mb then { x with journals := rd c.p 0 1 } else x } }) ∧
  Answers .systemRestart (fun _ a => (∀ g < 4, (a.grpC g).next = none) ∧ a.upd.planState ≠ .running) (fun _ _ => [])
    (fun c a => { a with power := { a.power with restart := some (rd c.p 0 1, a.clk + 1000000) } }) ∧
  (∀ j : ScanJob, Answers .scanSubmit
    (fun c a => rd c.p 8 8 < 2 ^ 35 ∧ a.health.jobs.length < 16 ∧ j = { id := rd c.p 0 2, start := rd c.p 8 8, length := rd c.p 4 4, submitted := a.health.submissions })
    (fun _ a => le 1 (a.health.jobs.length + 1) ++ zeros 3)
    (fun _ a => ({ a with health := { a.health with jobs := a.health.jobs ++ [j], submissions := a.health.submissions + 1, results := Map.set a.health.results j.id { submitted := j.submitted, state := 1 } } }).startScan)) ∧
  AnswersWith .abort
    (fun c _ => rd c.p 2 2 ≤ (match rd c.p 0 1 with | 0 => 24 | 1 => 0 | 2 => 15 | 3 => 1023 | 4 => 255 | _ => 31) ∧ (rd c.p 0 1 = 1 ∨ rd c.p 4 4 = 0))
    (fun c a => let r := a.abortAll c (a.abortTargets (rd c.p 0 1) (rd c.p 2 2) (rd c.p 4 4)); le 2 r.2.1 ++ le 2 r.2.2.1 ++ le 2 r.2.2.2 ++ zeros 2)
    (fun c a => (a.abortAll c (a.abortTargets (rd c.p 0 1) (rd c.p 2 2) (rd c.p 4 4))).1)
    (fun c a u => ∀ n j, n ∈ a.abortTargets (rd c.p 0 1) (rd c.p 2 2) (rd c.p 4 4) → n ≠ c.mb → (a.mbx n).job = some j → j.kind ≠ .abort → (n < 16 ∨ n = 24 ∨ (a.mbx n).conn.isSome = true) →
      (a.mayAbort c n = true → j.cause.isSome = true ∨ j.kind = .domainSet → u.responds j.kind n j.msg stAborted (({ status := stAborted, check := 0 } : Err).bytes) ∧ (u.mbx n).job = none) ∧
      (a.mayAbort c n = false ∨ (j.cause = none ∧ j.kind ≠ .domainSet) → (u.mbx n).job = some j))

/-- R4, R315, R345, R356, R370, R399, R536: TILE_RECORDS_GET returns the records of one of the two frames before the one being written; RECORDER_READ returns whole records from FROM_SEQ, or from the oldest held, as many as the buffer takes, of the audit journal to SECURITY_ADMIN only. Both write what they return to the sender's buffer, or send it after the response of a network mailbox. -/
def Obligations.HostBufferReadsAnswer : Prop :=
  (∀ (h want : Nat) (r : TimingRec) (e : Nat × List TileRec) (bytes : Bytes), AnswersWith .tileRecordsGet
    (fun c a => h = rd c.p 0 1 ∧ (a.head h).timing = some r ∧ a.headOn h = true ∧ (want + 1 = a.writingFrame h ∨ want + 2 = a.writingFrame h) ∧
      want = (if rd c.p 4 8 % 281474976710656 = 0xFFFFFFFFFFFF then a.writingFrame h - 1 else rd c.p 4 8 % 281474976710656) ∧ (a.head h).ring.find? (fun x => x.1 == want) = some e ∧
      bytes = a.tileData c.mb h want e.2)
    (fun c _ => le 8 want ++ le 1 (tileCols r) ++ le 1 (tileRows r) ++ le 2 (tileCols r * tileRows r) ++ le 4 bytes.length ++ le 4 (if c.cap 12 < bytes.length then 0 else bytes.length) ++ zeros 4)
    (fun _ a => a) (fun c a u => a.wrote c 12 bytes u)) ∧
  (∀ (recs : List Entry) (e : Entry), AnswersWith .recorderRead
    (fun c a => (rd c.p 0 1 = 1 → c.role = 4) ∧ recs.head? = some e ∧
      recs = fitting (c.cap 8) (match (a.journal (rd c.p 0 1 == 1)).head? with
        | some o => if notBefore (rd c.p 4 4) o.seq then (a.journal (rd c.p 0 1 == 1)).filter (fun x => notBefore x.seq (rd c.p 4 4)) else a.journal (rd c.p 0 1 == 1)
        | none => []) ∧
      (c.net = false → a.hostAllows 1 (c.addr 8) (recs.flatMap Entry.bytes).length = true))
    (fun _ _ => le 4 e.seq ++ le 4 (nextSeq (recs.getLastD e).seq) ++ le 4 recs.length ++ le 4 (recs.flatMap Entry.bytes).length)
    (fun _ a => a) (fun c a u => a.wrote c 8 (recs.flatMap Entry.bytes) u))

/-- R295, R371, R446, R471–R474: DOMAIN_SET before READY only notes what is wanted, and of what stands changes nothing; a switch-off that nothing forbids shuts the domain down; a switch-on whose supply domains are on starts, and its command stays in progress; DOOR_RULES_SET puts its rules in force under the next epoch, keeps the old ones for transfers of the old epoch, and stays in progress. -/
def Obligations.DomainAndDoorCommandsAnswer : Prop :=
  Answers .domainSet
    (fun c a => (rd c.p 1 1 = 0 → 4 ≤ rd c.p 0 1) ∧ a.izent.devState ≠ .ready ∧ a.izent.devState ≠ .fault)
    (fun _ _ => []) (fun c a => a.setDom (rd c.p 0 1) { a.dom (rd c.p 0 1) with intended := rd c.p 1 1 == 1 }) ∧
  Answers .domainSet
    (fun c a => (a.izent.devState = .ready ∨ a.izent.devState = .fault) ∧ ((rd c.p 1 1 = 1 ∧ (a.dom (rd c.p 0 1)).state = .on) ∨
      (rd c.p 1 1 = 0 ∧ 4 ≤ rd c.p 0 1 ∧ ((a.dom (rd c.p 0 1)).state = .off ∨ (a.dom (rd c.p 0 1)).state = .shuttingDown))))
    (fun _ _ => []) (fun _ a => a) ∧
  Answers .domainSet
    (fun c a => rd c.p 1 1 = 0 ∧ 4 ≤ rd c.p 0 1 ∧ (a.izent.devState = .ready ∨ a.izent.devState = .fault) ∧ (a.dom (rd c.p 0 1)).state = .on ∧ a.offRefusal (rd c.p 0 1) = none)
    (fun _ _ => []) (fun c a => (a.setDom (rd c.p 0 1) { a.dom (rd c.p 0 1) with intended := false }).shutDown (rd c.p 0 1)) ∧
  (∀ (t : Time) (mb : Nat) (m : Msg) (role : Nat) (s : State), Accepted .domainSet mb m role (s.tick t) →
    rd (messagePayload m) 1 1 = 1 → ((s.tick t).izent.devState = .ready ∨ (s.tick t).izent.devState = .fault) →
    ((s.tick t).dom (rd (messagePayload m) 0 1)).state = .off → (domNeeds (rd (messagePayload m) 0 1)).all (s.tick t).domOn = true →
    Completes (.domainSet t mb m) s fun u => (u.dom (rd (messagePayload m) 0 1)).state = .switchingOn ∧ (u.dom (rd (messagePayload m) 0 1)).intended = true ∧ (u.mbx mb).state = .running ∧
      ∀ d, d ≠ rd (messagePayload m) 0 1 → u.dom d = s.dom d) ∧
  (∀ (t : Time) (mb : Nat) (m : Msg) (role : Nat) (s : State) (rs : List Region), Accepted .doorRulesSet mb m role (s.tick t) →
    (rd (messagePayload m) 0 1 = 0x28 ∨ rd (messagePayload m) 0 1 = 0x47) → rs = (regionRecs (messagePayload m)).map regionOf → regionsBad 4 [] rs = none → s.prot.retiring = none →
    Completes (.doorRulesSet t mb m) s fun u => u.rulesOf (rd (messagePayload m) 0 1) = rs ∧ u.prot.epoch = (if s.prot.epoch ≥ 0xFFFFFFFF then 1 else s.prot.epoch + 1) ∧
      u.prot.retiring = some s.prot.epoch ∧ u.rulesAt s.prot.epoch (rd (messagePayload m) 0 1) = s.rulesOf (rd (messagePayload m) 0 1) ∧ (u.mbx mb).state = .running)

/-! Requests that are not served. -/

/-- R317–R320, R324, R325: of a request that has been read, check 1 refuses a wrong header, check 2 a wrong CRC and check 3 a sequence number that is not newer, and LAST_SEQ stays; checks 4 and 6 refuse a sender after LAST_SEQ has been noted. Each is answered, and the block is left alone, but for the instant of the last request of a session that is the sender's (R326). -/
def Obligations.EarlyChecksAnswer : Prop :=
  ∀ (k : CmdKind) (t : Time) (mb : Nat) (m : Msg) (s : State), (s.tick t).reaches mb m →
    (∀ o, headerBad m = some o → Completes (cmdInstr k t mb m) s fun u =>
      u.responds k mb m stBadArg (({ status := stBadArg, check := 1, arg := o } : Err).bytes) ∧ (u.mbx mb).lastSeq = (s.mbx mb).lastSeq ∧ State.SameBlock (s.tick t) u) ∧
    (headerBad m = none → m.crc ≠ msgCrc (code k) m → Completes (cmdInstr k t mb m) s fun u =>
      u.responds k mb m stBadCrc (({ status := stBadCrc, check := 2 } : Err).bytes) ∧ (u.mbx mb).lastSeq = (s.mbx mb).lastSeq ∧ State.SameBlock (s.tick t) u) ∧
    (headerBad m = none → m.crc = msgCrc (code k) m → (let d := (m.sequence + 4294967296 - (s.mbx mb).lastSeq) % 4294967296; d < 1 ∨ 2147483647 < d) → Completes (cmdInstr k t mb m) s fun u =>
      u.responds k mb m stStale (({ status := stStale, check := 3 } : Err).bytes) ∧ (u.mbx mb).lastSeq = (s.mbx mb).lastSeq ∧ State.SameBlock (s.tick t) u) ∧
    (∀ e, headerBad m = none → m.crc = msgCrc (code k) m → (let d := (m.sequence + 4294967296 - (s.mbx mb).lastSeq) % 4294967296; 1 ≤ d ∧ d ≤ 2147483647) →
      (s.tick t).mayIssue k mb m (messagePayload m) = .error e → Completes (cmdInstr k t mb m) s fun u =>
      u.responds k mb m e.status e.bytes ∧ (u.mbx mb).lastSeq = m.sequence ∧ State.SameBlock ((s.tick t).heardFrom mb m) u)

/-- R306, R307, R312: a doorbell on a mailbox that is not idle only sets OVERRUN; the command in progress and its response stay. The response of an accepted command that the host link's door lets through is written to RSP_ADDR, its reserved bits free, DONE is set, the mailbox is idle, and its vector is raised where IRQ_ENABLE is 1. -/
def Obligations.DoorbellsAndResponses : Prop :=
  (∀ (k : CmdKind) (t : Time) (mb : Nat) (m : Msg) (s : State), mb < 16 → (s.tick t).serves mb = true → (s.mbx mb).state ≠ .idle →
    Completes (cmdInstr k t mb m) s fun u => u.mbx mb = { s.mbx mb with overrun := true } ∧ (∀ n, n ≠ mb → u.mbx n = s.mbx n) ∧ State.SameBlock (s.tick t) u) ∧
  ∀ (t : Time) (mb : Nat) (m : Msg) (role : Nat) (s : State) (r : Rsp), Accepted .systemIdentify mb m role (s.tick t) → mb < 16 → m.writeFails = false →
    r = { command := 0x0101, status := stOk, session := m.session, sequence := m.sequence, tag := m.tag, payload := ((s.tick t).atBody .systemIdentify mb m).identity } →
    (s.tick t).hostAllows 1 ((s.mbx mb).rspLo + (s.mbx mb).rspHi * 4294967296) r.length = true → (s.mbx mb).resetting = false →
    Completes (.systemIdentify t mb m) s fun u => (u.mbx mb).done = true ∧ (u.mbx mb).state = .idle ∧ (u.mbx mb).lastSeq = m.sequence ∧
      ((s.mbx mb).rspLo + (s.mbx mb).rspHi * 4294967296, ((s.tick t).atBody .systemIdentify mb m).rspBytes mb m r) ∈ u.out.host ∧ ((s.mbx mb).irqEnable = true → mb ∈ u.out.msix)

/-! Time. -/

/-- R71–R73, R76, R414: a PTP message reaches each base that listens on a port whose lane is UP, and no other; the request interval sends a request on each such port of the base's mask and notes it under the next sequence number; a master that is lost is forgotten on its port, and the base selects again. -/
def Obligations.PtpEventsComplete : Prop :=
  (∀ (t : Time) (port : Nat) (m : PtpMsg) (s : State), port < 16 → (s.tick t).ptpPort port = true →
    (((s.tick t).base 0).listens port m = true → ((s.tick t).base 1).listens port m = false → Leaves (.ptpMessage t port m) s ((s.tick t).ptpAt 0 port m)) ∧
    (((s.tick t).base 0).listens port m = false → ((s.tick t).base 1).listens port m = true → Leaves (.ptpMessage t port m) s ((s.tick t).ptpAt 1 port m)) ∧
    (((s.tick t).base 0).listens port m = false → ((s.tick t).base 1).listens port m = false → Leaves (.ptpMessage t port m) s (s.tick t))) ∧
  (∀ (t : Time) (b : Nat) (s : State), b < 2 → ((s.tick t).base b).cfg.source = 1 → Completes (.ptpRequestInterval t b) s fun u =>
    ∀ port < 16, let old : PtpPort := Map.get {} ((s.tick t).base b).ports port
      if bit ((s.tick t).base b).cfg.portMask port && (s.tick t).ptpPort port then
        Map.get {} (u.base b).ports port = { old with req := some (old.nextSeq, (s.tick t).txStampB b port), resp := none, nextSeq := (old.nextSeq + 1) % 65536 }
      else Map.get {} (u.base b).ports port = old) ∧
  (∀ (t : Time) (b port : Nat) (s : State), b < 2 → port < 16 → Leaves (.ptpMasterLoss t b port) s
    (((s.tick t).setBase b { (s.tick t).base b with masters := ((s.tick t).base b).masters.filter fun y => y.port != port }).reselect b))

/-- R68, R78, R80–R83: a base that has heard no accepted measurement for LOSS_TIMEOUT leaves ACQUIRING or LOCKED for HOLDOVER if it has been LOCKED, else for FREE, and no other base of TB0 to TB2 changes. The evaluation makes device time follow the base that the selection names, stepping onto it only while it may still step, and hold where the selection names none and it followed one. -/
def Obligations.TimeBaseEventsComplete : Prop :=
  (∀ (t : Time) (b : Nat) (s : State), b < 3 → ((s.tick t).base b).state = .acquiring ∨ ((s.tick t).base b).state = .locked →
    ((s.tick t).base b).heardAt + ((s.tick t).base b).cfg.lossTimeout * 1000000 ≤ (s.tick t).clk →
    Completes (.timeBaseLossTimeout t b) s fun u => (u.base b).state = (if ((s.tick t).base b).everLocked then .holdover else .free) ∧
      ∀ j < 3, j ≠ b → u.base j = (s.tick t).base j) ∧
  (∀ (t : Time) (s a : State), a = (((s.tick t).clearAgree 0).clearAgree 1).clearAgree 2 →
    (∀ b, a.select = some b → a.time.state ≠ .following b → Completes (.timeSelectEval t) s fun u =>
      u.time.state = .following b ∧ u.time.base = b ∧ u.time.unset = false ∧
      (a.alignOpen = true → u.time.dt = (a.base b).count ∧ u.time.stepped = true) ∧ (a.alignOpen = false → u.time.dt = (s.tick t).time.dt)) ∧
    (∀ b, a.select = some b → a.time.state = .following b → Completes (.timeSelectEval t) s fun u => u.time.state = .following b ∧ u.time.dt = (s.tick t).time.dt) ∧
    (∀ b, a.select = none → a.time.state = .following b → Completes (.timeSelectEval t) s fun u =>
      u.time.state = .hold ∧ u.time.uh = a.uDt a.now ∧ u.time.th = a.now ∧ u.time.dt = (s.tick t).time.dt))

/-! Lanes. -/

/-- R407, R411–R413, R421: a signal held for 1 ms and lock held for 10 ms raise the lane; one that is UP and loses lock, or its signal, comes down, counted, and leaves low-power idle; after 1 000 ms without a departure it no longer flaps. An eye below 40 in height, or below 24 in width, is low once it has stayed so for 1 000 ms, and no longer low once it has stayed above for as long; a lane without a signal has none. No other lane changes. -/
def Obligations.LaneEventsComplete : Prop :=
  (∀ (t : Time) (k : Nat) (c : LaneCond) (s : State), k < 16 → (s.tick t).laneEnabled k = true → (s.lane k).state = .up → c.signal = true → c.los = false → (s.lane k).present = true → s.power.cageOff.contains k = false →
    Completes (.laneSignalChange t k c) s fun u => (∀ j, j ≠ k → u.lane j = s.lane j) ∧ (u.lane k).seen = c ∧ (u.lane k).fecCorrected = sat 4 ((s.lane k).fecCorrected + c.fecCorrected) ∧
      (if (s.lane k).lockOf c then (u.lane k).state = .up ∧ (u.lane k).linkDowns = (s.lane k).linkDowns
       else (u.lane k).state = .noBlockLock ∧ (u.lane k).linkDowns = sat 4 ((s.lane k).linkDowns + 1) ∧ (u.lane k).lpiTx = false ∧ (u.lane k).lpiRx = false)) ∧
  (∀ (t : Time) (k : Nat) (t0 : Time) (s : State), k < 16 → (s.lane k).since = some t0 →
    ((s.lane k).state = .noSignal → t0 + 1000000 ≤ (s.tick t).clk → Completes (.laneStateTimer t k) s fun u => (u.lane k).state = .noBlockLock ∧ ∀ j, j ≠ k → u.lane j = s.lane j) ∧
    ((s.lane k).state = .noBlockLock → t0 + 10000000 ≤ (s.tick t).clk → Completes (.laneStateTimer t k) s fun u => (u.lane k).state = .up ∧ ∀ j, j ≠ k → u.lane j = s.lane j)) ∧
  (∀ (t : Time) (k : Nat) (s : State), k < 16 → (s.lane k).flapping = true → (∀ d ∈ (s.lane k).departures, d + 1000000000 ≤ (s.tick t).clk) →
    Leaves (.laneFlapQuiet t k) s ((s.tick t).setLane k { s.lane k with flapping := false, departures := [] })) ∧
  (∀ (t : Time) (k : Nat) (held : Bool) (s : State), k < 16 → (s.lane k).state ≠ .disabled → (s.lane k).atLimit ≠ held →
    Leaves (.laneAdaptLimit t k held) s ((s.tick t).setLane k { s.lane k with atLimit := held })) ∧
  (∀ (t : Time) (k : Nat) (s : State), k < 16 → (s.lane k).state = .up → bit (s.lane k).cfg.flags 1 = true → (s.lane k).cfg.fec = 0 →
    Leaves (.lpiIdleTimer t k) s ((s.tick t).setLane k { s.lane k with lpiTx := true })) ∧
  (∀ (t : Time) (k h w : Nat) (s : State), k < 16 →
    ((s.lane k).state = .disabled ∨ (s.lane k).state = .noSignal → Leaves (.laneEyeCheck t k h w) s ((s.tick t).setLane k { s.lane k with eyeHeight := 0, eyeWidth := 0, eyeSince := none, widthSince := none })) ∧
    ((s.lane k).state = .noBlockLock ∨ (s.lane k).state = .up → Completes (.laneEyeCheck t k h w) s fun u =>
      (u.lane k).eyeHeight = min h 255 ∧ (u.lane k).eyeWidth = min w 127 ∧
      ((s.lane k).eyeLow = false → 40 ≤ h → 24 ≤ w → (u.lane k).eyeLow = false ∧ (u.lane k).eyeSince = none ∧ (u.lane k).widthSince = none) ∧
      ((s.lane k).eyeLow = false → (s.lane k).eyeSince = none → (s.lane k).widthSince = none →
        (u.lane k).eyeLow = false ∧ (u.lane k).eyeSince = (if h < 40 then some (s.tick t).clk else none) ∧ (u.lane k).widthSince = (if w < 24 then some (s.tick t).clk else none)) ∧
      (∀ t0, (s.lane k).eyeLow = false → h < 40 → (s.lane k).eyeSince = some t0 → t0 + 1000000000 ≤ (s.tick t).clk → (u.lane k).eyeLow = true) ∧
      (∀ t0, (s.lane k).eyeLow = false → w < 24 → (s.lane k).widthSince = some t0 → t0 + 1000000000 ≤ (s.tick t).clk → (u.lane k).eyeLow = true) ∧
      (∀ t0, (s.lane k).eyeLow = true → 40 < h → 24 < w → (s.lane k).eyeSince = some t0 → t0 + 1000000000 ≤ (s.tick t).clk → (u.lane k).eyeLow = false)))

/-- R418, R420, R542: a module that is inserted is noted and its cage supplied again, 300 ms later its identity is read; one that is removed, or draws too much, takes a lane that is not DISABLED to NO_SIGNAL; a transmit fault takes an UP lane to NO_BLOCK_LOCK, and a TXDIS pulse begins every 1 000 ms while it stands. -/
def Obligations.ModuleEventsComplete : Prop :=
  (∀ (t : Time) (k : Nat) (s : State), k < 16 → (s.lane k).present = false → Completes (.modabsChange t k false) s fun u =>
    (u.lane k).present = true ∧ (u.lane k).insertedAt = some (s.tick t).clk ∧ u.power.cageOff = s.power.cageOff.filter (· != k) ∧ ∀ j, j ≠ k → u.lane j = s.lane j) ∧
  (∀ (t : Time) (k : Nat) (s : State), k < 16 → (s.lane k).present = true → Completes (.modabsChange t k true) s fun u =>
    (u.lane k).present = false ∧ (u.lane k).txFault = false ∧ (u.lane k).state = (if (s.lane k).state = .disabled then .disabled else .noSignal) ∧ ∀ j, j ≠ k → u.lane j = s.lane j) ∧
  (∀ (t : Time) (k : Nat) (bs : Bytes) (t0 : Time) (s : State), k < 16 → (s.lane k).insertedAt = some t0 → t0 + 300000000 ≤ (s.tick t).clk →
    Leaves (.moduleReadDelay t k bs) s ((s.tick t).setLane k { s.lane k with insertedAt := none })) ∧
  (∀ (t : Time) (k : Nat) (level : Bool) (s : State), k < 16 → (s.lane k).present = true → (s.lane k).txFault ≠ level → Completes (.txfltChange t k level) s fun u =>
    (u.lane k).txFault = level ∧ (u.lane k).txdisPulse = none ∧ (∀ j, j ≠ k → u.lane j = s.lane j) ∧
    (level = true → (s.lane k).state = .up → (s.tick t).laneEnabled k = true → (s.tick t).laneSignal k (s.lane k).seen = true → (u.lane k).state = .noBlockLock)) ∧
  (∀ (t : Time) (k : Nat) (s : State), k < 16 → (s.lane k).txFault = true → (∀ t0, (s.lane k).txdisPulse = some t0 → t0 + 1000000000 ≤ (s.tick t).clk) →
    Leaves (.txdisCycle t k) s ((s.tick t).setLane k { s.lane k with txdisPulse := some (s.tick t).clk })) ∧
  (∀ (t : Time) (k : Nat) (s : State), k < 16 → Completes (.moduleOvercurrent t k) s fun u =>
    u.power.cageOff = k :: s.power.cageOff.filter (· != k) ∧ (u.lane k).state = (if (s.lane k).state = .disabled then .disabled else .noSignal) ∧ ∀ j, j ≠ k → u.lane j = s.lane j)

/-! Touch keys. -/

/-- R422, R428, R429, R431, R432: in the first 16 scan frames every electrode adds up its capacitance, and the last of them makes the baseline of each used one the average. A key touched for MAX_ON is released and masked, or at the end of a scan frame in which it may be released anyway; a masked key quiet for 200 ms is released at a new baseline; an electrode far below its baseline for 200 ms is rebaselined; one outside 4 to 160 pF for 1 000 ms fails, and recovers after as long inside. No other electrode changes. -/
def Obligations.TouchEventsComplete : Prop :=
  (∀ (t : Time) (cm : List Nat) (s : State), (s.tick t).domOn 3 = true → (s.image 6).good = true → (s.tick t).activating 6 = false → s.prot.halted.contains 28 = false →
    (s.tick t).scanDue = true → (∀ g < 16, (s.grp g).nextMode = none) → (∀ k < 64, (s.el k).rebase = false) → s.touch.frames < 16 → Completes (.touchScanFrame t cm) s fun u =>
    u.touch.frames = s.touch.frames + 1 ∧ u.touch.scannedAt = (s.tick t).clk ∧ ∀ k < 64, (u.el k).cm = cm.getD k 0 ∧ (u.el k).state = (s.el k).state ∧ (u.el k).sum = (s.el k).sum + cm.getD k 0 ∧
      (u.el k).baseline = (if (s.el k).used = true ∧ s.touch.frames = 15 then ((s.el k).sum + cm.getD k 0) / 16 else (s.el k).baseline)) ∧
  (∀ (t : Time) (k : Nat) (s : State), k < 64 →
    ((s.el k).state = .touched → (s.el k).touchedAt + (s.el k).maxOn * 1000000000 ≤ (s.tick t).clk → (s.el k).run ≠ 0 → Leaves (.keyMaxOnExpiry t k) s ((s.tick t).setEl k { s.el k with maxOnDue := true })) ∧
    ((s.el k).state = .touched → (s.el k).touchedAt + (s.el k).maxOn * 1000000000 ≤ (s.tick t).clk → (s.el k).run = 0 → Completes (.keyMaxOnExpiry t k) s fun u =>
      (u.el k).state = .masked ∧ (u.grp (s.el k).cfg.group).key = none ∧ ∀ j, j ≠ k → u.el j = s.el j) ∧
    (∀ t0, (s.el k).state = .masked → (s.el k).quietSince = some t0 → t0 + 200000000 ≤ (s.tick t).clk →
      Leaves (.keyUnmaskTimer t k) s ((s.tick t).setEl k { s.el k with state := .released, baseline := (s.el k).cm, quietSince := none })) ∧
    (∀ t0, (s.el k).state = .released → (s.el k).negSince = some t0 → t0 + 200000000 ≤ (s.tick t).clk →
      Leaves (.negativeDeltaTimer t k) s ((s.tick t).setEl k { s.el k with baseline := (s.el k).cm, negSince := none })) ∧
    (∀ t0, (s.el k).rangeSince = some t0 → t0 + 1000000000 ≤ (s.tick t).clk → (s.el k).fault = true →
      Leaves (.electrodeFaultTimer t k) s ((s.tick t).setEl k { s.el k with fault := false, baseline := (s.el k).cm, rangeSince := none })) ∧
    (∀ t0, (s.el k).rangeSince = some t0 → t0 + 1000000000 ≤ (s.tick t).clk → (s.el k).fault = false → Completes (.electrodeFaultTimer t k) s fun u =>
      (u.el k).fault = true ∧ (u.el k).state = .released ∧ (u.el k).proximity = false ∧ ∀ j, j ≠ k → u.el j = s.el j))

/-! Registers and the host link. -/

/-- R7, R8, R302, R303, R305, R306: an aligned write to a mailbox's address registers sets them; a write to DEV_HEALTH_EVENTS clears the bits written 1 but those that hardware sets in the same cycle; an unaligned one does nothing; a doorbell is the command that stands in the request buffer. Reading DEV_TIME_LO returns the low half of device time and latches the high half; DEV_ALIVE counts while Spire B runs; reading EVR_DROPS returns the count and clears it, but for what is dropped in the same access. -/
def Obligations.RegisterAccessesComplete : Prop :=
  (∀ (t : Time) (val : Nat) (aux : WriteAux) (s : State), (s.tick t).bar0Up = true → val < 4294967296 →
    (∀ mb < 16, Completes (.registerWrite t (0x1000 + 64 * mb) val aux) s (fun u => u.mbx mb = { s.mbx mb with reqLo := val } ∧ State.SameBlock (s.tick t) u) ∧
      Completes (.registerWrite t (0x1004 + 64 * mb) val aux) s (fun u => u.mbx mb = { s.mbx mb with reqHi := val } ∧ State.SameBlock (s.tick t) u) ∧
      Completes (.registerWrite t (0x1008 + 64 * mb) val aux) s (fun u => u.mbx mb = { s.mbx mb with rspLo := val } ∧ State.SameBlock (s.tick t) u) ∧
      Completes (.registerWrite t (0x100C + 64 * mb) val aux) s (fun u => u.mbx mb = { s.mbx mb with rspHi := val } ∧ State.SameBlock (s.tick t) u)) ∧
    Completes (.registerWrite t 0x1C val aux) s (fun u => State.SameBlock (s.tick t) u ∧ ∀ i < 3, bit u.izent.healthEvents i = (bit aux.hits i || (bit s.izent.healthEvents i && !bit val i))) ∧
    (∀ off, off % 4 ≠ 0 → s.izent.healthEvents < 8 → Completes (.registerWrite t off val aux) s fun u => State.SameBlock (s.tick t) u ∧ u.izent = s.izent) ∧
    (∀ (k : CmdKind) (mb : Nat), mb < 16 → aux.command = code k → exec (.registerWrite t (0x2000 + 4 * mb) val aux) s = exec (cmdInstr k t mb aux.msg) s)) ∧
  (∀ (t : Time) (s : State), (s.tick t).bar0Up = true → Completes (.devTimeLoRead t) s fun u =>
    u.izent.lastRead = (s.tick t).now % 4294967296 ∧ u.izent.timeHi = (s.tick t).now / 4294967296 % 4294967296 ∧ State.SameBlock (s.tick t) u) ∧
  (∀ (t : Time) (s : State), (s.tick t).domOn 1 = true → s.izent.devState ≠ .boot → s.health.recovering.contains 1 = false → (s.tick t).activating 1 = false →
    Completes (.devAliveTick t) s fun u => u.izent.alive = (s.izent.alive + 1) % 4294967296 ∧ State.SameBlock (s.tick t) u) ∧
  (∀ (t : Time) (hits : Nat) (s : State), (s.tick t).bar0Up = true → Completes (.evrDropsRead t hits) s fun u =>
    u.izent.lastRead = s.izent.ring.drops ∧ u.izent.ring = { s.izent.ring with drops := hits % 4294967296 } ∧ State.SameBlock (s.tick t) u)

/-- R309, R310, R312: ENABLE from 0 to 1 starts the event ring at offset 0 with FAULT clear and keeps its base, its size and its count of drops; a consumer offset is stored where it lies in the ring and is a multiple of 8; a hold-off that ends with a change outstanding raises vector 16. -/
def Obligations.EventRingCommandsComplete : Prop :=
  (∀ (t : Time) (val : Nat) (s : State), (s.tick t).bar0Up = true → val < 4294967296 → Completes (.evrEnable t val) s fun u =>
    u.izent.ring.enable = bit val 0 ∧ u.izent.ring.operational = bit val 1 ∧ u.izent.ring.audit = bit val 2 ∧ u.izent.ring.holdoff = min 1000 (field val 16 10) ∧
    u.izent.ring.base = s.izent.ring.base ∧ u.izent.ring.size = s.izent.ring.size ∧ u.izent.ring.drops = s.izent.ring.drops ∧
    (if bit val 0 = true ∧ s.izent.ring.enable = false then u.izent.ring.producer = 0 ∧ u.izent.ring.consumer = 0 ∧ u.izent.ring.fault = false
     else u.izent.ring.producer = s.izent.ring.producer ∧ u.izent.ring.consumer = s.izent.ring.consumer ∧ u.izent.ring.fault = s.izent.ring.fault) ∧ State.SameBlock (s.tick t) u) ∧
  (∀ (t : Time) (val : Nat) (s : State), (s.tick t).bar0Up = true → val < 4294967296 → Completes (.evrConsumerWrite t val) s fun u => State.SameBlock (s.tick t) u ∧
    u.izent.ring = if val % 8 = 0 ∧ val < s.izent.ring.size then { s.izent.ring with consumer := val } else s.izent.ring) ∧
  (∀ (t x : Time) (s : State), s.izent.ring.pendingIrq = true → s.izent.ring.raisedAt = some x → x + s.izent.ring.holdoff * 1000 ≤ (s.tick t).clk → Completes (.evrHoldoffExpiry t) s fun u =>
    16 ∈ u.out.msix ∧ u.izent.ring = { s.izent.ring with raisedAt := some (s.tick t).clk, pendingIrq := false } ∧ State.SameBlock (s.tick t) u)

/-- R308, R482: a mailbox reset closes the mailbox's session and leaves the mailbox idle with its sequence number and its flags at zero, and PCIE_PERST_N gives every PCIe mailbox, the event ring and MSI-X their reset values. -/
def Obligations.HostResetsComplete : Prop :=
  (∀ (t : Time) (mb : Nat) (s : State), mb < 16 → (s.tick t).bar0Up = true → (s.mbx mb).job = none → Completes (.mbxReset t mb) s fun u =>
    (u.mbx mb).lastSeq = 0 ∧ (u.mbx mb).state = .idle ∧ (u.mbx mb).overrun = false ∧ (u.mbx mb).done = false ∧ (u.mbx mb).addrFault = false ∧ (u.mbx mb).resetting = false) ∧
  (∀ (t : Time) (mb : Nat) (x : Session) (s : State), mb < 16 → (s.tick t).bar0Up = true → (s.mbx mb).job = none → (s.tick t).session? mb = some x → Completes (.mbxReset t mb) s fun u =>
    u.izent.sessions = s.izent.sessions.filter fun y => y.id != x.id) ∧
  (∀ (t : Time) (s : State), (s.tick t).domOn 1 = true → Completes (.pciePerst t true) s fun u =>
    u.power.perst = true ∧ (∀ mb < 16, u.mbx mb = {}) ∧ u.izent.msixTable = [] ∧ u.izent.ring.enable = false) ∧
  (∀ (t : Time) (s : State), Leaves (.pciePerst t false) s { s.tick t with power := { s.power with perst := false } })

/-! Connections, expiries and debug. -/

/-- R313, R314, R326, R453, R457, R458: a connection takes the first free network mailbox, at its reset values; a handshake whose certificates chain to a trust anchor, whose leaf's key is a credential's and whose own checks pass gives it that credential's role, and one whose chain fails closes it; a handshake that takes longer than 2 s and a connection that is lost close it; and an idle session closes. -/
def Obligations.ConnectionEventsComplete : Prop :=
  (∀ (t : Time) (address : Bytes) (i : Nat) (s : State), (List.range 8).find? (fun i => (s.mbx (16 + i)).conn.isNone && (s.mbx (16 + i)).job.isNone) = some i →
    (s.tick t).listens = true → s.prot.entropyOk = true → (s.tick t).blocked (addressWho address) = false → Completes (.mgmtTcpConnect t address) s fun u =>
    u.mbx (16 + i) = { conn := some { address := address, since := (s.tick t).clk } } ∧ (∀ n, n ≠ 16 + i → u.mbx n = s.mbx n) ∧ State.SameBlock (s.tick t) u) ∧
  (∀ (t : Time) (mb d : Nat) (chain : List Bytes) (client : TlsClient) (n : Conn) (s a : State), 16 ≤ mb → mb < 24 → (s.mbx mb).conn = some n → n.role = none → s.prot.entropyOk = true →
    (s.tick t).clk ≤ n.since + 2000000000 → (s.tick t).blocked (addressWho n.address) = false → d = ofBe ((s.tick t).random 48).1 % (curveN - 1) + 1 → a = ((s.tick t).random 48).2 →
    (∀ (leaf : Cert) (cred : Credential) (master : Bytes), client.offers = true → (pointOf client.share).isSome = true → chainFault (s.prot.store.anchors.map (·.2)) (s.tick t).utcNow chain = none →
      chain.head?.bind certOf = some leaf → s.prot.store.creds.find? (fun x => x.key == leaf.key) = some cred → tlsMaster client d cred.key = some master →
      Completes (.tlsHandshake t mb chain client) s fun u => (u.mbx mb).conn = some { n with role := some cred.role, cred := cred.id, key := cred.key, secrets := trafficSecrets master client.upToServer } ∧ State.SameBlock a u) ∧
    (∀ cause, client.offers = true → (pointOf client.share).isSome = true → chainFault (s.prot.store.anchors.map (·.2)) (s.tick t).utcNow chain = some cause →
      Completes (.tlsHandshake t mb chain client) s fun u => (u.mbx mb).conn = none)) ∧
  (∀ (t : Time) (mb : Nat) (n : Conn) (s : State), 16 ≤ mb → mb < 24 → (s.mbx mb).conn = some n → n.role = none → n.since + 2000000000 ≤ (s.tick t).clk →
    Completes (.mgmtHandshakeTimeout t mb) s fun u => (u.mbx mb).conn = none ∧ (u.mbx mb).next = none) ∧
  (∀ (t : Time) (mb : Nat) (n : Conn) (s : State), 16 ≤ mb → mb < 24 → (s.mbx mb).conn = some n →
    Completes (.mgmtConnectionLoss t mb) s fun u => (u.mbx mb).conn = none ∧ (u.mbx mb).next = none ∧ (u.mbx mb).rsp = none) ∧
  (∀ (t : Time) (mb : Nat) (x : Session) (s : State), mb < 24 → (s.tick t).session? mb = some x → (s.mbx mb).job = none → x.lastAt + s.izent.idle * 1000000000 ≤ (s.tick t).clk →
    Completes (.sessionIdleExpiry t mb) s fun u => u.izent.sessions = s.izent.sessions.filter fun y => y.id != x.id)

/-- R233, R332, R448, R453, R458: each expiry ends what it times: an arm without an apply in time, debug after an hour, a block after its 60 s, a command held for 10 s, which answers ST_TIMEOUT; the entropy source fails and serves again after a test. -/
def Obligations.ExpiriesComplete : Prop :=
  (∀ (t : Time) (a : Arm) (s : State), s.comp.arm = some a → a.expiry < (s.tick t).now → (s.tick t).applyHeld a = false → Leaves (.safetyArmExpiry t) s { s.tick t with comp := { s.comp with arm := none } }) ∧
  (∀ (t x : Time) (s : State), s.prot.unlockedAt = some x → x + 3600000000000 ≤ (s.tick t).clk → Leaves (.debugUnlockExpiry t) s { s.tick t with prot := { s.prot with unlockedAt := none } }) ∧
  (∀ (t x : Time) (who : Nat) (s : State), (s.authOf who).blockedUntil = some x → x ≤ (s.tick t).clk → Completes (.authBackoffEnd t who) s fun u => (u.authOf who).blockedUntil = none ∧ ∀ w, w ≠ who → u.authOf w = s.authOf w) ∧
  (∀ (t : Time) (mb : Nat) (j : Job) (s : State), mb < 24 → (mb < 16 ∨ (s.mbx mb).conn.isSome = true) → (s.mbx mb).job = some j → j.cause.isSome = true → j.since + 10000000000 ≤ (s.tick t).clk → Completes (.holdTimeout t mb) s fun u =>
    u.responds j.kind mb j.msg stTimeout (({ status := stTimeout, check := 0 } : Err).bytes) ∧ State.SameBlock (s.tick t) u) ∧
  (∀ (t : Time) (s : State), s.prot.entropyOk = true → Leaves (.entropyTestFail t) s { s.tick t with prot := { s.prot with entropyOk := false } }) ∧
  (∀ (t : Time) (s : State), Leaves (.entropyRetest t true) s { s.tick t with prot := { s.prot with entropyOk := true } })

/-- R314, R327, R332, R433, R434: a held command whose obstacle has gone runs its own part and answers; the further message of a network mailbox is checked once nothing is in progress; the local action session acknowledges the alert that a key names. -/
def Obligations.HeldCommandsStart : Prop :=
  (∀ (t : Time) (mb : Nat) (j : Job) (s a b : State) (p : Bytes), mb < 24 → (mb < 16 ∨ (b.mbx mb).conn.isSome = true) → (s.mbx mb).job = some j → (s.tick t).domOn 1 = true → (s.tick t).clk < j.since + 10000000000 →
    (j.cause = some .drain ∨ j.cause = some .flip ∨ (j.cause = some .locks ∧ (s.tick t).queuedBefore j = false)) →
    a = (if mb < 16 && j.msg.session != 0 then { s.tick t with upd := { s.upd with requested := true } } else s.tick t) →
    a.drains ((s.tick t).callOf mb j) = none → (locks j.kind = true → a.deviceHolder = none) →
    (j.kind = .safetyArm ∨ firstBad F.bad11 (payF j.kind (16 ≤ mb) ((s.tick t).callOf mb j).p) ((s.tick t).callOf mb j).p = none) →
    bodyOf j.kind ((s.tick t).callOf mb j) a = .ok b p →
    Completes (.heldCommandStart t mb) s fun u => u.responds j.kind mb j.msg stOk p ∧ State.SameBlock b u) ∧
  (∀ (t : Time) (mb : Nat) (k : CmdKind) (m : Msg) (s : State), 16 ≤ mb → mb < 24 → (s.mbx mb).conn.isSome = true → (s.mbx mb).job = none → (s.mbx mb).next = some (k, m) → (s.tick t).serves mb = true →
    headerBad m = none → m.crc ≠ msgCrc (code k) m → Completes (.heldCommandStart t mb) s fun u =>
      (u.mbx mb).next = none ∧ u.responds k mb m stBadCrc (({ status := stBadCrc, check := 2 } : Err).bytes) ∧ State.SameBlock (s.tick t) u) ∧
  (∀ (t : Time) (a : LocalAct) (rest : List LocalAct) (s : State), s.touch.queue = a :: rest → s.touch.running = none → a.action = 2 → a.arg ≤ 1023 → 1 ≤ a.reason → a.reason ≤ 12 → (s.tick t).spireA = true → s.izent.devState = .ready → Completes (.localActionStart t) s fun u =>
    u.touch.queue = rest ∧ u.touch.running = none ∧ (∃ r, (u.mbx 24).rsp = some r ∧ r.command = 0x0411 ∧ r.status = stOk ∧ r.session = Config.localSession.toNat) ∧ u.comp = s.comp)

/-- R441, R444–R447, R449, R450: locked, the test access port acts as BYPASS on all instructions but three, of which IDCODE gives the device its identification; unlocked, it halts and resumes the engines that it may halt, and boundary-scan instructions make DEV_STATE FAULT. A debug transfer that a door refuses returns no data and sets DENIED; one that both doors permit writes DRAM at its word, or reads it. An old epoch retires once no transfer of it is in flight, the old rules go with it, and the command that replaced it answers with the new epoch. -/
def Obligations.ProtectionEventsComplete : Prop :=
  (∀ (t : Time) (ins : JtagIns) (s : State), s.prot.unlockedAt = none → ins ≠ .idcode → ins ≠ .sample → Leaves (.jtagInstruction t ins) s { s.tick t with prot := { s.prot with tap := .bypass, tapData := none } }) ∧
  (∀ (t : Time) (s : State), Leaves (.jtagInstruction t .idcode) s { s.tick t with prot := { s.prot with tap := .idcode, tapData := some idcode } }) ∧
  (∀ (t x : Time) (e : Nat) (s : State), s.prot.unlockedAt = some x → haltable e = true →
    Completes (.jtagInstruction t (.halt e)) s (fun u => e ∈ u.prot.halted ∧ u.prot.tap = .halt e ∧ ∀ i ≠ e, i ∈ u.prot.halted ↔ i ∈ s.prot.halted) ∧
    Leaves (.jtagInstruction t (.resume e)) s { s.tick t with prot := { s.prot with tap := .resume e, tapData := none, halted := s.prot.halted.erase e } }) ∧
  (∀ (t x : Time) (s : State), s.prot.unlockedAt = some x → Completes (.jtagInstruction t .extest) s fun u => u.izent.devState = .fault ∧ u.prot.tap = .extest) ∧
  (∀ (t x : Time) (acc : DebugAccess) (d : Nat × Nat) (s : State), s.prot.unlockedAt = some x → (s.tick t).debugRefused (if acc.write then 1 else 0) acc.address = some d → Completes (.debugMemoryAccess t acc) s fun u =>
    u.prot.denied = true ∧ (acc.write = false → u.prot.debugData = none) ∧ u.dram = s.dram) ∧
  (∀ (t x : Time) (acc : DebugAccess) (s : State), s.prot.unlockedAt = some x → (s.tick t).debugRefused 1 acc.address = none → acc.write = true → acc.address < 2 ^ 35 → (s.tick t).domOn 2 = true → Completes (.debugMemoryAccess t acc) s fun u =>
    (∀ a, (a < acc.address / 4 * 4 ∨ acc.address / 4 * 4 + 4 ≤ a) → u.dram.byte? a = s.dram.byte? a) ∧ (∀ i < 4, u.dram.byte? (acc.address / 4 * 4 + i) = (le 4 acc.data)[i]?) ∧
    (Memory.wf s.dram.mem = true → Memory.wf u.dram.mem = true)) ∧
  (∀ (t x : Time) (acc : DebugAccess) (b : Bytes) (s : State), s.prot.unlockedAt = some x → (s.tick t).debugRefused 0 acc.address = none → acc.write = false → acc.address < 2 ^ 35 →
    s.dram.bytes? (acc.address / 4 * 4) 4 = some b → Completes (.debugMemoryAccess t acc) s fun u => u.prot.debugData = some (ofLe b) ∧ u.dram = s.dram) ∧
  (∀ (t : Time) (e : Nat) (s : State), s.prot.retiring = some e →
    ((s.tick t).inFlight e = true → Leaves (.epochRetire t) s (s.tick t)) ∧
    ((s.tick t).inFlight e = false → (s.tick t).rulesJob = none → Leaves (.epochRetire t) s { s.tick t with prot := { s.prot with retiring := none, oldRules := [] } }) ∧
    (∀ mb j, (s.tick t).inFlight e = false → (s.tick t).rulesJob = some (mb, j) → mb < 24 → (mb < 16 ∨ (s.mbx mb).conn.isSome = true) → Completes (.epochRetire t) s fun u => u.prot.retiring = none ∧ u.prot.oldRules = [] ∧
      u.responds j.kind mb j.msg stOk (le 4 s.prot.epoch ++ le 4 (((s.tick t).clk - s.prot.installedAt) / 1000))))

/-! Power and start-up. Until a power-fail warning is raised, `pfAt` is none. -/

/-- R462, R465–R469, R478, R481: a feed within 8 to 20 V for 100 ms qualifies, and begins a start where all but PD_AON is off; the standby whose feed is QUALIFIED takes the load of a holder whose feed is lost or that fails; without one the power-fail warning is raised; the copies between the front-ends are counted. KA is present after 10 ms within its range and absent below 2.5 V; without KA and without a holder PD_AON loses power, and everything but NAND, OTP and the pins with it. -/
def Obligations.FeedEventsComplete : Prop :=
  (∀ (t t0 : Time) (f : Nat) (s : State), f < 2 → s.power.pfAt = none → (s.feed f).cond = .present → (s.feed f).inRange = some t0 → t0 + 100000000 ≤ (s.tick t).clk →
    Completes (.feedQualifyTimer t) s fun u => (u.feed f).cond = .qualified ∧ (u.feed f).fault = false) ∧
  (∀ (t t0 : Time) (f : Nat) (s : State), f < 2 → s.power.pfAt = none → (s.feed f).cond = .present → (s.feed f).inRange = some t0 → t0 + 100000000 ≤ (s.tick t).clk →
    (∀ d, 1 ≤ d → d < 14 → (s.dom d).state = .off) → s.izent.devState = .boot → s.upd.bootRom = false → s.power.startedAt = none →
    Completes (.feedQualifyTimer t) s fun u => u.power.startedAt = some (s.tick t).clk ∧ u.power.stage = 0) ∧
  (∀ (t : Time) (h lost held elapsed : Nat) (s : State), h < 2 → s.power.pfAt = none → s.power.holder = some h → (s.feed h).cond ≠ .lost → lost < 7500 ∨ 21000 < lost → 200 ≤ elapsed →
    (s.feed (1 - h)).cond = .qualified → (s.feed (1 - h)).fault = false → 8000 ≤ held → held ≤ 20000 →
    Completes (.feedVoltageChange t (if h = 0 then lost else held) (if h = 0 then held else lost) elapsed) s fun u => u.power.holder = some (1 - h) ∧ u.power.ilk = (1 - h == 1) ∧
      u.power.handovers = (s.power.handovers + 1) % 4294967296 ∧ (u.feed h).cond = .lost ∧ u.power.pfAt = none ∧ u.izent.devState = s.izent.devState) ∧
  (∀ (t : Time) (h lost gone elapsed : Nat) (s : State), h < 2 → s.power.pfAt = none → s.power.holder = some h → (s.feed h).cond ≠ .lost → lost < 7500 ∨ 21000 < lost → 200 ≤ elapsed →
    (s.feed (1 - h)).cond = .lost → gone < 7500 ∨ 21000 < gone →
    Completes (.feedVoltageChange t (if h = 0 then lost else gone) (if h = 0 then gone else lost) elapsed) s fun u => u.power.holder = none ∧ u.power.pfWarn = true ∧
      u.power.pfAt = some (s.tick t).clk ∧ u.izent.devState = .powerFail) ∧
  (∀ (t : Time) (h cause : Nat) (s : State), h < 2 → s.power.pfAt = none → s.power.holder = some h → (s.feed (1 - h)).cond = .qualified → (s.feed (1 - h)).fault = false →
    Completes (.frontEndFault t cause) s fun u => u.power.holder = some (1 - h) ∧ (u.feed h).fault = true ∧ u.power.handovers = (s.power.handovers + 1) % 4294967296) ∧
  (∀ (t : Time) (h : Nat) (s : State), s.power.pfAt = none → s.power.holder = some h →
    Leaves (.switchingCycleEnd t true) s { s.tick t with power := { s.power with copies := min 4 (s.power.copies + 1), missed := 0, linkFault := s.power.linkFault && decide (s.power.copies + 1 < 4) } } ∧
    Leaves (.switchingCycleEnd t false) s { s.tick t with power := { s.power with copies := 0, missed := min 4 (s.power.missed + 1), linkFault := s.power.linkFault || decide (4 ≤ s.power.missed + 1) } }) ∧
  (∀ (t x : Time) (mv : Nat) (s : State), s.power.pfAt = none → s.power.kaPresent = false → 2700 ≤ mv → mv ≤ 5500 → s.power.kaSince = some x → x + 10000000 ≤ (s.tick t).clk → (s.dom 0).state = .on →
    Leaves (.kaChange t mv) s { s.tick t with power := { s.power with kaMv := mv, kaPresent := true } }) ∧
  (∀ (t : Time) (mv h : Nat) (s : State), s.power.pfAt = none → s.power.kaPresent = true → mv < 2500 → s.power.holder = some h →
    Leaves (.kaChange t mv) s { s.tick t with power := { s.power with kaMv := mv, kaSince := none, kaPresent := false } }) ∧
  (∀ (t : Time) (mv : Nat) (s : State), s.power.pfAt = none → s.power.kaPresent = true → mv < 2500 → s.power.holder = none → Completes (.kaChange t mv) s fun u =>
    (u.dom 0).state = .off ∧ u.power.kaPresent = false ∧ u.izent.devState = .boot ∧ u.izent.sessions = [] ∧ u.prot.store = s.prot.store ∧ (∀ i, (u.image i).running = (s.image i).running ∧ (u.image i).staged = (s.image i).staged ∧ (u.image i).fallback = (s.image i).fallback) ∧ u.comp.stored = s.comp.stored ∧ u.dram.mem = [])

/-- R472–R474, R476, R489: a domain that shuts down is off once nothing drains; one that switches on is on when its self-test passes, and the command that started it answers, or it stays off; a fault switches a domain and those that need it off at once, and one of PD_SPIRE, PD_MEM or PD_HOUSE restarts the block. -/
def Obligations.DomainEventsComplete : Prop :=
  (∀ (t : Time) (d : Nat) (s : State), d < 14 → (s.dom d).state = .shuttingDown → (d = 6 → ∀ e ∈ s.streams.ctx, e.2.state ≠ .draining) → (d = 9 → ∀ e ∈ s.enc.chan, e.2.state = .draining → e.2.coding = none) →
    Completes (.domainOffComplete t d) s fun u => (u.dom d).state = .off ∧ (u.dom d).mv = 0 ∧ ∀ j, j ≠ d → u.dom j = s.dom j) ∧
  (∀ (t : Time) (d : Nat) (repairs : List (Nat × Nat)) (bad : List Nat) (s : State), d < 14 → (s.dom d).state = .switchingOn →
    Completes (.domainOnComplete t d repairs bad true) s (fun u => (u.dom d).state = .on ∧ ∀ j, j ≠ d → u.dom j = s.dom j) ∧
    Completes (.domainOnComplete t d repairs bad false) s (fun u => (u.dom d).state = .off ∧ ∀ j, j ≠ d → u.dom j = s.dom j)) ∧
  (∀ (t : Time) (d mb : Nat) (j : Job) (s : State), d < 14 → (s.dom d).state = .switchingOn → s.switcher d = some (mb, j) → mb < 16 →
    Completes (.domainOnComplete t d [] [] true) s fun u => u.responds j.kind mb j.msg stOk [] ∧ (u.mbx mb).job = none) ∧
  (∀ (t : Time) (d cause : Nat) (s : State), 4 ≤ d → d < 14 → s.power.pfAt = none → (s.dom d).state ≠ .off → Completes (.domainFault t d cause) s fun u =>
    (u.dom d).state = .off ∧ (∀ e ∈ domDependents d, (u.dom e).state = .off) ∧ ∀ j, j ≠ d → j ∉ domDependents d → u.dom j = s.dom j) ∧
  (∀ (t : Time) (d cause : Nat) (s : State), 1 ≤ d → d < 4 → s.power.pfAt = none → (s.dom d).state ≠ .off → Completes (.domainFault t d cause) s fun u =>
    u.izent.devState = .boot ∧ u.power.resetCause = some (5, (s.tick t).now) ∧ u.power.forceCold = true ∧ ∀ j, 1 ≤ j → j < 14 → (u.dom j).state = .off)

/-- R348, R448, R470, R481, R547: SYS_RESET_N low for 10 µs, and a restart 1 ms after its response, leave BOOT with every domain but PD_AON off, no session, debug locked, and what NAND and OTP hold; the cause is kept for the record of the start. -/
def Obligations.ResetsComplete : Prop :=
  (∀ (t : Time) (held : Nat) (s : State), s.power.pfAt = none → 10000 ≤ held → (s.dom 0).state = .on → Completes (.sysReset t held) s fun u =>
    u.izent.devState = .boot ∧ u.izent.sessions = [] ∧ u.prot.unlockedAt = none ∧ u.power.resetCause = some (4, (s.tick t).now) ∧ (u.dom 0).state = .on ∧ (∀ j, 1 ≤ j → j < 14 → (u.dom j).state = .off) ∧
    u.prot.store = s.prot.store ∧ (∀ i, (u.image i).running = (s.image i).running ∧ (u.image i).staged = (s.image i).staged ∧ (u.image i).fallback = (s.image i).fallback) ∧ u.comp.stored = s.comp.stored ∧ u.dram.mem = [] ∧ u.pending = s.pending) ∧
  (∀ (t : Time) (held : Nat) (s : State), s.power.pfAt = none → held < 10000 → Leaves (.sysReset t held) s (s.tick t)) ∧
  (∀ (t at_ : Time) (mode : Nat) (s : State), s.power.pfAt = none → s.power.restart = some (mode, at_) → at_ ≤ (s.tick t).clk → Completes (.restartDelay t) s fun u =>
    u.izent.devState = .boot ∧ u.izent.sessions = [] ∧ u.power.resetCause = some (if mode = 1 then 3 else 2, (s.tick t).now) ∧ u.power.restart = none ∧ (mode = 1 → u.power.forceCold = true) ∧
    ∀ j, 1 ≤ j → j < 14 → (u.dom j).state = .off)

/-- R463, R477–R480: each step of Table 17-3 that ends in time is noted; the first gives the load to a front-end, the last ends in READY where every image is good; a step that fails or exceeds its bound is followed by a cold start, and after a second failure in succession by FAULT. -/
def Obligations.StartUpCompletes : Prop :=
  (∀ (t t0 : Time) (o : StartObs) (f : Nat) (s : State), s.power.pfAt = none → s.power.startedAt = some t0 → s.power.stage = 0 → o.ok = true → (s.tick t).clk ≤ s.power.stageAt + 5000000 → (s.tick t).firstFeed = some f →
    Completes (.startUp t o) s fun u => u.power.stage = 1 ∧ u.power.holder = some (s.power.holder.getD f) ∧ (u.dom 0).state = .on ∧ u.power.warm = (s.tick t).startsWarm o.temp) ∧
  (∀ (t t0 : Time) (o : StartObs) (n : Nat) (s : State), s.power.pfAt = none → s.power.startedAt = some t0 → s.power.stage + 1 = n → 2 ≤ n → n ≤ 8 → o.ok = true →
    (s.tick t).clk ≤ s.power.stageAt + stepBound n s.power.warm * 1000000 → ((s.tick t).startStep n o).upd.bootRom = false → Completes (.startUp t o) s fun u => u.power.stage = n) ∧
  (∀ (t t0 : Time) (o : StartObs) (s : State), s.power.pfAt = none → s.power.startedAt = some t0 → s.power.stage = 8 → o.ok = true → (s.tick t).clk ≤ s.power.stageAt + 100000000 → (∀ i < 8, (s.image i).good = true) →
    Completes (.startUp t o) s fun u => u.izent.devState = .ready ∧ u.power.startedAt = none ∧ u.power.startFailures = 0 ∧ u.power.readyAt = (s.tick t).clk) ∧
  (∀ (t t0 : Time) (o : StartObs) (s : State), s.power.pfAt = none → s.power.startedAt = some t0 → o.ok = false → s.power.startFailures = 0 → Completes (.startUp t o) s fun u =>
    u.izent.devState = .boot ∧ u.power.startFailures = 1 ∧ u.power.forceCold = true ∧ u.power.resetCause = some (6, (s.tick t).now)) ∧
  (∀ (t t0 : Time) (o : StartObs) (s : State), s.power.pfAt = none → s.power.startedAt = some t0 → o.ok = false → 1 ≤ s.power.startFailures → Completes (.startUp t o) s fun u =>
    u.izent.devState = .fault ∧ u.power.startedAt = none) ∧
  (∀ (t t0 : Time) (stage : Nat) (s : State), s.power.pfAt = none → s.power.startedAt = some t0 → s.power.stage + 1 = stage → s.power.stageAt + stepBound stage s.power.warm * 1000000 < (s.tick t).clk → s.power.startFailures = 0 →
    Completes (.startStepTimeout t stage) s fun u => u.izent.devState = .boot ∧ u.power.startFailures = 1 ∧ u.power.forceCold = true)

/-! Supervision, repair, adaptive loops and shedding. -/

/-- R342: every 10 ms, while every other pair agrees, a pair that disagrees is noted with its instants, reported after 100 ms, reported as PERSISTENT 1 000 ms later, and forgotten once it agrees. Nothing else changes where the intended configuration cannot be applied. -/
def Obligations.SupervisionCompletes : Prop :=
  ∀ (t : Time) (k n : Nat) (s : State), s.izent.devState = .ready → (s.tick t).spireB = true → (∀ x, s.health.comparedAt = some x → x + 10000000 ≤ (s.tick t).clk) →
    (∀ x ∈ (s.tick t).pairUnits, x ≠ (k, n) → ((s.tick t).pair x.1 x.2).agrees ((s.tick t).pendingFor x.1 x.2) = true) →
    (((s.tick t).pair k n).agrees ((s.tick t).pendingFor k n) = true → s.health.compares = [] → Leaves (.reconcile t) s { s.tick t with health := { s.health with comparedAt := some (s.tick t).clk } }) ∧
    ((k, n) ∈ (s.tick t).pairUnits → ((s.tick t).pair k n).agrees ((s.tick t).pendingFor k n) = false → s.health.compares = [] →
      Leaves (.reconcile t) s { s.tick t with health := { s.health with comparedAt := some (s.tick t).clk, compares := [{ kind := k, unit := n, sinceDt := (s.tick t).now, since := (s.tick t).clk }] } }) ∧
    (∀ c : Compare, (k, n) ∈ (s.tick t).pairUnits → ((s.tick t).pair k n).agrees ((s.tick t).pendingFor k n) = false → s.health.compares = [c] → c.kind = k → c.unit = n →
      (c.reportedAt = none → c.since + 100000000 ≤ (s.tick t).clk → (s.tick t).canApply k n = false →
        Leaves (.reconcile t) s { s.tick t with health := { s.health with comparedAt := some (s.tick t).clk, compares := [{ c with reportedAt := some (s.tick t).clk }] } }) ∧
      (∀ at_, c.reportedAt = some at_ → at_ + 1000000000 ≤ (s.tick t).clk → c.persistent = false →
        Leaves (.reconcile t) s { s.tick t with health := { s.health with comparedAt := some (s.tick t).clk, compares := [{ c with persistent := true }] } })) ∧
    (∀ c : Compare, (k, n) ∈ (s.tick t).pairUnits → ((s.tick t).pair k n).agrees ((s.tick t).pendingFor k n) = true → s.health.compares = [c] → c.kind = k → c.unit = n →
      Leaves (.reconcile t) s { s.tick t with health := { s.health with comparedAt := some (s.tick t).clk, compares := [] } })

/-- R484, R485, R487: a sample, every 1 ms, takes the slowest pace ratio of each domain that is on and steps its voltage by 5 mV, up while the pace is below 1 030 and down above 1 080, within its range and at most every 10 ms; at V_MAX the loop holds its bound until it has stayed below for 1 000 ms. The input power is measured, and AT_LIMIT follows the cap after 1 000 ms. -/
def Obligations.AdaptiveLoopsComplete : Prop :=
  (∀ (t : Time) (monitors : List (List Nat)) (s : State), (s.tick t).domOn 3 = true → (s.tick t).activating 0 = false → s.prot.halted.contains 26 = false → (∀ x, s.health.sampledAt = some x → x + 1000000 ≤ (s.tick t).clk) → Completes (.paceSample t monitors) s fun u =>
    u.health.sampledAt = some (s.tick t).clk ∧ (∀ d, (s.tick t).domOn d = false → u.dom d = s.dom d) ∧
    ∀ d first rest r, 1 ≤ d → d < 14 → (s.tick t).domOn d = true → monitors[d - 1]? = some (first :: rest) → r = rest.foldl min first → (u.dom d).pace = sat 2 r ∧
      ((∃ x, (s.dom d).steppedAt = some x ∧ (s.tick t).clk < x + 10000000) ∨ (1030 ≤ r ∧ r ≤ 1080) → (u.dom d).mv = (s.dom d).mv ∧ (u.dom d).steppedAt = (s.dom d).steppedAt) ∧
      ((∀ x, (s.dom d).steppedAt = some x → x + 10000000 ≤ (s.tick t).clk) →
        (r < 1030 → (s.dom d).mv < (vRange d).2 → (u.dom d).mv = min (vRange d).2 ((s.dom d).mv + 5) ∧ (u.dom d).steppedAt = some (s.tick t).clk) ∧
        (r < 1030 → (vRange d).2 ≤ (s.dom d).mv → (s.dom d).belowSince = none → (u.dom d).mv = (s.dom d).mv ∧ (u.dom d).atLimit = true) ∧
        (1080 < r → (vRange d).1 < (s.dom d).mv → (u.dom d).mv = max (vRange d).1 ((s.dom d).mv - 5) ∧ (u.dom d).steppedAt = some (s.tick t).clk)) ∧
      (∀ x, (s.dom d).belowSince = some x → x + 1000000000 ≤ (s.tick t).clk → 1030 ≤ r → r ≤ 1080 → (u.dom d).atLimit = false)) ∧
  (∀ (t : Time) (mw : Nat) (s : State), (s.tick t).domOn 3 = true →
    (s.power.capMw < mw → Leaves (.powerOverCap t mw) s { s.tick t with power := { s.power with
      inputMw := mw, overSince := some (s.power.overSince.getD (s.tick t).clk), underSince := none
      capAtLimit := s.power.capAtLimit || decide (s.power.overSince.getD (s.tick t).clk + 1000000000 ≤ (s.tick t).clk) } }) ∧
    (mw ≤ s.power.capMw → Leaves (.powerOverCap t mw) s { s.tick t with power := { s.power with
      inputMw := mw, overSince := none, underSince := some (s.power.underSince.getD (s.tick t).clk)
      capAtLimit := s.power.capAtLimit && decide ((s.tick t).clk < s.power.underSince.getD (s.tick t).clk + 1000000000) } }))

/-- R488, R490, R491, R493, R496: a decoder engine or scaler in service that fails its self-test, that a diagnosis finds, or whose SRAM holds an uncorrectable error, joins the failed units and the spare of its kind takes its place; contexts follow at once, scaler assignments at the next latch. A unit that passes has been tested at that instant, one out of service is not tested, and a diagnosis that fails no scaler ends. -/
def Obligations.FailedUnitsComplete : Prop :=
  (∀ (t : Time) (e : Nat) (s : State), e < 18 → s.health.engines.contains e = true → (s.tick t).domOn (if e < 9 then 7 else 8) = true → Map.get? s.streams.working e = none → (∀ x, Map.get? s.health.engineTested e = some x → x + 10000000000 ≤ (s.tick t).clk) →
    Leaves (.decoderSelfTest t e true) s { s.tick t with health := { s.health with engineTested := Map.set s.health.engineTested e (s.tick t).clk } }) ∧
  (∀ (t : Time) (u : Nat) (s : State), u < 104 → s.health.scalers.contains u = true → (s.tick t).domOn 10 = true → s.scalerIdle u = true → (∀ x, Map.get? s.health.scalerTested u = some x → x + 1000000000 ≤ (s.tick t).clk) →
    Leaves (.scalerSelfTest t u true) s { s.tick t with health := { s.health with scalerTested := Map.set s.health.scalerTested u (s.tick t).clk } }) ∧
  (∀ (t : Time) (e : Nat) (pass : Bool) (s : State), e < 18 → s.health.engines.contains e = false → Leaves (.decoderSelfTest t e pass) s (s.tick t)) ∧
  (∀ (t : Time) (u : Nat) (pass : Bool) (s : State), u < 104 → s.health.scalers.contains u = false → Leaves (.scalerSelfTest t u pass) s (s.tick t)) ∧
  (∀ (t : Time) (e d : Nat) (s : State) (i : Instr), e < 18 → d = (if e < 9 then 7 else 8) →
    (i = .decoderSelfTest t e false ∧ Map.get? s.streams.working e = none ∧ ∀ x, Map.get? s.health.engineTested e = some x → x + 10000000000 ≤ (s.tick t).clk) ∨
      (i = .sramScrub t (.engine e) ∧ (s.tick t).domOn 3 = true ∧ s.health.bgSuspended = false ∧ s.prot.halted.contains 26 = false) →
    s.health.engines.contains e = true → s.health.failedEngines.contains e = false → (s.tick t).domOn d = true → Completes i s fun u =>
      u.health.failedEngines = s.health.failedEngines ++ [e] ∧ e ∉ u.health.engines ∧
      ∀ x, ((towerEngines d).find? fun y => y != e && !s.health.engines.contains y && !s.health.failedEngines.contains y) = some x →
        x ∈ u.health.engines ∧ ∀ c, s.ctxOpen c = true → (s.ctx c).decl.compressed = true → (s.ctx c).decoder = e → (u.ctx c).decoder = x) ∧
  (∀ (t : Time) (n w : Nat) (l : List Nat) (s : State) (i : Instr), n < 104 →
    (i = .scalerSelfTest t n false ∧ s.scalerIdle n = true ∧ ∀ x, Map.get? s.health.scalerTested n = some x → x + 1000000000 ≤ (s.tick t).clk) ∨
      (i = .sramScrub t (.scaler n) ∧ (s.tick t).domOn 3 = true ∧ s.health.bgSuspended = false ∧ s.prot.halted.contains 26 = false) ∨
      (i = .lanternDiagnosis t w [n] ∧ w < 1024 ∧ (s.win w).diagnose = some l ∧ n ∈ l ∧ (s.head (s.activeWindow w).head).scanning = false) →
    s.health.scalers.contains n = true → s.health.failedScalers.contains n = false → (s.tick t).domOn 10 = true → Completes i s fun u =>
      u.health.failedScalers = s.health.failedScalers ++ [n] ∧ n ∉ u.health.scalers ∧
      ∀ x, ((List.range 104).find? fun y => y != n && !s.health.scalers.contains y && !s.health.failedScalers.contains y) = some x →
        x ∈ u.health.scalers ∧ u.health.swaps = if s.comp.assigns.any fun a => a.scalers.contains n then s.health.swaps ++ [(n, some x)] else s.health.swaps) ∧
  (∀ (t : Time) (s : State), Leaves (.sramScrub t .clean) s (s.tick t)) ∧
  (∀ (t : Time) (w : Nat) (l : List Nat) (s : State), w < 1024 → (s.win w).diagnose = some l → (s.tick t).domOn 10 = true → (s.head (s.activeWindow w).head).scanning = false →
    Leaves (.lanternDiagnosis t w []) s ((s.tick t).setWin w { s.win w with diagnose := none }))

/-- R494, R495, R522: a lockstep mismatch starts the pair's recovery, and that of Spire A answers the running command ST_ABORTED; a mismatch during recovery, or a third recovery within 600 s, resets the device; a recovery ends; and the third operation that a house engine abandons within 60 s reloads it. -/
def Obligations.LockstepAndReloadComplete : Prop :=
  (∀ (t : Time) (cause : Nat) (s : State), (s.tick t).domOn 1 = true → s.upd.planState ≠ .running → s.health.recovering.contains 1 = false →
    (s.health.recoveries.filter fun x => x.1 == 1 && (s.tick t).clk ≤ x.2 + 600000000000).length < 2 → Leaves (.spireLockstep t 1 cause) s { s.tick t with health := { s.health with
      recovering := s.health.recovering ++ [1], recoveries := (s.health.recoveries.filter fun x => (s.tick t).clk ≤ x.2 + 600000000000) ++ [(1, (s.tick t).clk)] } }) ∧
  (∀ (t : Time) (cause mb : Nat) (j : Job) (s : State), (s.tick t).domOn 1 = true → s.upd.planState ≠ .running → s.health.recovering.contains 0 = false →
    (s.health.recoveries.filter fun x => x.1 == 0 && (s.tick t).clk ≤ x.2 + 600000000000).length < 2 → mb < 16 → (s.mbx mb).job = some j → j.cause = none → (∀ k, k ≠ mb → (s.mbx k).job = none) →
    Completes (.spireLockstep t 0 cause) s fun u => u.health.recovering = s.health.recovering ++ [0] ∧ u.responds j.kind mb j.msg stAborted (({ status := stAborted, check := 0 } : Err).bytes)) ∧
  (∀ (t : Time) (pair cause : Nat) (s : State), pair < 2 → s.power.pfAt = none → (s.tick t).domOn 1 = true →
    s.health.recovering.contains pair = true ∨ 2 ≤ (s.health.recoveries.filter fun x => x.1 == pair && (s.tick t).clk ≤ x.2 + 600000000000).length →
    Completes (.spireLockstep t pair cause) s fun u => u.izent.devState = .boot ∧ u.power.resetCause = some (7, (s.tick t).now) ∧ u.health.recovering = []) ∧
  (∀ (t : Time) (pair : Nat) (s : State), pair < 2 → Leaves (.spireRecoveryDone t pair) s { s.tick t with health := { s.health with recovering := s.health.recovering.filter (· != pair) } }) ∧
  (∀ (t : Time) (e : Nat) (s : State), e < 4 → (s.tick t).domOn 3 = true →
    ((s.health.abandoned.filter fun x => (s.tick t).clk < x.2 + 60000000000 && x.1 == e).length < 2 →
      Leaves (.houseEngineReload t e) s { s.tick t with health := { s.health with abandoned := (s.health.abandoned.filter fun x => (s.tick t).clk < x.2 + 60000000000) ++ [(e, (s.tick t).clk)] } }) ∧
    (2 ≤ (s.health.abandoned.filter fun x => (s.tick t).clk < x.2 + 60000000000 && x.1 == e).length →
      Leaves (.houseEngineReload t e) s { s.tick t with health := { s.health with abandoned := s.health.abandoned.filter fun x => (s.tick t).clk < x.2 + 60000000000 && x.1 != e } }))

/-- R264, R500–R502: an evaluation, every 100 ms, that finds no shortfall clears the conditions; one that does suspends background work first, then raises QP_RAISE by 6 on every open H.265 channel, then sheds a window. After 10 s without a shortfall the actions are undone in the reverse order, one per second. -/
def Obligations.SheddingCompletes : Prop :=
  (∀ (t : Time) (s a : State), (s.tick t).spireB = true → (∀ x, s.health.evaluatedAt = some x → x + 100000000 ≤ (s.tick t).clk) → a = (s.tick t).shedStart →
    ((s.tick t).shortfall = 0 → Leaves (.shedEvaluation t) s { s.tick t with health := { s.health with evaluatedAt := some (s.tick t).clk, conditions := 0, exhausted := false }, enc := { s.enc with dropped := false } }) ∧
    ((s.tick t).shortfall ≠ 0 → s.health.bgSuspended = false → Leaves (.shedEvaluation t) s { a with health := { a.health with bgSuspended := true } }) ∧
    ((s.tick t).shortfall ≠ 0 → s.health.bgSuspended = true → a.qpRoom = true → Completes (.shedEvaluation t) s fun u => u.health.qpSteps = s.health.qpSteps + 1 ∧ u.health.shed = s.health.shed ∧
      ∀ c < 32, if a.encOpen c && (a.enc? c).decl.h265 then (u.enc? c).raise = min (a.enc? c).decl.maxQpRaise ((a.enc? c).raise + 6) else u.enc? c = a.enc? c) ∧
    (∀ d, (s.tick t).shortfall ≠ 0 → s.health.bgSuspended = true → a.qpRoom = false → (allChannels.foldl State.raiseQp a).nextShed = some d →
      Completes (.shedEvaluation t) s fun u => u.health.shed = d.window :: s.health.shed ∧ (u.win d.window).shed = true ∧ ∀ w, w ≠ d.window → u.win w = s.win w)) ∧
  (∀ (t : Time) (s : State), (s.tick t).unwindDue = false → Leaves (.shedUnwind t) s (s.tick t) ∧ Leaves (.qpRaiseDecay t) s (s.tick t)) ∧
  (∀ (t : Time) (s : State), (s.tick t).unwindDue = true →
    (∀ w ws, s.health.shed = w :: ws → Leaves (.shedUnwind t) s ({ s.tick t with health := { s.health with shed := ws, unwoundAt := (s.tick t).clk } }.setWin w { s.win w with shed := false })) ∧
    (∀ i : Instr, s.health.shed = [] → s.health.qpSteps ≠ 0 → i = .shedUnwind t ∨ i = .qpRaiseDecay t → Completes i s fun u =>
      u.health.qpSteps = s.health.qpSteps - 1 ∧ u.health.unwoundAt = (s.tick t).clk ∧ u.health.bgSuspended = s.health.bgSuspended ∧
      ∀ c < 32, (u.enc? c).raise = if (s.enc? c).decl.h265 then (s.enc? c).raise - 6 else (s.enc? c).raise) ∧
    (s.health.shed = [] → s.health.qpSteps = 0 → s.health.bgSuspended = true → s.health.jobs = [] →
      Leaves (.shedUnwind t) s { s.tick t with health := { s.health with bgSuspended := false, unwoundAt := (s.tick t).clk } }))

/-- R498, R499, R532–R534, R554: the running scan job ends with the CRC-32C of its range; the recorder flushes 10 s after the last flush, and what was flushed stands in its NAND ring; 1 000 ms after the last record of a rate-limited event what was suppressed is closed by a record. -/
def Obligations.BackgroundEventsComplete : Prop :=
  (∀ (t : Time) (j : ScanJob) (r : ScanResult) (b : Bytes) (s : State), s.health.jobs = [j] → s.health.scanBusy = true → (s.tick t).scanRefused j = false → Map.get? s.health.results j.id = some r → r.submitted = j.submitted →
    s.dram.bytes? j.start j.length = some b → Completes (.scanJobDone t false) s fun u => u.health.jobs = [] ∧ u.health.scanBusy = false ∧ u.health.resultAlive = (s.health.resultAlive + 1) % 4294967296 ∧
      Map.get? u.health.results j.id = some { r with state := 3, alive := (s.health.resultAlive + 1) % 4294967296, crc := crc32c b, doneTime := (s.tick t).now } ∧ u.dram = s.dram) ∧
  (∀ (t : Time) (j : ScanJob) (r : ScanResult) (s : State), s.health.jobs = [j] → s.health.scanBusy = true → Map.get? s.health.results j.id = some r → r.submitted = j.submitted →
    Completes (.scanJobDone t true) s fun u => u.health.jobs = [] ∧ u.health.scanBusy = false ∧ u.health.resultAlive = (s.health.resultAlive + 1) % 4294967296 ∧
      Map.get? u.health.results j.id = some { r with state := 4, alive := (s.health.resultAlive + 1) % 4294967296, crc := 0, doneTime := (s.tick t).now } ∧ u.dram = s.dram) ∧
  (∀ (t : Time) (s : State), (s.tick t).spireB = true → s.recorder.flushing = none → s.recorder.lastFlush + 10000000000 ≤ (s.tick t).clk → Completes (.flushTimer t) s fun u =>
    (∃ n, u.recorder.flushing = some n ∧ s.recorder.buf.length ≤ n) ∧ s.recorder.buf <+: u.recorder.buf ∧ u.recorder.nand = s.recorder.nand ∧ u.recorder.lastFlush = s.recorder.lastFlush ∧ State.SameBlock (s.tick t) u) ∧
  (∀ (t : Time) (n : Nat) (s : State), (s.tick t).spireB = true → s.recorder.flushing = some n → Completes (.recorderFlushDone t) s fun u =>
    u.recorder.lastFlush = (s.tick t).clk ∧ u.recorder.nand = ((s.tick t).flushRing n).recorder.nand ∧ s.recorder.buf.drop n <+: u.recorder.buf ∧
    ((∀ e ∈ s.recorder.buf.take n, e.size ≤ 4072) → s.recorder.buf.length ≤ 15872 → u.inRing (s.recorder.buf.take n)) ∧ State.SameBlock (s.tick t) u) ∧
  (∀ (t : Time) (ty subject : Nat) (e : RateEntry) (bs : Bytes) (s : State), (s.recorder.rate.find? fun x => x.ty == ty && x.subject == subject) = some e → e.suppressed ≠ 0 → e.lastAt + 1000000000 ≤ (s.tick t).clk →
    bs = padTo 4 (pvPlace e.payload 4 (le 4 (sat 4 e.suppressed))) → bit ty 15 = false → s.recorder.used + 16 + bs.length ≤ 245760 → Completes (.rateLimitClose t ty subject) s fun u =>
      (u.recorder.rate.find? fun x => x.ty == ty && x.subject == subject) = some { ty := ty, subject := subject, lastAt := (s.tick t).clk } ∧
      (s.recorder.buf ++ [{ ty := ty, time := e.time, seq := nextSeq s.recorder.seqOp, payload := bs }]) <+: u.recorder.buf ∧ u.recorder.nand = s.recorder.nand ∧ State.SameBlock (s.tick t) u) ∧
  (∀ (t : Time) (ty subject : Nat) (s : State), (∀ x ∈ s.recorder.rate, x.ty = ty → x.subject = subject → x.suppressed = 0 ∨ (s.tick t).clk < x.lastAt + 1000000000) →
    Leaves (.rateLimitClose t ty subject) s (s.tick t))

/-! Firmware update. -/

/-- R513–R521, R524: an image whose header and contents verify is staged, or the plan fails, its slot spoilt only by a write that failed; Spire A switches once no command is in progress and COMP once no flip is pending; an image that reports running becomes the running version and its former one the fallback; one that fails or exceeds its bound, and a deadline that passes, return the activated images from the last on; and a plan whose criteria have held is DONE, the anti-rollback counter following the least SECURITY_VERSION. -/
def Obligations.UpdateEventsComplete : Prop :=
  (∀ (t : Time) (i : Nat) (c : Container) (header : Bytes) (blocks : List CipherBlock) (s : State), s.upd.order[s.upd.stagedCount]? = some i → s.upd.planState = .running → s.upd.falling = none → s.power.pfWarn = false →
    ((s.tick t).hostAllows 0 (Map.get (0, 0) s.upd.sources i).1 (Map.get (0, 0) s.upd.sources i).2 = true → s.headerValid header = true → s.passes header blocks = true → (s.upd.plan.find? fun x => x.image == i && x == containerOf header) = some c →
      (s.upd.stagedCount + 1 < s.upd.order.length → Completes (.updateStageDone t { header, blocks } true) s fun u =>
        u.image i = { s.image i with staged := some c, fallback := none, state := 1 } ∧ u.upd.stagedCount = s.upd.stagedCount + 1 ∧ u.upd.planState = .running ∧ ∀ k, k ≠ i → u.image k = s.image k) ∧
      Completes (.updateStageDone t { header, blocks } false) s fun u => u.upd.planState = .failed ∧ u.image i = { s.image i with staged := none, fallback := none, state := 0 } ∧ ∀ k, k ≠ i → u.image k = s.image k) ∧
    (∀ written, (s.tick t).hostAllows 0 (Map.get (0, 0) s.upd.sources i).1 (Map.get (0, 0) s.upd.sources i).2 = false ∨ s.headerValid header = false ∨ s.passes header blocks = false →
      Completes (.updateStageDone t { header, blocks } written) s fun u => u.upd.planState = .failed ∧ ∀ k, u.image k = s.image k)) ∧
  (∀ (t : Time) (s : State), s.upd.spireDue = true → (∀ e ∈ s.izent.mbx, ∀ j, e.2.job = some j → j.cause.isSome = true) → s.touch.running = none → Completes (.spireASwitch t) s fun u =>
    u.upd.spireDue = false ∧ u.upd.spireSwitch = some (s.tick t).clk ∧ u.upd.activating = some (0, (s.tick t).clk)) ∧
  (∀ (t : Time) (s : State), s.upd.compDue = true → s.upd.activating = none → (∀ g < 4, (s.grpC g).next = none) → Completes (.compActivation t) s fun u =>
    u.upd.activating = some (3, (s.tick t).clk) ∧ u.comp.compActive = some []) ∧
  (∀ (t x : Time) (i : Nat) (c : Container) (s : State), s.upd.activating = some (i, x) → i ≠ 3 → s.upd.activated.contains i = false → s.upd.falling = none →
    ((s.image i).staged = some c → Completes (.imageRunning t true) s fun u => (u.image i).running = c ∧ (u.image i).fallback = some (s.image i).running ∧ (u.image i).state = 3 ∧ u.upd.activated = s.upd.activated ++ [i]) ∧
    (s.upd.activated = [] → Completes (.imageRunning t false) s fun u => u.upd.planState = .fallenBack ∧ u.upd.falling = none) ∧
    (∀ l j, s.upd.activated = l ++ [j] → Completes (.imageRunning t false) s fun u => u.upd.falling = some 2 ∧ u.upd.current = j ∧ (u.image j).state = 2) ∧
    (∀ l j b, s.upd.activated = l ++ [j] → activationBound i = some b → x + b ≤ (s.tick t).clk → Completes (.activationTimeout t) s fun u =>
      u.upd.falling = some 2 ∧ u.upd.current = j ∧ (u.image j).state = 2 ∧ (u.image i).running = (s.image i).running)) ∧
  (∀ (t : Time) (l : List Nat) (j : Nat) (s : State), s.upd.planState = .confirmPending → s.upd.falling = none → s.upd.deadline ≤ (s.tick t).now → (s.tick t).confirmHeld = false → s.upd.activating = none → s.upd.activated = l ++ [j] →
    Completes (.confirmDeadline t) s fun u => u.upd.falling = some 0 ∧ u.upd.deadline = 0 ∧ u.upd.current = j ∧ (u.image j).state = 2) ∧
  (∀ (t : Time) (s : State), s.upd.planState = .confirmPending → s.upd.falling = none → (∀ c ∈ s.upd.plan, c.confirmCriteria ≠ 0) → criterionBroken (s.tick t) (s.tick t) = false → (bit (s.tick t).criteria 6 = true → s.upd.requested = true) →
    s.upd.settledFrom + maxL (s.upd.plan.map Container.settleS) * 1000000000 ≤ (s.tick t).clk → Completes (.selfTestSettled t) s fun u =>
      u.upd.planState = .done ∧ u.upd.deadline = 0 ∧ u.upd.counter = max s.upd.counter ((List.range 8).foldl (fun a i => min a (s.image i).running.securityVersion) 127))

/-! Stream ingest, decoding and sources. -/

/-- R97, R102–R104, R106–R109, R111–R114, R409, R555: a frame with an error is counted and dropped; the first packet of a joining context is held in its jitter buffer, makes it ACTIVE and WAIT_ENTRY, and sets its sequence state; an ARP request for the port's address is answered; a PRP duplicate is counted and dropped; a source unheard for 400 ms is forgotten; and membership reports answer queries and are repeated after 1 000 ms. -/
def Obligations.FramesComplete : Prop :=
  (∀ (t : Time) (f : Frame) (s : State) (p : Parsed), f.lane < 16 → p = parseEther f.bytes →
    ((s.lane f.lane).state ≠ .up → Leaves (.frameReceived t f) s (s.tick t)) ∧
    ((s.lane f.lane).state = .up → f.fcsOk = false ∨ f.bytes.length < 60 ∨ 9596 < f.bytes.length → Leaves (.frameReceived t f) s ((s.tick t).setLane f.lane { s.lane f.lane with fcsErrors := sat 4 ((s.lane f.lane).fcsErrors + 1) })) ∧
    ((s.lane f.lane).state = .up → f.fcsOk = true → 60 ≤ f.bytes.length → f.bytes.length ≤ 9596 → (s.tick t).activating 2 = false → s.answers f.lane p = none → (s.tick t).domOn 6 = false ∨ (bit (s.lane f.lane).cfg.flags 0 = false ∧ s.contextsOf f.lane p = []) →
      Leaves (.frameReceived t f) s ((s.tick t).setLane f.lane { s.lane f.lane with rxFrames := sat 4 ((s.lane f.lane).rxFrames + 1) })) ∧
    ((s.lane f.lane).state = .up → f.fcsOk = true → 60 ≤ f.bytes.length → f.bytes.length ≤ 9596 → bit (s.lane f.lane).cfg.flags 0 = false → p.qinq = false → p.vlan = (s.lane f.lane).address.vlan → p.ty = 0x0806 →
      rdBe p.body 0 2 = 1 → rdBe p.body 2 2 = 0x0800 → rdBe p.body 6 2 = 1 → (s.lane f.lane).owns false (sub p.body 24 4) = true → Completes (.frameReceived t f) s fun u =>
        (u.lane f.lane).rxFrames = sat 4 ((s.lane f.lane).rxFrames + 1) ∧ (u.lane f.lane).txFrames = sat 4 ((s.lane f.lane).txFrames + 1) ∧ u.streams = s.streams ∧
        (f.lane, s.arpReply f.lane p.vlan (sub p.body 8 6) (sub p.body 14 4)) ∈ u.out.frames) ∧
    (∀ (c port ssrc : Nat) (ip : Packet) (b nal : Bytes) (r : RtpPacket), (s.lane f.lane).state = .up → f.fcsOk = true → 60 ≤ f.bytes.length → f.bytes.length ≤ 9596 → (s.tick t).domOn 6 = true → (s.tick t).activating 2 = false → bit (s.lane f.lane).cfg.flags 0 = false →
      p.qinq = false → s.answers f.lane p = none → p.ip? = some ip → ip.odd = false → ip.udpPort = some port → ip.udp? = some b → s.contextsOf f.lane p = [c] → s.prot.halted.contains (2 + (s.ctx c).engine) = false → bit (s.ctx c).decl.flags 3 = false →
      udpBody (s.ctx c).decl port b = .rtp r → r.payloadType = (s.ctx c).decl.payloadType → (s.ctx c).ssrc = some ssrc → r.ssrc = ssrc → ((s.ctx c).police f.lane r.bits (s.tick t).clk).isSome = true → (s.ctx c).state = .joining → (s.ctx c).decl.kind ≠ 2 → (s.ctx c).high = none →
      (s.ctx c).nextSeq = none → (s.ctx c).jitter = [] → r.payload = .single nal → r.marker = false → r.seq < 65536 → cdiv r.bits 8 ≤ (s.ctx c).decl.jitterBytes → Completes (.frameReceived t f) s fun u =>
        (u.ctx c).state = .active ∧ (u.ctx c).join = .waitEntry ∧ (u.ctx c).packets = sat 4 ((s.ctx c).packets + 1) ∧ (u.ctx c).high = some (65536 + r.seq) ∧
        ∃ h, (u.ctx c).jitter = [h] ∧ h.seq = 65536 + r.seq ∧ h.pkt = r ∧ h.arrival.at_ = (u.ctx c).lastArrival)) ∧
  (∀ (t : Time) (k : Nat) (h : PrpHeld) (s : State) (p : Parsed), k < 8 → (s.prpPair k).held = [h] → p = parseEther h.frame.bytes →
    ((s.prpPair k).ripe (s.tick t).clk h = false → Leaves (.prpHoldExpiry t k) s (s.tick t)) ∧
    (∀ (c q : Nat) (e : PrpEntry), (s.prpPair k).ripe (s.tick t).clk h = true → p.trailer = some (q, h.frame.lane % 2 == 1) → q < 65536 → ((s.prpPair k).entries.find? fun x => x.mac == ofBe p.srcMac) = some e → e.high % 65536 = q →
      s.contextsOf h.frame.lane p.strip = [c] → Completes (.prpHoldExpiry t k) s fun u => u.ctx c = { s.ctx c with prpDiscards := sat 4 ((s.ctx c).prpDiscards + 1) } ∧ (u.prpPair k).held = [] ∧ (u.prpPair k).done = some h.stamp)) ∧
  (∀ (t : Time) (k mac : Nat) (s : State), k < 8 → Leaves (.prpEntryForget t k mac) s
    ((s.tick t).setPrp k { s.prpPair k with entries := (s.prpPair k).entries.filter fun e => !(e.mac == mac && e.lastAt + 400000000 ≤ (s.tick t).clk) })) ∧
  (∀ (t : Time) (q : IgmpQuery) (s : State) (v6 : Bool), q.port < 16 → q.family = (if v6 then 6 else 4) →
    (q.old = true → (s.tick t).oldQuerier q.port v6 = false → Completes (.igmpQuery t q) s fun u =>
      u.streams.compat = (q.port, q.family, (s.tick t).clk + 260000000000) :: s.streams.compat.filter (fun e => !(e.1 == q.port && e.2.1 == q.family)) ∧ u.oldQuerier q.port v6 = true ∧
      ∀ e ∈ s.streams.ctx, e.2.state = .joining ∨ e.2.state = .active → e.2.multicast = true → bit e.2.decl.portMask q.port = true → e.2.v6 = v6 → (s.lane q.port).state = .up →
        (q.port, s.oldReport q.port e.2.decl.vlan v6 .join e.2.decl.group) ∈ u.out.frames) ∧
    (q.old = false → (s.tick t).oldQuerier q.port v6 = false → Completes (.igmpQuery t q) s fun u => u.streams = s.streams ∧
      ∀ e ∈ s.streams.ctx, e.2.state = .joining ∨ e.2.state = .active → e.2.multicast = true → bit e.2.decl.portMask q.port = true → e.2.v6 = v6 → (s.lane q.port).state = .up → q.group = [] ∨ fit 16 q.group = fit 16 e.2.decl.group →
        (q.port, s.newReport q.port e.2.decl.vlan v6 (bit e.2.decl.flags 3) .answer e.2.decl.group e.2.decl.source) ∈ u.out.frames)) ∧
  (∀ (t : Time) (c : Nat) (s : State), c < 256 → (s.ctx c).state = .joining ∨ (s.ctx c).state = .active → (s.ctx c).reported = false → (s.ctx c).joinedAt + 1000000000 ≤ (s.tick t).clk → (s.ctx c).multicast = true →
    Completes (.igmpReportRepeat t c) s fun u => u.ctx c = { s.ctx c with reported := true } ∧
      ∀ p < 16, bit (s.ctx c).decl.portMask p = true → (s.lane p).state = .up → (u.lane p).txFrames = sat 4 ((s.lane p).txFrames + 1))

/-- R112, R113, R118: a packet held aside is dropped, counted, after JITTER_DEPTH; an access unit that is not complete is released at its earliest arrival plus JITTER_DEPTH and queued to its decoder; an ST 2110-20 picture is completed at its deadline. Before the deadline nothing happens. -/
def Obligations.IngestDeadlinesComplete : Prop :=
  (∀ (t t0 : Time) (h : Held) (c : Nat) (s : State), c < 256 → (s.ctx c).jump = some (h, t0) → t0 + (s.ctx c).decl.jitterDepth * 1000 ≤ (s.tick t).clk →
    Leaves (.jumpHoldExpiry t c) s ((s.tick t).setCtx c { s.ctx c with jump := none, malformed := sat 4 ((s.ctx c).malformed + 1) })) ∧
  (∀ (t : Time) (c ts : Nat) (s : State), c < 256 → (∀ h ∈ (s.ctx c).jitter, h.pkt.ts = ts) →
    ((∀ h ∈ (s.ctx c).jitter, (s.tick t).now < h.arrival.at_ + (s.ctx c).decl.jitterDepth * 1000) → Leaves (.accessUnitDeadline t c) s (s.tick t)) ∧
    ((∃ h ∈ (s.ctx c).jitter, h.arrival.at_ + (s.ctx c).decl.jitterDepth * 1000 ≤ (s.tick t).now) → (s.ctx c).queue.length < 8 → Completes (.accessUnitDeadline t c) s fun u =>
      (u.ctx c).jitter = [] ∧ (u.ctx c).pictures = sat 4 ((s.ctx c).pictures + 1) ∧ u.streams.releases = s.streams.releases + 1 ∧
      ∃ au, (u.ctx c).queue = (s.ctx c).queue ++ [au] ∧ au.rtp = ts ∧ au.order = s.streams.releases ∧ au.nals = nalsOf (s.ctx c).jitter none ∧ ∀ h ∈ (s.ctx c).jitter, au.arrival.at_ ≤ h.arrival.at_)) ∧
  (∀ (t : Time) (c : Nat) (a : Assembly) (s : State), c < 256 → (s.ctx c).assembly = [a] →
    ((s.tick t).now < a.arrival.at_ + (s.ctx c).decl.rateDen * 1000000000 / (s.ctx c).decl.rateNum + (s.ctx c).decl.jitterDepth * 1000 → Leaves (.st2110PictureDeadline t c) s (s.tick t)) ∧
    (a.arrival.at_ + (s.ctx c).decl.rateDen * 1000000000 / (s.ctx c).decl.rateNum + (s.ctx c).decl.jitterDepth * 1000 ≤ (s.tick t).now → Completes (.st2110PictureDeadline t c) s fun u =>
      (u.ctx c).assembly = [] ∧ (u.ctx c).pictures = sat 4 ((s.ctx c).pictures + 1) ∧ (a.old = false → (u.ctx c).nextSeq = some (a.lastSeq + 1) ∧ (u.ctx c).lastRtp = some a.rtp)))

/-- R27, R97, R98, R129, R130, R141, R142, R148, R155: a free engine in service takes the oldest released unit and decodes it into a free slot; a picture that ends, or whose work budget runs out, leaves its engine; an acknowledged tag completes its picture, and its slot alone is LATEST; a context that waits for an entry says so every 10 s; and one that has drained is CLOSED, its held buffers detached. -/
def Obligations.DecodingEventsComplete : Prop :=
  (∀ (t : Time) (e c : Nat) (w : AccessUnit) (rest : List AccessUnit) (s : State), e < 18 → c < 256 → s.health.engines.contains e = true → (s.tick t).domOn (towerDomain e) = true → Map.get? s.streams.working e = none → s.nextUnit e = some c →
    (s.ctx c).queue = w :: rest →
    (s.ctxShed c = true → Leaves (.decodeStart t e c) s ((s.tick t).setCtx c { s.ctx c with queue := rest, skipping := (s.ctx c).skipping && decide (2 < rest.length), discarding := true })) ∧
    (∀ (r : UnitRead) (seq : SeqInfo) (heads : List SliceHead) (h : SliceHead), s.ctxShed c = false → (s.ctx c).discarding = false → (s.ctx c).join = .showing → r = readUnit (s.ctx c).decl.kind (s.ctx c).dec w.nals → r.errors = 0 → r.endBefore = false → r.endAfter = false →
      (s.ctx c).skipping = false ∨ r.nonReference (s.ctx c).decl.kind = false → r.seq (s.ctx c).decl = some seq → inEnvelope (s.ctx c).decl seq = true → heads = r.heads (s.ctx c).decl.kind → heads.length = r.slices.length → heads.head? = some h →
      (match h with | .avc a => r.dec.gap a = [] | .hevc a => r.dec.beginsAt a.nal = true) → (s.ctx c).pool.length ≤ (s.ctx c).slots → (s.ctx c).freeSlot ≠ none → Completes (.decodeStart t e c) s fun u =>
        (u.ctx c).queue = rest ∧ (∀ j, j ≠ c → u.ctx j = s.ctx j) ∧ ∃ d z, Map.get? u.streams.working e = some d ∧ d.context = c ∧ d.started = (s.tick t).clk ∧ d.au = w ∧ d.info.slices = heads ∧ d.info.seq = seq ∧
          (u.ctx c).pool[d.slot]? = some z ∧ z.current = true ∧ z.poc = d.info.poc ∧ z.rtp = w.rtp)) ∧
  (∀ (t : Time) (e c : Nat) (s : State), e < 18 → c < 256 → s.nextUnit e ≠ some c → Leaves (.decodeStart t e c) s (s.tick t)) ∧
  (∀ (t : Time) (e : Nat) (d : Decoding) (r : DecodeResult) (s : State), e < 18 → Map.get? s.streams.working e = some d → d.info.slices ≠ [] →
    (Completes (.decodeEnd t e r) s fun u => Map.get? u.streams.working e = none ∧ ∀ z, (u.ctx d.context).pool[d.slot]? = some z → z.current = false ∧ z.own.isSome = true ∧ z.eff.isSome = true) ∧
    ((s.tick t).clk < d.started + workBudget (s.ctx d.context).decl → Leaves (.workBudgetExpiry t e r) s (s.tick t)) ∧
    (d.started + workBudget (s.ctx d.context).decl ≤ (s.tick t).clk → Completes (.workBudgetExpiry t e r) s fun u =>
      Map.get? u.streams.working e = none ∧ (u.ctx d.context).overruns = sat 4 ((s.ctx d.context).overruns + 1) ∧ ∀ z, (u.ctx d.context).pool[d.slot]? = some z → z.current = false ∧ z.eff.isSome = true)) ∧
  (∀ (t : Time) (c : Nat) (p : Picture) (ps : List Picture) (s : State), c < 256 → (s.ctx c).unacked = p :: ps → Leaves (.tagWriteAck t c) s ((s.tick t).setCtx c { s.ctx c with
    unacked := ps, complete := latchable (s.tick t).clk (if (s.ctx c).hbSlots = p.hbRects then p else p.completed (s.ctx c).hbSlots) (s.ctx c).complete, ooe := false, pool := (s.ctx c).pool.zipIdx.map fun e => { e.1 with latest := e.2 == p.tag.slot } })) ∧
  (∀ (t : Time) (i : Nat) (p : Picture) (ps : List Picture) (s : State), i < 16 → (s.src i).unacked = p :: ps →
    Leaves (.tagWriteAck t (256 + i)) s ((s.tick t).setSrc i { s.src i with unacked := ps, complete := latchable (s.tick t).clk p (s.src i).complete })) ∧
  (∀ (t : Time) (c : Nat) (s : State), c < 256 → (s.ctx c).join = .waitEntry → (s.ctx c).waitSince + 10000000000 ≤ (s.tick t).clk →
    Leaves (.noEntryTimer t c) s ((s.tick t).setCtx c { s.ctx c with waitSince := (s.ctx c).waitSince + 10000000000 })) ∧
  (∀ (t : Time) (c : Nat) (s : State), c < 256 → (s.ctx c).state = .draining → (∀ r ∈ s.comp.reopens, r.decl.context ≠ c) → Completes (.contextDrainEnd t c) s fun u =>
    (u.ctx c).state = .closed ∧ (u.ctx c).pool = [] ∧ (u.ctx c).decoder = 255 ∧ (∀ e ∈ u.streams.working, e.2.context ≠ c) ∧ (∀ j, j ≠ c → u.ctx j = s.ctx j) ∧
    u.streams.detached = s.streams.detached ++ ((s.ctx c).pool.zipIdx.filter fun z => z.1.held != 0).map fun z => { context := c, slot := z.2, bytes := bufferBytes (s.ctx c).decl, held := z.1.held })

/-- R121–R123, R497: a PATTERN source that is due issues the next picture of its pattern; a STILL's verification is queued once at each of its periods; one whose CRC is right issues the still, and one whose CRC is wrong sets VERIFY_FAILED and issues nothing. -/
def Obligations.SourceEventsComplete : Prop :=
  (∀ (t : Time) (i : Nat) (s : State), i < 16 → (s.src i).decl.kind = 1 → (s.tick t).domOn 6 = true → (s.src i).dueAt (s.src i).ticks ≤ (s.tick t).now → Completes (.patternPicture t i) s fun u =>
    (u.src i).ticks = (s.src i).ticks + 1 ∧ (u.src i).count = (s.src i).count + 1 ∧ (∀ j, j ≠ i → u.src j = s.src j) ∧
    ∃ p, (u.src i).unacked = (s.src i).unacked ++ [p] ∧ p.tag.source = 256 + i ∧ p.width = (s.src i).decl.width ∧ p.height = (s.src i).decl.height ∧
      p.planes = planesOf (s.src i).decl.width (s.src i).decl.height (patternAt (s.src i).decl (s.src i).count)) ∧
  (∀ (t : Time) (i : Nat) (s : State), i < 16 → (s.src i).decl.kind = 3 → (s.tick t).domOn 6 = true → (s.tick t).domOn 3 = true → (s.src i).dueAt ((s.src i).ticks + 1) ≤ (s.tick t).now →
    (s.health.stillJobs.contains i = true → Leaves (.stillVerifyPeriod t i) s ((s.tick t).setSrc i { s.src i with ticks := (s.src i).ticks + 1 })) ∧
    (s.health.stillJobs.contains i = false → Leaves (.stillVerifyPeriod t i) s
      { (s.tick t).setSrc i { s.src i with ticks := (s.src i).ticks + 1, queuedAt := some (s.tick t).now } with health := { s.health with stillJobs := s.health.stillJobs ++ [i] } })) ∧
  (∀ (t : Time) (i crc : Nat) (rest : List Nat) (s : State), s.health.stillJobs = i :: rest →
    (crc ≠ (s.src i).decl.stillCrc → Leaves (.stillVerifyDone t crc) s ({ s.tick t with health := { s.health with stillJobs := rest } }.setSrc i { s.src i with queuedAt := none, verifyFailed := true })) ∧
    (crc = (s.src i).decl.stillCrc → (s.tick t).domOn 6 = true → Completes (.stillVerifyDone t crc) s fun u => u.health.stillJobs = rest ∧ (u.src i).verifyFailed = false ∧
      ∃ p, (u.src i).unacked = (s.src i).unacked ++ [p] ∧ p.tag.source = 256 + i ∧ p.planes = (s.src i).image))

/-! Heads, links, Lantern and encoding. -/

/-- R37, R49, R50, R57, R59, R61, R64, R206, R207, R215–R217, R47: at the latch instant a group takes the safety configuration and judges its window: it shows the reason of highest priority among those that are active, and STALE, FROZEN, NO_SOURCE, TIME and SHED follow from the latched picture. A due frame starts at t_f with the next number, and ends into the head's ring with its holds released. A window late for a line is off from it; panic is raised below 50 µs and lowered at 150 µs. -/
def Obligations.FrameEventsComplete : Prop :=
  (∀ (t : Time) (g : Nat) (bad : List LanternCopy) (s : State), g < 4 → (s.gen g).running = true → (s.gen g).latched = false → (s.gen g).tf ≤ (s.tick t).now + 500000 → (s.tick t).takers g ≠ [] →
    (∀ h ∈ (s.tick t).headsOf g, (s.head h).own ≠ none ∨ ((s.head h).scanning = false ∧ (s.head h).due = false)) → (s.grpC g).next = none → Completes (.latchInstant t { sg := g, bad := bad }) s fun u =>
    (u.gen g).latched = true ∧ (u.gen g).tf = (s.gen g).tf ∧ (u.grpC g).safety = s.comp.safety ∧ (∀ h ∈ (s.tick t).headsOf g, (s.head h).own = none → (s.head h).notBefore ≤ (s.gen g).tf → (u.head h).due = true) ∧
    ∀ (d : WindowDesc) (r : TimingRec) (w : Win) (pol : Policy), (s.tick t).groupWindows g = [d] → (s.head d.head).timing = some r → w = u.win d.window → pol = s.comp.safety.policy d.policy →
      w.latched = (if (s.win d.window).badTag then (s.win d.window).latched.filter fun p => p.tag.source == d.source && s.shows d.source else (s.tick t).latchOf ((s.tick t).clkOf ((s.gen g).tf - 500000)) d) ∧ w.frame = s.frameOf d.head ∧ w.offAt = [] ∧
      w.shown = topReason w.active ∧ bit w.active 3 = w.latched.isNone ∧ bit w.active 12 = (s.win d.window).shed ∧
      ∀ p tw, w.latched = some p → tw = rowInstant (s.gen g).tf (s.gen g).lp (evalRow d r (s.surface d.head)) → w.ageUs = ageUs p.tag tw (u.gen g).u ∧
        (pol.ageLimit < ageUs p.tag tw (u.gen g).u → bit w.active 1 = true) ∧ (pol.freezeLimit * 1000000 < tw - p.tag.advance → bit w.active 2 = true) ∧
        (bit pol.control 0 = true → p.tag.trusted (s.tick t).trusted = false → bit w.active 5 = true) ∧ (bit pol.control 0 = false → bit w.active 5 = false)) ∧
  (∀ (t : Time) (h : Nat) (r : TimingRec) (s : State), h < 16 → (s.head h).timing = some r → (s.tick t).headOn h = true →
    ((s.head h).scanning = false → (s.head h).due = true → (s.head h).own = none → (s.gen r.sg).tf ≤ (s.tick t).now → Completes (.frameStart t h) s fun u =>
      (u.head h).scanning = true ∧ (u.head h).due = false ∧ (u.head h).nextFrame = ((s.head h).nextFrame + 1) % 281474976710656 ∧ (u.head h).tf = (s.gen r.sg).tf ∧ (u.head h).broken = false ∧
      (u.head h).disc = (if (s.head h).broken then some (s.head h).nextFrame else (s.head h).disc)) ∧
    ((s.head h).scanning = true → frameEnd r (s.head h).tf (s.head h).lp ≤ (s.tick t).now → Completes (.frameEnd t h) s fun u =>
      (u.head h).scanning = false ∧ (u.head h).nextFrame = (s.head h).nextFrame ∧ (u.head h).ring.getLast?.map (·.1) = some ((s.head h).nextFrame - 1) ∧
      ∀ e ∈ u.comp.holds, e.head = h → e.safety = true ∧ (s.head h).nextFrame - 1 ≤ e.frame) ∧
    (∀ line : Nat, (∀ d ∈ (s.tick t).groupWindows r.sg, (s.tick t).starved d r = false ∧ (s.win d.window).refused = false) → s.prot.halted.contains (18 + h / 2) = false → Leaves (.lineDeadline t h line []) s (s.tick t)) ∧
    (∀ (line : Nat) (late : List Nat) (d : WindowDesc), (s.tick t).groupWindows r.sg = [d] → (s.head h).scanning = true → lineDeadline (s.head h).tf (s.head h).lp line ≤ (s.tick t).now → d.head = r.leader h → (s.win d.window).latched ≠ none → d.window ∈ late → rectEmpty (onHead d r h) = false → (onHead d r h).2.1 ≤ (line : Int) → (line : Int) < (onHead d r h).2.2.2 → (s.win d.window).offAt = [] →
      Completes (.lineDeadline t h line late) s fun u => (u.win d.window).offAt = [(h, line)] ∧ (u.win d.window).run = (s.win d.window).run + 1 ∧ bit u.health.conditions 0 = true)) ∧
  (∀ (t : Time) (h : Nat) (r : TimingRec) (line : Option Nat) (s : State), h < 16 → (s.head h).timing = some r → (s.tick t).headOn h = true →
    (∀ l, (s.head h).panic = false → (s.tick t).lead h r line = some l → l < 50000 → Leaves (.headPanic t h line) s ((s.tick t).setHead h { s.head h with panic := true, panics := sat 4 ((s.head h).panics + 1) })) ∧
    ((s.head h).panic = true → (∀ l, (s.tick t).lead h r line = some l → 150000 ≤ l) → Leaves (.headPanic t h line) s ((s.tick t).setHead h { s.head h with panic := false })) ∧
    ((s.head h).panic = false → (∀ l, (s.tick t).lead h r line = some l → 50000 ≤ l) → Leaves (.headPanic t h line) s (s.tick t)))

/-- R208, R209, R211, R213: a pulse narrower than 100 ns does not count; the first pulse at a generator in LOCK_SYNC_IN begins a run; one a period after the last valid pulse is valid and sets the trim, within 100 ppm; any other is spurious; three missed pulses lose the reference, and lock with it; AT_LIMIT ends after 1 000 ms inside the bound; a follower whose synthesiser loses lock runs on its own timing. -/
def Obligations.SyncEventsComplete : Prop :=
  (∀ (t : Time) (inp : Nat) (e : SyncEdge) (s : State), inp < 2 → e.width < 100 → Leaves (.syncInEdge t inp e) s (s.tick t)) ∧
  (∀ (t : Time) (inp g : Nat) (e : SyncEdge) (r : TimingRec) (s : State), inp < 2 → g < 4 → 100 ≤ e.width → e.error = 0 → (s.tick t).domOn 3 = true → (s.tick t).watched g = some r → r.mode = 1 → r.syncCfg % 2 = inp → bit r.syncCfg 1 ≠ e.rising →
    (e.rising = true → (s.base 2).cfg.source ≠ 2 + inp ∨ (s.base 2).state = .disabled) →
    ((s.gen g).pulse = none → (s.gen g).pulses = [] → Completes (.syncInEdge t inp e) s fun u => u.gen g = { s.gen g with pulses := [(s.tick t).now] }) ∧
    (∀ p, (s.gen g).pulse = some p → nearPulse r p (s.tick t).now 1 10000 = true → Completes (.syncInEdge t inp e) s fun u => (u.gen g).pulse = some (s.tick t).now ∧ (u.gen g).spurious = (s.gen g).spurious ∧
      (u.gen g).trim = clampI (-100000) 100000 (((((s.tick t).now : Int) - p) * r.rateNum - pulseSpan r) * 1000000000 / pulseSpan r)) ∧
    (∀ p, (s.gen g).pulse = some p → (∀ k, 1 ≤ k → k ≤ 3 → nearPulse r p (s.tick t).now k 10000 = false) → Completes (.syncInEdge t inp e) s fun u => u.gen g = { s.gen g with spurious := sat 2 ((s.gen g).spurious + 1) })) ∧
  (∀ (t : Time) (g p : Nat) (r : TimingRec) (s : State), g < 4 → (s.tick t).watched g = some r → r.mode = 1 → (s.gen g).pulse = some p →
    (100 * pulseSpan r * 3 + pulseSpan r < 100 * ((s.tick t).now - p) * r.rateNum → Completes (.syncPulseMissed t g) s fun u =>
      (u.gen g).pulse = none ∧ (u.gen g).pulses = [] ∧ (u.gen g).state = (if (s.gen g).state = .locked then .hold else (s.gen g).state) ∧ ∀ k, k ≠ g → u.gen k = s.gen k) ∧
    (100 * ((s.tick t).now - p) * r.rateNum ≤ 100 * pulseSpan r * 3 + pulseSpan r → Leaves (.syncPulseMissed t g) s (s.tick t))) ∧
  (∀ (t t0 : Time) (g : Nat) (s : State), g < 4 → (s.gen g).insideSince = some t0 → (s.gen g).atLimit = true → t0 + 1000000000 ≤ (s.tick t).clk →
    Leaves (.syncTrimRelease t g) s ((s.tick t).setGen g { s.gen g with atLimit := false, insideSince := none })) ∧
  (∀ (t : Time) (h : Nat) (s : State), h < 16 → Leaves (.synthesiserLockChange t h true) s ((s.tick t).setHead h { s.head h with synth := true })) ∧
  (∀ (t : Time) (h : Nat) (r : TimingRec) (s : State), h < 16 → (s.head h).timing = some r → (s.head h).synth = true → r.mode = 3 → (s.tick t).headOn h = true → (s.head h).stopped = false → (s.head h).own = none →
    Leaves (.synthesiserLockChange t h false) s ((s.tick t).setHead h { s.head h with
      synth := false, own := some (if (s.gen r.sg).cur = some (s.gen r.sg).tf then (s.head h).tf + (s.gen r.sg).span else (s.gen r.sg).tf), span := (s.gen r.sg).span, lp := if (s.head h).scanning then (s.head h).lp else (s.gen r.sg).lp
      rejoin := false, realigned := none, due := false }))

/-- R197, R203–R205: assertion of hot-plug detect reads the sink and trains an enabled head; deassertion takes the link down, counted; an IRQ_HPD that lost the link trains again, and any other changes nothing; training ends at the first configuration of its order that works, or in LINK_FAIL, which is tried again after 1 000 ms. -/
def Obligations.LinkEventsComplete : Prop :=
  (∀ (t : Time) (h : Nat) (sink : SinkInfo) (s : State), h < 16 → (s.tick t).domOn (headDomain h) = true →
    ((s.head h).hpd = false → (s.tick t).trains h = true → Completes (.hpdChange t h true sink) s fun u => u.head h = { s.head h with
      hpd := true, sink := some (sink.maxLanes, sink.maxRate, sink.ssc), edid := sink.edid.take 512, edidAt := (s.tick t).now, training := some (s.tick t).clk, trainings := sat 2 ((s.head h).trainings + 1)
      d3 := false, link := none, fallback := false, sending := false, failed := none }) ∧
    ((s.head h).hpd = true → s.comp.formats = [] → Completes (.hpdChange t h false sink) s fun u => u.head h = { s.head h with
      hpd := false, link := none, fallback := false, training := none, failed := none, sending := false, linkLosses := sat 2 ((s.head h).linkLosses + 1) })) ∧
  (∀ (t : Time) (h : Nat) (s : State), h < 16 → Leaves (.irqHpd t h false) s (s.tick t)) ∧
  (∀ (t : Time) (h : Nat) (s : State), h < 16 → (s.head h).hpd = true → (s.head h).link.isSome = true → (s.tick t).trains h = true → Completes (.irqHpd t h true) s fun u => u.head h = { s.head h with
    linkLosses := sat 2 ((s.head h).linkLosses + 1), training := some (s.tick t).clk, trainings := sat 2 ((s.head h).trainings + 1), d3 := false, link := none, fallback := false, sending := false, failed := none }) ∧
  (∀ (t x : Time) (h : Nat) (works : List (Nat × Nat)) (r : TimingRec) (s : State), h < 16 → (s.head h).training = some x → s.trainingRec h = some r → s.comp.formats = [] →
    (∀ c, (trainingOrder r).find? works.contains = some c → Completes (.linkTrainingDone t h works) s fun u =>
      u.head h = { s.head h with training := none, failed := none, link := some c, fallback := c != (r.lanes, r.linkRate) }) ∧
    ((trainingOrder r).find? works.contains = none → Completes (.linkTrainingDone t h works) s fun u =>
      u.head h = { s.head h with training := none, failed := some (s.tick t).clk, link := none, fallback := false })) ∧
  (∀ (t t0 : Time) (h : Nat) (s : State), h < 16 → (s.head h).failed = some t0 → (s.tick t).trains h = true → (s.head h).hpd = true → t0 + 1000000000 ≤ (s.tick t).clk → Completes (.linkRetryTimer t h) s fun u =>
    u.head h = { s.head h with training := some (s.tick t).clk, trainings := sat 2 ((s.head h).trainings + 1), d3 := false, link := none, fallback := false, sending := false, failed := none })

/-- R235, R241, R243, R244, R246, R247: a comparison without a difference marks no window and proves the content it saw; a differing tile makes its window mismatched; a late one makes every safety window of the head so; an unlatched LANTERN clears 1 000 ms after its activation; a failed self-test is a device-wide fault; a corrupt safety configuration is loaded again from its newer valid copy, or takes the values of first start. -/
def Obligations.LanternEventsComplete : Prop :=
  (∀ (t : Time) (h n : Nat) (r : TimingRec) (c : Compared) (s : State), h < 16 → (s.head h).timing = some r → (s.head h).toCompare = [c] → c.frame = n → c.timing.gangSize = 1 → (s.head h).scanning = false → s.comp.findings = [] →
    (c.diffs [] [] h = [] → (∀ e ∈ c.windows, c.decides [] h e = false) → Completes (.lanternCompareDone t h n [] []) s fun u =>
      (u.head h).lastCompared = some n ∧ (u.head h).framesCompared = sat 4 ((s.head h).framesCompared + 1) ∧ (u.head h).lastMismatch = (s.head h).lastMismatch ∧ (u.head h).late = false ∧
      (∀ w, (u.win w).mismatch = (s.win w).mismatch) ∧ (∀ e ∈ c.windows, c.content [] e = true → (u.win e.1.window).unproven = false) ∧ (∀ e ∈ u.comp.holds, e.safety = true → e.head = h → n < e.frame)) ∧
    (∀ (seen : List (Nat × Nat)) (e : WindowDesc × Win × Nat), c.windows = [e] → (∃ y ∈ c.diffs seen [] h, rectEmpty (rectMeet (onHead e.1 c.timing h) (tileRect c.timing y.1)) = false) → Completes (.lanternCompareDone t h n seen []) s fun u =>
      (u.win e.1.window).mismatch = true ∧ (u.win e.1.window).diagnose = some ((c.assigns.filter fun a => a.window == e.1.window).flatMap Assign.scalers) ∧
      (u.head h).lastMismatch = some n ∧ (u.head h).lastCompared = some n ∧ ∀ v, v ≠ e.1.window → u.win v = s.win v) ∧
    (n + 2 ≤ (s.head h).nextFrame → (s.head h).own.getD (s.gen r.sg).tf ≤ (s.tick t).now + 500000 → Completes (.lanternLate t h n) s fun u =>
      (∀ e ∈ c.windows, (u.win e.1.window).mismatch = true) ∧ (u.head h).late = true ∧ (u.head h).lateFrames = sat 2 ((s.head h).lateFrames + 1) ∧ (u.head h).lastMismatch = some n ∧ bit u.health.conditions 2 = true)) ∧
  (∀ (t : Time) (w g : Nat) (s : State), w < 1024 → s.groupOf (s.activeWindow w) = some g → bit (s.win w).active 7 = true → (s.win w).lanternLatched = false → (s.win w).lanternFault = false → (s.win w).mismatch = false →
    (s.gen g).latched = false → (s.gen g).tf ≤ (s.tick t).now + 500000 → (s.win w).lanternAt + 1000500000 ≤ (s.gen g).tf →
    Leaves (.lanternRetry t w) s ((s.tick t).setWin w { s.win w with active := setBit (s.win w).active 7 false, unproven := (s.activeWindow w).kind == 2 })) ∧
  (∀ (t : Time) (s : State), (s.tick t).selftestNow = true → Leaves (.lanternSelftest t true) s { s.tick t with comp := { s.comp with selftestDue := s.comp.selftestDue + 1000000000, selftestPassed := true } } ∧
    Leaves (.lanternSelftest t false) s { s.tick t with comp := { s.comp with selftestDue := s.comp.selftestDue + 1000000000, selftestFail := true, selftestPassed := false } }) ∧
  (∀ (t : Time) (pass : Bool) (s : State), (s.tick t).selftestNow = false → Leaves (.lanternSelftest t pass) s (s.tick t)) ∧
  (∀ (t : Time) (ok : Bool) (s : State), Leaves (.configAudit t false ok) s (s.tick t)) ∧
  (∀ (t : Time) (s : State), (s.tick t).domOn 3 = true →
    (s.comp.copyAOk = true → s.comp.copyBOk = false ∨ s.comp.copyB.generation ≤ s.comp.copyA.generation → Leaves (.configAudit t true true) s { s.tick t with comp := { s.comp with safety := s.comp.copyA, cfgIntact := true } }) ∧
    Leaves (.configAudit t true false) s { s.tick t with comp := { s.comp with copyAOk := false, copyBOk := false, safety := {}, cfgIntact := true, restored := true } })

/-- R265, R269–R271, R274: a picture that an engine has coded is sent, counted, and makes a starting channel RUNNING; one whose host ring cannot take it counts as a ring drop; a draining channel whose picture is finished is CLOSED. -/
def Obligations.EncodeEventsComplete : Prop :=
  (∀ (t : Time) (c : Nat) (o : CodedPicture) (s : State), c < 32 → (s.enc? c).coding = none → Leaves (.encodePictureDone t c o) s (s.tick t)) ∧
  (∀ (t : Time) (c : Nat) (o : CodedPicture) (k : Coding) (s : State), c < 32 → (s.enc? c).coding = some k →
    (k.decl.h265 = true → (s.enc? c).codes k o = none → Leaves (.encodePictureDone t c o) s (s.tick t)) ∧
    ((k.decl.h265 = true → (s.enc? c).codes k o ≠ none) → k.decl.toHost = false → Completes (.encodePictureDone t c o) s fun u => (u.enc? c).pictures = sat 4 ((s.enc? c).pictures + 1) ∧ (u.enc? c).coded = true ∧ (u.enc? c).ringDrops = (s.enc? c).ringDrops ∧
      (u.enc? c).state = (if (s.enc? c).state = .starting then .running else (s.enc? c).state)) ∧
    ((k.decl.h265 = true → (s.enc? c).codes k o ≠ none) → k.decl.toHost = true → o.consumer % 64 ≠ 0 → Completes (.encodePictureDone t c o) s fun u => (u.enc? c).ringDrops = sat 2 ((s.enc? c).ringDrops + 1) ∧ (u.enc? c).pictures = (s.enc? c).pictures ∧ (u.enc? c).producer = (s.enc? c).producer)) ∧
  (∀ (t : Time) (c : Nat) (s : State), c < 32 → (s.enc? c).state = .draining → (s.enc? c).coding = none → (∀ e ∈ s.comp.reEnc, e.1.channel ≠ c) → Completes (.encodeDrainEnd t c) s fun u =>
    (u.enc? c).state = .closed ∧ (u.enc? c).engine = 255 ∧ (u.enc? c).intended = false ∧ ∀ j, j ≠ c → u.enc? j = s.enc? j)

/-! DRAM. -/

/-- R379: under every named hash profile, and under every custom set whose masks meet R378, an address has its own channel, bank, row and column. A block of 4 KiB gives each of the 16 channels one of its 256-byte parts, and lies in one bank and one row. A row of one bank of one channel lies within the block of 512 KiB with the same A[34:19]. -/
def Obligations.AddressMapIsOneToOne : Prop :=
  ∀ p : HashProfile, (p.profile < 4 ∨ p.profile = 4 ∧ ∀ k < 8, maskOk k (p.masks.getD k 0) = true) →
    (∀ a b : Nat, a < 2 ^ 35 → b < 2 ^ 35 → p.channel a = p.channel b → p.bank a = p.bank b → dramRow a = dramRow b →
      a / 65536 % 8 = b / 65536 % 8 → a % 256 = b % 256 → a = b) ∧
    (∀ x : Nat, x < 2 ^ 23 → (∀ c < 16, ∃ part < 16, ∀ o < 4096, p.channel (4096 * x + o) = c ↔ o / 256 = part) ∧
      ∀ o < 4096, p.bank (4096 * x + o) = p.bank (4096 * x) ∧ dramRow (4096 * x + o) = dramRow (4096 * x)) ∧
    ∀ a b : Nat, a < 2 ^ 35 → b < 2 ^ 35 → p.channel a = p.channel b → p.bank a = p.bank b → dramRow a = dramRow b → a / 524288 = b / 524288

/-- R374, R380–R382, R385, R389, R392, R396, R397, R401, R402, R441: a channel without other transfers grants the one that arrives: a write changes the bytes of its block that it covers and no other, a read returns them, and a refused one touches nothing. A slot table takes a shadow that has latched; a refresh goes on time, or waits for queued transfers as far as allowed; a channel trains again every 100 ms or after 5 °C; the scrubber goes on, and a row with an uncorrectable error is marked. -/
def Obligations.DramEventsComplete : Prop :=
  (∀ (t : Time) (c : Nat) (g : GrantInfo) (a : Arrival) (s : State), c < 16 → (s.tick t).domOn 2 = true → (s.channel c).queue = [] → (s.channel c).held = [] → (∀ v, (s.channel c).lfsr = some v → v < 65536) → g.arrivals = [a] → g.blocked = [] → g.ecc = .clean →
    a.requester < 40 → a.requester ≠ 37 → a.address < 2 ^ 35 → s.dram.hash.channel a.address = c → doorAllows (s.rulesOf a.requester) (levelOf a) (accessOf a) a.address = true →
    doorAllows (s.rulesAt s.prot.epoch 0x40) (levelOf a) (accessOf a) a.address = true → Completes (.dramGrant t c g) s fun u =>
      (u.channel c).queue = [] ∧ (∃ y, u.dram.last = some y ∧ y.op = a ∧ y.epoch = s.prot.epoch) ∧ (Memory.wf s.dram.mem = true → Memory.wf u.dram.mem = true) ∧
      (a.write = false → u.dram.mem = s.dram.mem ∧ u.dram.lastData = s.dram.bytes? a.address (min 64 (64 - a.address % 64))) ∧
      (a.write = true → (∀ k, (k < a.address ∨ a.address + min a.data.length (64 - a.address % 64) ≤ k) → u.dram.byte? k = s.dram.byte? k) ∧
        ∀ i < min a.data.length (64 - a.address % 64), u.dram.byte? (a.address + i) = a.data[i]?)) ∧
  (∀ (t : Time) (c : Nat) (g : GrantInfo) (a : Arrival) (s : State), c < 16 → (s.tick t).domOn 2 = true → (s.channel c).queue = [] → (s.channel c).held = [] → g.arrivals = [a] → a.requester ≠ 37 →
    doorAllows (s.rulesOf a.requester) (levelOf a) (accessOf a) a.address = false → Completes (.dramGrant t c g) s fun u => u.dram.mem = s.dram.mem ∧ u.dram.last = s.dram.last ∧ (u.channel c).queue = []) ∧
  (∀ (t x : Time) (c : Nat) (d : SlotShadow) (s : State), c < 16 → (s.tick t).domOn 2 = true → s.dram.shadows = [d] → d.taken.contains c = false → d.latchedAt = some x → x ≤ (s.tick t).clk → Completes (.slotTableWrap t c) s fun u =>
    (u.channel c).owners = (s.takeShadow (s.channel c) d).owners ∧ (d.taken.length < 15 → u.dram.shadows = [{ d with taken := d.taken ++ [c] }]) ∧ (15 ≤ d.taken.length → u.dram.shadows = [])) ∧
  (∀ (t : Time) (c bank : Nat) (n : Int) (s : State), c < 16 → bank < 16 → (s.tick t).domOn 2 = true → n = Map.get 0 (s.channel c).refresh bank →
    (n < refreshSlack → Leaves (.dramRefresh t c bank true) s ((s.tick t).setChannel c { s.channel c with refresh := Map.set (s.channel c).refresh bank (n + 1) })) ∧
    ((∀ y ∈ (s.channel c).queue, s.dram.bankOf y ≠ bank) → (∀ h < 16, (s.head h).panic = false) → -refreshSlack < n → Leaves (.dramRefresh t c bank false) s ((s.tick t).setChannel c { s.channel c with
      refresh := Map.set (s.channel c).refresh bank (n - 1), openRow := Map.del (s.channel c).openRow bank, rowRun := Map.del (s.channel c).rowRun bank }))) ∧
  (∀ (t : Time) (c : Nat) (temp : Int) (s : State), c < 16 → (s.tick t).domOn 2 = true →
    ((s.channel c).trainedAt + 100000000 ≤ (s.tick t).clk ∨ (50 ≤ (temp - (s.channel c).trainTemp).natAbs ∧ (s.channel c).trainFailed = false) →
      Leaves (.dramRetrain t c temp true) s ((s.tick t).setChannel c { s.channel c with trainedAt := (s.tick t).clk, trainTemp := temp, trainFailed := false }) ∧
      Leaves (.dramRetrain t c temp false) s ((s.tick t).setChannel c { s.channel c with trainedAt := (s.tick t).clk, trainFailed := true })) ∧
    ((s.tick t).clk < (s.channel c).trainedAt + 100000000 → ((temp - (s.channel c).trainTemp).natAbs < 50 ∨ (s.channel c).trainFailed = true) → ∀ ok, Leaves (.dramRetrain t c temp ok) s (s.tick t))) ∧
  (∀ (t : Time) (n : Nat) (s : State), (s.tick t).domOn 2 = true → s.health.bgSuspended = false →
    (s.dram.scrubAt + 64 * n < scrubTo → Leaves (.dramScrub t { blocks := n, errors := [] }) s { s.tick t with dram := { s.dram with scrubAt := s.dram.scrubAt + 64 * n } }) ∧
    (scrubTo ≤ s.dram.scrubAt + 64 * n → Leaves (.dramScrub t { blocks := n, errors := [] }) s { s.tick t with dram := { s.dram with scrubAt := scrubFrom, scrubPass := s.dram.scrubPass + 1 } }) ∧
    (∀ a, scrubFrom ≤ a → a < scrubTo → s.dram.handled (s.dram.rowId a) = false → s.dram.repaired.contains ((s.dram.rowId a).channel, (s.dram.rowId a).bank) = false →
      (∀ x ∈ s.dram.marked, x.channel ≠ (s.dram.rowId a).channel ∨ x.bank ≠ (s.dram.rowId a).bank) → Completes (.dramScrub t { blocks := n, errors := [(a, true)] }) s fun u => u.dram.marked = s.dram.marked ++ [s.dram.rowId a] ∧ u.dram.mem = s.dram.mem))

/-! Reset. -/

/-- R207, R303, R321, R377: the state after reset: DEV_STATE reads BOOT, no command waits, no session is open, no mailbox has a response, debug is locked, the hash profile is 1, no plan runs, no stream, window or channel is active, every head's next frame is 0, DRAM holds no value, and the wait queue is empty. Registers without a stated reset value are the model's choice (logs 12, 13, 16–18, 28). -/
def Obligations.ResetStateHolds : Prop :=
  State.reset.pending = [] ∧ State.reset.izent.devState = .boot ∧ State.reset.izent.sessions = [] ∧ (∀ mb, (State.reset.mbx mb).rsp = none ∧ (State.reset.mbx mb).job = none) ∧ State.reset.prot.unlockedAt = none ∧
  State.reset.dram.hash.profile = 1 ∧ State.reset.upd.planState = .none ∧ State.reset.dram.mem = [] ∧ (∀ c, (State.reset.ctx c).state = .closed ∧ (State.reset.ctx c).decoder = 255) ∧ (∀ c, (State.reset.enc? c).state = .closed) ∧
  (∀ w, (State.reset.win w).active = 0) ∧ (∀ h, (State.reset.head h).nextFrame = 0) ∧ State.reset.izent.healthEvents = 0
end

