-- ==== Sys2Proof/Laws/State.lean ====
section
/-! SUPPORT. What each update of a unit leaves alone: one lemma per field and update. -/

namespace Sys2Proof.Machine

/-! `setCtx` -/

@[simp] theorem State.setCtx_time (s : State) (c : Nat) (x : Ctx) : (s.setCtx c x).time = s.time := rfl
@[simp] theorem State.setCtx_izent (s : State) (c : Nat) (x : Ctx) : (s.setCtx c x).izent = s.izent := rfl
@[simp] theorem State.setCtx_recorder (s : State) (c : Nat) (x : Ctx) : (s.setCtx c x).recorder = s.recorder := rfl
@[simp] theorem State.setCtx_prot (s : State) (c : Nat) (x : Ctx) : (s.setCtx c x).prot = s.prot := rfl
@[simp] theorem State.setCtx_power (s : State) (c : Nat) (x : Ctx) : (s.setCtx c x).power = s.power := rfl
@[simp] theorem State.setCtx_health (s : State) (c : Nat) (x : Ctx) : (s.setCtx c x).health = s.health := rfl
@[simp] theorem State.setCtx_upd (s : State) (c : Nat) (x : Ctx) : (s.setCtx c x).upd = s.upd := rfl
@[simp] theorem State.setCtx_comp (s : State) (c : Nat) (x : Ctx) : (s.setCtx c x).comp = s.comp := rfl
@[simp] theorem State.setCtx_enc (s : State) (c : Nat) (x : Ctx) : (s.setCtx c x).enc = s.enc := rfl
@[simp] theorem State.setCtx_lanes (s : State) (c : Nat) (x : Ctx) : (s.setCtx c x).lanes = s.lanes := rfl
@[simp] theorem State.setCtx_touch (s : State) (c : Nat) (x : Ctx) : (s.setCtx c x).touch = s.touch := rfl
@[simp] theorem State.setCtx_dram (s : State) (c : Nat) (x : Ctx) : (s.setCtx c x).dram = s.dram := rfl
@[simp] theorem State.setCtx_out (s : State) (c : Nat) (x : Ctx) : (s.setCtx c x).out = s.out := rfl
@[simp] theorem State.setCtx_freeCtr (s : State) (c : Nat) (x : Ctx) : (s.setCtx c x).freeCtr = s.freeCtr := rfl
@[simp] theorem State.setCtx_pending (s : State) (c : Nat) (x : Ctx) : (s.setCtx c x).pending = s.pending := rfl

/-! `setSrc` -/

@[simp] theorem State.setSrc_time (s : State) (i : Nat) (x : Source) : (s.setSrc i x).time = s.time := rfl
@[simp] theorem State.setSrc_izent (s : State) (i : Nat) (x : Source) : (s.setSrc i x).izent = s.izent := rfl
@[simp] theorem State.setSrc_recorder (s : State) (i : Nat) (x : Source) : (s.setSrc i x).recorder = s.recorder := rfl
@[simp] theorem State.setSrc_prot (s : State) (i : Nat) (x : Source) : (s.setSrc i x).prot = s.prot := rfl
@[simp] theorem State.setSrc_power (s : State) (i : Nat) (x : Source) : (s.setSrc i x).power = s.power := rfl
@[simp] theorem State.setSrc_health (s : State) (i : Nat) (x : Source) : (s.setSrc i x).health = s.health := rfl
@[simp] theorem State.setSrc_upd (s : State) (i : Nat) (x : Source) : (s.setSrc i x).upd = s.upd := rfl
@[simp] theorem State.setSrc_comp (s : State) (i : Nat) (x : Source) : (s.setSrc i x).comp = s.comp := rfl
@[simp] theorem State.setSrc_enc (s : State) (i : Nat) (x : Source) : (s.setSrc i x).enc = s.enc := rfl
@[simp] theorem State.setSrc_lanes (s : State) (i : Nat) (x : Source) : (s.setSrc i x).lanes = s.lanes := rfl
@[simp] theorem State.setSrc_touch (s : State) (i : Nat) (x : Source) : (s.setSrc i x).touch = s.touch := rfl
@[simp] theorem State.setSrc_dram (s : State) (i : Nat) (x : Source) : (s.setSrc i x).dram = s.dram := rfl
@[simp] theorem State.setSrc_out (s : State) (i : Nat) (x : Source) : (s.setSrc i x).out = s.out := rfl
@[simp] theorem State.setSrc_freeCtr (s : State) (i : Nat) (x : Source) : (s.setSrc i x).freeCtr = s.freeCtr := rfl
@[simp] theorem State.setSrc_pending (s : State) (i : Nat) (x : Source) : (s.setSrc i x).pending = s.pending := rfl

/-! `setLane` -/

@[simp] theorem State.setLane_time (s : State) (k : Nat) (x : Lane) : (s.setLane k x).time = s.time := rfl
@[simp] theorem State.setLane_izent (s : State) (k : Nat) (x : Lane) : (s.setLane k x).izent = s.izent := rfl
@[simp] theorem State.setLane_recorder (s : State) (k : Nat) (x : Lane) : (s.setLane k x).recorder = s.recorder := rfl
@[simp] theorem State.setLane_prot (s : State) (k : Nat) (x : Lane) : (s.setLane k x).prot = s.prot := rfl
@[simp] theorem State.setLane_power (s : State) (k : Nat) (x : Lane) : (s.setLane k x).power = s.power := rfl
@[simp] theorem State.setLane_health (s : State) (k : Nat) (x : Lane) : (s.setLane k x).health = s.health := rfl
@[simp] theorem State.setLane_upd (s : State) (k : Nat) (x : Lane) : (s.setLane k x).upd = s.upd := rfl
@[simp] theorem State.setLane_streams (s : State) (k : Nat) (x : Lane) : (s.setLane k x).streams = s.streams := rfl
@[simp] theorem State.setLane_comp (s : State) (k : Nat) (x : Lane) : (s.setLane k x).comp = s.comp := rfl
@[simp] theorem State.setLane_enc (s : State) (k : Nat) (x : Lane) : (s.setLane k x).enc = s.enc := rfl
@[simp] theorem State.setLane_touch (s : State) (k : Nat) (x : Lane) : (s.setLane k x).touch = s.touch := rfl
@[simp] theorem State.setLane_dram (s : State) (k : Nat) (x : Lane) : (s.setLane k x).dram = s.dram := rfl
@[simp] theorem State.setLane_out (s : State) (k : Nat) (x : Lane) : (s.setLane k x).out = s.out := rfl
@[simp] theorem State.setLane_freeCtr (s : State) (k : Nat) (x : Lane) : (s.setLane k x).freeCtr = s.freeCtr := rfl
@[simp] theorem State.setLane_pending (s : State) (k : Nat) (x : Lane) : (s.setLane k x).pending = s.pending := rfl

/-! `setMbx` -/

@[simp] theorem State.setMbx_time (s : State) (m : Nat) (x : Mailbox) : (s.setMbx m x).time = s.time := rfl
@[simp] theorem State.setMbx_recorder (s : State) (m : Nat) (x : Mailbox) : (s.setMbx m x).recorder = s.recorder := rfl
@[simp] theorem State.setMbx_prot (s : State) (m : Nat) (x : Mailbox) : (s.setMbx m x).prot = s.prot := rfl
@[simp] theorem State.setMbx_power (s : State) (m : Nat) (x : Mailbox) : (s.setMbx m x).power = s.power := rfl
@[simp] theorem State.setMbx_health (s : State) (m : Nat) (x : Mailbox) : (s.setMbx m x).health = s.health := rfl
@[simp] theorem State.setMbx_upd (s : State) (m : Nat) (x : Mailbox) : (s.setMbx m x).upd = s.upd := rfl
@[simp] theorem State.setMbx_streams (s : State) (m : Nat) (x : Mailbox) : (s.setMbx m x).streams = s.streams := rfl
@[simp] theorem State.setMbx_comp (s : State) (m : Nat) (x : Mailbox) : (s.setMbx m x).comp = s.comp := rfl
@[simp] theorem State.setMbx_enc (s : State) (m : Nat) (x : Mailbox) : (s.setMbx m x).enc = s.enc := rfl
@[simp] theorem State.setMbx_lanes (s : State) (m : Nat) (x : Mailbox) : (s.setMbx m x).lanes = s.lanes := rfl
@[simp] theorem State.setMbx_touch (s : State) (m : Nat) (x : Mailbox) : (s.setMbx m x).touch = s.touch := rfl
@[simp] theorem State.setMbx_dram (s : State) (m : Nat) (x : Mailbox) : (s.setMbx m x).dram = s.dram := rfl
@[simp] theorem State.setMbx_out (s : State) (m : Nat) (x : Mailbox) : (s.setMbx m x).out = s.out := rfl
@[simp] theorem State.setMbx_freeCtr (s : State) (m : Nat) (x : Mailbox) : (s.setMbx m x).freeCtr = s.freeCtr := rfl
@[simp] theorem State.setMbx_pending (s : State) (m : Nat) (x : Mailbox) : (s.setMbx m x).pending = s.pending := rfl

/-! `setDom` -/

@[simp] theorem State.setDom_time (s : State) (d : Nat) (x : Domain) : (s.setDom d x).time = s.time := rfl
@[simp] theorem State.setDom_izent (s : State) (d : Nat) (x : Domain) : (s.setDom d x).izent = s.izent := rfl
@[simp] theorem State.setDom_recorder (s : State) (d : Nat) (x : Domain) : (s.setDom d x).recorder = s.recorder := rfl
@[simp] theorem State.setDom_prot (s : State) (d : Nat) (x : Domain) : (s.setDom d x).prot = s.prot := rfl
@[simp] theorem State.setDom_health (s : State) (d : Nat) (x : Domain) : (s.setDom d x).health = s.health := rfl
@[simp] theorem State.setDom_upd (s : State) (d : Nat) (x : Domain) : (s.setDom d x).upd = s.upd := rfl
@[simp] theorem State.setDom_streams (s : State) (d : Nat) (x : Domain) : (s.setDom d x).streams = s.streams := rfl
@[simp] theorem State.setDom_comp (s : State) (d : Nat) (x : Domain) : (s.setDom d x).comp = s.comp := rfl
@[simp] theorem State.setDom_enc (s : State) (d : Nat) (x : Domain) : (s.setDom d x).enc = s.enc := rfl
@[simp] theorem State.setDom_lanes (s : State) (d : Nat) (x : Domain) : (s.setDom d x).lanes = s.lanes := rfl
@[simp] theorem State.setDom_touch (s : State) (d : Nat) (x : Domain) : (s.setDom d x).touch = s.touch := rfl
@[simp] theorem State.setDom_dram (s : State) (d : Nat) (x : Domain) : (s.setDom d x).dram = s.dram := rfl
@[simp] theorem State.setDom_out (s : State) (d : Nat) (x : Domain) : (s.setDom d x).out = s.out := rfl
@[simp] theorem State.setDom_freeCtr (s : State) (d : Nat) (x : Domain) : (s.setDom d x).freeCtr = s.freeCtr := rfl
@[simp] theorem State.setDom_pending (s : State) (d : Nat) (x : Domain) : (s.setDom d x).pending = s.pending := rfl

/-! `setFeed` -/

@[simp] theorem State.setFeed_time (s : State) (f : Nat) (x : Feed) : (s.setFeed f x).time = s.time := rfl
@[simp] theorem State.setFeed_izent (s : State) (f : Nat) (x : Feed) : (s.setFeed f x).izent = s.izent := rfl
@[simp] theorem State.setFeed_recorder (s : State) (f : Nat) (x : Feed) : (s.setFeed f x).recorder = s.recorder := rfl
@[simp] theorem State.setFeed_prot (s : State) (f : Nat) (x : Feed) : (s.setFeed f x).prot = s.prot := rfl
@[simp] theorem State.setFeed_health (s : State) (f : Nat) (x : Feed) : (s.setFeed f x).health = s.health := rfl
@[simp] theorem State.setFeed_upd (s : State) (f : Nat) (x : Feed) : (s.setFeed f x).upd = s.upd := rfl
@[simp] theorem State.setFeed_streams (s : State) (f : Nat) (x : Feed) : (s.setFeed f x).streams = s.streams := rfl
@[simp] theorem State.setFeed_comp (s : State) (f : Nat) (x : Feed) : (s.setFeed f x).comp = s.comp := rfl
@[simp] theorem State.setFeed_enc (s : State) (f : Nat) (x : Feed) : (s.setFeed f x).enc = s.enc := rfl
@[simp] theorem State.setFeed_lanes (s : State) (f : Nat) (x : Feed) : (s.setFeed f x).lanes = s.lanes := rfl
@[simp] theorem State.setFeed_touch (s : State) (f : Nat) (x : Feed) : (s.setFeed f x).touch = s.touch := rfl
@[simp] theorem State.setFeed_dram (s : State) (f : Nat) (x : Feed) : (s.setFeed f x).dram = s.dram := rfl
@[simp] theorem State.setFeed_out (s : State) (f : Nat) (x : Feed) : (s.setFeed f x).out = s.out := rfl
@[simp] theorem State.setFeed_freeCtr (s : State) (f : Nat) (x : Feed) : (s.setFeed f x).freeCtr = s.freeCtr := rfl
@[simp] theorem State.setFeed_pending (s : State) (f : Nat) (x : Feed) : (s.setFeed f x).pending = s.pending := rfl

/-! `setImage` -/

@[simp] theorem State.setImage_time (s : State) (i : Nat) (x : Image) : (s.setImage i x).time = s.time := rfl
@[simp] theorem State.setImage_izent (s : State) (i : Nat) (x : Image) : (s.setImage i x).izent = s.izent := rfl
@[simp] theorem State.setImage_recorder (s : State) (i : Nat) (x : Image) : (s.setImage i x).recorder = s.recorder := rfl
@[simp] theorem State.setImage_prot (s : State) (i : Nat) (x : Image) : (s.setImage i x).prot = s.prot := rfl
@[simp] theorem State.setImage_power (s : State) (i : Nat) (x : Image) : (s.setImage i x).power = s.power := rfl
@[simp] theorem State.setImage_health (s : State) (i : Nat) (x : Image) : (s.setImage i x).health = s.health := rfl
@[simp] theorem State.setImage_streams (s : State) (i : Nat) (x : Image) : (s.setImage i x).streams = s.streams := rfl
@[simp] theorem State.setImage_comp (s : State) (i : Nat) (x : Image) : (s.setImage i x).comp = s.comp := rfl
@[simp] theorem State.setImage_enc (s : State) (i : Nat) (x : Image) : (s.setImage i x).enc = s.enc := rfl
@[simp] theorem State.setImage_lanes (s : State) (i : Nat) (x : Image) : (s.setImage i x).lanes = s.lanes := rfl
@[simp] theorem State.setImage_touch (s : State) (i : Nat) (x : Image) : (s.setImage i x).touch = s.touch := rfl
@[simp] theorem State.setImage_dram (s : State) (i : Nat) (x : Image) : (s.setImage i x).dram = s.dram := rfl
@[simp] theorem State.setImage_out (s : State) (i : Nat) (x : Image) : (s.setImage i x).out = s.out := rfl
@[simp] theorem State.setImage_freeCtr (s : State) (i : Nat) (x : Image) : (s.setImage i x).freeCtr = s.freeCtr := rfl
@[simp] theorem State.setImage_pending (s : State) (i : Nat) (x : Image) : (s.setImage i x).pending = s.pending := rfl

/-! `setEl` -/

@[simp] theorem State.setEl_time (s : State) (e : Nat) (x : Electrode) : (s.setEl e x).time = s.time := rfl
@[simp] theorem State.setEl_izent (s : State) (e : Nat) (x : Electrode) : (s.setEl e x).izent = s.izent := rfl
@[simp] theorem State.setEl_recorder (s : State) (e : Nat) (x : Electrode) : (s.setEl e x).recorder = s.recorder := rfl
@[simp] theorem State.setEl_prot (s : State) (e : Nat) (x : Electrode) : (s.setEl e x).prot = s.prot := rfl
@[simp] theorem State.setEl_power (s : State) (e : Nat) (x : Electrode) : (s.setEl e x).power = s.power := rfl
@[simp] theorem State.setEl_health (s : State) (e : Nat) (x : Electrode) : (s.setEl e x).health = s.health := rfl
@[simp] theorem State.setEl_upd (s : State) (e : Nat) (x : Electrode) : (s.setEl e x).upd = s.upd := rfl
@[simp] theorem State.setEl_streams (s : State) (e : Nat) (x : Electrode) : (s.setEl e x).streams = s.streams := rfl
@[simp] theorem State.setEl_comp (s : State) (e : Nat) (x : Electrode) : (s.setEl e x).comp = s.comp := rfl
@[simp] theorem State.setEl_enc (s : State) (e : Nat) (x : Electrode) : (s.setEl e x).enc = s.enc := rfl
@[simp] theorem State.setEl_lanes (s : State) (e : Nat) (x : Electrode) : (s.setEl e x).lanes = s.lanes := rfl
@[simp] theorem State.setEl_dram (s : State) (e : Nat) (x : Electrode) : (s.setEl e x).dram = s.dram := rfl
@[simp] theorem State.setEl_out (s : State) (e : Nat) (x : Electrode) : (s.setEl e x).out = s.out := rfl
@[simp] theorem State.setEl_freeCtr (s : State) (e : Nat) (x : Electrode) : (s.setEl e x).freeCtr = s.freeCtr := rfl
@[simp] theorem State.setEl_pending (s : State) (e : Nat) (x : Electrode) : (s.setEl e x).pending = s.pending := rfl

/-! `setGrp` -/

@[simp] theorem State.setGrp_time (s : State) (g : Nat) (x : KeyGroup) : (s.setGrp g x).time = s.time := rfl
@[simp] theorem State.setGrp_izent (s : State) (g : Nat) (x : KeyGroup) : (s.setGrp g x).izent = s.izent := rfl
@[simp] theorem State.setGrp_recorder (s : State) (g : Nat) (x : KeyGroup) : (s.setGrp g x).recorder = s.recorder := rfl
@[simp] theorem State.setGrp_prot (s : State) (g : Nat) (x : KeyGroup) : (s.setGrp g x).prot = s.prot := rfl
@[simp] theorem State.setGrp_power (s : State) (g : Nat) (x : KeyGroup) : (s.setGrp g x).power = s.power := rfl
@[simp] theorem State.setGrp_health (s : State) (g : Nat) (x : KeyGroup) : (s.setGrp g x).health = s.health := rfl
@[simp] theorem State.setGrp_upd (s : State) (g : Nat) (x : KeyGroup) : (s.setGrp g x).upd = s.upd := rfl
@[simp] theorem State.setGrp_streams (s : State) (g : Nat) (x : KeyGroup) : (s.setGrp g x).streams = s.streams := rfl
@[simp] theorem State.setGrp_comp (s : State) (g : Nat) (x : KeyGroup) : (s.setGrp g x).comp = s.comp := rfl
@[simp] theorem State.setGrp_enc (s : State) (g : Nat) (x : KeyGroup) : (s.setGrp g x).enc = s.enc := rfl
@[simp] theorem State.setGrp_lanes (s : State) (g : Nat) (x : KeyGroup) : (s.setGrp g x).lanes = s.lanes := rfl
@[simp] theorem State.setGrp_dram (s : State) (g : Nat) (x : KeyGroup) : (s.setGrp g x).dram = s.dram := rfl
@[simp] theorem State.setGrp_out (s : State) (g : Nat) (x : KeyGroup) : (s.setGrp g x).out = s.out := rfl
@[simp] theorem State.setGrp_freeCtr (s : State) (g : Nat) (x : KeyGroup) : (s.setGrp g x).freeCtr = s.freeCtr := rfl
@[simp] theorem State.setGrp_pending (s : State) (g : Nat) (x : KeyGroup) : (s.setGrp g x).pending = s.pending := rfl

/-! `setBase` -/

@[simp] theorem State.setBase_izent (s : State) (b : Nat) (x : Base) : (s.setBase b x).izent = s.izent := rfl
@[simp] theorem State.setBase_recorder (s : State) (b : Nat) (x : Base) : (s.setBase b x).recorder = s.recorder := rfl
@[simp] theorem State.setBase_prot (s : State) (b : Nat) (x : Base) : (s.setBase b x).prot = s.prot := rfl
@[simp] theorem State.setBase_power (s : State) (b : Nat) (x : Base) : (s.setBase b x).power = s.power := rfl
@[simp] theorem State.setBase_health (s : State) (b : Nat) (x : Base) : (s.setBase b x).health = s.health := rfl
@[simp] theorem State.setBase_upd (s : State) (b : Nat) (x : Base) : (s.setBase b x).upd = s.upd := rfl
@[simp] theorem State.setBase_streams (s : State) (b : Nat) (x : Base) : (s.setBase b x).streams = s.streams := rfl
@[simp] theorem State.setBase_comp (s : State) (b : Nat) (x : Base) : (s.setBase b x).comp = s.comp := rfl
@[simp] theorem State.setBase_enc (s : State) (b : Nat) (x : Base) : (s.setBase b x).enc = s.enc := rfl
@[simp] theorem State.setBase_lanes (s : State) (b : Nat) (x : Base) : (s.setBase b x).lanes = s.lanes := rfl
@[simp] theorem State.setBase_touch (s : State) (b : Nat) (x : Base) : (s.setBase b x).touch = s.touch := rfl
@[simp] theorem State.setBase_dram (s : State) (b : Nat) (x : Base) : (s.setBase b x).dram = s.dram := rfl
@[simp] theorem State.setBase_out (s : State) (b : Nat) (x : Base) : (s.setBase b x).out = s.out := rfl
@[simp] theorem State.setBase_freeCtr (s : State) (b : Nat) (x : Base) : (s.setBase b x).freeCtr = s.freeCtr := rfl
@[simp] theorem State.setBase_pending (s : State) (b : Nat) (x : Base) : (s.setBase b x).pending = s.pending := rfl

/-! `setGrpC` -/

@[simp] theorem State.setGrpC_time (s : State) (g : Nat) (x : Group) : (s.setGrpC g x).time = s.time := rfl
@[simp] theorem State.setGrpC_izent (s : State) (g : Nat) (x : Group) : (s.setGrpC g x).izent = s.izent := rfl
@[simp] theorem State.setGrpC_recorder (s : State) (g : Nat) (x : Group) : (s.setGrpC g x).recorder = s.recorder := rfl
@[simp] theorem State.setGrpC_prot (s : State) (g : Nat) (x : Group) : (s.setGrpC g x).prot = s.prot := rfl
@[simp] theorem State.setGrpC_power (s : State) (g : Nat) (x : Group) : (s.setGrpC g x).power = s.power := rfl
@[simp] theorem State.setGrpC_health (s : State) (g : Nat) (x : Group) : (s.setGrpC g x).health = s.health := rfl
@[simp] theorem State.setGrpC_upd (s : State) (g : Nat) (x : Group) : (s.setGrpC g x).upd = s.upd := rfl
@[simp] theorem State.setGrpC_streams (s : State) (g : Nat) (x : Group) : (s.setGrpC g x).streams = s.streams := rfl
@[simp] theorem State.setGrpC_enc (s : State) (g : Nat) (x : Group) : (s.setGrpC g x).enc = s.enc := rfl
@[simp] theorem State.setGrpC_lanes (s : State) (g : Nat) (x : Group) : (s.setGrpC g x).lanes = s.lanes := rfl
@[simp] theorem State.setGrpC_touch (s : State) (g : Nat) (x : Group) : (s.setGrpC g x).touch = s.touch := rfl
@[simp] theorem State.setGrpC_dram (s : State) (g : Nat) (x : Group) : (s.setGrpC g x).dram = s.dram := rfl
@[simp] theorem State.setGrpC_out (s : State) (g : Nat) (x : Group) : (s.setGrpC g x).out = s.out := rfl
@[simp] theorem State.setGrpC_freeCtr (s : State) (g : Nat) (x : Group) : (s.setGrpC g x).freeCtr = s.freeCtr := rfl
@[simp] theorem State.setGrpC_pending (s : State) (g : Nat) (x : Group) : (s.setGrpC g x).pending = s.pending := rfl

/-! `setWin` -/

@[simp] theorem State.setWin_time (s : State) (w : Nat) (x : Win) : (s.setWin w x).time = s.time := rfl
@[simp] theorem State.setWin_izent (s : State) (w : Nat) (x : Win) : (s.setWin w x).izent = s.izent := rfl
@[simp] theorem State.setWin_recorder (s : State) (w : Nat) (x : Win) : (s.setWin w x).recorder = s.recorder := rfl
@[simp] theorem State.setWin_prot (s : State) (w : Nat) (x : Win) : (s.setWin w x).prot = s.prot := rfl
@[simp] theorem State.setWin_power (s : State) (w : Nat) (x : Win) : (s.setWin w x).power = s.power := rfl
@[simp] theorem State.setWin_health (s : State) (w : Nat) (x : Win) : (s.setWin w x).health = s.health := rfl
@[simp] theorem State.setWin_upd (s : State) (w : Nat) (x : Win) : (s.setWin w x).upd = s.upd := rfl
@[simp] theorem State.setWin_streams (s : State) (w : Nat) (x : Win) : (s.setWin w x).streams = s.streams := rfl
@[simp] theorem State.setWin_enc (s : State) (w : Nat) (x : Win) : (s.setWin w x).enc = s.enc := rfl
@[simp] theorem State.setWin_lanes (s : State) (w : Nat) (x : Win) : (s.setWin w x).lanes = s.lanes := rfl
@[simp] theorem State.setWin_touch (s : State) (w : Nat) (x : Win) : (s.setWin w x).touch = s.touch := rfl
@[simp] theorem State.setWin_dram (s : State) (w : Nat) (x : Win) : (s.setWin w x).dram = s.dram := rfl
@[simp] theorem State.setWin_out (s : State) (w : Nat) (x : Win) : (s.setWin w x).out = s.out := rfl
@[simp] theorem State.setWin_freeCtr (s : State) (w : Nat) (x : Win) : (s.setWin w x).freeCtr = s.freeCtr := rfl
@[simp] theorem State.setWin_pending (s : State) (w : Nat) (x : Win) : (s.setWin w x).pending = s.pending := rfl

/-! `setHead` -/

@[simp] theorem State.setHead_time (s : State) (h : Nat) (x : Head) : (s.setHead h x).time = s.time := rfl
@[simp] theorem State.setHead_izent (s : State) (h : Nat) (x : Head) : (s.setHead h x).izent = s.izent := rfl
@[simp] theorem State.setHead_recorder (s : State) (h : Nat) (x : Head) : (s.setHead h x).recorder = s.recorder := rfl
@[simp] theorem State.setHead_prot (s : State) (h : Nat) (x : Head) : (s.setHead h x).prot = s.prot := rfl
@[simp] theorem State.setHead_power (s : State) (h : Nat) (x : Head) : (s.setHead h x).power = s.power := rfl
@[simp] theorem State.setHead_health (s : State) (h : Nat) (x : Head) : (s.setHead h x).health = s.health := rfl
@[simp] theorem State.setHead_upd (s : State) (h : Nat) (x : Head) : (s.setHead h x).upd = s.upd := rfl
@[simp] theorem State.setHead_streams (s : State) (h : Nat) (x : Head) : (s.setHead h x).streams = s.streams := rfl
@[simp] theorem State.setHead_enc (s : State) (h : Nat) (x : Head) : (s.setHead h x).enc = s.enc := rfl
@[simp] theorem State.setHead_lanes (s : State) (h : Nat) (x : Head) : (s.setHead h x).lanes = s.lanes := rfl
@[simp] theorem State.setHead_touch (s : State) (h : Nat) (x : Head) : (s.setHead h x).touch = s.touch := rfl
@[simp] theorem State.setHead_dram (s : State) (h : Nat) (x : Head) : (s.setHead h x).dram = s.dram := rfl
@[simp] theorem State.setHead_out (s : State) (h : Nat) (x : Head) : (s.setHead h x).out = s.out := rfl
@[simp] theorem State.setHead_freeCtr (s : State) (h : Nat) (x : Head) : (s.setHead h x).freeCtr = s.freeCtr := rfl
@[simp] theorem State.setHead_pending (s : State) (h : Nat) (x : Head) : (s.setHead h x).pending = s.pending := rfl

/-! `setGen` -/

@[simp] theorem State.setGen_time (s : State) (g : Nat) (x : Gen) : (s.setGen g x).time = s.time := rfl
@[simp] theorem State.setGen_izent (s : State) (g : Nat) (x : Gen) : (s.setGen g x).izent = s.izent := rfl
@[simp] theorem State.setGen_recorder (s : State) (g : Nat) (x : Gen) : (s.setGen g x).recorder = s.recorder := rfl
@[simp] theorem State.setGen_prot (s : State) (g : Nat) (x : Gen) : (s.setGen g x).prot = s.prot := rfl
@[simp] theorem State.setGen_power (s : State) (g : Nat) (x : Gen) : (s.setGen g x).power = s.power := rfl
@[simp] theorem State.setGen_health (s : State) (g : Nat) (x : Gen) : (s.setGen g x).health = s.health := rfl
@[simp] theorem State.setGen_upd (s : State) (g : Nat) (x : Gen) : (s.setGen g x).upd = s.upd := rfl
@[simp] theorem State.setGen_streams (s : State) (g : Nat) (x : Gen) : (s.setGen g x).streams = s.streams := rfl
@[simp] theorem State.setGen_enc (s : State) (g : Nat) (x : Gen) : (s.setGen g x).enc = s.enc := rfl
@[simp] theorem State.setGen_lanes (s : State) (g : Nat) (x : Gen) : (s.setGen g x).lanes = s.lanes := rfl
@[simp] theorem State.setGen_touch (s : State) (g : Nat) (x : Gen) : (s.setGen g x).touch = s.touch := rfl
@[simp] theorem State.setGen_dram (s : State) (g : Nat) (x : Gen) : (s.setGen g x).dram = s.dram := rfl
@[simp] theorem State.setGen_out (s : State) (g : Nat) (x : Gen) : (s.setGen g x).out = s.out := rfl
@[simp] theorem State.setGen_freeCtr (s : State) (g : Nat) (x : Gen) : (s.setGen g x).freeCtr = s.freeCtr := rfl
@[simp] theorem State.setGen_pending (s : State) (g : Nat) (x : Gen) : (s.setGen g x).pending = s.pending := rfl

/-! `setEnc` -/

@[simp] theorem State.setEnc_time (s : State) (c : Nat) (x : EncChan) : (s.setEnc c x).time = s.time := rfl
@[simp] theorem State.setEnc_izent (s : State) (c : Nat) (x : EncChan) : (s.setEnc c x).izent = s.izent := rfl
@[simp] theorem State.setEnc_recorder (s : State) (c : Nat) (x : EncChan) : (s.setEnc c x).recorder = s.recorder := rfl
@[simp] theorem State.setEnc_prot (s : State) (c : Nat) (x : EncChan) : (s.setEnc c x).prot = s.prot := rfl
@[simp] theorem State.setEnc_power (s : State) (c : Nat) (x : EncChan) : (s.setEnc c x).power = s.power := rfl
@[simp] theorem State.setEnc_health (s : State) (c : Nat) (x : EncChan) : (s.setEnc c x).health = s.health := rfl
@[simp] theorem State.setEnc_upd (s : State) (c : Nat) (x : EncChan) : (s.setEnc c x).upd = s.upd := rfl
@[simp] theorem State.setEnc_streams (s : State) (c : Nat) (x : EncChan) : (s.setEnc c x).streams = s.streams := rfl
@[simp] theorem State.setEnc_comp (s : State) (c : Nat) (x : EncChan) : (s.setEnc c x).comp = s.comp := rfl
@[simp] theorem State.setEnc_lanes (s : State) (c : Nat) (x : EncChan) : (s.setEnc c x).lanes = s.lanes := rfl
@[simp] theorem State.setEnc_touch (s : State) (c : Nat) (x : EncChan) : (s.setEnc c x).touch = s.touch := rfl
@[simp] theorem State.setEnc_dram (s : State) (c : Nat) (x : EncChan) : (s.setEnc c x).dram = s.dram := rfl
@[simp] theorem State.setEnc_out (s : State) (c : Nat) (x : EncChan) : (s.setEnc c x).out = s.out := rfl
@[simp] theorem State.setEnc_freeCtr (s : State) (c : Nat) (x : EncChan) : (s.setEnc c x).freeCtr = s.freeCtr := rfl
@[simp] theorem State.setEnc_pending (s : State) (c : Nat) (x : EncChan) : (s.setEnc c x).pending = s.pending := rfl

/-! `useFree` -/

@[simp] theorem State.useFree_time (s : State) : (s.useFree).time = s.time := rfl
@[simp] theorem State.useFree_izent (s : State) : (s.useFree).izent = s.izent := rfl
@[simp] theorem State.useFree_recorder (s : State) : (s.useFree).recorder = s.recorder := rfl
@[simp] theorem State.useFree_prot (s : State) : (s.useFree).prot = s.prot := rfl
@[simp] theorem State.useFree_power (s : State) : (s.useFree).power = s.power := rfl
@[simp] theorem State.useFree_health (s : State) : (s.useFree).health = s.health := rfl
@[simp] theorem State.useFree_upd (s : State) : (s.useFree).upd = s.upd := rfl
@[simp] theorem State.useFree_streams (s : State) : (s.useFree).streams = s.streams := rfl
@[simp] theorem State.useFree_comp (s : State) : (s.useFree).comp = s.comp := rfl
@[simp] theorem State.useFree_enc (s : State) : (s.useFree).enc = s.enc := rfl
@[simp] theorem State.useFree_lanes (s : State) : (s.useFree).lanes = s.lanes := rfl
@[simp] theorem State.useFree_touch (s : State) : (s.useFree).touch = s.touch := rfl
@[simp] theorem State.useFree_dram (s : State) : (s.useFree).dram = s.dram := rfl
@[simp] theorem State.useFree_out (s : State) : (s.useFree).out = s.out := rfl
@[simp] theorem State.useFree_pending (s : State) : (s.useFree).pending = s.pending := rfl

/-! `hostWrite` -/

@[simp] theorem State.hostWrite_time (s : State) (a : Nat) (bs : Bytes) : (s.hostWrite a bs).time = s.time := rfl
@[simp] theorem State.hostWrite_izent (s : State) (a : Nat) (bs : Bytes) : (s.hostWrite a bs).izent = s.izent := rfl
@[simp] theorem State.hostWrite_recorder (s : State) (a : Nat) (bs : Bytes) : (s.hostWrite a bs).recorder = s.recorder := rfl
@[simp] theorem State.hostWrite_prot (s : State) (a : Nat) (bs : Bytes) : (s.hostWrite a bs).prot = s.prot := rfl
@[simp] theorem State.hostWrite_power (s : State) (a : Nat) (bs : Bytes) : (s.hostWrite a bs).power = s.power := rfl
@[simp] theorem State.hostWrite_health (s : State) (a : Nat) (bs : Bytes) : (s.hostWrite a bs).health = s.health := rfl
@[simp] theorem State.hostWrite_upd (s : State) (a : Nat) (bs : Bytes) : (s.hostWrite a bs).upd = s.upd := rfl
@[simp] theorem State.hostWrite_streams (s : State) (a : Nat) (bs : Bytes) : (s.hostWrite a bs).streams = s.streams := rfl
@[simp] theorem State.hostWrite_comp (s : State) (a : Nat) (bs : Bytes) : (s.hostWrite a bs).comp = s.comp := rfl
@[simp] theorem State.hostWrite_enc (s : State) (a : Nat) (bs : Bytes) : (s.hostWrite a bs).enc = s.enc := rfl
@[simp] theorem State.hostWrite_lanes (s : State) (a : Nat) (bs : Bytes) : (s.hostWrite a bs).lanes = s.lanes := rfl
@[simp] theorem State.hostWrite_touch (s : State) (a : Nat) (bs : Bytes) : (s.hostWrite a bs).touch = s.touch := rfl
@[simp] theorem State.hostWrite_dram (s : State) (a : Nat) (bs : Bytes) : (s.hostWrite a bs).dram = s.dram := rfl
@[simp] theorem State.hostWrite_freeCtr (s : State) (a : Nat) (bs : Bytes) : (s.hostWrite a bs).freeCtr = s.freeCtr := rfl
@[simp] theorem State.hostWrite_pending (s : State) (a : Nat) (bs : Bytes) : (s.hostWrite a bs).pending = s.pending := rfl

/-! `send` -/

@[simp] theorem State.send_time (s : State) (p : Nat) (bs : Bytes) : (s.send p bs).time = s.time := rfl
@[simp] theorem State.send_izent (s : State) (p : Nat) (bs : Bytes) : (s.send p bs).izent = s.izent := rfl
@[simp] theorem State.send_recorder (s : State) (p : Nat) (bs : Bytes) : (s.send p bs).recorder = s.recorder := rfl
@[simp] theorem State.send_prot (s : State) (p : Nat) (bs : Bytes) : (s.send p bs).prot = s.prot := rfl
@[simp] theorem State.send_power (s : State) (p : Nat) (bs : Bytes) : (s.send p bs).power = s.power := rfl
@[simp] theorem State.send_health (s : State) (p : Nat) (bs : Bytes) : (s.send p bs).health = s.health := rfl
@[simp] theorem State.send_upd (s : State) (p : Nat) (bs : Bytes) : (s.send p bs).upd = s.upd := rfl
@[simp] theorem State.send_streams (s : State) (p : Nat) (bs : Bytes) : (s.send p bs).streams = s.streams := rfl
@[simp] theorem State.send_comp (s : State) (p : Nat) (bs : Bytes) : (s.send p bs).comp = s.comp := rfl
@[simp] theorem State.send_enc (s : State) (p : Nat) (bs : Bytes) : (s.send p bs).enc = s.enc := rfl
@[simp] theorem State.send_lanes (s : State) (p : Nat) (bs : Bytes) : (s.send p bs).lanes = s.lanes := rfl
@[simp] theorem State.send_touch (s : State) (p : Nat) (bs : Bytes) : (s.send p bs).touch = s.touch := rfl
@[simp] theorem State.send_dram (s : State) (p : Nat) (bs : Bytes) : (s.send p bs).dram = s.dram := rfl
@[simp] theorem State.send_freeCtr (s : State) (p : Nat) (bs : Bytes) : (s.send p bs).freeCtr = s.freeCtr := rfl
@[simp] theorem State.send_pending (s : State) (p : Nat) (bs : Bytes) : (s.send p bs).pending = s.pending := rfl

/-! `tick` -/

@[simp] theorem State.tick_izent (s : State) (t : Time) : (s.tick t).izent = s.izent := rfl
@[simp] theorem State.tick_recorder (s : State) (t : Time) : (s.tick t).recorder = s.recorder := rfl
@[simp] theorem State.tick_prot (s : State) (t : Time) : (s.tick t).prot = s.prot := rfl
@[simp] theorem State.tick_power (s : State) (t : Time) : (s.tick t).power = s.power := rfl
@[simp] theorem State.tick_health (s : State) (t : Time) : (s.tick t).health = s.health := rfl
@[simp] theorem State.tick_upd (s : State) (t : Time) : (s.tick t).upd = s.upd := rfl
@[simp] theorem State.tick_streams (s : State) (t : Time) : (s.tick t).streams = s.streams := rfl
@[simp] theorem State.tick_comp (s : State) (t : Time) : (s.tick t).comp = s.comp := rfl
@[simp] theorem State.tick_enc (s : State) (t : Time) : (s.tick t).enc = s.enc := rfl
@[simp] theorem State.tick_lanes (s : State) (t : Time) : (s.tick t).lanes = s.lanes := rfl
@[simp] theorem State.tick_touch (s : State) (t : Time) : (s.tick t).touch = s.touch := rfl
@[simp] theorem State.tick_dram (s : State) (t : Time) : (s.tick t).dram = s.dram := rfl
@[simp] theorem State.tick_freeCtr (s : State) (t : Time) : (s.tick t).freeCtr = s.freeCtr := rfl
@[simp] theorem State.tick_pending (s : State) (t : Time) : (s.tick t).pending = s.pending := rfl

/-! `raise` -/

@[simp] theorem State.raise_time (s : State) (v : Nat) : (s.raise v).time = s.time := rfl
@[simp] theorem State.raise_recorder (s : State) (v : Nat) : (s.raise v).recorder = s.recorder := rfl
@[simp] theorem State.raise_prot (s : State) (v : Nat) : (s.raise v).prot = s.prot := rfl
@[simp] theorem State.raise_power (s : State) (v : Nat) : (s.raise v).power = s.power := rfl
@[simp] theorem State.raise_health (s : State) (v : Nat) : (s.raise v).health = s.health := rfl
@[simp] theorem State.raise_upd (s : State) (v : Nat) : (s.raise v).upd = s.upd := rfl
@[simp] theorem State.raise_streams (s : State) (v : Nat) : (s.raise v).streams = s.streams := rfl
@[simp] theorem State.raise_comp (s : State) (v : Nat) : (s.raise v).comp = s.comp := rfl
@[simp] theorem State.raise_enc (s : State) (v : Nat) : (s.raise v).enc = s.enc := rfl
@[simp] theorem State.raise_lanes (s : State) (v : Nat) : (s.raise v).lanes = s.lanes := rfl
@[simp] theorem State.raise_touch (s : State) (v : Nat) : (s.raise v).touch = s.touch := rfl
@[simp] theorem State.raise_dram (s : State) (v : Nat) : (s.raise v).dram = s.dram := rfl
@[simp] theorem State.raise_freeCtr (s : State) (v : Nat) : (s.raise v).freeCtr = s.freeCtr := rfl
@[simp] theorem State.raise_pending (s : State) (v : Nat) : (s.raise v).pending = s.pending := rfl

end Sys2Proof.Machine
end

