-- ==== Sys2Proof/Laws/Maps.lean ====
section
/-! SUPPORT. Tables by unit index: what is read after a write, and the units of the state after an update. -/

namespace Sys2Proof.Machine

@[simp] theorem Map.get_set_same {α : Type} (d v : α) (m : Map α) (k : Nat) : Map.get d (Map.set m k v) k = v := by
  induction m with
  | nil => simp [Map.set, Map.get]
  | cons e m ih =>
    obtain ⟨j, u⟩ := e
    simp only [Map.set]
    split
    · simp [Map.get]
    · split
      · simp [Map.get]
      · rename_i h; simp [Map.get, h, ih]

theorem Map.get_set_other {α : Type} (d v : α) (m : Map α) {k i : Nat} (h : i ≠ k) : Map.get d (Map.set m k v) i = Map.get d m i := by
  induction m with
  | nil => simp [Map.set, Map.get, Ne.symm h]
  | cons e m ih =>
    obtain ⟨j, u⟩ := e
    simp only [Map.set]
    split
    · simp [Map.get, Ne.symm h]
    · split
      · rename_i hj; subst hj; simp [Map.get, Ne.symm h]
      · simp [Map.get, ih]

@[simp] theorem Map.get?_set_same {α : Type} (v : α) (m : Map α) (k : Nat) : Map.get? (Map.set m k v) k = some v := by
  induction m with
  | nil => simp [Map.set, Map.get?]
  | cons e m ih =>
    obtain ⟨j, u⟩ := e
    simp only [Map.set]
    split
    · simp [Map.get?]
    · split
      · simp [Map.get?]
      · rename_i h; simp [Map.get?, h, ih]

/-! Units after an update of the same kind. -/

@[simp] theorem State.ctx_setCtx (s : State) (c : Nat) (x : Ctx) : (s.setCtx c x).ctx c = x := Map.get_set_same _ _ _ _
@[simp] theorem State.src_setSrc (s : State) (i : Nat) (x : Source) : (s.setSrc i x).src i = x := Map.get_set_same _ _ _ _
@[simp] theorem State.lane_setLane (s : State) (k : Nat) (x : Lane) : (s.setLane k x).lane k = x := Map.get_set_same _ _ _ _
@[simp] theorem State.mbx_setMbx (s : State) (m : Nat) (x : Mailbox) : (s.setMbx m x).mbx m = x := Map.get_set_same _ _ _ _
@[simp] theorem State.dom_setDom (s : State) (d : Nat) (x : Domain) : (s.setDom d x).dom d = x := Map.get_set_same _ _ _ _
@[simp] theorem State.feed_setFeed (s : State) (f : Nat) (x : Feed) : (s.setFeed f x).feed f = x := Map.get_set_same _ _ _ _
@[simp] theorem State.image_setImage (s : State) (i : Nat) (x : Image) : (s.setImage i x).image i = x := Map.get_set_same _ _ _ _
@[simp] theorem State.el_setEl (s : State) (e : Nat) (x : Electrode) : (s.setEl e x).el e = x := Map.get_set_same _ _ _ _
@[simp] theorem State.grp_setGrp (s : State) (g : Nat) (x : KeyGroup) : (s.setGrp g x).grp g = x := Map.get_set_same _ _ _ _
@[simp] theorem State.grpC_setGrpC (s : State) (g : Nat) (x : Group) : (s.setGrpC g x).grpC g = x := Map.get_set_same _ _ _ _
@[simp] theorem State.win_setWin (s : State) (w : Nat) (x : Win) : (s.setWin w x).win w = x := Map.get_set_same _ _ _ _
@[simp] theorem State.head_setHead (s : State) (h : Nat) (x : Head) : (s.setHead h x).head h = x := Map.get_set_same _ _ _ _
@[simp] theorem State.gen_setGen (s : State) (g : Nat) (x : Gen) : (s.setGen g x).gen g = x := Map.get_set_same _ _ _ _
@[simp] theorem State.enc_setEnc (s : State) (c : Nat) (x : EncChan) : (s.setEnc c x).enc? c = x := Map.get_set_same _ _ _ _
@[simp] theorem State.base_setBase (s : State) (b : Nat) (x : Base) : (s.setBase b x).base b = x := Map.get_set_same _ _ _ _

end Sys2Proof.Machine
end

