-- ==== Sys2Proof/Laws/Record.lean ====
section
/-! SUPPORT. What recording an event and settling a step leave alone (R302, R310, R316, R528–R533). -/

namespace Sys2Proof.Machine

/-- `b` is `a` but for the recorder, the event ring, what stands on connections, pending vectors and what is sent out. -/
structure State.SameUnits (a b : State) : Prop where
  time : b.time = a.time
  prot : b.prot = a.prot
  power : b.power = a.power
  health : b.health = a.health
  upd : b.upd = a.upd
  streams : b.streams = a.streams
  comp : b.comp = a.comp
  enc : b.enc = a.enc
  lanes : b.lanes = a.lanes
  touch : b.touch = a.touch
  dram : b.dram = a.dram
  freeCtr : b.freeCtr = a.freeCtr
  pending : b.pending = a.pending
  devState : b.izent.devState = a.izent.devState
  sessions : b.izent.sessions = a.izent.sessions
  idle : b.izent.idle = a.izent.idle
  alive : b.izent.alive = a.izent.alive
  rsp : ∀ m, (b.mbx m).rsp = (a.mbx m).rsp
  heard : ∀ m, (b.mbx m).conn.isSome = (a.mbx m).conn.isSome

theorem State.SameUnits.refl (a : State) : State.SameUnits a a := by constructor <;> intros <;> rfl

theorem State.SameUnits.trans {a b c : State} (h : State.SameUnits a b) (k : State.SameUnits b c) : State.SameUnits a c :=
  ⟨k.time.trans h.time, k.prot.trans h.prot, k.power.trans h.power, k.health.trans h.health, k.upd.trans h.upd, k.streams.trans h.streams, k.comp.trans h.comp, k.enc.trans h.enc, k.lanes.trans h.lanes, k.touch.trans h.touch, k.dram.trans h.dram, k.freeCtr.trans h.freeCtr, k.pending.trans h.pending, k.devState.trans h.devState, k.sessions.trans h.sessions, k.idle.trans h.idle, k.alive.trans h.alive, fun m => (k.rsp m).trans (h.rsp m), fun m => (k.heard m).trans (h.heard m)⟩

theorem State.SameUnits.ite {s a b : State} {c : Prop} [Decidable c] (h : State.SameUnits s a) (k : State.SameUnits s b) : State.SameUnits s (if c then a else b) := by
  split
  · exact h
  · exact k

/-- A fold of steps that leave the units alone leaves them alone. -/
theorem State.SameUnits.fold {α : Type} (f : State → α → State) (h : ∀ s x, State.SameUnits s (f s x)) (l : List α) (s : State) : State.SameUnits s (l.foldl f s) := by
  induction l generalizing s with
  | nil => exact .refl s
  | cons x l ih => exact (h s x).trans (ih (f s x))

/-- What depends only on a property of each mailbox is left by a write that keeps the property. -/
theorem State.setMbx_keeps {α : Type} (f : Mailbox → α) (s : State) (m k : Nat) (x : Mailbox) (h : f x = f (s.mbx m)) : f ((s.setMbx m x).mbx k) = f (s.mbx k) := by
  by_cases hk : k = m
  · subst hk; rw [State.mbx_setMbx, h]
  · simp only [State.setMbx, State.mbx, Map.get_set_other _ _ _ hk]

theorem State.setMbx_same (s : State) (m : Nat) (x : Mailbox) (h : x.rsp = (s.mbx m).rsp) (g : x.conn.isSome = (s.mbx m).conn.isSome) : State.SameUnits s (s.setMbx m x) := by
  constructor <;> first | rfl | exact fun k => s.setMbx_keeps Mailbox.rsp m k x h | exact fun k => s.setMbx_keeps (fun y => y.conn.isSome) m k x g

theorem State.ringChanged_same (s : State) : State.SameUnits s s.ringChanged := by
  unfold State.ringChanged
  dsimp only
  apply State.SameUnits.ite <;> constructor <;> intros <;> rfl

theorem State.ringFault_same (s : State) (addr n : Nat) : State.SameUnits s (s.ringFault addr n) := by constructor <;> intros <;> rfl

theorem State.ringPut_same (s : State) (pad bs : Bytes) (n : Nat) : State.SameUnits s (s.ringPut pad bs n) := by
  unfold State.ringPut
  dsimp only
  generalize hw : (if pad.isEmpty then s else s.hostWrite (s.izent.ring.base + s.izent.ring.producer) pad) = w
  have h : State.SameUnits s w := by
    subst hw
    apply State.SameUnits.ite
    · exact .refl s
    · constructor <;> intros <;> rfl
  exact (h.trans (by constructor <;> intros <;> rfl)).trans (State.ringChanged_same _)

theorem State.ringWrite_same (s : State) (e : Entry) : State.SameUnits s (s.ringWrite e) := by
  unfold State.ringWrite
  dsimp only
  refine .ite (.refl s) (.ite ?_ (.ite (s.ringFault_same _ _) (.ite (s.ringFault_same _ _) (s.ringPut_same _ _ _))))
  · constructor <;> intros <;> rfl

theorem State.deliverTo_same (s : State) (e : Entry) (x : Session) : State.SameUnits s (s.deliverTo e x) := by
  unfold State.deliverTo
  dsimp only
  generalize hm : (s.mbx x.mailbox).conn = m
  cases m with
  | none => exact .refl s
  | some c =>
    refine .ite (.refl s) (.ite (s.setMbx_same x.mailbox { s.mbx x.mailbox with conn := some { c with discarded := sat 4 (c.discarded + 1) } } rfl (by rw [hm]; rfl)) ?_)
    refine .trans (s.setMbx_same x.mailbox { s.mbx x.mailbox with conn := some { c with evSeq := (c.evSeq + 1) % 2 ^ 32 } } rfl (by rw [hm]; rfl)) ?_
    constructor <;> intros <;> rfl

theorem State.deliver_same (s : State) (e : Entry) : State.SameUnits s (s.deliver e) := .fold _ (fun s x => s.deliverTo_same e x) _ s

theorem State.recordRaw_same (s : State) (ty time : Nat) (bs : Bytes) : State.SameUnits s (s.recordRaw ty time bs) := by
  unfold State.recordRaw
  dsimp only
  apply State.SameUnits.ite
  · constructor <;> intros <;> rfl
  · refine .trans (.trans ?_ (State.ringWrite_same _ _)) (State.deliver_same _ _)
    apply State.SameUnits.ite <;> constructor <;> intros <;> rfl

theorem State.record_same (s : State) (ty : Nat) (v : List (Nat × Int)) : State.SameUnits s (s.record ty v) := s.recordRaw_same _ _ _
theorem State.recordAt_same (s : State) (ty time : Nat) (v : List (Nat × Int)) : State.SameUnits s (s.recordAt ty time v) := s.recordRaw_same _ _ _

theorem State.recordLimited_same (s : State) (ty subject : Nat) (v : List (Nat × Int)) : State.SameUnits s (s.recordLimited ty subject v) := by
  simp only [State.recordLimited]
  split
  · refine .trans ?_ (State.recordRaw_same _ _ _ _)
    constructor <;> intros <;> rfl
  · split
    · refine .trans ?_ (State.recordRaw_same _ _ _ _)
      constructor <;> intros <;> rfl
    · constructor <;> intros <;> rfl

theorem State.doorDenied_same (s : State) (d i l k a e : Nat) : State.SameUnits s (s.doorDenied d i l k a e) := s.recordLimited_same _ _ _

theorem State.hostDenied_same (s : State) (k a n : Nat) : State.SameUnits s (s.hostDenied k a n) := by
  simp only [State.hostDenied]
  split
  · exact s.doorDenied_same _ _ _ _ _ _
  · exact .refl s

@[simp] theorem State.record_time (s : State) (ty : Nat) (v : List (Nat × Int)) : (s.record ty v).time = s.time := (s.record_same ty v).time
@[simp] theorem State.record_prot (s : State) (ty : Nat) (v : List (Nat × Int)) : (s.record ty v).prot = s.prot := (s.record_same ty v).prot
@[simp] theorem State.record_power (s : State) (ty : Nat) (v : List (Nat × Int)) : (s.record ty v).power = s.power := (s.record_same ty v).power
@[simp] theorem State.record_health (s : State) (ty : Nat) (v : List (Nat × Int)) : (s.record ty v).health = s.health := (s.record_same ty v).health
@[simp] theorem State.record_upd (s : State) (ty : Nat) (v : List (Nat × Int)) : (s.record ty v).upd = s.upd := (s.record_same ty v).upd
@[simp] theorem State.record_streams (s : State) (ty : Nat) (v : List (Nat × Int)) : (s.record ty v).streams = s.streams := (s.record_same ty v).streams
@[simp] theorem State.record_comp (s : State) (ty : Nat) (v : List (Nat × Int)) : (s.record ty v).comp = s.comp := (s.record_same ty v).comp
@[simp] theorem State.record_enc (s : State) (ty : Nat) (v : List (Nat × Int)) : (s.record ty v).enc = s.enc := (s.record_same ty v).enc
@[simp] theorem State.record_lanes (s : State) (ty : Nat) (v : List (Nat × Int)) : (s.record ty v).lanes = s.lanes := (s.record_same ty v).lanes
@[simp] theorem State.record_touch (s : State) (ty : Nat) (v : List (Nat × Int)) : (s.record ty v).touch = s.touch := (s.record_same ty v).touch
@[simp] theorem State.record_dram (s : State) (ty : Nat) (v : List (Nat × Int)) : (s.record ty v).dram = s.dram := (s.record_same ty v).dram
@[simp] theorem State.record_freeCtr (s : State) (ty : Nat) (v : List (Nat × Int)) : (s.record ty v).freeCtr = s.freeCtr := (s.record_same ty v).freeCtr
@[simp] theorem State.record_pending (s : State) (ty : Nat) (v : List (Nat × Int)) : (s.record ty v).pending = s.pending := (s.record_same ty v).pending
@[simp] theorem State.record_devState (s : State) (ty : Nat) (v : List (Nat × Int)) : (s.record ty v).izent.devState = s.izent.devState := (s.record_same ty v).devState
@[simp] theorem State.record_sessions (s : State) (ty : Nat) (v : List (Nat × Int)) : (s.record ty v).izent.sessions = s.izent.sessions := (s.record_same ty v).sessions
@[simp] theorem State.record_idle (s : State) (ty : Nat) (v : List (Nat × Int)) : (s.record ty v).izent.idle = s.izent.idle := (s.record_same ty v).idle
@[simp] theorem State.record_alive (s : State) (ty : Nat) (v : List (Nat × Int)) : (s.record ty v).izent.alive = s.izent.alive := (s.record_same ty v).alive
@[simp] theorem State.record_rsp (s : State) (ty : Nat) (v : List (Nat × Int)) (m : Nat) : ((s.record ty v).mbx m).rsp = (s.mbx m).rsp := (s.record_same ty v).rsp m

@[simp] theorem State.recordAt_time (s : State) (ty time : Nat) (v : List (Nat × Int)) : (s.recordAt ty time v).time = s.time := (s.recordAt_same ty time v).time
@[simp] theorem State.recordAt_prot (s : State) (ty time : Nat) (v : List (Nat × Int)) : (s.recordAt ty time v).prot = s.prot := (s.recordAt_same ty time v).prot
@[simp] theorem State.recordAt_power (s : State) (ty time : Nat) (v : List (Nat × Int)) : (s.recordAt ty time v).power = s.power := (s.recordAt_same ty time v).power
@[simp] theorem State.recordAt_health (s : State) (ty time : Nat) (v : List (Nat × Int)) : (s.recordAt ty time v).health = s.health := (s.recordAt_same ty time v).health
@[simp] theorem State.recordAt_upd (s : State) (ty time : Nat) (v : List (Nat × Int)) : (s.recordAt ty time v).upd = s.upd := (s.recordAt_same ty time v).upd
@[simp] theorem State.recordAt_streams (s : State) (ty time : Nat) (v : List (Nat × Int)) : (s.recordAt ty time v).streams = s.streams := (s.recordAt_same ty time v).streams
@[simp] theorem State.recordAt_comp (s : State) (ty time : Nat) (v : List (Nat × Int)) : (s.recordAt ty time v).comp = s.comp := (s.recordAt_same ty time v).comp
@[simp] theorem State.recordAt_enc (s : State) (ty time : Nat) (v : List (Nat × Int)) : (s.recordAt ty time v).enc = s.enc := (s.recordAt_same ty time v).enc
@[simp] theorem State.recordAt_lanes (s : State) (ty time : Nat) (v : List (Nat × Int)) : (s.recordAt ty time v).lanes = s.lanes := (s.recordAt_same ty time v).lanes
@[simp] theorem State.recordAt_touch (s : State) (ty time : Nat) (v : List (Nat × Int)) : (s.recordAt ty time v).touch = s.touch := (s.recordAt_same ty time v).touch
@[simp] theorem State.recordAt_dram (s : State) (ty time : Nat) (v : List (Nat × Int)) : (s.recordAt ty time v).dram = s.dram := (s.recordAt_same ty time v).dram
@[simp] theorem State.recordAt_freeCtr (s : State) (ty time : Nat) (v : List (Nat × Int)) : (s.recordAt ty time v).freeCtr = s.freeCtr := (s.recordAt_same ty time v).freeCtr
@[simp] theorem State.recordAt_pending (s : State) (ty time : Nat) (v : List (Nat × Int)) : (s.recordAt ty time v).pending = s.pending := (s.recordAt_same ty time v).pending
@[simp] theorem State.recordAt_devState (s : State) (ty time : Nat) (v : List (Nat × Int)) : (s.recordAt ty time v).izent.devState = s.izent.devState := (s.recordAt_same ty time v).devState
@[simp] theorem State.recordAt_sessions (s : State) (ty time : Nat) (v : List (Nat × Int)) : (s.recordAt ty time v).izent.sessions = s.izent.sessions := (s.recordAt_same ty time v).sessions
@[simp] theorem State.recordAt_idle (s : State) (ty time : Nat) (v : List (Nat × Int)) : (s.recordAt ty time v).izent.idle = s.izent.idle := (s.recordAt_same ty time v).idle
@[simp] theorem State.recordAt_alive (s : State) (ty time : Nat) (v : List (Nat × Int)) : (s.recordAt ty time v).izent.alive = s.izent.alive := (s.recordAt_same ty time v).alive
@[simp] theorem State.recordAt_rsp (s : State) (ty time : Nat) (v : List (Nat × Int)) (m : Nat) : ((s.recordAt ty time v).mbx m).rsp = (s.mbx m).rsp := (s.recordAt_same ty time v).rsp m

@[simp] theorem State.recordRaw_time (s : State) (ty time : Nat) (v : Bytes) : (s.recordRaw ty time v).time = s.time := (s.recordRaw_same ty time v).time
@[simp] theorem State.recordRaw_prot (s : State) (ty time : Nat) (v : Bytes) : (s.recordRaw ty time v).prot = s.prot := (s.recordRaw_same ty time v).prot
@[simp] theorem State.recordRaw_power (s : State) (ty time : Nat) (v : Bytes) : (s.recordRaw ty time v).power = s.power := (s.recordRaw_same ty time v).power
@[simp] theorem State.recordRaw_health (s : State) (ty time : Nat) (v : Bytes) : (s.recordRaw ty time v).health = s.health := (s.recordRaw_same ty time v).health
@[simp] theorem State.recordRaw_upd (s : State) (ty time : Nat) (v : Bytes) : (s.recordRaw ty time v).upd = s.upd := (s.recordRaw_same ty time v).upd
@[simp] theorem State.recordRaw_streams (s : State) (ty time : Nat) (v : Bytes) : (s.recordRaw ty time v).streams = s.streams := (s.recordRaw_same ty time v).streams
@[simp] theorem State.recordRaw_comp (s : State) (ty time : Nat) (v : Bytes) : (s.recordRaw ty time v).comp = s.comp := (s.recordRaw_same ty time v).comp
@[simp] theorem State.recordRaw_enc (s : State) (ty time : Nat) (v : Bytes) : (s.recordRaw ty time v).enc = s.enc := (s.recordRaw_same ty time v).enc
@[simp] theorem State.recordRaw_lanes (s : State) (ty time : Nat) (v : Bytes) : (s.recordRaw ty time v).lanes = s.lanes := (s.recordRaw_same ty time v).lanes
@[simp] theorem State.recordRaw_touch (s : State) (ty time : Nat) (v : Bytes) : (s.recordRaw ty time v).touch = s.touch := (s.recordRaw_same ty time v).touch
@[simp] theorem State.recordRaw_dram (s : State) (ty time : Nat) (v : Bytes) : (s.recordRaw ty time v).dram = s.dram := (s.recordRaw_same ty time v).dram
@[simp] theorem State.recordRaw_freeCtr (s : State) (ty time : Nat) (v : Bytes) : (s.recordRaw ty time v).freeCtr = s.freeCtr := (s.recordRaw_same ty time v).freeCtr
@[simp] theorem State.recordRaw_pending (s : State) (ty time : Nat) (v : Bytes) : (s.recordRaw ty time v).pending = s.pending := (s.recordRaw_same ty time v).pending
@[simp] theorem State.recordRaw_devState (s : State) (ty time : Nat) (v : Bytes) : (s.recordRaw ty time v).izent.devState = s.izent.devState := (s.recordRaw_same ty time v).devState
@[simp] theorem State.recordRaw_sessions (s : State) (ty time : Nat) (v : Bytes) : (s.recordRaw ty time v).izent.sessions = s.izent.sessions := (s.recordRaw_same ty time v).sessions
@[simp] theorem State.recordRaw_idle (s : State) (ty time : Nat) (v : Bytes) : (s.recordRaw ty time v).izent.idle = s.izent.idle := (s.recordRaw_same ty time v).idle
@[simp] theorem State.recordRaw_alive (s : State) (ty time : Nat) (v : Bytes) : (s.recordRaw ty time v).izent.alive = s.izent.alive := (s.recordRaw_same ty time v).alive
@[simp] theorem State.recordRaw_rsp (s : State) (ty time : Nat) (v : Bytes) (m : Nat) : ((s.recordRaw ty time v).mbx m).rsp = (s.mbx m).rsp := (s.recordRaw_same ty time v).rsp m

@[simp] theorem State.recordLimited_time (s : State) (ty subject : Nat) (v : List (Nat × Int)) : (s.recordLimited ty subject v).time = s.time := (s.recordLimited_same ty subject v).time
@[simp] theorem State.recordLimited_prot (s : State) (ty subject : Nat) (v : List (Nat × Int)) : (s.recordLimited ty subject v).prot = s.prot := (s.recordLimited_same ty subject v).prot
@[simp] theorem State.recordLimited_power (s : State) (ty subject : Nat) (v : List (Nat × Int)) : (s.recordLimited ty subject v).power = s.power := (s.recordLimited_same ty subject v).power
@[simp] theorem State.recordLimited_health (s : State) (ty subject : Nat) (v : List (Nat × Int)) : (s.recordLimited ty subject v).health = s.health := (s.recordLimited_same ty subject v).health
@[simp] theorem State.recordLimited_upd (s : State) (ty subject : Nat) (v : List (Nat × Int)) : (s.recordLimited ty subject v).upd = s.upd := (s.recordLimited_same ty subject v).upd
@[simp] theorem State.recordLimited_streams (s : State) (ty subject : Nat) (v : List (Nat × Int)) : (s.recordLimited ty subject v).streams = s.streams := (s.recordLimited_same ty subject v).streams
@[simp] theorem State.recordLimited_comp (s : State) (ty subject : Nat) (v : List (Nat × Int)) : (s.recordLimited ty subject v).comp = s.comp := (s.recordLimited_same ty subject v).comp
@[simp] theorem State.recordLimited_enc (s : State) (ty subject : Nat) (v : List (Nat × Int)) : (s.recordLimited ty subject v).enc = s.enc := (s.recordLimited_same ty subject v).enc
@[simp] theorem State.recordLimited_lanes (s : State) (ty subject : Nat) (v : List (Nat × Int)) : (s.recordLimited ty subject v).lanes = s.lanes := (s.recordLimited_same ty subject v).lanes
@[simp] theorem State.recordLimited_touch (s : State) (ty subject : Nat) (v : List (Nat × Int)) : (s.recordLimited ty subject v).touch = s.touch := (s.recordLimited_same ty subject v).touch
@[simp] theorem State.recordLimited_dram (s : State) (ty subject : Nat) (v : List (Nat × Int)) : (s.recordLimited ty subject v).dram = s.dram := (s.recordLimited_same ty subject v).dram
@[simp] theorem State.recordLimited_freeCtr (s : State) (ty subject : Nat) (v : List (Nat × Int)) : (s.recordLimited ty subject v).freeCtr = s.freeCtr := (s.recordLimited_same ty subject v).freeCtr
@[simp] theorem State.recordLimited_pending (s : State) (ty subject : Nat) (v : List (Nat × Int)) : (s.recordLimited ty subject v).pending = s.pending := (s.recordLimited_same ty subject v).pending
@[simp] theorem State.recordLimited_devState (s : State) (ty subject : Nat) (v : List (Nat × Int)) : (s.recordLimited ty subject v).izent.devState = s.izent.devState := (s.recordLimited_same ty subject v).devState
@[simp] theorem State.recordLimited_sessions (s : State) (ty subject : Nat) (v : List (Nat × Int)) : (s.recordLimited ty subject v).izent.sessions = s.izent.sessions := (s.recordLimited_same ty subject v).sessions
@[simp] theorem State.recordLimited_idle (s : State) (ty subject : Nat) (v : List (Nat × Int)) : (s.recordLimited ty subject v).izent.idle = s.izent.idle := (s.recordLimited_same ty subject v).idle
@[simp] theorem State.recordLimited_alive (s : State) (ty subject : Nat) (v : List (Nat × Int)) : (s.recordLimited ty subject v).izent.alive = s.izent.alive := (s.recordLimited_same ty subject v).alive
@[simp] theorem State.recordLimited_rsp (s : State) (ty subject : Nat) (v : List (Nat × Int)) (m : Nat) : ((s.recordLimited ty subject v).mbx m).rsp = (s.mbx m).rsp := (s.recordLimited_same ty subject v).rsp m

end Sys2Proof.Machine
end

