-- ==== Sys2Proof/Laws/Run.lean ====
section
/-! SUPPORT. What settling a step leaves alone, and how a step that runs answers (R247, R248, R312, R521, Table 11-2). -/

namespace Sys2Proof.Machine

/-- What `settle` does to the effect's state before the health events are set. -/
def settled (a b : State) : State :=
  let moved := (a.safeCauses != 0) != (b.safeCauses != 0)
  let b := if moved then b.record evSafeFaultChange [p2 b.safeCauses] else b
  match b.out.ringDenied with
  | some x => ({ b with out := { b.out with ringDenied := none } }).doorDenied 0x47 38 3 1 x b.prot.epoch
  | none => b

theorem settle_eq (a b : State) :
    settle a b = (settleCount a (settled a b).drive).setHealth (a.izent.devState != (settled a b).izent.devState) (a.flagBits != (settled a b).flagBits) ((a.safeCauses != 0) != (b.safeCauses != 0)) := rfl

theorem settled_same (a b : State) : State.SameUnits b (settled a b) := by
  unfold settled
  dsimp only
  generalize hc : (if ((a.safeCauses != 0) != (b.safeCauses != 0)) = true then b.record evSafeFaultChange [p2 b.safeCauses] else b) = c
  have h : State.SameUnits b c := by subst hc; exact .ite (b.record_same _ _) (.refl b)
  cases hr : c.out.ringDenied with
  | none => exact h
  | some x => exact h.trans (.trans (by constructor <;> intros <;> rfl) (State.doorDenied_same _ _ _ _ _ _ _))

@[simp] theorem setHealth_time (s : State) (a b c : Bool) : (s.setHealth a b c).time = s.time := by simp only [State.setHealth]; split <;> split <;> rfl
@[simp] theorem setHealth_prot (s : State) (a b c : Bool) : (s.setHealth a b c).prot = s.prot := by simp only [State.setHealth]; split <;> split <;> rfl
@[simp] theorem setHealth_power (s : State) (a b c : Bool) : (s.setHealth a b c).power = s.power := by simp only [State.setHealth]; split <;> split <;> rfl
@[simp] theorem setHealth_health (s : State) (a b c : Bool) : (s.setHealth a b c).health = s.health := by simp only [State.setHealth]; split <;> split <;> rfl
@[simp] theorem setHealth_streams (s : State) (a b c : Bool) : (s.setHealth a b c).streams = s.streams := by simp only [State.setHealth]; split <;> split <;> rfl
@[simp] theorem setHealth_comp (s : State) (a b c : Bool) : (s.setHealth a b c).comp = s.comp := by simp only [State.setHealth]; split <;> split <;> rfl
@[simp] theorem setHealth_enc (s : State) (a b c : Bool) : (s.setHealth a b c).enc = s.enc := by simp only [State.setHealth]; split <;> split <;> rfl
@[simp] theorem setHealth_lanes (s : State) (a b c : Bool) : (s.setHealth a b c).lanes = s.lanes := by simp only [State.setHealth]; split <;> split <;> rfl
@[simp] theorem setHealth_touch (s : State) (a b c : Bool) : (s.setHealth a b c).touch = s.touch := by simp only [State.setHealth]; split <;> split <;> rfl
@[simp] theorem setHealth_dram (s : State) (a b c : Bool) : (s.setHealth a b c).dram = s.dram := by simp only [State.setHealth]; split <;> split <;> rfl
@[simp] theorem setHealth_freeCtr (s : State) (a b c : Bool) : (s.setHealth a b c).freeCtr = s.freeCtr := by simp only [State.setHealth]; split <;> split <;> rfl
@[simp] theorem setHealth_pending (s : State) (a b c : Bool) : (s.setHealth a b c).pending = s.pending := by simp only [State.setHealth]; split <;> split <;> rfl
@[simp] theorem setHealth_upd (s : State) (a b c : Bool) : (s.setHealth a b c).upd = s.upd := by simp only [State.setHealth]; split <;> split <;> rfl
@[simp] theorem setHealth_recorder (s : State) (a b c : Bool) : (s.setHealth a b c).recorder = s.recorder := by simp only [State.setHealth]; split <;> split <;> rfl
@[simp] theorem setHealth_devState (s : State) (a b c : Bool) : (s.setHealth a b c).izent.devState = s.izent.devState := by simp only [State.setHealth]; split <;> split <;> rfl
@[simp] theorem setHealth_sessions (s : State) (a b c : Bool) : (s.setHealth a b c).izent.sessions = s.izent.sessions := by simp only [State.setHealth]; split <;> split <;> rfl
@[simp] theorem setHealth_idle (s : State) (a b c : Bool) : (s.setHealth a b c).izent.idle = s.izent.idle := by simp only [State.setHealth]; split <;> split <;> rfl
@[simp] theorem setHealth_alive (s : State) (a b c : Bool) : (s.setHealth a b c).izent.alive = s.izent.alive := by simp only [State.setHealth]; split <;> split <;> rfl
@[simp] theorem setHealth_mbx (s : State) (a b c : Bool) : (s.setHealth a b c).izent.mbx = s.izent.mbx := by simp only [State.setHealth]; split <;> split <;> rfl

@[simp] theorem settleCount_time (a b : State) : (settleCount a b).time = b.time := by unfold settleCount; split <;> rfl
@[simp] theorem settleCount_prot (a b : State) : (settleCount a b).prot = b.prot := by unfold settleCount; split <;> rfl
@[simp] theorem settleCount_power (a b : State) : (settleCount a b).power = b.power := by unfold settleCount; split <;> rfl
@[simp] theorem settleCount_health (a b : State) : (settleCount a b).health = b.health := by unfold settleCount; split <;> rfl
@[simp] theorem settleCount_streams (a b : State) : (settleCount a b).streams = b.streams := by unfold settleCount; split <;> rfl
@[simp] theorem settleCount_comp (a b : State) : (settleCount a b).comp = b.comp := by unfold settleCount; split <;> rfl
@[simp] theorem settleCount_enc (a b : State) : (settleCount a b).enc = b.enc := by unfold settleCount; split <;> rfl
@[simp] theorem settleCount_lanes (a b : State) : (settleCount a b).lanes = b.lanes := by unfold settleCount; split <;> rfl
@[simp] theorem settleCount_touch (a b : State) : (settleCount a b).touch = b.touch := by unfold settleCount; split <;> rfl
@[simp] theorem settleCount_dram (a b : State) : (settleCount a b).dram = b.dram := by unfold settleCount; split <;> rfl
@[simp] theorem settleCount_freeCtr (a b : State) : (settleCount a b).freeCtr = b.freeCtr := by unfold settleCount; split <;> rfl
@[simp] theorem settleCount_pending (a b : State) : (settleCount a b).pending = b.pending := by unfold settleCount; split <;> rfl
@[simp] theorem settleCount_izent (a b : State) : (settleCount a b).izent = b.izent := by unfold settleCount; split <;> rfl
@[simp] theorem settleCount_recorder (a b : State) : (settleCount a b).recorder = b.recorder := by unfold settleCount; split <;> rfl
@[simp] theorem settleCount_out (a b : State) : (settleCount a b).out = b.out := by unfold settleCount; split <;> rfl
@[simp] theorem settleCount_images (a b : State) : (settleCount a b).upd.images = b.upd.images := by unfold settleCount; split <;> rfl
@[simp] theorem settleCount_plan (a b : State) : (settleCount a b).upd.plan = b.upd.plan := by unfold settleCount; split <;> rfl
@[simp] theorem settleCount_planState (a b : State) : (settleCount a b).upd.planState = b.upd.planState := by unfold settleCount; split <;> rfl
@[simp] theorem settleCount_order (a b : State) : (settleCount a b).upd.order = b.upd.order := by unfold settleCount; split <;> rfl
@[simp] theorem settleCount_activated (a b : State) : (settleCount a b).upd.activated = b.upd.activated := by unfold settleCount; split <;> rfl
@[simp] theorem settleCount_falling (a b : State) : (settleCount a b).upd.falling = b.upd.falling := by unfold settleCount; split <;> rfl
@[simp] theorem settleCount_activating (a b : State) : (settleCount a b).upd.activating = b.upd.activating := by unfold settleCount; split <;> rfl
@[simp] theorem settleCount_counter (a b : State) : (settleCount a b).upd.counter = b.upd.counter := by unfold settleCount; split <;> rfl
@[simp] theorem settleCount_deadline (a b : State) : (settleCount a b).upd.deadline = b.upd.deadline := by unfold settleCount; split <;> rfl
@[simp] theorem settleCount_current (a b : State) : (settleCount a b).upd.current = b.upd.current := by unfold settleCount; split <;> rfl

@[simp] theorem drive_time (s : State) : s.drive.time = s.time := rfl
@[simp] theorem drive_prot (s : State) : s.drive.prot = s.prot := rfl
@[simp] theorem drive_power (s : State) : s.drive.power = s.power := rfl
@[simp] theorem drive_health (s : State) : s.drive.health = s.health := rfl
@[simp] theorem drive_streams (s : State) : s.drive.streams = s.streams := rfl
@[simp] theorem drive_comp (s : State) : s.drive.comp = s.comp := rfl
@[simp] theorem drive_enc (s : State) : s.drive.enc = s.enc := rfl
@[simp] theorem drive_lanes (s : State) : s.drive.lanes = s.lanes := rfl
@[simp] theorem drive_touch (s : State) : s.drive.touch = s.touch := rfl
@[simp] theorem drive_dram (s : State) : s.drive.dram = s.dram := rfl
@[simp] theorem drive_freeCtr (s : State) : s.drive.freeCtr = s.freeCtr := rfl
@[simp] theorem drive_pending (s : State) : s.drive.pending = s.pending := rfl
@[simp] theorem drive_izent (s : State) : s.drive.izent = s.izent := rfl
@[simp] theorem drive_recorder (s : State) : s.drive.recorder = s.recorder := rfl
@[simp] theorem drive_upd (s : State) : s.drive.upd = s.upd := rfl

@[simp] theorem settle_time (a b : State) : (settle a b).time = b.time := by rw [settle_eq, setHealth_time, settleCount_time, drive_time, (settled_same a b).time]
@[simp] theorem settle_prot (a b : State) : (settle a b).prot = b.prot := by rw [settle_eq, setHealth_prot, settleCount_prot, drive_prot, (settled_same a b).prot]
@[simp] theorem settle_power (a b : State) : (settle a b).power = b.power := by rw [settle_eq, setHealth_power, settleCount_power, drive_power, (settled_same a b).power]
@[simp] theorem settle_health (a b : State) : (settle a b).health = b.health := by rw [settle_eq, setHealth_health, settleCount_health, drive_health, (settled_same a b).health]
@[simp] theorem settle_streams (a b : State) : (settle a b).streams = b.streams := by rw [settle_eq, setHealth_streams, settleCount_streams, drive_streams, (settled_same a b).streams]
@[simp] theorem settle_comp (a b : State) : (settle a b).comp = b.comp := by rw [settle_eq, setHealth_comp, settleCount_comp, drive_comp, (settled_same a b).comp]
@[simp] theorem settle_enc (a b : State) : (settle a b).enc = b.enc := by rw [settle_eq, setHealth_enc, settleCount_enc, drive_enc, (settled_same a b).enc]
@[simp] theorem settle_lanes (a b : State) : (settle a b).lanes = b.lanes := by rw [settle_eq, setHealth_lanes, settleCount_lanes, drive_lanes, (settled_same a b).lanes]
@[simp] theorem settle_touch (a b : State) : (settle a b).touch = b.touch := by rw [settle_eq, setHealth_touch, settleCount_touch, drive_touch, (settled_same a b).touch]
@[simp] theorem settle_dram (a b : State) : (settle a b).dram = b.dram := by rw [settle_eq, setHealth_dram, settleCount_dram, drive_dram, (settled_same a b).dram]
@[simp] theorem settle_freeCtr (a b : State) : (settle a b).freeCtr = b.freeCtr := by rw [settle_eq, setHealth_freeCtr, settleCount_freeCtr, drive_freeCtr, (settled_same a b).freeCtr]
@[simp] theorem settle_pending (a b : State) : (settle a b).pending = b.pending := by rw [settle_eq, setHealth_pending, settleCount_pending, drive_pending, (settled_same a b).pending]
@[simp] theorem settle_devState (a b : State) : (settle a b).izent.devState = b.izent.devState := by rw [settle_eq, setHealth_devState, settleCount_izent, drive_izent, (settled_same a b).devState]
@[simp] theorem settle_sessions (a b : State) : (settle a b).izent.sessions = b.izent.sessions := by rw [settle_eq, setHealth_sessions, settleCount_izent, drive_izent, (settled_same a b).sessions]
@[simp] theorem settle_idle (a b : State) : (settle a b).izent.idle = b.izent.idle := by rw [settle_eq, setHealth_idle, settleCount_izent, drive_izent, (settled_same a b).idle]
@[simp] theorem settle_alive (a b : State) : (settle a b).izent.alive = b.izent.alive := by rw [settle_eq, setHealth_alive, settleCount_izent, drive_izent, (settled_same a b).alive]
@[simp] theorem settle_images (a b : State) : (settle a b).upd.images = b.upd.images := by rw [settle_eq, setHealth_upd, settleCount_images, drive_upd, (settled_same a b).upd]
@[simp] theorem settle_plan (a b : State) : (settle a b).upd.plan = b.upd.plan := by rw [settle_eq, setHealth_upd, settleCount_plan, drive_upd, (settled_same a b).upd]
@[simp] theorem settle_planState (a b : State) : (settle a b).upd.planState = b.upd.planState := by rw [settle_eq, setHealth_upd, settleCount_planState, drive_upd, (settled_same a b).upd]
@[simp] theorem settle_order (a b : State) : (settle a b).upd.order = b.upd.order := by rw [settle_eq, setHealth_upd, settleCount_order, drive_upd, (settled_same a b).upd]
@[simp] theorem settle_activated (a b : State) : (settle a b).upd.activated = b.upd.activated := by rw [settle_eq, setHealth_upd, settleCount_activated, drive_upd, (settled_same a b).upd]
@[simp] theorem settle_falling (a b : State) : (settle a b).upd.falling = b.upd.falling := by rw [settle_eq, setHealth_upd, settleCount_falling, drive_upd, (settled_same a b).upd]
@[simp] theorem settle_activating (a b : State) : (settle a b).upd.activating = b.upd.activating := by rw [settle_eq, setHealth_upd, settleCount_activating, drive_upd, (settled_same a b).upd]
@[simp] theorem settle_counter (a b : State) : (settle a b).upd.counter = b.upd.counter := by rw [settle_eq, setHealth_upd, settleCount_counter, drive_upd, (settled_same a b).upd]
@[simp] theorem settle_deadline (a b : State) : (settle a b).upd.deadline = b.upd.deadline := by rw [settle_eq, setHealth_upd, settleCount_deadline, drive_upd, (settled_same a b).upd]
@[simp] theorem settle_current (a b : State) : (settle a b).upd.current = b.upd.current := by rw [settle_eq, setHealth_upd, settleCount_current, drive_upd, (settled_same a b).upd]
@[simp] theorem settle_rsp (a b : State) (m : Nat) : ((settle a b).mbx m).rsp = (b.mbx m).rsp := by
  have h : (settle a b).mbx m = (settled a b).mbx m := by
    simp only [State.mbx]; rw [settle_eq, setHealth_mbx, settleCount_izent, drive_izent]
  rw [h, (settled_same a b).rsp m]

/-! How a step answers. -/

theorem run_next (t : Time) (s : State) (f : State → State) : run t s f = .next (settle (s.tick t) (f (s.tick t))) := rfl

theorem runIf_next {ok : Bool} (h : ok = true) (t : Time) (s : State) (f : State → State) : runIf ok t s f = .next (settle (s.tick t) (f (s.tick t))) := by
  subst h; rfl

@[simp] theorem tick_clk_le (s : State) (t : Time) : (s.tick t).clk = max s.clk t := by
  show s.time.clk + (t - s.time.clk) = max s.time.clk t
  rw [Nat.add_comm, Nat.sub_add_eq_max, Nat.max_comm]

end Sys2Proof.Machine
end

