-- ==== Sys2Proof/Laws/Izent.lean ====
section
/-! SUPPORT. What an accepted command does up to its own part, and what its response leaves alone (R305–R332). -/

namespace Sys2Proof.Machine

/-- `mayIssue` reads the sessions and the boot ROM's flag only. -/
theorem mayIssue_eq (s a : State) (k : CmdKind) (mb : Nat) (m : Msg) (p : Bytes) (h : s.izent.sessions = a.izent.sessions) (g : s.upd.bootRom = a.upd.bootRom) :
    s.mayIssue k mb m p = a.mayIssue k mb m p := by
  unfold State.mayIssue State.session?
  rw [h, g]

theorem rung_sessions (a : State) (k : CmdKind) (mb : Nat) : (a.rung k mb).izent.sessions = a.izent.sessions := by
  simp only [State.rung]; split <;> rfl

theorem rung_upd (a : State) (k : CmdKind) (mb : Nat) : (a.rung k mb).upd = a.upd := by
  simp only [State.rung]; split <;> rfl

theorem rung_lastSeq (a : State) (k : CmdKind) (mb : Nat) : ((a.rung k mb).mbx mb).lastSeq = (a.mbx mb).lastSeq := by
  simp only [State.rung]; split <;> rw [State.mbx_setMbx] <;> rfl

/-- Checks 1 to 3 pass. -/
theorem headChecks_pass (s : State) (mb cmd : Nat) (m : Msg) (go : State → State) (h1 : headerBad m = none) (h2 : m.crc = msgCrc cmd m)
    (h2' : 16 ≤ mb → m.data.map crc32c = m.dataCrc)
    (h3 : 1 ≤ (m.sequence + 4294967296 - (s.mbx mb).lastSeq) % 4294967296) (h3' : (m.sequence + 4294967296 - (s.mbx mb).lastSeq) % 4294967296 ≤ 2147483647) :
    s.headChecks mb cmd m go = go (s.setMbx mb { s.mbx mb with lastSeq := m.sequence }) := by
  unfold State.headChecks
  dsimp only
  rw [h1]
  dsimp only
  rw [if_neg (by
    simp only [h2, bne_self_eq_false, Bool.false_or, Bool.and_eq_true, decide_eq_true_eq, not_and, bne_iff_ne, ne_eq]
    exact fun hm hn => hn (h2' hm)), if_neg (by simp only [Bool.or_eq_true, decide_eq_true_eq]; omega)]

/-- Checks 5 to 8 pass. -/
theorem admitCall_pass (s : State) (c : Call) (body : Body)
    (h1 : always c.kind = true ∨ (s.health.recovering.contains 0 = false ∧ s.prot.halted.contains 0 = false ∧ s.upd.spireSwitch = none))
    (h2 : s.izent.devState = .ready ∨ early c.kind = true ∨ s.upd.bootRom = true)
    (h3 : c.p.length = paySize c.kind c.p) (h4 : c.msg.reserved = 0) (h5 : c.msg.flags < 8) (hs : c.msg.status = 0) (h6 : firstBad F.bad8 (payF c.kind c.net c.p) c.p = none) :
    s.admitCall c body = s.attempt c body := by
  unfold State.admitCall
  dsimp only
  rw [if_neg, if_neg, if_neg]
  · unfold State.formCall
    rw [show firstOff [(decide (c.msg.flags ≥ 8), 3), (c.p.length != paySize c.kind c.p, 4), (c.msg.status != 0, 10), (c.msg.reserved != 0, 24)] = none by
      simp [firstOff, h3, h4, hs, Nat.not_le.mpr h5], h6]
  · rcases h2 with h | h | h <;> simp [h]
  · rcases h1 with h | ⟨_, _, h⟩
    · simp only [always] at h; simp [h]
    · simp [h]
  · rcases h1 with h | ⟨h, g, _⟩
    · simp only [always] at h; simp [h]
    · simp only [h, g]; simp

/-- Checks 9 to 11 pass. -/
theorem attempt_pass (s r : State) (c : Call) (body : Body) (hr : (if c.mb < 16 && c.msg.session != 0 then { s with upd := { s.upd with requested := true } } else s) = r)
    (h1 : r.drains c = none) (h2 : locks c.kind = true → r.deviceHolder = none)
    (h3 : c.kind = .safetyArm ∨ firstBad F.bad11 (payF c.kind c.net c.p) c.p = none) : s.attempt c body = r.finish c (body c r) := by
  unfold State.attempt
  rw [hr]
  dsimp only
  rw [h1]
  dsimp only
  have g : (if locks c.kind then r.deviceHolder else none) = none := by
    split
    · rename_i hl; exact h2 hl
    · rfl
  rw [g]
  dsimp only
  have g3 : (if c.kind = .safetyArm then none else firstBad F.bad11 (payF c.kind c.net c.p) c.p) = none := by
    split
    · rfl
    · rename_i hn; rcases h3 with h | h
      · exact absurd h hn
      · exact h
  rw [g3]

/-- An accepted command is its own part, run in `atBody`. -/
theorem accepted_issue {k : CmdKind} {mb : Nat} {m : Msg} {role : Nat} {a : State} (h : Accepted k mb m role a) (body : Body) :
    a.issue k mb m body = (a.atBody k mb m).finish (a.callAt k mb m role) (body (a.callAt k mb m role) (a.atBody k mb m)) := by
  have go : (16 ≤ mb → m.data.map crc32c = m.dataCrc) →
      (a.rung k mb).checkCall k mb m a.clk (a.izent.orderCount + 1) body =
        (a.atBody k mb m).finish (a.callAt k mb m role) (body (a.callAt k mb m role) (a.atBody k mb m)) := by
    intro hd
    unfold State.checkCall
    rw [headChecks_pass _ _ _ _ _ h.header h.crc hd (by rw [rung_lastSeq]; exact h.newer) (by rw [rung_lastSeq]; exact h.inWindow)]
    dsimp only
    rw [show fit (m.length - 32) m.payload = messagePayload m from rfl, mayIssue_eq (s := (a.rung k mb).setMbx mb _) a k mb m (messagePayload m) (rung_sessions a k mb) (congrArg Update.bootRom (rung_upd a k mb)), h.sender]
    dsimp only
    have hn : ∀ x, (((a.rung k mb).setMbx mb x).heardFrom mb m).now = a.now := fun x => by simp only [State.rung]; split <;> rfl
    rw [admitCall_pass, hn]
    · exact attempt_pass _ (a.atBody k mb m) _ _ rfl h.noDrain h.noLock h.values
    · have := h.spireA
      simp only [State.rung]
      split <;> exact this
    · have := h.ready
      simp only [State.rung]
      split <;> exact this
    · exact h.length
    · exact h.reserved
    · exact h.flags
    · exact h.status
    · exact h.fields
  obtain ⟨hs, ⟨h1, h2, h3, h4⟩ | ⟨h1, h2, ⟨n, h3, h4⟩, h5, h6⟩⟩ := h.arrives
  · have := go (by omega)
    rw [← this]
    unfold State.issue
    dsimp only
    rw [hs, if_neg (by simp), if_pos h1]
    unfold State.ring
    dsimp only
    rw [if_neg, if_neg]
    · simp only [State.rung, if_pos h1]
      rfl
    · rw [Bool.or_eq_true, not_or]
      exact ⟨by simp [h3], by rw [Bool.not_eq_true']; simp only [Bool.not_eq_false]; exact h4⟩
    · show ¬((a.mbx mb).state != .idle) = true
      simp [h2]
  · have := go (fun _ => h6)
    rw [← this]
    unfold State.issue
    dsimp only
    rw [hs, if_neg (by simp), if_neg (by omega), h3]
    dsimp only
    rw [if_neg (by intro hn; rw [Option.isNone_iff_eq_none] at hn; rw [hn] at h4; exact absurd h4 (by decide)), if_pos (by rw [h5]; rfl), ← h3]
    simp only [State.rung, if_neg (show ¬ mb < 16 by omega)]
    rfl

/-! Responses. -/

/-- The response that a result writes. -/
def rspOf (cmd : Nat) (m : Msg) (status : Nat) (p : Bytes) : Rsp :=
  { command := cmd, status := status, session := m.session, sequence := m.sequence, tag := m.tag, payload := p }

theorem State.raise_same (s : State) (v : Nat) : State.SameUnits s (s.raise v) := by constructor <;> intros <;> rfl

theorem State.hostWrite_same (s : State) (addr : Nat) (bs : Bytes) : State.SameUnits s (s.hostWrite addr bs) := by constructor <;> intros <;> rfl

/-- Two writes of one mailbox with the same response. -/
theorem State.setMbx_same₂ {a b : State} (h : State.SameUnits a b) (m : Nat) (x y : Mailbox) (e : y.rsp = x.rsp) (g : y.conn.isSome = x.conn.isSome) : State.SameUnits (a.setMbx m x) (b.setMbx m y) := by
  have same {α : Type} (f : Mailbox → α) (hf : f y = f x) (hab : ∀ k, f (b.mbx k) = f (a.mbx k)) (k : Nat) : f ((b.setMbx m y).mbx k) = f ((a.setMbx m x).mbx k) := by
    by_cases hk : k = m
    · subst hk; rw [State.mbx_setMbx, State.mbx_setMbx, hf]
    · have ha : (a.setMbx m x).mbx k = a.mbx k := Map.get_set_other _ _ _ hk
      have hb : (b.setMbx m y).mbx k = b.mbx k := Map.get_set_other _ _ _ hk
      rw [ha, hb]; exact hab k
  exact ⟨h.time, h.prot, h.power, h.health, h.upd, h.streams, h.comp, h.enc, h.lanes, h.touch, h.dram, h.freeCtr, h.pending, h.devState, h.sessions, h.idle, h.alive, same Mailbox.rsp e h.rsp, same (fun z => z.conn.isSome) g h.heard⟩

/-- A response changes the units as little as storing it does. -/
theorem respond_same (s : State) (mb cmd : Nat) (m : Msg) (status : Nat) (p : Bytes) (h : mb < 24) (g : mb < 16 ∨ (s.mbx mb).conn.isSome = true) :
    State.SameUnits (s.setMbx mb { s.mbx mb with rsp := some (rspOf cmd m status p) }) (s.respond mb cmd m status p) := by
  unfold State.respond
  dsimp only
  by_cases hm : mb < 16
  · rw [if_pos hm]
    have hd : State.SameUnits s (if m.writeFails = true then s else s.hostDenied 1 (s.mbx mb).rspAddr (rspOf cmd m status p).length) :=
      .ite (.refl s) (s.hostDenied_same _ _ _)
    refine .ite (.trans ?_ (State.raise_same _ _)) ?_ <;>
    · refine .ite (.trans ?_ (State.hostWrite_same _ _ _)) ?_ <;>
      · refine State.setMbx_same₂ hd _ _ _ ?_ rfl
        simp [hm, rspOf]
  · have hc : (s.mbx mb).conn.isSome = true := g.resolve_left hm
    rw [if_neg hm, if_neg (by omega)]
    refine State.setMbx_same₂ (.refl s) _ _ _ ?_ rfl
    simp [hm, hc, rspOf]

theorem respond_rsp (s : State) (mb cmd : Nat) (m : Msg) (status : Nat) (p : Bytes) (h : mb < 24) (g : mb < 16 ∨ (s.mbx mb).conn.isSome = true) :
    ((s.respond mb cmd m status p).mbx mb).rsp = some (rspOf cmd m status p) := by
  rw [(respond_same s mb cmd m status p h g).rsp mb, State.mbx_setMbx]

/-! The state in which a command's own part runs. -/

@[simp] theorem atBody_time (a : State) (k : CmdKind) (mb : Nat) (m : Msg) : (a.atBody k mb m).time = a.time := by simp only [State.atBody, State.rung]; split <;> split <;> rfl
@[simp] theorem atBody_recorder (a : State) (k : CmdKind) (mb : Nat) (m : Msg) : (a.atBody k mb m).recorder = a.recorder := by simp only [State.atBody, State.rung]; split <;> split <;> rfl
@[simp] theorem atBody_prot (a : State) (k : CmdKind) (mb : Nat) (m : Msg) : (a.atBody k mb m).prot = a.prot := by simp only [State.atBody, State.rung]; split <;> split <;> rfl
@[simp] theorem atBody_power (a : State) (k : CmdKind) (mb : Nat) (m : Msg) : (a.atBody k mb m).power = a.power := by simp only [State.atBody, State.rung]; split <;> split <;> rfl
@[simp] theorem atBody_health (a : State) (k : CmdKind) (mb : Nat) (m : Msg) : (a.atBody k mb m).health = a.health := by simp only [State.atBody, State.rung]; split <;> split <;> rfl
@[simp] theorem atBody_streams (a : State) (k : CmdKind) (mb : Nat) (m : Msg) : (a.atBody k mb m).streams = a.streams := by simp only [State.atBody, State.rung]; split <;> split <;> rfl
@[simp] theorem atBody_comp (a : State) (k : CmdKind) (mb : Nat) (m : Msg) : (a.atBody k mb m).comp = a.comp := by simp only [State.atBody, State.rung]; split <;> split <;> rfl
@[simp] theorem atBody_enc (a : State) (k : CmdKind) (mb : Nat) (m : Msg) : (a.atBody k mb m).enc = a.enc := by simp only [State.atBody, State.rung]; split <;> split <;> rfl
@[simp] theorem atBody_lanes (a : State) (k : CmdKind) (mb : Nat) (m : Msg) : (a.atBody k mb m).lanes = a.lanes := by simp only [State.atBody, State.rung]; split <;> split <;> rfl
@[simp] theorem atBody_touch (a : State) (k : CmdKind) (mb : Nat) (m : Msg) : (a.atBody k mb m).touch = a.touch := by simp only [State.atBody, State.rung]; split <;> split <;> rfl
@[simp] theorem atBody_dram (a : State) (k : CmdKind) (mb : Nat) (m : Msg) : (a.atBody k mb m).dram = a.dram := by simp only [State.atBody, State.rung]; split <;> split <;> rfl
@[simp] theorem atBody_out (a : State) (k : CmdKind) (mb : Nat) (m : Msg) : (a.atBody k mb m).out = a.out := by simp only [State.atBody, State.rung]; split <;> split <;> rfl
@[simp] theorem atBody_freeCtr (a : State) (k : CmdKind) (mb : Nat) (m : Msg) : (a.atBody k mb m).freeCtr = a.freeCtr := by simp only [State.atBody, State.rung]; split <;> split <;> rfl
@[simp] theorem atBody_pending (a : State) (k : CmdKind) (mb : Nat) (m : Msg) : (a.atBody k mb m).pending = a.pending := by simp only [State.atBody, State.rung]; split <;> split <;> rfl
@[simp] theorem atBody_images (a : State) (k : CmdKind) (mb : Nat) (m : Msg) : (a.atBody k mb m).upd.images = a.upd.images := by simp only [State.atBody, State.rung]; split <;> split <;> rfl
@[simp] theorem atBody_planState (a : State) (k : CmdKind) (mb : Nat) (m : Msg) : (a.atBody k mb m).upd.planState = a.upd.planState := by simp only [State.atBody, State.rung]; split <;> split <;> rfl
@[simp] theorem atBody_plan (a : State) (k : CmdKind) (mb : Nat) (m : Msg) : (a.atBody k mb m).upd.plan = a.upd.plan := by simp only [State.atBody, State.rung]; split <;> split <;> rfl
@[simp] theorem atBody_order (a : State) (k : CmdKind) (mb : Nat) (m : Msg) : (a.atBody k mb m).upd.order = a.upd.order := by simp only [State.atBody, State.rung]; split <;> split <;> rfl
@[simp] theorem atBody_activated (a : State) (k : CmdKind) (mb : Nat) (m : Msg) : (a.atBody k mb m).upd.activated = a.upd.activated := by simp only [State.atBody, State.rung]; split <;> split <;> rfl
@[simp] theorem atBody_falling (a : State) (k : CmdKind) (mb : Nat) (m : Msg) : (a.atBody k mb m).upd.falling = a.upd.falling := by simp only [State.atBody, State.rung]; split <;> split <;> rfl
@[simp] theorem atBody_activating (a : State) (k : CmdKind) (mb : Nat) (m : Msg) : (a.atBody k mb m).upd.activating = a.upd.activating := by simp only [State.atBody, State.rung]; split <;> split <;> rfl
@[simp] theorem atBody_counter (a : State) (k : CmdKind) (mb : Nat) (m : Msg) : (a.atBody k mb m).upd.counter = a.upd.counter := by simp only [State.atBody, State.rung]; split <;> split <;> rfl
@[simp] theorem atBody_deadline (a : State) (k : CmdKind) (mb : Nat) (m : Msg) : (a.atBody k mb m).upd.deadline = a.upd.deadline := by simp only [State.atBody, State.rung]; split <;> split <;> rfl
@[simp] theorem atBody_current (a : State) (k : CmdKind) (mb : Nat) (m : Msg) : (a.atBody k mb m).upd.current = a.upd.current := by simp only [State.atBody, State.rung]; split <;> split <;> rfl
@[simp] theorem atBody_bootRom (a : State) (k : CmdKind) (mb : Nat) (m : Msg) : (a.atBody k mb m).upd.bootRom = a.upd.bootRom := by simp only [State.atBody, State.rung]; split <;> split <;> rfl
@[simp] theorem atBody_spireSwitch (a : State) (k : CmdKind) (mb : Nat) (m : Msg) : (a.atBody k mb m).upd.spireSwitch = a.upd.spireSwitch := by simp only [State.atBody, State.rung]; split <;> split <;> rfl
@[simp] theorem atBody_sources (a : State) (k : CmdKind) (mb : Nat) (m : Msg) : (a.atBody k mb m).upd.sources = a.upd.sources := by simp only [State.atBody, State.rung]; split <;> split <;> rfl
@[simp] theorem atBody_devState (a : State) (k : CmdKind) (mb : Nat) (m : Msg) : (a.atBody k mb m).izent.devState = a.izent.devState := by simp only [State.atBody, State.rung]; split <;> split <;> rfl
@[simp] theorem atBody_alive (a : State) (k : CmdKind) (mb : Nat) (m : Msg) : (a.atBody k mb m).izent.alive = a.izent.alive := by simp only [State.atBody, State.rung]; split <;> split <;> rfl
@[simp] theorem atBody_healthEvents (a : State) (k : CmdKind) (mb : Nat) (m : Msg) : (a.atBody k mb m).izent.healthEvents = a.izent.healthEvents := by simp only [State.atBody, State.rung]; split <;> split <;> rfl
@[simp] theorem atBody_ring (a : State) (k : CmdKind) (mb : Nat) (m : Msg) : (a.atBody k mb m).izent.ring = a.izent.ring := by simp only [State.atBody, State.rung]; split <;> split <;> rfl
@[simp] theorem atBody_usedIds (a : State) (k : CmdKind) (mb : Nat) (m : Msg) : (a.atBody k mb m).izent.usedIds = a.izent.usedIds := by simp only [State.atBody, State.rung]; split <;> split <;> rfl
@[simp] theorem atBody_idle (a : State) (k : CmdKind) (mb : Nat) (m : Msg) : (a.atBody k mb m).izent.idle = a.izent.idle := by simp only [State.atBody, State.rung]; split <;> split <;> rfl
@[simp] theorem atBody_msixTable (a : State) (k : CmdKind) (mb : Nat) (m : Msg) : (a.atBody k mb m).izent.msixTable = a.izent.msixTable := by simp only [State.atBody, State.rung]; split <;> split <;> rfl
@[simp] theorem atBody_msixPending (a : State) (k : CmdKind) (mb : Nat) (m : Msg) : (a.atBody k mb m).izent.msixPending = a.izent.msixPending := by simp only [State.atBody, State.rung]; split <;> split <;> rfl
@[simp] theorem atBody_lastRead (a : State) (k : CmdKind) (mb : Nat) (m : Msg) : (a.atBody k mb m).izent.lastRead = a.izent.lastRead := by simp only [State.atBody, State.rung]; split <;> split <;> rfl
@[simp] theorem atBody_timeHi (a : State) (k : CmdKind) (mb : Nat) (m : Msg) : (a.atBody k mb m).izent.timeHi = a.izent.timeHi := by simp only [State.atBody, State.rung]; split <;> split <;> rfl

theorem atBody_heard {k : CmdKind} {mb : Nat} {m : Msg} {a : State} (h : a.reaches mb m) : mb < 16 ∨ ((a.atBody k mb m).mbx mb).conn.isSome = true := by
  obtain ⟨_, ⟨h1, _⟩ | ⟨h1, _, ⟨n, h3, _⟩, _⟩⟩ := h
  · exact .inl h1
  · refine .inr ?_
    have : ((a.atBody k mb m).mbx mb).conn = (a.mbx mb).conn := by
      simp only [State.atBody, State.rung, if_neg (show ¬ mb < 16 by omega)]
      simp only [decide_eq_false (show ¬ mb < 16 by omega), Bool.false_and, Bool.false_eq_true, if_false]
      simp only [State.heardFrom, State.setMbx, State.mbx, Map.get_set_same]
    rw [this, h3]; rfl

theorem reaches_lt {mb : Nat} {m : Msg} {a : State} (h : a.reaches mb m) : mb < 24 := by
  obtain ⟨_, ⟨h1, _⟩ | ⟨_, h1, _⟩⟩ := h <;> omega

/-- An accepted command whose own part completes: the response stands, and the next state is what the part left. -/
theorem accepted_ok {k : CmdKind} {t : Time} {mb : Nat} {m : Msg} {role : Nat} {s b : State} {p : Bytes} {body : Body} (h : Accepted k mb m role (s.tick t))
    (hb : body ((s.tick t).callAt k mb m role) ((s.tick t).atBody k mb m) = .ok b p) (hc : (b.mbx mb).conn.isSome = (((s.tick t).atBody k mb m).mbx mb).conn.isSome) :
    ∃ u v, command k body t mb m s = .next u ∧ u.responds k mb m stOk p ∧ State.SameUnits (b.setMbx mb { b.mbx mb with rsp := some (rspOf (code k) m stOk p) }) v ∧ u = settle (s.tick t) v := by
  have hl := reaches_lt h.arrives
  have hg : mb < 16 ∨ (b.mbx mb).conn.isSome = true := (atBody_heard (k := k) h.arrives).imp id (fun x => hc.trans x)
  refine ⟨_, _, runIf_next (by simpa using hl) t s _, ?_, ?_, rfl⟩
  · rw [accepted_issue h, hb]
    show ((settle _ _).mbx mb).rsp = _
    rw [settle_rsp]
    exact respond_rsp _ _ _ _ _ _ hl hg
  · rw [accepted_issue h, hb]
    exact respond_same _ _ _ _ _ _ hl hg

/-- The same, in the terms of the claims. -/
theorem accepted_block {k : CmdKind} {t : Time} {mb : Nat} {m : Msg} {role : Nat} {s b : State} {p : Bytes} {body : Body} (h : Accepted k mb m role (s.tick t))
    (hb : body ((s.tick t).callAt k mb m role) ((s.tick t).atBody k mb m) = .ok b p) (hc : (b.mbx mb).conn.isSome = (((s.tick t).atBody k mb m).mbx mb).conn.isSome) :
    ∃ u, command k body t mb m s = .next u ∧ u.responds k mb m stOk p ∧ State.SameBlock b u := by
  obtain ⟨u, v, h1, h2, h3, rfl⟩ := accepted_ok h hb hc
  refine ⟨_, h1, h2, ⟨?_, ?_, ?_, ?_, ?_, ?_, ?_, ?_, ?_, ?_, ?_, ?_, ?_, ?_, ?_, ?_, ?_, ?_, ?_, ?_, ?_⟩⟩
  · rw [settle_time, h3.time]; rfl
  · rw [settle_prot, h3.prot]; rfl
  · rw [settle_power, h3.power]; rfl
  · rw [settle_health, h3.health]; rfl
  · rw [settle_streams, h3.streams]; rfl
  · rw [settle_comp, h3.comp]; rfl
  · rw [settle_enc, h3.enc]; rfl
  · rw [settle_lanes, h3.lanes]; rfl
  · rw [settle_touch, h3.touch]; rfl
  · rw [settle_dram, h3.dram]; rfl
  · rw [settle_images, h3.upd]; rfl
  · rw [settle_planState, h3.upd]; rfl
  · rw [settle_plan, h3.upd]; rfl
  · rw [settle_order, h3.upd]; rfl
  · rw [settle_activated, h3.upd]; rfl
  · rw [settle_falling, h3.upd]; rfl
  · rw [settle_activating, h3.upd]; rfl
  · rw [settle_counter, h3.upd]; rfl
  · rw [settle_devState, h3.devState]; rfl
  · rw [settle_sessions, h3.sessions]; rfl
  · rw [settle_idle, h3.idle]; rfl

end Sys2Proof.Machine
end

