-- ==== Sys2Proof/Laws/Shape.lean ====
section
/-! SUPPORT. Every command and event is an effect between the advance of time and the settling of the health events. -/

namespace Sys2Proof.Machine

/-- The form of a meaning. -/
def Formed (o : Host.Outcome State Fault Refusal) (s : State) : Prop := ∃ ok t f, o = runIf ok t s f

theorem formed_run (t : Time) (s : State) (f : State → State) : Formed (run t s f) s := ⟨true, t, f, rfl⟩
theorem formed_runIf (ok : Bool) (t : Time) (s : State) (f : State → State) : Formed (runIf ok t s f) s := ⟨ok, t, f, rfl⟩
theorem formed_powerRun (t : Time) (s : State) (f : State → State) : Formed (powerRun t s f) s := formed_run t s fun x => f x.failStages
theorem formed_command (k : CmdKind) (body : Body) (t : Time) (mb : Nat) (m : Msg) (s : State) : Formed (command k body t mb m s) s := ⟨mb < 24, t, fun x => x.issue k mb m body, rfl⟩

theorem execRegisterWrite_formed (t : Time) (off : Nat) (val : Nat) (aux : WriteAux) (s : State) : Formed (execRegisterWrite t off val aux s) s := formed_run ..
theorem execMbxReset_formed (t : Time) (mb : Nat) (s : State) : Formed (execMbxReset t mb s) s := formed_runIf ..
theorem execDevTimeLoRead_formed (t : Time) (s : State) : Formed (execDevTimeLoRead t s) s := formed_run ..
theorem execEvrDropsRead_formed (t : Time) (hits : Nat) (s : State) : Formed (execEvrDropsRead t hits s) s := formed_run ..
theorem execEvrEnable_formed (t : Time) (val : Nat) (s : State) : Formed (execEvrEnable t val s) s := formed_run ..
theorem execEvrConsumerWrite_formed (t : Time) (val : Nat) (s : State) : Formed (execEvrConsumerWrite t val s) s := formed_run ..
theorem execEvrHoldoffExpiry_formed (t : Time) (s : State) : Formed (execEvrHoldoffExpiry t s) s := formed_run ..
theorem execMgmtTcpConnect_formed (t : Time) (address : Bytes) (s : State) : Formed (execMgmtTcpConnect t address s) s := formed_run ..
theorem execTlsHandshake_formed (t : Time) (mb : Nat) (chain : List Bytes) (client : TlsClient) (s : State) : Formed (execTlsHandshake t mb chain client s) s := formed_runIf ..
theorem execMgmtHandshakeTimeout_formed (t : Time) (mb : Nat) (s : State) : Formed (execMgmtHandshakeTimeout t mb s) s := formed_runIf ..
theorem execMgmtConnectionLoss_formed (t : Time) (mb : Nat) (s : State) : Formed (execMgmtConnectionLoss t mb s) s := formed_runIf ..
theorem execSessionIdleExpiry_formed (t : Time) (mb : Nat) (s : State) : Formed (execSessionIdleExpiry t mb s) s := formed_runIf ..
theorem execHeldCommandStart_formed (t : Time) (mb : Nat) (s : State) : Formed (execHeldCommandStart t mb s) s := formed_runIf ..
theorem execHoldTimeout_formed (t : Time) (mb : Nat) (s : State) : Formed (execHoldTimeout t mb s) s := formed_runIf ..
theorem execSafetyArmExpiry_formed (t : Time) (s : State) : Formed (execSafetyArmExpiry t s) s := formed_run ..
theorem execDebugUnlockExpiry_formed (t : Time) (s : State) : Formed (execDebugUnlockExpiry t s) s := formed_run ..
theorem execAuthBackoffEnd_formed (t : Time) (who : Nat) (s : State) : Formed (execAuthBackoffEnd t who s) s := formed_run ..
theorem execEntropyTestFail_formed (t : Time) (s : State) : Formed (execEntropyTestFail t s) s := formed_run ..
theorem execEntropyRetest_formed (t : Time) (pass : Bool) (s : State) : Formed (execEntropyRetest t pass s) s := formed_run ..
theorem execJtagInstruction_formed (t : Time) (ins : JtagIns) (s : State) : Formed (execJtagInstruction t ins s) s := formed_run ..
theorem execDebugMemoryAccess_formed (t : Time) (acc : DebugAccess) (s : State) : Formed (execDebugMemoryAccess t acc s) s := formed_run ..
theorem execEpochRetire_formed (t : Time) (s : State) : Formed (execEpochRetire t s) s := formed_run ..
theorem execDevAliveTick_formed (t : Time) (s : State) : Formed (execDevAliveTick t s) s := formed_run ..
theorem execReconcile_formed (t : Time) (s : State) : Formed (execReconcile t s) s := formed_run ..
theorem execLatchInstant_formed (t : Time) (latch : Latch) (s : State) : Formed (execLatchInstant t latch s) s := formed_runIf ..
theorem execFrameStart_formed (t : Time) (head : Nat) (s : State) : Formed (execFrameStart t head s) s := formed_runIf ..
theorem execFrameEnd_formed (t : Time) (head : Nat) (s : State) : Formed (execFrameEnd t head s) s := formed_runIf ..
theorem execLineDeadline_formed (t : Time) (head : Nat) (line : Nat) (late : List Nat) (s : State) : Formed (execLineDeadline t head line late s) s := formed_runIf ..
theorem execHeadPanic_formed (t : Time) (head : Nat) (line : Option Nat) (s : State) : Formed (execHeadPanic t head line s) s := formed_runIf ..
theorem execSyncInEdge_formed (t : Time) (inp : Nat) (edge : SyncEdge) (s : State) : Formed (execSyncInEdge t inp edge s) s := formed_runIf ..
theorem execSyncPulseMissed_formed (t : Time) (sg : Nat) (s : State) : Formed (execSyncPulseMissed t sg s) s := formed_runIf ..
theorem execSyncTrimRelease_formed (t : Time) (sg : Nat) (s : State) : Formed (execSyncTrimRelease t sg s) s := formed_runIf ..
theorem execHpdChange_formed (t : Time) (head : Nat) (level : Bool) (sink : SinkInfo) (s : State) : Formed (execHpdChange t head level sink s) s := formed_runIf ..
theorem execIrqHpd_formed (t : Time) (head : Nat) (lost : Bool) (s : State) : Formed (execIrqHpd t head lost s) s := formed_runIf ..
theorem execLinkTrainingDone_formed (t : Time) (head : Nat) (works : List (Nat × Nat)) (s : State) : Formed (execLinkTrainingDone t head works s) s := formed_runIf ..
theorem execLinkRetryTimer_formed (t : Time) (head : Nat) (s : State) : Formed (execLinkRetryTimer t head s) s := formed_runIf ..
theorem execLanternCompareDone_formed (t : Time) (head : Nat) (frame : Nat) (seen : List (Nat × Nat)) (reports : List (Nat × Nat)) (s : State) : Formed (execLanternCompareDone t head frame seen reports s) s := formed_runIf ..
theorem execLanternLate_formed (t : Time) (head : Nat) (frame : Nat) (s : State) : Formed (execLanternLate t head frame s) s := formed_runIf ..
theorem execLanternRetry_formed (t : Time) (window : Nat) (s : State) : Formed (execLanternRetry t window s) s := formed_runIf ..
theorem execLanternSelftest_formed (t : Time) (pass : Bool) (s : State) : Formed (execLanternSelftest t pass s) s := formed_run ..
theorem execLanternDiagnosis_formed (t : Time) (window : Nat) (failed : List Nat) (s : State) : Formed (execLanternDiagnosis t window failed s) s := formed_runIf ..
theorem execFrameReceived_formed (t : Time) (frame : Frame) (s : State) : Formed (execFrameReceived t frame s) s := formed_runIf ..
theorem execPrpHoldExpiry_formed (t : Time) (pair : Nat) (s : State) : Formed (execPrpHoldExpiry t pair s) s := formed_runIf ..
theorem execPrpEntryForget_formed (t : Time) (pair : Nat) (mac : Nat) (s : State) : Formed (execPrpEntryForget t pair mac s) s := formed_runIf ..
theorem execJumpHoldExpiry_formed (t : Time) (context : Nat) (s : State) : Formed (execJumpHoldExpiry t context s) s := formed_runIf ..
theorem execAccessUnitDeadline_formed (t : Time) (context : Nat) (s : State) : Formed (execAccessUnitDeadline t context s) s := formed_runIf ..
theorem execSt2110PictureDeadline_formed (t : Time) (context : Nat) (s : State) : Formed (execSt2110PictureDeadline t context s) s := formed_runIf ..
theorem execIgmpQuery_formed (t : Time) (query : IgmpQuery) (s : State) : Formed (execIgmpQuery t query s) s := formed_runIf ..
theorem execIgmpReportRepeat_formed (t : Time) (context : Nat) (s : State) : Formed (execIgmpReportRepeat t context s) s := formed_runIf ..
theorem execPatternPicture_formed (t : Time) (source : Nat) (s : State) : Formed (execPatternPicture t source s) s := formed_runIf ..
theorem execStillVerifyPeriod_formed (t : Time) (source : Nat) (s : State) : Formed (execStillVerifyPeriod t source s) s := formed_runIf ..
theorem execStillVerifyDone_formed (t : Time) (crc : Nat) (s : State) : Formed (execStillVerifyDone t crc s) s := formed_run ..
theorem execScanJobDone_formed (t : Time) (refused : Bool) (s : State) : Formed (execScanJobDone t refused s) s := formed_run ..
theorem execConfigAudit_formed (t : Time) (corrupt : Bool) (copyOk : Bool) (s : State) : Formed (execConfigAudit t corrupt copyOk s) s := formed_run ..
theorem execDecodeStart_formed (t : Time) (engine context : Nat) (s : State) : Formed (execDecodeStart t engine context s) s := formed_runIf ..
theorem execDecodeEnd_formed (t : Time) (engine : Nat) (result : DecodeResult) (s : State) : Formed (execDecodeEnd t engine result s) s := formed_runIf ..
theorem execWorkBudgetExpiry_formed (t : Time) (engine : Nat) (result : DecodeResult) (s : State) : Formed (execWorkBudgetExpiry t engine result s) s := formed_runIf ..
theorem execTagWriteAck_formed (t : Time) (source : Nat) (s : State) : Formed (execTagWriteAck t source s) s := formed_runIf ..
theorem execNoEntryTimer_formed (t : Time) (context : Nat) (s : State) : Formed (execNoEntryTimer t context s) s := formed_runIf ..
theorem execContextDrainEnd_formed (t : Time) (context : Nat) (s : State) : Formed (execContextDrainEnd t context s) s := formed_runIf ..
theorem execEncodePictureDone_formed (t : Time) (channel : Nat) (coded : CodedPicture) (s : State) : Formed (execEncodePictureDone t channel coded s) s := formed_runIf ..
theorem execEncodeDrainEnd_formed (t : Time) (channel : Nat) (s : State) : Formed (execEncodeDrainEnd t channel s) s := formed_runIf ..
theorem execQpRaiseDecay_formed (t : Time) (s : State) : Formed (execQpRaiseDecay t s) s := formed_run ..
theorem execPtpMessage_formed (t : Time) (port : Nat) (msg : PtpMsg) (s : State) : Formed (execPtpMessage t port msg s) s := formed_runIf ..
theorem execPtpRequestInterval_formed (t : Time) (base : Nat) (s : State) : Formed (execPtpRequestInterval t base s) s := formed_runIf ..
theorem execTimeBaseLossTimeout_formed (t : Time) (base : Nat) (s : State) : Formed (execTimeBaseLossTimeout t base s) s := formed_runIf ..
theorem execTimeSelectEval_formed (t : Time) (s : State) : Formed (execTimeSelectEval t s) s := formed_run ..
theorem execDramGrant_formed (t : Time) (channel : Nat) (g : GrantInfo) (s : State) : Formed (execDramGrant t channel g s) s := formed_runIf ..
theorem execSlotTableWrap_formed (t : Time) (channel : Nat) (s : State) : Formed (execSlotTableWrap t channel s) s := formed_runIf ..
theorem execDramRefresh_formed (t : Time) (channel : Nat) (bank : Nat) (busy : Bool) (s : State) : Formed (execDramRefresh t channel bank busy s) s := formed_runIf ..
theorem execDramRetrain_formed (t : Time) (channel : Nat) (temp : Int) (ok : Bool) (s : State) : Formed (execDramRetrain t channel temp ok s) s := formed_runIf ..
theorem execDramScrub_formed (t : Time) (found : ScrubFinding) (s : State) : Formed (execDramScrub t found s) s := formed_run ..
theorem execLaneSignalChange_formed (t : Time) (lane : Nat) (cond : LaneCond) (s : State) : Formed (execLaneSignalChange t lane cond s) s := formed_runIf ..
theorem execLaneStateTimer_formed (t : Time) (lane : Nat) (s : State) : Formed (execLaneStateTimer t lane s) s := formed_runIf ..
theorem execLaneFlapQuiet_formed (t : Time) (lane : Nat) (s : State) : Formed (execLaneFlapQuiet t lane s) s := formed_runIf ..
theorem execLaneAdaptLimit_formed (t : Time) (lane : Nat) (held : Bool) (s : State) : Formed (execLaneAdaptLimit t lane held s) s := formed_runIf ..
theorem execLaneEyeCheck_formed (t : Time) (lane : Nat) (height : Nat) (width : Nat) (s : State) : Formed (execLaneEyeCheck t lane height width s) s := formed_runIf ..
theorem execLpiIdleTimer_formed (t : Time) (lane : Nat) (s : State) : Formed (execLpiIdleTimer t lane s) s := formed_runIf ..
theorem execModabsChange_formed (t : Time) (lane : Nat) (high : Bool) (s : State) : Formed (execModabsChange t lane high s) s := formed_runIf ..
theorem execModuleReadDelay_formed (t : Time) (lane : Nat) (bytes : Bytes) (s : State) : Formed (execModuleReadDelay t lane bytes s) s := formed_runIf ..
theorem execTxfltChange_formed (t : Time) (lane : Nat) (level : Bool) (s : State) : Formed (execTxfltChange t lane level s) s := formed_runIf ..
theorem execTxdisCycle_formed (t : Time) (lane : Nat) (s : State) : Formed (execTxdisCycle t lane s) s := formed_runIf ..
theorem execModuleOvercurrent_formed (t : Time) (lane : Nat) (s : State) : Formed (execModuleOvercurrent t lane s) s := formed_runIf ..
theorem execTouchScanFrame_formed (t : Time) (cm : List Nat) (s : State) : Formed (execTouchScanFrame t cm s) s := formed_run ..
theorem execKeyMaxOnExpiry_formed (t : Time) (electrode : Nat) (s : State) : Formed (execKeyMaxOnExpiry t electrode s) s := formed_runIf ..
theorem execKeyUnmaskTimer_formed (t : Time) (electrode : Nat) (s : State) : Formed (execKeyUnmaskTimer t electrode s) s := formed_runIf ..
theorem execNegativeDeltaTimer_formed (t : Time) (electrode : Nat) (s : State) : Formed (execNegativeDeltaTimer t electrode s) s := formed_runIf ..
theorem execElectrodeFaultTimer_formed (t : Time) (electrode : Nat) (s : State) : Formed (execElectrodeFaultTimer t electrode s) s := formed_runIf ..
theorem execLocalActionStart_formed (t : Time) (s : State) : Formed (execLocalActionStart t s) s := formed_run ..
theorem execFeedVoltageChange_formed (t : Time) (a : Nat) (b : Nat) (elapsed : Nat) (s : State) : Formed (execFeedVoltageChange t a b elapsed s) s := formed_powerRun ..
theorem execFeedQualifyTimer_formed (t : Time) (s : State) : Formed (execFeedQualifyTimer t s) s := formed_powerRun ..
theorem execSwitchingCycleEnd_formed (t : Time) (copied : Bool) (s : State) : Formed (execSwitchingCycleEnd t copied s) s := formed_powerRun ..
theorem execFrontEndFault_formed (t : Time) (cause : Nat) (s : State) : Formed (execFrontEndFault t cause s) s := formed_powerRun ..
theorem execKaChange_formed (t : Time) (mv : Nat) (s : State) : Formed (execKaChange t mv s) s := formed_powerRun ..
theorem execDomainOffComplete_formed (t : Time) (domain : Nat) (s : State) : Formed (execDomainOffComplete t domain s) s := formed_runIf ..
theorem execDomainOnComplete_formed (t : Time) (domain : Nat) (repairs : List (Nat × Nat)) (bad : List Nat) (ok : Bool) (s : State) : Formed (execDomainOnComplete t domain repairs bad ok s) s := formed_runIf ..
theorem execDomainFault_formed (t : Time) (domain : Nat) (cause : Nat) (s : State) : Formed (execDomainFault t domain cause s) s := formed_runIf ..
theorem execSysReset_formed (t : Time) (held : Nat) (s : State) : Formed (execSysReset t held s) s := formed_powerRun ..
theorem execPciePerst_formed (t : Time) (asserted : Bool) (s : State) : Formed (execPciePerst t asserted s) s := formed_run ..
theorem execStartUp_formed (t : Time) (obs : StartObs) (s : State) : Formed (execStartUp t obs s) s := formed_powerRun ..
theorem execStartStepTimeout_formed (t : Time) (stage : Nat) (s : State) : Formed (execStartStepTimeout t stage s) s := formed_powerRun ..
theorem execRestartDelay_formed (t : Time) (s : State) : Formed (execRestartDelay t s) s := formed_powerRun ..
theorem execPaceSample_formed (t : Time) (monitors : List (List Nat)) (s : State) : Formed (execPaceSample t monitors s) s := formed_run ..
theorem execPowerOverCap_formed (t : Time) (mw : Nat) (s : State) : Formed (execPowerOverCap t mw s) s := formed_run ..
theorem execDecoderSelfTest_formed (t : Time) (engine : Nat) (pass : Bool) (s : State) : Formed (execDecoderSelfTest t engine pass s) s := formed_runIf ..
theorem execScalerSelfTest_formed (t : Time) (scaler : Nat) (pass : Bool) (s : State) : Formed (execScalerSelfTest t scaler pass s) s := formed_runIf ..
theorem execSpireLockstep_formed (t : Time) (pair : Nat) (cause : Nat) (s : State) : Formed (execSpireLockstep t pair cause s) s := formed_runIf ..
theorem execHouseEngineReload_formed (t : Time) (engine : Nat) (s : State) : Formed (execHouseEngineReload t engine s) s := formed_runIf ..
theorem execShedEvaluation_formed (t : Time) (s : State) : Formed (execShedEvaluation t s) s := formed_run ..
theorem execShedUnwind_formed (t : Time) (s : State) : Formed (execShedUnwind t s) s := formed_run ..
theorem execUpdateStageDone_formed (t : Time) (container : ContainerRead) (written : Bool) (s : State) : Formed (execUpdateStageDone t container written s) s := formed_run ..
theorem execSpireASwitch_formed (t : Time) (s : State) : Formed (execSpireASwitch t s) s := formed_run ..
theorem execCompActivation_formed (t : Time) (s : State) : Formed (execCompActivation t s) s := formed_run ..
theorem execImageRunning_formed (t : Time) (ok : Bool) (s : State) : Formed (execImageRunning t ok s) s := formed_run ..
theorem execActivationTimeout_formed (t : Time) (s : State) : Formed (execActivationTimeout t s) s := formed_run ..
theorem execConfirmDeadline_formed (t : Time) (s : State) : Formed (execConfirmDeadline t s) s := formed_run ..
theorem execSelfTestSettled_formed (t : Time) (s : State) : Formed (execSelfTestSettled t s) s := formed_run ..
theorem execFlushTimer_formed (t : Time) (s : State) : Formed (execFlushTimer t s) s := formed_run ..
theorem execRecorderFlushDone_formed (t : Time) (s : State) : Formed (execRecorderFlushDone t s) s := formed_run ..
theorem execRateLimitClose_formed (t : Time) (ty : Nat) (subject : Nat) (s : State) : Formed (execRateLimitClose t ty subject s) s := formed_run ..
theorem execSynthesiserLockChange_formed (t : Time) (head : Nat) (locked : Bool) (s : State) : Formed (execSynthesiserLockChange t head locked s) s := formed_runIf ..
theorem execSpireRecoveryDone_formed (t : Time) (pair : Nat) (s : State) : Formed (execSpireRecoveryDone t pair s) s := formed_runIf ..
theorem execPtpMasterLoss_formed (t : Time) (base : Nat) (port : Nat) (s : State) : Formed (execPtpMasterLoss t base port s) s := formed_runIf ..
theorem execSramScrub_formed (t : Time) (unit : SramFinding) (s : State) : Formed (execSramScrub t unit s) s := formed_run ..

theorem exec_formed (i : Instr) (s : State) : Formed (exec i s) s := by
  cases i with
  | systemIdentify => exact formed_command ..
  | systemStatus => exact formed_command ..
  | systemRestart => exact formed_command ..
  | abort => exact formed_command ..
  | layoutPropose => exact formed_command ..
  | layoutCommit => exact formed_command ..
  | layoutStore => exact formed_command ..
  | layoutStoredCommit => exact formed_command ..
  | layoutRead => exact formed_command ..
  | streamOpen => exact formed_command ..
  | streamClose => exact formed_command ..
  | streamStatus => exact formed_command ..
  | decodeStatus => exact formed_command ..
  | sourceSet => exact formed_command ..
  | sourceStatus => exact formed_command ..
  | windowSet => exact formed_command ..
  | windowGet => exact formed_command ..
  | windowStatus => exact formed_command ..
  | backgroundSet => exact formed_command ..
  | blendSet => exact formed_command ..
  | toneProfileSet => exact formed_command ..
  | toneProfileGet => exact formed_command ..
  | coefSet => exact formed_command ..
  | coefGet => exact formed_command ..
  | tileRecordsGet => exact formed_command ..
  | glyphGet => exact formed_command ..
  | safetyArm => exact formed_command ..
  | safetyApply => exact formed_command ..
  | safetyGet => exact formed_command ..
  | lanternClear => exact formed_command ..
  | lanternStatus => exact formed_command ..
  | alertAck => exact formed_command ..
  | headTimingSet => exact formed_command ..
  | headTimingGet => exact formed_command ..
  | headStatus => exact formed_command ..
  | headEdidGet => exact formed_command ..
  | encodeOpen => exact formed_command ..
  | encodeSet => exact formed_command ..
  | encodeClose => exact formed_command ..
  | encodeStatus => exact formed_command ..
  | timeBaseSet => exact formed_command ..
  | timeSelectSet => exact formed_command ..
  | timeAccept => exact formed_command ..
  | timeConfigGet => exact formed_command ..
  | timeStatus => exact formed_command ..
  | portAddressSet => exact formed_command ..
  | portAddressGet => exact formed_command ..
  | laneSet => exact formed_command ..
  | laneRead => exact formed_command ..
  | laneModuleRead => exact formed_command ..
  | mgmtSet => exact formed_command ..
  | touchKeySet => exact formed_command ..
  | touchModeSet => exact formed_command ..
  | localActionSet => exact formed_command ..
  | touchRebaseline => exact formed_command ..
  | touchRead => exact formed_command ..
  | sessionOpen => exact formed_command ..
  | sessionClose => exact formed_command ..
  | sessionList => exact formed_command ..
  | sessionIdleSet => exact formed_command ..
  | credentialSet => exact formed_command ..
  | trustAnchorSet => exact formed_command ..
  | deviceCertGet => exact formed_command ..
  | doorRulesSet => exact formed_command ..
  | doorRulesGet => exact formed_command ..
  | debugUnlock => exact formed_command ..
  | debugLock => exact formed_command ..
  | updatePlan => exact formed_command ..
  | updateRun => exact formed_command ..
  | updateConfirm => exact formed_command ..
  | updateFallback => exact formed_command ..
  | updateStatus => exact formed_command ..
  | recorderRead => exact formed_command ..
  | recorderClear => exact formed_command ..
  | recorderSubscribe => exact formed_command ..
  | recorderFlush => exact formed_command ..
  | domainSet => exact formed_command ..
  | powerCapSet => exact formed_command ..
  | domainStatus => exact formed_command ..
  | healthRead => exact formed_command ..
  | scanSubmit => exact formed_command ..
  | scanResult => exact formed_command ..
  | lanePrbsSet => exact formed_command ..
  | lanePrbsRead => exact formed_command ..
  | dramHashSet => exact formed_command ..
  | registerWrite => exact execRegisterWrite_formed ..
  | mbxReset => exact execMbxReset_formed ..
  | devTimeLoRead => exact execDevTimeLoRead_formed ..
  | evrDropsRead => exact execEvrDropsRead_formed ..
  | evrEnable => exact execEvrEnable_formed ..
  | evrConsumerWrite => exact execEvrConsumerWrite_formed ..
  | evrHoldoffExpiry => exact execEvrHoldoffExpiry_formed ..
  | mgmtTcpConnect => exact execMgmtTcpConnect_formed ..
  | tlsHandshake => exact execTlsHandshake_formed ..
  | mgmtHandshakeTimeout => exact execMgmtHandshakeTimeout_formed ..
  | mgmtConnectionLoss => exact execMgmtConnectionLoss_formed ..
  | sessionIdleExpiry => exact execSessionIdleExpiry_formed ..
  | heldCommandStart => exact execHeldCommandStart_formed ..
  | holdTimeout => exact execHoldTimeout_formed ..
  | safetyArmExpiry => exact execSafetyArmExpiry_formed ..
  | debugUnlockExpiry => exact execDebugUnlockExpiry_formed ..
  | authBackoffEnd => exact execAuthBackoffEnd_formed ..
  | entropyTestFail => exact execEntropyTestFail_formed ..
  | entropyRetest => exact execEntropyRetest_formed ..
  | jtagInstruction => exact execJtagInstruction_formed ..
  | debugMemoryAccess => exact execDebugMemoryAccess_formed ..
  | epochRetire => exact execEpochRetire_formed ..
  | devAliveTick => exact execDevAliveTick_formed ..
  | reconcile => exact execReconcile_formed ..
  | latchInstant => exact execLatchInstant_formed ..
  | frameStart => exact execFrameStart_formed ..
  | frameEnd => exact execFrameEnd_formed ..
  | lineDeadline => exact execLineDeadline_formed ..
  | headPanic => exact execHeadPanic_formed ..
  | syncInEdge => exact execSyncInEdge_formed ..
  | syncPulseMissed => exact execSyncPulseMissed_formed ..
  | syncTrimRelease => exact execSyncTrimRelease_formed ..
  | hpdChange => exact execHpdChange_formed ..
  | irqHpd => exact execIrqHpd_formed ..
  | linkTrainingDone => exact execLinkTrainingDone_formed ..
  | linkRetryTimer => exact execLinkRetryTimer_formed ..
  | lanternCompareDone => exact execLanternCompareDone_formed ..
  | lanternLate => exact execLanternLate_formed ..
  | lanternRetry => exact execLanternRetry_formed ..
  | lanternSelftest => exact execLanternSelftest_formed ..
  | lanternDiagnosis => exact execLanternDiagnosis_formed ..
  | frameReceived => exact execFrameReceived_formed ..
  | prpHoldExpiry => exact execPrpHoldExpiry_formed ..
  | prpEntryForget => exact execPrpEntryForget_formed ..
  | jumpHoldExpiry => exact execJumpHoldExpiry_formed ..
  | accessUnitDeadline => exact execAccessUnitDeadline_formed ..
  | st2110PictureDeadline => exact execSt2110PictureDeadline_formed ..
  | igmpQuery => exact execIgmpQuery_formed ..
  | igmpReportRepeat => exact execIgmpReportRepeat_formed ..
  | patternPicture => exact execPatternPicture_formed ..
  | stillVerifyPeriod => exact execStillVerifyPeriod_formed ..
  | stillVerifyDone => exact execStillVerifyDone_formed ..
  | scanJobDone => exact execScanJobDone_formed ..
  | configAudit => exact execConfigAudit_formed ..
  | decodeStart => exact execDecodeStart_formed ..
  | decodeEnd => exact execDecodeEnd_formed ..
  | workBudgetExpiry => exact execWorkBudgetExpiry_formed ..
  | tagWriteAck => exact execTagWriteAck_formed ..
  | noEntryTimer => exact execNoEntryTimer_formed ..
  | contextDrainEnd => exact execContextDrainEnd_formed ..
  | encodePictureDone => exact execEncodePictureDone_formed ..
  | encodeDrainEnd => exact execEncodeDrainEnd_formed ..
  | qpRaiseDecay => exact execQpRaiseDecay_formed ..
  | ptpMessage => exact execPtpMessage_formed ..
  | ptpRequestInterval => exact execPtpRequestInterval_formed ..
  | timeBaseLossTimeout => exact execTimeBaseLossTimeout_formed ..
  | timeSelectEval => exact execTimeSelectEval_formed ..
  | dramGrant => exact execDramGrant_formed ..
  | slotTableWrap => exact execSlotTableWrap_formed ..
  | dramRefresh => exact execDramRefresh_formed ..
  | dramRetrain => exact execDramRetrain_formed ..
  | dramScrub => exact execDramScrub_formed ..
  | laneSignalChange => exact execLaneSignalChange_formed ..
  | laneStateTimer => exact execLaneStateTimer_formed ..
  | laneFlapQuiet => exact execLaneFlapQuiet_formed ..
  | laneAdaptLimit => exact execLaneAdaptLimit_formed ..
  | laneEyeCheck => exact execLaneEyeCheck_formed ..
  | lpiIdleTimer => exact execLpiIdleTimer_formed ..
  | modabsChange => exact execModabsChange_formed ..
  | moduleReadDelay => exact execModuleReadDelay_formed ..
  | txfltChange => exact execTxfltChange_formed ..
  | txdisCycle => exact execTxdisCycle_formed ..
  | moduleOvercurrent => exact execModuleOvercurrent_formed ..
  | touchScanFrame => exact execTouchScanFrame_formed ..
  | keyMaxOnExpiry => exact execKeyMaxOnExpiry_formed ..
  | keyUnmaskTimer => exact execKeyUnmaskTimer_formed ..
  | negativeDeltaTimer => exact execNegativeDeltaTimer_formed ..
  | electrodeFaultTimer => exact execElectrodeFaultTimer_formed ..
  | localActionStart => exact execLocalActionStart_formed ..
  | feedVoltageChange => exact execFeedVoltageChange_formed ..
  | feedQualifyTimer => exact execFeedQualifyTimer_formed ..
  | switchingCycleEnd => exact execSwitchingCycleEnd_formed ..
  | frontEndFault => exact execFrontEndFault_formed ..
  | kaChange => exact execKaChange_formed ..
  | domainOffComplete => exact execDomainOffComplete_formed ..
  | domainOnComplete => exact execDomainOnComplete_formed ..
  | domainFault => exact execDomainFault_formed ..
  | sysReset => exact execSysReset_formed ..
  | pciePerst => exact execPciePerst_formed ..
  | startUp => exact execStartUp_formed ..
  | startStepTimeout => exact execStartStepTimeout_formed ..
  | restartDelay => exact execRestartDelay_formed ..
  | paceSample => exact execPaceSample_formed ..
  | powerOverCap => exact execPowerOverCap_formed ..
  | decoderSelfTest => exact execDecoderSelfTest_formed ..
  | scalerSelfTest => exact execScalerSelfTest_formed ..
  | spireLockstep => exact execSpireLockstep_formed ..
  | houseEngineReload => exact execHouseEngineReload_formed ..
  | shedEvaluation => exact execShedEvaluation_formed ..
  | shedUnwind => exact execShedUnwind_formed ..
  | updateStageDone => exact execUpdateStageDone_formed ..
  | spireASwitch => exact execSpireASwitch_formed ..
  | compActivation => exact execCompActivation_formed ..
  | imageRunning => exact execImageRunning_formed ..
  | activationTimeout => exact execActivationTimeout_formed ..
  | confirmDeadline => exact execConfirmDeadline_formed ..
  | selfTestSettled => exact execSelfTestSettled_formed ..
  | flushTimer => exact execFlushTimer_formed ..
  | recorderFlushDone => exact execRecorderFlushDone_formed ..
  | rateLimitClose => exact execRateLimitClose_formed ..
  | synthesiserLockChange => exact execSynthesiserLockChange_formed ..
  | spireRecoveryDone => exact execSpireRecoveryDone_formed ..
  | ptpMasterLoss => exact execPtpMasterLoss_formed ..
  | sramScrub => exact execSramScrub_formed ..

/-- A command or event that answers a next state settles an effect. -/
theorem exec_settles {i : Instr} {s u : State} (h : exec i s = .next u) : ∃ t b, u = settle (s.tick t) b := by
  obtain ⟨ok, t, f, e⟩ := exec_formed i s
  rw [e] at h
  unfold runIf at h
  split at h
  · cases h; exact ⟨t, _, rfl⟩
  · cases h

end Sys2Proof.Machine
end

