-- ==== Sys2Proof/Laws/Answers.lean ====
section
/-! SUPPORT. A claim that a command answers follows from what its own part does (R320–R323). -/

namespace Sys2Proof.Machine

/-- The meaning of a command's constructor. -/
theorem cmdInstr_exec (k : CmdKind) (t : Time) (mb : Nat) (m : Msg) (s : State) : exec (cmdInstr k t mb m) s = command k (bodyOf k) t mb m s := by
  cases k <;> rfl

/-- A command whose own part completes as stated. -/
theorem answers {k : CmdKind} {pre : Call → State → Prop} {payload : Call → State → Bytes} {next : Call → State → State}
    (hb : ∀ c a, pre c a → bodyOf k c a = .ok (next c a) (payload c a)) (hc : ∀ c a n, pre c a → ((next c a).mbx n).conn.isSome = (a.mbx n).conn.isSome) : Answers k pre payload next := by
  intro t mb m role s h hp
  obtain ⟨u, h1, h2, h3⟩ := accepted_block h (hb _ _ hp) (hc _ _ _ hp)
  exact ⟨u, (cmdInstr_exec ..).trans h1, h2, h3⟩


theorem State.SameBlock.refl (a : State) : State.SameBlock a a := by constructor <;> rfl

theorem State.SameBlock.trans {a b c : State} (h : State.SameBlock a b) (k : State.SameBlock b c) : State.SameBlock a c :=
  ⟨k.time.trans h.time, k.prot.trans h.prot, k.power.trans h.power, k.health.trans h.health, k.streams.trans h.streams, k.comp.trans h.comp, k.enc.trans h.enc, k.lanes.trans h.lanes, k.touch.trans h.touch, k.dram.trans h.dram, k.images.trans h.images, k.planState.trans h.planState, k.plan.trans h.plan, k.order.trans h.order, k.activated.trans h.activated, k.falling.trans h.falling, k.activating.trans h.activating, k.counter.trans h.counter, k.devState.trans h.devState, k.sessions.trans h.sessions, k.idle.trans h.idle⟩

/-- What leaves the units alone leaves the block alone. -/
theorem State.SameUnits.block {a b : State} (h : State.SameUnits a b) : State.SameBlock a b :=
  ⟨h.time, h.prot, h.power, h.health, h.streams, h.comp, h.enc, h.lanes, h.touch, h.dram, by rw [h.upd], by rw [h.upd], by rw [h.upd], by rw [h.upd], by rw [h.upd], by rw [h.upd], by rw [h.upd], by rw [h.upd], h.devState, h.sessions, h.idle⟩

/-- The same where the state is left but for the interface and the recorder. -/
theorem answers_same {k : CmdKind} {pre : Call → State → Prop} {payload : Call → State → Bytes} {next left : Call → State → State}
    (hb : ∀ c a, pre c a → bodyOf k c a = .ok (left c a) (payload c a)) (hc : ∀ c a n, pre c a → ((left c a).mbx n).conn.isSome = (a.mbx n).conn.isSome)
    (hs : ∀ c a, pre c a → State.SameBlock (next c a) (left c a)) : Answers k pre payload next := by
  intro t mb m role s h hp
  obtain ⟨u, h1, h2, h3⟩ := accepted_block h (hb _ _ hp) (hc _ _ _ hp)
  exact ⟨u, (cmdInstr_exec ..).trans h1, h2, (hs _ _ hp).trans h3⟩

theorem record_heard (s : State) (ty : Nat) (v : List (Nat × Int)) (n : Nat) : ((s.record ty v).mbx n).conn.isSome = (s.mbx n).conn.isSome := (s.record_same ty v).heard n

theorem fold_heard {α : Type} {f : State → α → State} {n : Nat} (h : ∀ s x, ((f s x).mbx n).conn.isSome = (s.mbx n).conn.isSome) (l : List α) (s : State) :
    ((l.foldl f s).mbx n).conn.isSome = (s.mbx n).conn.isSome := by
  induction l generalizing s with
  | nil => rfl
  | cons x l ih => rw [List.foldl_cons, ih, h]

end Sys2Proof.Machine
end

