-- ==== Sys2Proof/Laws/Memory.lean ====
section
/-! SUPPORT. The DRAM contents: every write keeps the canonical form, a read after a write gives the byte written, and every other byte stays (R374, R375). -/

namespace Sys2Proof.Machine

theorem memRises_mono {m : List Host.Cell} {a b : Nat} (hab : a ≤ b) (h : memRises b m = true) : memRises a m = true := by
  cases m with
  | nil => rfl
  | cons c m =>
    simp only [memRises, Bool.and_eq_true, decide_eq_true_eq] at h ⊢
    exact ⟨⟨Nat.le_trans hab h.1.1, h.1.2⟩, h.2⟩

theorem memPut_rises {m : List Host.Cell} {lo a : Nat} {b : Byte} (hl : lo ≤ a) (ha : a < 2 ^ 35) (h : memRises lo m = true) : memRises lo (memPut m a b) = true := by
  induction m generalizing lo with
  | nil => simp [memPut, memRises, hl]; exact ha
  | cons c m ih =>
    simp only [memRises, Bool.and_eq_true, decide_eq_true_eq] at h
    simp only [memPut]
    split
    · rename_i hc
      simp only [memRises, Bool.and_eq_true, decide_eq_true_eq]
      exact ⟨⟨hl, ha⟩, ⟨hc, h.1.2⟩, h.2⟩
    · split
      · rename_i hc
        simp only [memRises, Bool.and_eq_true, decide_eq_true_eq]
        exact ⟨⟨hl, ha⟩, hc ▸ h.2⟩
      · rename_i h1 h2
        simp only [memRises, Bool.and_eq_true, decide_eq_true_eq]
        exact ⟨h.1, ih (by omega) h.2⟩

/-- A write of one byte keeps the canonical form. -/
theorem memPut_wf {m : List Host.Cell} {a : Nat} {b : Byte} (ha : a < 2 ^ 35) (h : Memory.wf m = true) : Memory.wf (memPut m a b) = true :=
  memPut_rises (Nat.zero_le a) ha h

/-- A byte reads as written. -/
theorem find_memPut_same (m : List Host.Cell) (a : Nat) (b : Byte) : ((memPut m a b).find? fun c => c.1 == a).map (fun c => c.2) = some b := by
  induction m with
  | nil => simp [memPut]
  | cons c m ih =>
    simp only [memPut]
    split
    · simp
    · split
      · simp
      · rename_i h1 h2
        have : (c.1 == a) = false := by simp; omega
        simp [List.find?_cons, this, ih]

/-- Every other byte reads as before, in canonical form. -/
theorem find_memPut_other {m : List Host.Cell} {a k : Nat} {b : Byte} (hk : k ≠ a) : ((memPut m a b).find? fun c => c.1 == k).map (fun c => c.2) = (m.find? fun c => c.1 == k).map (fun c => c.2) := by
  induction m with
  | nil => simp [memPut, Ne.symm hk]
  | cons c m ih =>
    simp only [memPut]
    split
    · simp [List.find?_cons, Ne.symm hk]
    · split
      · rename_i h1 h2
        have : (c.1 == k) = false := by simp; omega
        simp [List.find?_cons, Ne.symm hk, this]
      · simp only [List.find?_cons]
        split
        · rfl
        · exact ih

theorem memWrite_wf (l : List (Byte × Nat)) (a : Nat) (m : List Host.Cell) (h : Memory.wf m = true) :
    Memory.wf (l.foldl (fun m e => if a + e.2 < 2 ^ 35 then memPut m (a + e.2) e.1 else m) m) = true := by
  induction l generalizing m with
  | nil => exact h
  | cons e l ih =>
    simp only [List.foldl_cons]
    apply ih
    split
    · rename_i hc; exact memPut_wf hc h
    · exact h

/-- Every write of the machine keeps the canonical form. -/
theorem Dram.write_wf (d : Dram) (a : Nat) (bs : Bytes) (h : Memory.wf d.mem = true) : Memory.wf (d.write a bs).mem = true := memWrite_wf _ _ _ h

theorem memWrite_other (l : List (Byte × Nat)) (a k : Nat) (m : List Host.Cell) (hk : ∀ e ∈ l, k ≠ a + e.2) :
    ((l.foldl (fun m e => if a + e.2 < 2 ^ 35 then memPut m (a + e.2) e.1 else m) m).find? fun c => c.1 == k).map (fun c => c.2) = (m.find? fun c => c.1 == k).map (fun c => c.2) := by
  induction l generalizing m with
  | nil => rfl
  | cons e l ih =>
    simp only [List.foldl_cons]
    rw [ih _ fun x hx => hk x (List.mem_cons_of_mem _ hx)]
    split
    · exact find_memPut_other (hk e (List.mem_cons_self ..))
    · rfl

/-- A write leaves every byte outside its range as it was. -/
theorem Dram.write_other (d : Dram) (a k : Nat) (bs : Bytes) (hk : k < a ∨ a + bs.length ≤ k) : (d.write a bs).byte? k = d.byte? k := by
  apply memWrite_other
  intro e he
  have := List.mem_zipIdx he
  omega

@[simp] theorem State.reset_mem_wf : Memory.wf State.reset.dram.mem = true := rfl

end Sys2Proof.Machine
end

