-- ==== Sys2Proof/Tests/Setup.lean ====
section
/-! SUPPORT. States and messages for the tests and the witnesses, and the conditions of `Accepted` as a computation. -/

set_option Elab.async false

namespace Sys2Proof.Tests

open Sys2Proof Sys2Proof.Machine

/-- READY, with every domain on, a session of each role on the mailbox of its number, and a network connection with a session of each of the roles 0, 2 and 4 on NM0 to NM2. -/
def rdy : State :=
  { izent := {
      devState := .ready
      mbx := [(16, { conn := some { address := [], since := 0, role := some 0, cred := 7, key := [4] } }), (17, { conn := some { address := [], since := 0, role := some 2, cred := 8, key := [4, 1] } }),
        (18, { conn := some { address := [], since := 0, role := some 4, cred := 9, key := [4, 2] } })]
      sessions := ((List.range 6).map fun r => { id := r + 1, role := r, mailbox := r, opened := 0, lastRequest := 0, lastAt := 0, cred := r + 1 }) ++
        [{ id := 8, role := 2, mailbox := 17, opened := 0, lastRequest := 0, lastAt := 0, cred := 8 }, { id := 9, role := 4, mailbox := 18, opened := 0, lastRequest := 0, lastAt := 0, cred := 9 }] }
    power := { domains := (List.range 14).map fun d => (d, { state := .on }) }
    prot := { store := { creds := [{ id := 6, role := 5, key := [4, 6] }, { id := 7, role := 0, key := [4] }] } } }

/-- A request of command `k` with this payload, its CRC right, in session `ses`; `v` says whether the module it reads answers. -/
def req (k : CmdKind) (ses : Nat) (payload : Bytes) (data : List Bytes := []) (v : Bool := false) : Msg :=
  let m : Msg := { session := ses, sequence := 1, payload := payload, length := 32 + payload.length, data := data, dataCrc := data.map crc32c, module := if v then some [] else none }
  { m with crc := msgCrc (code k) m }

/-- The conditions of `reaches`, computed. -/
def arrives (mb : Nat) (m : Msg) (a : State) : Bool :=
  a.serves mb && (if mb < 16 then (a.mbx mb).state == .idle && !m.readFails && a.hostAllows 0 (a.mbx mb).request (max 32 m.length)
    else decide (mb < 24) && (match (a.mbx mb).conn with | some n => n.role.isSome | none => false) && (a.mbx mb).job.isNone && m.data.map crc32c == m.dataCrc)

theorem reaches_of (mb : Nat) (m : Msg) (a : State) (h : arrives mb m a = true) : a.reaches mb m := by
  unfold arrives at h
  unfold State.reaches
  cases hc : (a.mbx mb).conn <;> by_cases hm : mb < 16 <;> simp_all <;> omega

/-- The bounds that R318 gives the distance of a sequence number, computed. -/
def inWindow (d : Nat) : Bool := Nat.ble 1 d && Nat.ble d 2147483647

theorem window_of (d : Nat) (h : inWindow d = true) : 1 ≤ d ∧ d ≤ 2147483647 := by
  unfold inWindow at h
  exact ⟨Nat.le_of_ble_eq_true (Bool.and_eq_true_iff.mp h).1, Nat.le_of_ble_eq_true (Bool.and_eq_true_iff.mp h).2⟩

/-- The sender passes its checks with this role, computed. -/
def roleIs (x : Except Err Nat) (role : Nat) : Bool := match x with | .ok r => r == role | .error _ => false

theorem role_of (x : Except Err Nat) (role : Nat) (h : roleIs x role = true) : x = .ok role := by
  unfold roleIs at h
  split at h
  · rw [beq_iff_eq.mp h]
  · cases h

/-- The conditions of `Accepted`, computed one by one. -/
def conditions (k : CmdKind) (mb : Nat) (m : Msg) (role : Nat) (a : State) : List Bool :=
  [arrives mb m a, (headerBad m).isNone, decide (m.crc = msgCrc (code k) m), inWindow ((m.sequence + 4294967296 - (a.mbx mb).lastSeq) % 4294967296), roleIs (a.mayIssue k mb m (messagePayload m)) role,
   always k || (!a.health.recovering.contains 0 && !a.prot.halted.contains 0 && a.upd.spireSwitch.isNone), a.izent.devState == .ready || early k || a.upd.bootRom,
   decide ((messagePayload m).length = paySize k (messagePayload m)), decide (m.reserved = 0), decide (m.status = 0), decide (m.flags < 8), (firstBad F.bad8 (payF k (16 ≤ mb) (messagePayload m)) (messagePayload m)).isNone,
   ((a.atBody k mb m).drains (a.callAt k mb m role)).isNone, !locks k || (a.atBody k mb m).deviceHolder.isNone,
   decide (k = .safetyArm) || (firstBad F.bad11 (payF k (16 ≤ mb) (messagePayload m)) (messagePayload m)).isNone]

theorem all_of (b1 b2 b3 b4 b5 b6 b7 b8 b9 b10 b11 b12 b13 b14 b15 : Bool) (h : [b1, b2, b3, b4, b5, b6, b7, b8, b9, b10, b11, b12, b13, b14, b15].all id = true) :
    b1 = true ∧ b2 = true ∧ b3 = true ∧ b4 = true ∧ b5 = true ∧ b6 = true ∧ b7 = true ∧ b8 = true ∧ b9 = true ∧ b10 = true ∧ b11 = true ∧ b12 = true ∧ b13 = true ∧ b14 = true ∧ b15 = true ∧ True := by
  simpa [and_assoc] using h

theorem accepted_of (k : CmdKind) (mb : Nat) (m : Msg) (role : Nat) (a : State) (h : (conditions k mb m role a).all id = true) : Accepted k mb m role a := by
  have g := all_of _ _ _ _ _ _ _ _ _ _ _ _ _ _ _ h
  exact ⟨reaches_of mb m a g.1, Option.isNone_iff_eq_none.mp g.2.1, of_decide_eq_true g.2.2.1, (window_of _ g.2.2.2.1).1, (window_of _ g.2.2.2.1).2, role_of _ _ g.2.2.2.2.1,
    by simpa [and_assoc] using g.2.2.2.2.2.1, by simpa [or_assoc] using g.2.2.2.2.2.2.1, of_decide_eq_true g.2.2.2.2.2.2.2.1, of_decide_eq_true g.2.2.2.2.2.2.2.2.1, of_decide_eq_true g.2.2.2.2.2.2.2.2.2.1, of_decide_eq_true g.2.2.2.2.2.2.2.2.2.2.1, Option.isNone_iff_eq_none.mp g.2.2.2.2.2.2.2.2.2.2.2.1,
    Option.isNone_iff_eq_none.mp g.2.2.2.2.2.2.2.2.2.2.2.2.1, fun hl => by simpa [hl] using g.2.2.2.2.2.2.2.2.2.2.2.2.2.1, by simpa using g.2.2.2.2.2.2.2.2.2.2.2.2.2.2.1⟩

/-- A command, its sender, its payload and data, and the state that it meets. -/
structure Ask where
  k : CmdKind
  role : Nat
  p : Bytes
  data : List Bytes := []
  mb : Nat := role
  ses : Nat := role + 1
  v : Bool := false
  s : State := rdy

def Ask.msg (q : Ask) : Msg := req q.k q.ses q.p q.data q.v
def Ask.call (q : Ask) : Call := (q.s.tick 0).callAt q.k q.mb q.msg q.role
def Ask.body (q : Ask) : State := (q.s.tick 0).atBody q.k q.mb q.msg
def Ask.flaws (q : Ask) : List Bool := conditions q.k q.mb q.msg q.role (q.s.tick 0)

/-- Some accepted command meets the hypothesis of a clause of `Answers`. -/
def Met (k : CmdKind) (pre : Call → State → Prop) : Prop :=
  ∃ (t : Time) (mb : Nat) (m : Msg) (role : Nat) (s : State), Accepted k mb m role (s.tick t) ∧ pre ((s.tick t).callAt k mb m role) ((s.tick t).atBody k mb m)

theorem met (q : Ask) (pre : Call → State → Prop) (h : q.flaws.all id = true) (hp : pre q.call q.body) : Met q.k pre :=
  ⟨0, q.mb, q.msg, q.role, q.s, accepted_of q.k q.mb q.msg q.role (q.s.tick 0) h, hp⟩

theorem met_all (l : List Ask) (h : (l.all fun q => q.flaws.all id) = true) : ∀ q ∈ l, Met q.k fun _ _ => True := fun q hq =>
  met q _ (List.all_eq_true.mp h q hq) trivial

theorem ok_of {ε α : Type} (x : Except ε α) (f : α → Bool) (h : (match x with | .ok v => f v | .error _ => false) = true) : ∃ v, x = .ok v ∧ f v = true := by
  cases x with
  | ok v => exact ⟨v, rfl, h⟩
  | error e => cases h

theorem some_of {α : Type} (x : Option α) (f : α → Bool) (h : x.any f = true) : ∃ v, x = some v ∧ f v = true := by
  cases x with
  | some v => exact ⟨v, rfl, h⟩
  | none => cases h

/-- The public key of the private key 1 (R452), which is the generator of the curve. -/
def keyG : Bytes := 4 :: (be 48 curveGx ++ be 48 curveGy)

/-- Its signature over a byte string: r is the generator's x, s = digest + r (FIPS 186-5 with the secret number 1). -/
def signG (text : Bytes) : Bytes := be 48 curveGx ++ be 48 ((ofBe (sha384 text) + curveGx) % curveN)

/-- A self-signed certificate of a key on P-384, and a certificate that it issued for digital signatures, made with OpenSSL. -/
def anchor0 : Bytes :=
  be 48 0x308201AB30820132A00302010202141434354A5F9C09A1FC3DD411D9A90505197CAC71300A06082A8648CE3D04030330 ++
  be 48 0x0C310A300806035504030C01413020170D3236313132373231313234365A180F32313236313130333231313234365A30 ++
  be 48 0x0C310A300806035504030C01413076301006072A8648CE3D020106052B8104002203620004BEBD1F950B2F3AF5A0BDBE ++
  be 48 0xD896421E008CDFDAFCF749155C97A0DBC9EAC9FA739E7DE495EE515B60D400AD08D8F472556111DF87113D10EE46142C ++
  be 48 0xC49E99EAC70CC51928E56296D171452F1D758BF71DADFF0270504186906260A73BD73B0CCBA3533051301D0603551D0E ++
  be 48 0x04160414961ED7E7757F98BABD0B3D155A78168B4FCEC89F301F0603551D23041830168014961ED7E7757F98BABD0B3D ++
  be 48 0x155A78168B4FCEC89F300F0603551D130101FF040530030101FF300A06082A8648CE3D040303036700306402305F2E21 ++
  be 48 0x3D76C72C1DE248BE939319F3E947F50A4A733610CF58A0F051D2AC55FAA89B4B8D5D5355C82AA06E3DDEA30D1A023077 ++
  be 47 0xE0A4A4208D33673F132F01B461C57B2DF1BE5D215B026A4E7AED1DE7311ED310B1D969F3C713F08A98DEBC721257AD
def leaf0 : Bytes :=
  be 48 0x308201973082011EA003020102020102300A06082A8648CE3D040303300C310A300806035504030C01413020170D3236 ++
  be 48 0x313132373231313234375A180F32313236313130333231313234375A300C310A300806035504030C014C307630100607 ++
  be 48 0x2A8648CE3D020106052B8104002203620004846540F110723EF5EF0A7DD251A2685B50C460B009EEC36C71E46EDC9C31 ++
  be 48 0x211260EBB648ACDA25231CED56B3CC61084EF47CA72233B88AADB5B2B45BA7D21DCD8EBE58F86E3B7EF326E63AF0AAAB ++
  be 48 0x79397FFC803FB68F70DA8EF9FCC97565E09BA3523050300E0603551D0F0101FF040403020780301D0603551D0E041604 ++
  be 48 0x14D76D06753462B7DBA60C48925A61495BCEB86924301F0603551D23041830168014961ED7E7757F98BABD0B3D155A78 ++
  be 48 0x168B4FCEC89F300A06082A8648CE3D040303036700306402307967C9A1759439A309D9ECA84B3FC5DB13157BD2D3EFA5 ++
  be 48 0x77D128C1FE80BB2EF6E2D3E71CF3CCD236AB6CFC442F35250D02300C5D81EEDFD06CE6792B21176B9267DA45BDD040C3 ++
  be 27 0xAF17401FA2674E56ADA4B8C1178CCD8449BEEAABE2CF5575DC13AA

/-- The key that the second certificate carries, and a CertificateVerify of it over an empty transcript hash, made with OpenSSL's key. -/
def leafKey : Bytes := ((certOf leaf0).map Cert.key).getD []
def leafVerify : Bytes :=
  be 48 0x3066023100A14AAD95673D51513A385309151EE57B66F8EF6D80A03AE54B268767B28CB37F72F272AA5FB5D11D739515 ++
  be 48 0x7D985B5F330231008349451778AA26AA3045C01C37C1DD8586B611EBBF70A6DED5E7B4F29464199A2B8BE0FE3468FB61 ++
  be 8 0x5B1942ADFFD82670

/-- A descriptor of `n` bytes at address 0 of the host. -/
def desc (n : Nat) : Bytes := zeros 8 ++ le 4 n ++ zeros 4

end Sys2Proof.Tests
end

