-- ==== Sys2Proof/Tests/LongRequests.lean ====
section
/-! SUPPORT. The two settings whose requests are too long for the kernel to compute their CRC: a coefficient set and a tone-map profile that are accepted. -/

set_option Elab.async false

namespace Sys2Proof.Tests

open Sys2Proof Sys2Proof.Machine

theorem drop_pairs (g : Nat → Bytes) (hg : ∀ i, (g i).length = 2) (i : Nat) : ∀ s n, i ≤ n → ((List.range' s n).flatMap g).drop (2 * i) = (List.range' (s + i) (n - i)).flatMap g := by
  induction i with
  | zero => intro s n _; rfl
  | succ i ih =>
    intro s n hn
    obtain ⟨n, rfl⟩ := Nat.exists_eq_add_of_le (show 1 ≤ n by omega)
    have h2 : 2 * (i + 1) = (g s).length + 2 * i := by rw [hg]; omega
    rw [Nat.add_comm 1 n, List.range'_succ, List.flatMap_cons, h2, List.drop_append, List.drop_eq_nil_of_le (by omega), Nat.add_sub_cancel_left, List.nil_append, ih (s + 1) n (by omega)]
    congr 2 <;> omega

/-- The tap of index `i` of a coefficient set that takes the first tap of each phase. -/
def firstTap (i : Nat) : Int := if i < 512 then (if i % 8 = 0 then 1024 else 0) else if (i - 512) % 6 = 0 then 1024 else 0

theorem firstTap_cases (i : Nat) : firstTap i = 0 ∨ firstTap i = 1024 := by unfold firstTap; split <;> split <;> simp

/-- That set, for CS31. -/
def coefRequest : Bytes := [31, 0, 0, 0] ++ (List.range' 0 896).flatMap fun i => leS 2 (firstTap i)

theorem leS_two (v : Int) : (leS 2 v).length = 2 := rfl

theorem tap_coef (i : Nat) (h : i < 896) : tapAt coefRequest (4 + 2 * i) = firstTap i := by
  have hd : coefRequest.drop (4 + 2 * i) = ((List.range' 0 896).flatMap fun i => leS 2 (firstTap i)).drop (2 * i) := by
    rw [coefRequest, List.drop_append, List.drop_eq_nil_of_le (by simp)]; simp
  have hs : sub coefRequest (4 + 2 * i) 2 = leS 2 (firstTap i) := by
    rw [sub, hd, drop_pairs _ (fun _ => leS_two _) i 0 896 (by omega)]
    obtain ⟨n, hn⟩ := Nat.exists_eq_add_of_le (show 1 ≤ 896 - i by omega)
    rw [hn, Nat.add_comm 1 n, List.range'_succ, List.flatMap_cons, List.take_append_of_le_length (Nat.le_of_eq (leS_two _).symm), List.take_of_length_le (Nat.le_of_eq (leS_two _)), Nat.zero_add]
  rw [tapAt, rdS, rd, hs]
  rcases firstTap_cases i with h | h <;> rw [h] <;> rfl

theorem coef_length : coefRequest.length = 1796 := by
  have : ((List.range' 0 896).flatMap fun i => leS 2 (firstTap i)).length = 1792 := by
    rw [List.length_flatMap, List.map_congr_left (g := fun _ => 2) fun _ _ => leS_two _]; decide +kernel
  rw [coefRequest, List.length_append, this]; rfl

theorem firstOff_none (l : List (Bool × Nat)) (h : ∀ e ∈ l, e.1 = false) : firstOff l = none := by
  rw [firstOff, Option.map_eq_none_iff, List.find?_eq_none]; intro e he; simp [h e he]

theorem coef_sums : coefX coefRequest = none := by
  refine firstOff_none _ fun e he => ?_
  simp only [List.mem_append, List.mem_map, List.mem_range] at he
  rcases he with (⟨i, hi, rfl⟩ | ⟨k, hk, rfl⟩) | ⟨k, hk, rfl⟩
  · rw [tap_coef i hi]
    rcases firstTap_cases i with h | h <;> rw [h] <;> rfl
  · have e (j : Nat) (hj : j < 8) : tapAt coefRequest (4 + 2 * 8 * k + 2 * j) = if j = 0 then 1024 else 0 := by
      rw [show 4 + 2 * 8 * k + 2 * j = 4 + 2 * (8 * k + j) by omega, tap_coef _ (by omega), firstTap, if_pos (by omega), show (8 * k + j) % 8 = j by omega]
    rw [List.map_congr_left fun j hj => e j (List.mem_range.mp hj)]
    rfl
  · have e (j : Nat) (hj : j < 6) : tapAt coefRequest (1028 + 2 * 6 * k + 2 * j) = if j = 0 then 1024 else 0 := by
      rw [show 1028 + 2 * 6 * k + 2 * j = 4 + 2 * (512 + (6 * k + j)) by omega, tap_coef _ (by omega), firstTap, if_neg (by omega), show (512 + (6 * k + j) - 512) % 6 = j by omega]
    rw [List.map_congr_left fun j hj => e j (List.mem_range.mp hj)]
    rfl

theorem payload_req (k : CmdKind) (n : Nat) (b : Bytes) : messagePayload (req k n b) = b := by
  show fit (32 + b.length - 32) b = b
  rw [Nat.add_sub_cancel_left]
  simp [fit, zeros]

theorem callAt_p (a : State) (k : CmdKind) (mb : Nat) (m : Msg) (role : Nat) : (a.callAt k mb m role).p = messagePayload m := rfl

/-- A long request on MB2 of its session is accepted: its CRC need not be computed. -/
theorem long_accepted (k : CmdKind) (b : Bytes) (s : State) (hl : b.length ≤ 16352) (h4 : b.length % 4 = 0)
    (ha : (s.serves 2 && (s.mbx 2).state == .idle && s.hostAllows 0 (s.mbx 2).request (max 32 (32 + b.length)) && (s.mbx 2).lastSeq == 0 && !s.health.recovering.contains 0 && !s.prot.halted.contains 0 &&
      s.upd.spireSwitch.isNone && s.izent.devState == .ready) = true) (hi : s.mayIssue k 2 (req k 3 b) b = .ok 2) (hs : b.length = paySize k b) (h8 : firstBad F.bad8 (payF k false b) b = none)
    (hd : (s.atBody k 2 (req k 3 b)).drains (s.callAt k 2 (req k 3 b) 2) = none) (hh : (s.atBody k 2 (req k 3 b)).deviceHolder = none) (hv : firstBad F.bad11 (payF k false b) b = none) :
    Accepted k 2 (req k 3 b) 2 s := by
  simp only [Bool.and_eq_true, Bool.not_eq_true', beq_iff_eq, Option.isNone_iff_eq_none] at ha
  obtain ⟨⟨⟨⟨⟨⟨⟨h1, h2⟩, h3⟩, hq⟩, h5⟩, h6⟩, h7⟩, hr⟩ := ha
  have hm : (req k 3 b).length = 32 + b.length := rfl
  have hn : (req k 3 b).sequence = 1 := rfl
  have hp := payload_req k 3 b
  refine ⟨⟨h1, Or.inl ⟨by decide, h2, rfl, h3⟩⟩, ?_, rfl, by rw [hn, hq] <;> decide, by rw [hn, hq] <;> decide, by rw [hp]; exact hi, .inr ⟨h5, h6, h7⟩, .inl hr, by rw [hp]; exact hs, rfl, rfl,
    (by decide : 0 < 8), by rw [hp]; exact h8, hd, fun _ => hh, .inr (by rw [hp]; exact hv)⟩
  unfold headerBad
  rw [hm, show (req k 3 b).magic = 0x5A49 from rfl, show (req k 3 b).version = 1 from rfl, show (req k 3 b).flags = 0 from rfl]
  simp [firstOff, bit]
  omega

theorem coef_met : Met .coefSet fun c _ => coefX c.p = none := by
  refine ⟨0, 2, req .coefSet 3 coefRequest, 2, rdy, long_accepted _ _ _ (by rw [coef_length]; decide) (by rw [coef_length]) (by rw [coef_length]; decide +kernel) rfl (by rw [coef_length]; rfl) ?_ rfl rfl ?_, ?_⟩
  · decide +kernel
  · decide +kernel
  · show coefX (State.callAt _ _ _ _ _).p = none
    rw [callAt_p, payload_req, coef_sums]

theorem ofLe_zeros (n : Nat) : ofLe (zeros n) = 0 := by
  induction n with
  | zero => rfl
  | succ n ih => show (0 : Byte).toNat + 256 * ofLe (zeros n) = 0; rw [ih]; rfl

theorem rd_zeros (b : Byte) (n o k : Nat) (h : 1 ≤ o) : rd (b :: zeros n) o k = 0 := by
  obtain ⟨o, rfl⟩ := Nat.exists_eq_add_of_le h
  have : sub (b :: zeros n) (1 + o) k = zeros (min k (n - o)) := by
    simp [sub, zeros, Nat.add_comm 1 o]
  rw [rd, this, ofLe_zeros]

theorem tone_fields (p : F → Bytes → Bool) (b : Bytes) (h0 : p ⟨0, 1, .range 0 63⟩ b = false) (hp : ∀ f ∈ toneF, 1 ≤ f.off → p f b = false) : firstBad p toneF b = none := by
  unfold firstBad
  simp only [Option.map_eq_none_iff, List.find?_eq_none]
  intro f hf
  by_cases h : 1 ≤ f.off
  · simp [hp f hf h]
  · have : f = ⟨0, 1, .range 0 63⟩ := by
      simp only [toneF, List.mem_append, List.mem_cons, List.not_mem_nil, or_false, repeatF, List.mem_flatMap, List.mem_map, List.mem_range] at hf
      rcases hf with (((rfl | rfl | rfl | rfl | rfl) | ⟨i, _, g, rfl, rfl⟩) | ⟨i, _, g, rfl, rfl⟩) | ⟨i, _, g, rfl, rfl⟩ <;> simp_all
    simp [this, h0]

theorem toneF_kinds : ∀ f ∈ toneF, 1 ≤ f.off → f.c = .zero ∨ (∃ m, f.c = .mask m) ∨ (∃ hi, f.c = .range 0 hi) ∨ f.c = .srange (-262144) 262143 := by
  intro f hf h
  simp only [toneF, List.mem_append, List.mem_cons, List.not_mem_nil, or_false, repeatF, List.mem_flatMap, List.mem_map, List.mem_range] at hf
  rcases hf with (((rfl | rfl | rfl | rfl | rfl) | ⟨i, _, g, rfl, rfl⟩) | ⟨i, _, g, rfl, rfl⟩) | ⟨i, _, g, rfl, rfl⟩ <;> simp

theorem tone_met : Met .toneProfileSet fun _ _ => True := by
  obtain ⟨b, hb⟩ : ∃ b : Bytes, b = 63 :: zeros 10319 := ⟨_, rfl⟩
  have hz (o k : Nat) (h : 1 ≤ o) : rd b o k = 0 := hb ▸ rd_zeros _ _ _ _ h
  have h0 : rd b 0 1 = 63 := by rw [hb]; rfl
  have hl : b.length = 10320 := by rw [hb, List.length_cons, zeros, List.length_replicate]
  refine ⟨0, 2, req .toneProfileSet 3 b, 2, rdy, long_accepted _ _ _ (by rw [hl]; decide) (by rw [hl]) (by rw [hl]; decide +kernel) rfl (by rw [hl]; rfl) ?_ rfl rfl ?_, trivial⟩
  · refine tone_fields _ _ rfl fun f hf h => ?_
    rcases toneF_kinds f hf h with hc | ⟨m, hc⟩ | ⟨hi, hc⟩ | hc <;> simp [F.bad8, hc, hz f.off f.size h]
  · refine tone_fields _ _ (by simp [F.bad11, h0]) fun f hf h => ?_
    rcases toneF_kinds f hf h with hc | ⟨m, hc⟩ | ⟨hi, hc⟩ | hc <;> simp [F.bad11, hc, hz f.off f.size h, rdS, toS, Nat.two_pow_pos]

end Sys2Proof.Tests
end

