-- ==== Sys2Proof/Tests/WitnessCommands.lean ====
section
/-! SUPPORT. For every claim about commands, commands and states that meet its hypotheses. -/

set_option Elab.async false

namespace Sys2Proof.Tests

open Sys2Proof Sys2Proof.Machine

/-! Reads. -/

theorem witness_ListReadsAnswer : ∀ q ∈ [({ k := .streamStatus, role := 0, p := [255, 0, 255, 255, 0, 0, 0, 0] } : Ask), { k := .domainStatus, role := 0, p := [13, 0, 1, 0, 0, 0, 0, 0] }],
    Met q.k fun c a => ∃ r, listRead a q.k = some r ∧ (∃ x ∈ r.units, rd c.p 0 2 ≤ x) ∧ rd c.p 2 2 ≠ 0 := by
  intro q hq
  have hf : q.flaws.all id = true := List.all_eq_true.mp (show ([({ k := .streamStatus, role := 0, p := [255, 0, 255, 255, 0, 0, 0, 0] } : Ask),
    { k := .domainStatus, role := 0, p := [13, 0, 1, 0, 0, 0, 0, 0] }].all fun q => q.flaws.all id) = true by decide +kernel) q hq
  simp only [List.mem_cons, List.not_mem_nil, or_false] at hq
  rcases hq with rfl | rfl
  · exact met _ _ hf ⟨_, rfl, ⟨255, by decide +kernel, by decide +kernel⟩, by decide +kernel⟩
  · exact met _ _ hf ⟨_, rfl, ⟨13, by decide +kernel, by decide +kernel⟩, by decide +kernel⟩

/-- Reads whose clauses ask for nothing but acceptance, with operands at the ends of their ranges. -/
def plainReads : List Ask :=
  [{ k := .systemIdentify, role := 0, p := [] }, { k := .systemStatus, role := 0, p := [] }, { k := .toneProfileGet, role := 0, p := [63, 0, 3, 0] }, { k := .coefGet, role := 0, p := [31, 2, 0, 0] },
   { k := .glyphGet, role := 0, p := [22, 1, 0, 0] }, { k := .safetyGet, role := 0, p := [0, 63, 0, 0] }, { k := .safetyGet, role := 0, p := [2, 0, 0, 0] }, { k := .headEdidGet, role := 0, p := [15, 0, 0, 0] },
   { k := .timeConfigGet, role := 0, p := [] }, { k := .lanePrbsRead, role := 0, p := [15, 0, 0, 0] }, { k := .updateStatus, role := 0, p := [] }, { k := .scanResult, role := 0, p := [255, 255, 0, 0] },
   { k := .healthRead, role := 0, p := [] }]

theorem witness_RecordReadsAnswer : ∀ q ∈ plainReads, Met q.k fun _ _ => True := met_all _ (by decide +kernel)

theorem witness_RecordReadsAnswer_door : Met .doorRulesGet fun c _ => doorExists (rd c.p 0 1) = true :=
  met { k := .doorRulesGet, role := 4, p := [0x47, 0, 0, 0] } _ (by decide +kernel) (by decide +kernel)

theorem witness_WindowGetAnswers : Met .windowGet fun c _ => ∃ l next, selected (c.p.drop 2) (List.range 1024) 64 0 = .ok (l, next) :=
  met { k := .windowGet, role := 0, p := [2, 0, 255, 3, 1, 0, 0, 0] } _ (by decide +kernel) (by
    obtain ⟨⟨l, next⟩, h, -⟩ := ok_of (selected (Ask.call { k := .windowGet, role := 0, p := [2, 0, 255, 3, 1, 0, 0, 0] }).p.tail.tail (List.range 1024) 64 0) (fun _ => true) (by decide +kernel)
    exact ⟨l, next, h⟩)

/-! Settings. -/

theorem witness_ShadowSettingsAnswer :
    Met .windowSet (fun c _ => windowsBad 4 [] (windowRecs c.p) = none) ∧ Met .coefSet (fun c _ => coefX c.p = none) ∧
    Met .toneProfileSet (fun _ _ => True) ∧ ∀ q ∈ [({ k := .backgroundSet, role := 2, p := [15] ++ zeros 7 } : Ask), { k := .blendSet, role := 2, p := blendBytes 15 [] }], Met q.k fun _ _ => True :=
  ⟨met { k := .windowSet, role := 2, p := le 2 1 ++ zeros 2 ++ windowBytes { window := 1023 } } _ (by decide +kernel) (by decide +kernel),
   coef_met, tone_met, met_all _ (by decide +kernel)⟩

/-- TB2 has found a base that disagrees. -/
def disagreeing : State := rdy.setBase 2 { rdy.base 2 with disagree := true }

theorem witness_TimeSettingsAnswer :
    Met .timeBaseSet (fun c a => baseX c.p = none ∧ ({ a.plan with bases := Map.set a.plan.bases (baseOf c.p).base (baseOf c.p) } : Plan).time = none) ∧
    Met .timeSelectSet (fun c _ => selectX c.p = none) ∧ Met .timeAccept (fun c a => (a.base (rd c.p 0 1)).disagree = true) :=
  ⟨met { k := .timeBaseSet, role := 2, p := baseBytes { base := 2 } } _ (by decide +kernel) ⟨by decide +kernel, by decide +kernel⟩,
   met { k := .timeSelectSet, role := 2, p := selectBytes {} } _ (by decide +kernel) (by decide +kernel),
   met { k := .timeAccept, role := 2, p := [2, 0, 0, 0], s := disagreeing } _ (by decide +kernel) (by decide +kernel)⟩

/-- Lane 15 at 25G with a module, no source on it. -/
def laned : State := rdy.setLane 15 { rdy.lane 15 with cfg := { lane := 15, rate := 2 }, present := true }

theorem witness_PortAndTouchSettingsAnswer :
    Met .lanePrbsSet (fun c a => (a.lane (rd c.p 0 1)).cfg.rate ≠ 0 ∧ a.portUsed (rd c.p 0 1) = false) ∧ Met .touchKeySet (fun c _ => keysBad keyX 4 [] (keyEntries c.p) = none) ∧
    Met .localActionSet (fun c _ => keysBad actionX 4 [] (keyEntries c.p) = none) ∧ Met .laneModuleRead (fun c a => ∃ bytes, moduleReadBad c.p = none ∧ (a.lane (rd c.p 0 1)).present = true ∧ c.msg.module = some bytes) ∧
    ∀ q ∈ [({ k := .portAddressSet, role := 2, p := addressBytes { port := 15 } } : Ask), { k := .touchModeSet, role := 2, p := [15, 2, 0, 0] }, { k := .touchRebaseline, role := 2, p := zeros 7 ++ [128] }], Met q.k fun _ _ => True :=
  ⟨met { k := .lanePrbsSet, role := 2, p := [15, 4, 3, 0], s := laned } _ (by decide +kernel) ⟨by decide +kernel, by decide +kernel⟩,
   met { k := .touchKeySet, role := 2, p := [1, 0, 0, 0, 63, 15, 50, 0, 0, 0, 0, 0] } _ (by decide +kernel) (by decide +kernel),
   met { k := .localActionSet, role := 2, p := [1, 0, 0, 0, 63, 1, 63, 0, 0, 0, 0, 0] } _ (by decide +kernel) (by decide +kernel),
   met { k := .laneModuleRead, role := 0, p := [15, 0, 128, 128], v := true, s := laned } _ (by decide +kernel) ⟨[], by decide +kernel, by decide +kernel, rfl⟩, met_all _ (by decide +kernel)⟩

theorem witness_DeviceSettingsAnswer :
    Met .powerCapSet (fun c a => overBreach 13 0 10 0 a.plan.admitted (rd c.p 0 4) = none) ∧
    Met .dramHashSet (fun c _ => rd c.p 0 1 = 4 → ∀ k < 8, maskOk k (rd c.p (8 + 8 * k) 8) = true) ∧
    Met .dramHashSet (fun c _ => rd c.p 0 1 = 4 ∧ ∀ k < 8, maskOk k (rd c.p (8 + 8 * k) 8) = true) ∧
    ∀ q ∈ [({ k := .sessionIdleSet, role := 4, p := le 4 86400 } : Ask), { k := .mgmtSet, role := 4, p := [255, 255, 0, 0] }], Met q.k fun _ _ => True :=
  ⟨met { k := .powerCapSet, role := 2, p := le 4 118000 } _ (by decide +kernel) (by decide +kernel),
   met { k := .dramHashSet, role := 2, p := [3] ++ zeros 71 } _ (by decide +kernel) (by decide +kernel),
   met { k := .dramHashSet, role := 5, p := [4] ++ zeros 7 ++ ((List.range 8).flatMap fun k => le 8 (256 * 2 ^ k)) } _ (by decide +kernel) (by decide +kernel), met_all _ (by decide +kernel)⟩

/-! Admitted commands. -/

def timing0 : TimingRec := { head := 15, flags := 16, lanes := 4, linkRate := 0x1E, bpc := 8, hActive := 640, hFront := 16, hSync := 96, hBack := 48, vActive := 480, vFront := 10, vSync := 2, vBack := 33, rateNum := 60, rateDen := 1 }

/-- READY, lane 15 at 25G, head 15 timed, TB0 with a source. -/
def full : State := (laned.setHead 15 { stored := some timing0, timing := some timing0 }).setBase 0 { laned.base 0 with cfg := { source := 1, portMask := 32768 } }

/-- The layout document of what stands. -/
def doc0 : Bytes := buildDoc (full.layoutEls full.comp.shadow full.comp.staged)

def docReq : Bytes := le 4 1 ++ desc doc0.length

/-- Slot 63 holds a document. -/
def slotted : State := { full with comp := { full.comp with stored := [(63, doc0)] } }

theorem result_of (v : Verdict) (h : v.ok = true) : ∃ adm, v.result = .ok adm := by
  unfold Verdict.ok at h
  split at h
  · exact ⟨_, by assumption⟩
  · cases h

theorem admitted_of (a : State) (p : Proposal) (h : ((a.groupsBusy true (a.changedGroups p.set)).isNone && (a.admitProposal p).ok) = true) :
    a.groupsBusy true (a.changedGroups p.set) = none ∧ ∃ adm, (a.admitProposal p).result = .ok adm :=
  ⟨Option.isNone_iff_eq_none.mp (Bool.and_eq_true_iff.mp h).1, result_of _ (Bool.and_eq_true_iff.mp h).2⟩

theorem proposed_of (a : State) (x : Except Err Proposal) (h : (match x with | .ok p => (a.groupsBusy true (a.changedGroups p.set)).isNone && (a.admitProposal p).ok | .error _ => false) = true) :
    ∃ p, x = .ok p ∧ a.groupsBusy true (a.changedGroups p.set) = none ∧ ∃ adm, (a.admitProposal p).result = .ok adm := by
  cases x with
  | ok p => exact ⟨p, rfl, admitted_of a p h⟩
  | error e => cases h

theorem witness_LayoutCommandsAnswer :
    Met .layoutPropose (fun c a => a.dataDenied c 4 = false ∧ ∃ p, a.docProposal 4 (c.block 0 4) = .ok p ∧ (a.admitProposal p).ok = true) ∧
    Met .layoutCommit (fun c a => bit (rd c.p 0 1) 0 = true ∧ a.dataDenied c 4 = false ∧ ∃ p, a.docProposal 4 (c.block 0 4) = .ok p ∧ a.groupsBusy true (a.changedGroups p.set) = none ∧ ∃ adm, (a.admitProposal p).result = .ok adm) ∧
    Met .layoutCommit (fun c a => bit (rd c.p 0 1) 0 = false ∧ a.groupsBusy true (a.changedGroups a.shadowProposal.set) = none ∧ ∃ adm, (a.admitProposal a.shadowProposal).result = .ok adm) ∧
    Met .layoutStoredCommit (fun c a => ∃ d p, Map.get? a.comp.stored (rd c.p 0 1) = some d ∧ a.docProposal 0 d = .ok p ∧ a.groupsBusy true (a.changedGroups p.set) = none ∧ ∃ adm, (a.admitProposal p).result = .ok adm) ∧
    Met .layoutStore (fun c _ => bit (rd c.p 1 1) 0 = true) ∧ Met .layoutStore (fun c a => bit (rd c.p 1 1) 0 = false ∧ a.dataDenied c 4 = false ∧ ∃ d, parseDoc (c.block 0 4) = .ok d) ∧
    ∀ q ∈ [({ k := .layoutRead, role := 0, p := [0, 0, 0, 0] ++ desc 64 } : Ask), { k := .layoutRead, role := 0, p := [1, 0, 0, 0] ++ desc 64 }, { k := .layoutRead, role := 0, p := [2, 63, 0, 0] ++ desc 64, s := slotted }], Met q.k fun _ _ => True := by
  refine ⟨met { k := .layoutPropose, role := 2, p := docReq, data := [doc0], s := full } _ (by decide +kernel) ⟨by decide +kernel, ?_⟩,
    met { k := .layoutCommit, role := 2, p := docReq, data := [doc0], s := full } _ (by decide +kernel) ⟨by decide +kernel, by decide +kernel, ?_⟩,
    met { k := .layoutCommit, role := 2, p := zeros 20, s := full } _ (by decide +kernel) ⟨by decide +kernel, ?_⟩,
    met { k := .layoutStoredCommit, role := 2, p := [63, 0, 0, 0], s := slotted } _ (by decide +kernel) ?_,
    met { k := .layoutStore, role := 2, p := [63, 1] ++ zeros 18, s := slotted } _ (by decide +kernel) (by decide +kernel),
    met { k := .layoutStore, role := 2, p := [63, 0, 0, 0] ++ desc doc0.length, data := [doc0], s := full } _ (by decide +kernel) ⟨by decide +kernel, by decide +kernel, ?_⟩, met_all _ (by decide +kernel)⟩
  · exact ok_of _ _ (by decide +kernel)
  · exact proposed_of _ _ (by decide +kernel)
  · exact admitted_of _ _ (by decide +kernel)
  · let q : Ask := { k := .layoutStoredCommit, role := 2, p := [63, 0, 0, 0], s := slotted }
    obtain ⟨p, h⟩ := proposed_of q.body (q.body.docProposal 0 doc0) (by decide +kernel)
    exact ⟨doc0, p, by decide +kernel, h⟩
  · obtain ⟨d, h, -⟩ := ok_of (parseDoc doc0) (fun _ => true) (by decide +kernel)
    exact ⟨d, h⟩

def stream0 : StreamRec :=
  { context := 255, level := 10, bitDepth := 8, maxWidth := 16, maxHeight := 16, rateNum := 1, maxBitrate := 100, payloadType := 96, udpPort := 5004, portMask := 32768, group := fit 16 [239, 0, 0, 1], source := zeros 16, maxPktRate := 10 }

def pattern0 : SourceRec := { source := 15, kind := 1, width := 16, height := 16, rateNum := 1, rateDen := 1 }

/-- A still of 16 by 16 zeros, 8 bit. -/
def still0 : SourceRec := { source := 15, kind := 3, width := 16, height := 16, verifyPeriod := 100, stillCrc := 976960774 }

/-- The CRC's register after each 64 zeros. -/
def crcChain (c : Nat) : List Nat → Bool
  | [] => true
  | d :: l => (zeros 64).foldl crcByte c == d && crcChain d l

theorem crc_chain (l : List Nat) : ∀ c, crcChain c l = true → (zeros (64 * l.length)).foldl crcByte c = l.getLastD c := by
  induction l with
  | nil => intro c _; rfl
  | cons d l ih =>
    intro c h
    simp only [crcChain, Bool.and_eq_true, beq_iff_eq] at h
    have hz : zeros (64 * (l.length + 1)) = zeros 64 ++ zeros (64 * l.length) := by
      rw [zeros, zeros, zeros, List.replicate_append_replicate]; congr 1; omega
    rw [List.length_cons, hz, List.foldl_append, h.1, ih d h.2]
    cases l <;> rfl

theorem still_crc : crc32c (zeros 768) = 976960774 := by
  have h := crc_chain [4231468184, 4158167844, 2345306063, 1200442991, 64332339, 1158271177, 3425213895, 3473084991, 968469611, 534250289, 2006181900, 3318006521] 0xFFFFFFFF (by decide +kernel)
  simp only [List.length_cons, List.length_nil, Nat.reduceAdd, Nat.reduceMul] at h
  rw [crc32c, h]
  decide +kernel

theorem fit_zeros (n : Nat) : fit n (zeros n) = zeros n := by simp [fit, zeros]

def encode0 : EncodeRec :=
  { channel := 31, head := 15, width := 128, height := 128, refreshPeriod := 8, cap := 20000, payloadType := 96, udpPort := 5004, portMask := 32768, mtu := 1500, hopLimit := 1, dest := fit 16 [239, 0, 0, 2] }

/-- EC31 runs. -/
def coding : State := full.setEnc 31 { state := .running, decl := encode0, intended := true, engine := 0 }

theorem admits_of (p : Plan) (f : Plan → Bool) (h : (match (p.verdict false).result with | .ok adm => f adm | .error _ => false) = true) : ∃ adm, admits p adm ∧ f adm = true  := by
  unfold admits
  cases hr : (p.verdict false).result with
  | ok adm => rw [hr] at h; exact ⟨adm, rfl, h⟩
  | error e => rw [hr] at h; cases h

def qStill : Ask := { k := .sourceSet, role := 2, p := sourceBytes still0 ++ desc 768, data := [zeros 768], s := full }
def qEncodeSet : Ask := { k := .encodeSet, role := 2, p := [31, 2, 0, 0] ++ zeros 4 ++ le 4 30000 ++ zeros 4, s := coding }

theorem witness_StreamAndEncodeCommandsAnswer :
    Met .streamOpen (fun c a => streamX c.p = none ∧ a.ctxOpen (streamOf c.p).context = false ∧ a.comp.reopens.any (fun r => r.decl.context == (streamOf c.p).context) = false ∧ ∃ adm, admits (a.planStream (streamOf c.p)) adm ∧ (adm.ctx.find? (fun u => u.live && u.decl == streamOf c.p)).isSome = true) ∧
    Met .sourceSet (fun c a => sourceX (c.p.take 32) = none ∧ (sourceOf c.p).kind = 1 ∧ ∃ adm, admits (a.planSource (sourceOf c.p)) adm) ∧
    Met .sourceSet (fun c a => sourceX (c.p.take 32) = none ∧ (sourceOf c.p).kind = 3 ∧ (∃ adm, admits (a.planSource (sourceOf c.p)) adm) ∧
      rd c.p 40 4 = stillSize (sourceOf c.p) ∧ a.dataDenied c 32 = false ∧ crc32c (c.block 0 32) = (sourceOf c.p).stillCrc) ∧
    Met .encodeOpen (fun c a => encodeX c.p = none ∧ a.encOpen (encodeOf c.p).channel = false ∧ ∃ adm, admits (a.planEncode (encodeOf c.p)) adm ∧ (adm.enc.find? (fun u => u.live && u.decl == encodeOf c.p)).isSome = true) ∧
    Met .encodeSet (fun c a => encodeSetF.find? (fun f => !bit (rd c.p 1 1) f.1 && rd c.p f.2.1 f.2.2.1 != 0) = none ∧ a.encOpen (rd c.p 0 1) = true ∧
      ∃ d, d = encodeSet (a.enc? (rd c.p 0 1)).decl c.p ∧ recordBad encodeF encodeX (encodeBytes d) = none ∧ ∃ adm, admits (a.planEncodeSet (rd c.p 0 1) d) adm) ∧
    ∀ q ∈ [({ k := .streamClose, role := 2, p := [255, 0, 0, 0], s := full } : Ask), { k := .encodeClose, role := 2, p := [31, 0, 0, 0], s := coding }], Met q.k fun _ _ => True := by
  have ho : messagePayload (req .streamOpen 3 (streamBytes stream0 ++ zeros 1028)) = streamBytes stream0 ++ zeros 1028 := payload_req _ _ _
  refine ⟨⟨0, 2, _, 2, full, long_accepted .streamOpen (streamBytes stream0 ++ zeros 1028) (full.tick 0) (by decide +kernel) (by decide +kernel) (by decide +kernel) rfl (by decide +kernel) (by decide +kernel) (by decide +kernel)
      (by decide +kernel) (by decide +kernel), ?_⟩,
    met { k := .sourceSet, role := 2, p := sourceBytes pattern0 ++ zeros 16, s := full } _ (by decide +kernel) ⟨by decide +kernel, by decide +kernel, ?_⟩,
    met qStill _ (by decide +kernel) ⟨by decide +kernel, by decide +kernel, ?_, by decide +kernel, by decide +kernel, ?_⟩,
    met { k := .encodeOpen, role := 2, p := encodeBytes encode0, s := full } _ (by decide +kernel) ⟨by decide +kernel, by decide +kernel, ?_⟩,
    met qEncodeSet _ (by decide +kernel) ⟨by decide +kernel, by decide +kernel, _, rfl, by decide +kernel, ?_⟩, met_all _ (by decide +kernel)⟩
  · show streamX (messagePayload _) = none ∧ State.ctxOpen _ (streamOf (messagePayload _)).context = false ∧ (State.comp _).reopens.any (fun r => r.decl.context == (streamOf (messagePayload _)).context) = false ∧ ∃ adm, admits (State.planStream _ (streamOf (messagePayload _))) adm ∧ _
    rw [ho]
    exact ⟨by decide +kernel, by decide +kernel, by decide +kernel, admits_of _ _ (by decide +kernel)⟩
  · exact (admits_of _ (fun _ => true) (by decide +kernel)).imp fun _ h => h.1
  · exact (admits_of _ (fun _ => true) (by decide +kernel)).imp fun _ h => h.1
  · show crc32c (fit 768 (zeros 768)) = 976960774
    rw [fit_zeros, still_crc]
  · exact admits_of _ _ (by decide +kernel)
  · exact (admits_of _ (fun _ => true) (by decide +kernel)).imp fun _ h => h.1

theorem witness_HeadAndLaneCommandsAnswer :
    Met .headTimingSet (fun c a => timingsBad 4 [] (pieces 40 (rd c.p 0 1) (c.p.drop 4)) = none ∧ ∃ recs, recs = (pieces 40 (rd c.p 0 1) (c.p.drop 4)).map timingOf ∧
      a.groupsBusy false (a.timingGroups recs) = none ∧ ∃ adm, admits (a.planTimings recs) adm) ∧
    Met .laneSet (fun c a => lanesBad 4 [] (pieces 16 (rd c.p 0 1) (c.p.drop 4)) = none ∧ ∃ ds, ds = (pieces 16 (rd c.p 0 1) (c.p.drop 4)).map laneOf ∧
      (∀ d ∈ ds, a.prpFlag ds d.lane = a.prpFlag ds (if d.lane % 2 = 0 then d.lane + 1 else d.lane - 1)) ∧ ∃ adm, admits (a.planLanes ds) adm) := by
  refine ⟨met { k := .headTimingSet, role := 2, p := [1, 0, 0, 0] ++ timingBytes timing0 } _ (by decide +kernel) ⟨by decide +kernel, _, rfl, by decide +kernel, ?_⟩,
    met { k := .laneSet, role := 2, p := [1, 0, 0, 0, 15, 2, 1] ++ zeros 13 } _ (by decide +kernel) ⟨by decide +kernel, _, rfl, by decide +kernel, ?_⟩⟩
  · exact (admits_of _ (fun _ => true) (by decide +kernel)).imp fun _ h => h.1
  · exact (admits_of _ (fun _ => true) (by decide +kernel)).imp fun _ h => h.1

/-! Safety, sessions and security. -/

/-- A request that arms FP63 with the default policy. -/
def armReq : Bytes := [1, 0, 0, 0, 0, 63, 0, 0] ++ policyBytes {} ++ zeros 16

/-- The session of role 3 has armed it. -/
def armed : State := { rdy with comp := { rdy.comp with arm := some { id := 1, session := 4, entries := (safetyEntries armReq).map entryOf, crc := crc32c (armReq.drop 4), expiry := 30000000000 } } }

def qApply : Ask := { k := .safetyApply, role := 3, p := [1, 0, 0, 0] ++ le 4 (crc32c (armReq.drop 4)), s := armed }

theorem witness_SafetyCommandsAnswer :
    Met .safetyArm (fun c a => (∀ x, a.comp.arm = some x → x.session = c.msg.session) ∧ entriesBad c.p = none) ∧
    Met .safetyApply (fun c a => ∃ x new, a.comp.arm = some x ∧ x.session = c.msg.session ∧ c.rung ≤ x.expiry ∧ rd c.p 0 2 = x.id ∧ rd c.p 4 4 = x.crc ∧
      new = { x.entries.foldl SafetyCfg.entry a.comp.safety with generation := a.comp.safety.generation + 1 } ∧ ∃ adm, admits { a.plan with cfg := new } adm) ∧
    Met .lanternClear (fun c _ => rd c.p 0 2 ≤ 1023) ∧
    Met .lanternClear (fun c a => rd c.p 0 2 = 0xFFFF ∧ (a.comp.selftestFail = true ∨ a.comp.domainLost = true) ∧ a.domOn 11 = true ∧ a.comp.selftestPassed = true) ∧
    Met .lanternClear (fun c a => rd c.p 0 2 = 0xFFFF ∧ a.comp.selftestFail = false ∧ a.comp.domainLost = false) ∧ Met .alertAck (fun _ _ => True) := by
  refine ⟨met { k := .safetyArm, role := 3, p := armReq } _ (by decide +kernel) ⟨(by intro x h; cases h), by decide +kernel⟩, met qApply _ (by decide +kernel) ⟨_, _, rfl, rfl, by decide +kernel, by decide +kernel, by decide +kernel, rfl, ?_⟩,
    met { k := .lanternClear, role := 3, p := [255, 3, 0, 0] } _ (by decide +kernel) (by decide +kernel),
    met { k := .lanternClear, role := 3, p := [255, 255, 0, 0], s := { rdy with comp := { rdy.comp with selftestFail := true, selftestPassed := true } } } _ (by decide +kernel) ⟨by decide +kernel, by decide +kernel, by decide +kernel, rfl⟩,
    met { k := .lanternClear, role := 3, p := [255, 255, 0, 0] } _ (by decide +kernel) ⟨by decide +kernel, rfl, rfl⟩, met { k := .alertAck, role := 1, p := [255, 3, 12, 0] } _ (by decide +kernel) trivial⟩
  exact (admits_of _ (fun _ => true) (by decide +kernel)).imp fun _ h => h.1

end Sys2Proof.Tests
end

