-- ==== Sys2Proof/Tests/WitnessControl.lean ====
section
/-! SUPPORT. For every claim about sessions, security, updates, the recorder, domains and requests that are not served, commands and states that meet its hypotheses. -/

set_option Elab.async false

namespace Sys2Proof.Tests

open Sys2Proof Sys2Proof.Machine

/-! Sessions and security. -/

/-- READY without a session, MB1 and MB5 with an open challenge. -/
def closed : State :=
  { rdy with izent := { rdy.izent with sessions := [], mbx := [(1, { challenge := some { id := 1, nonce := [], since := 0, debug := false } }), (5, { challenge := some { id := 2, nonce := [], since := 0, debug := true } })] ++ rdy.izent.mbx },
             prot := { rdy.prot with store := { rdy.prot.store with creds := [{ id := 7, role := 0, key := keyG }, { id := 9, role := 5, key := [4, 6] }] }, serial := 5 } }

/-- SESSION_OPEN with role 0 and credential 7, signed over the challenge of MB1 (R365). -/
def signed1 : Bytes := [1, 0, 0, 0, 7, 0, 0, 0, 1, 0, 0, 0] ++ zeros 4 ++ signG (zeros 48 ++ [1, 0] ++ le 4 7 ++ le 8 5)

theorem witness_SessionCommandsAnswer :
    Met .sessionOpen (fun c a => c.net = false ∧ sessionOpenBad c = none ∧ a.blocked c.mb = false ∧ a.session? c.mb = none ∧ (rd c.p 1 1 = 5 → ∀ x ∈ a.izent.sessions, x.role ≠ 5) ∧ rd c.p 0 1 = 0 ∧ a.prot.entropyOk = true) ∧
    Met .sessionOpen (fun c a => c.net = false ∧ sessionOpenBad c = none ∧ a.blocked c.mb = false ∧ a.session? c.mb = none ∧ (rd c.p 1 1 = 5 → ∀ x ∈ a.izent.sessions, x.role ≠ 5) ∧ rd c.p 0 1 = 1 ∧ rd c.p 4 4 ≠ commissioning ∧
      a.challengeOk c.mb (rd c.p 8 4) false = some true ∧ ∃ cred : Credential, a.prot.store.creds.find? (fun x => x.id == rd c.p 4 4) = some cred ∧ cred.role = rd c.p 1 1 ∧
        signatureOk cred.key (a.challengeText c.mb (rd c.p 1 1) (rd c.p 4 4)) (sub c.p 16 96) = true) ∧
    Met .sessionOpen (fun c a => c.net = false ∧ sessionOpenBad c = none ∧ a.blocked c.mb = false ∧ a.session? c.mb = none ∧ rd c.p 0 1 = 1 ∧ rd c.p 1 1 = 4 ∧ rd c.p 4 4 = commissioning ∧ a.commissioned = false ∧ (sub c.p 16 96).all (· == 0) = true) ∧
    Met .sessionOpen (fun c a => ∃ n : Conn, c.net = true ∧ sessionOpenBad c = none ∧ a.blocked c.mb = false ∧ a.session? c.mb = none ∧ (rd c.p 1 1 = 5 → ∀ x ∈ a.izent.sessions, x.role ≠ 5) ∧ (a.mbx c.mb).conn = some n ∧ n.role = some (rd c.p 1 1) ∧
      a.prot.store.creds.any (fun x => x.id == n.cred && x.role == rd c.p 1 1 && x.key == n.key) = true) ∧
    Met .sessionClose (fun c _ => ∃ id, id = (if rd c.p 0 4 = 0 then c.msg.session else rd c.p 0 4) ∧ (id = c.msg.session ∨ (c.role = 4 ∧ id ≠ Config.localSession.toNat))) :=
  ⟨met { k := .sessionOpen, role := 0, mb := 0, ses := 0, p := [0, 5] ++ zeros 110, s := closed } _ (by decide +kernel) (by decide +kernel),
   met { k := .sessionOpen, role := 0, mb := 1, ses := 0, p := signed1, s := closed } _ (by decide +kernel)
     ⟨by decide +kernel, by decide +kernel, by decide +kernel, by decide +kernel, by decide +kernel, by decide +kernel, by decide +kernel, by decide +kernel, { id := 7, role := 0, key := keyG }, by decide +kernel, by decide +kernel, by decide +kernel⟩,
   met { k := .sessionOpen, role := 0, mb := 0, ses := 0, p := [1, 4, 0, 0, 255, 255, 255, 255] ++ zeros 104, s := closed } _ (by decide +kernel) (by decide +kernel),
   met { k := .sessionOpen, role := 0, mb := 16, ses := 0, p := [1, 0] ++ zeros 110, s := closed.setMbx 16 { conn := some { address := [], since := 0, role := some 0, cred := 7, key := keyG } } } _ (by decide +kernel)
     ⟨{ address := [], since := 0, role := some 0, cred := 7, key := keyG }, by decide +kernel, by decide +kernel, by decide +kernel, by decide +kernel, by decide +kernel, by decide +kernel, by decide +kernel, by decide +kernel⟩,
   met { k := .sessionClose, role := 0, p := zeros 4 } _ (by decide +kernel) ⟨_, rfl, .inl (by decide +kernel)⟩⟩

theorem witness_SessionCommandsAnswer_other : Met .sessionClose (fun c _ => c.role = 4 ∧ rd c.p 0 4 ≠ 0 ∧ rd c.p 0 4 ≠ c.msg.session ∧ rd c.p 0 4 ≠ Config.localSession.toNat) := by
  by_cases h : Config.localSession.toNat = 1
  · exact met { k := .sessionClose, role := 4, p := [2, 0, 0, 0] } _ (by decide +kernel) ⟨rfl, by decide +kernel, by decide +kernel, by rw [h]; decide +kernel⟩
  · refine met { k := .sessionClose, role := 4, p := [1, 0, 0, 0] } _ (by decide +kernel) ⟨rfl, by decide +kernel, by decide +kernel, ?_⟩
    exact fun he => h (he.symm.trans (by decide +kernel))

/-- Debug is unlocked with a signature over the challenge of MB5 (R448). -/
def unlocking : State := { rdy.setMbx 5 { challenge := some { id := 2, nonce := [], since := 0, debug := true } } with prot := { rdy.prot with serial := 5, debugKey := keyG } }

def signed5 : Bytes := [1, 0, 0, 0, 2, 0, 0, 0] ++ signG (zeros 48 ++ [5, 5] ++ le 4 0 ++ le 8 5)

theorem witness_SecurityCommandsAnswer :
    Met .credentialSet (fun c a => ∃ id role key, id = rd c.p 0 4 ∧ role = rd c.p 4 1 ∧ key = sub c.p 8 97 ∧ rd c.p 5 1 = 0 ∧ (pointOf key).isSome = true ∧
      (a.prot.store.creds.filter fun x => x.id != id).any (fun x => x.key == key) = false ∧ a.prot.store.creds.length < 64 ∧ role = 5) ∧
    Met .credentialSet (fun c a => rd c.p 5 1 = 1 ∧ a.prot.store.creds.any (fun x => x.id == rd c.p 0 4) = true) ∧
    Met .trustAnchorSet (fun c a => rd c.p 1 1 = 0 ∧ a.dataDenied c 4 = false ∧ (certOf (c.block 0 4)).isSome = true) ∧ Met .trustAnchorSet (fun c _ => rd c.p 1 1 = 1) ∧
    Met .debugUnlock (fun c a => rd c.p 0 1 = 0 ∧ rd c.p 4 4 = 0 ∧ (sub c.p 8 96).all (· == 0) = true ∧ a.prot.entropyOk = true) ∧
    Met .debugUnlock (fun c a => rd c.p 0 1 = 1 ∧ a.challengeOk c.mb (rd c.p 4 4) true = some true ∧ signatureOk a.prot.debugKey (a.challengeText c.mb 5 0) (sub c.p 8 96) = true) ∧
    ∀ q ∈ [({ k := .deviceCertGet, role := 0, p := desc 64 } : Ask), { k := .debugLock, role := 5, p := [] }], Met q.k fun _ _ => True :=
  ⟨met { k := .credentialSet, role := 4, p := [254, 255, 255, 255, 5, 0, 0, 0] ++ keyG ++ zeros 3 } _ (by decide +kernel)
     ⟨_, _, _, rfl, rfl, rfl, by decide +kernel, by decide +kernel, by decide +kernel, by decide +kernel, by decide +kernel⟩,
   met { k := .credentialSet, role := 4, p := [7, 0, 0, 0, 0, 1, 0, 0] ++ keyG ++ zeros 3 } _ (by decide +kernel) (by decide +kernel),
   met { k := .trustAnchorSet, role := 4, p := [3, 0, 0, 0] ++ desc anchor0.length, data := [anchor0] } _ (by decide +kernel) (by decide +kernel),
   met { k := .trustAnchorSet, role := 4, p := [3, 1] ++ zeros 18 } _ (by decide +kernel) (by decide +kernel),
   met { k := .debugUnlock, role := 5, p := zeros 104 } _ (by decide +kernel) (by decide +kernel),
   met { k := .debugUnlock, role := 5, p := signed5, s := unlocking } _ (by decide +kernel) (by decide +kernel),
   met_all _ (by decide +kernel)⟩

/-! Updates, the recorder, power and scans. -/

/-- The header of a container of TOWER firmware, code 6, for the package of serial number 5, signed (Table 19-2). -/
def headerText : Bytes := [0, 0, 0, 0, 1, 0, 6, 0] ++ zeros 16 ++ le 4 1 ++ le 4 1 ++ le 8 5 ++ zeros 376
def header0 : Bytes := headerText ++ signG headerText

/-- READY, as the package of serial number 5 with the vendor's root key. -/
def vendored : State := { rdy with prot := { rdy.prot with serial := 5, rootKey := keyG } }

def qPlan : Ask := { k := .updatePlan, role := 2, p := [1, 0, 0, 0, 6, 0, 0, 0] ++ desc 66080, data := [header0], s := vendored }

/-- A plan of image 6 that is PLANNED, and one that waits for its confirmation. -/
def planned : State := { rdy with upd := { rdy.upd with planId := 1, planState := .planned, plan := [{ ({} : Image).running with image := 6 }], order := [6] } }
def waiting : State := { planned with upd := { planned.upd with planState := .confirmPending, activated := [6], deadline := 900000000000 } }

theorem witness_UpdateCommandsAnswer :
    Met .updatePlan (fun c a => ∃ new order, c.net = false ∧ a.planBusy = false ∧ a.entriesBad c (rd c.p 0 1) 0 [] = none ∧
      new = (List.range (rd c.p 0 1)).map (fun i => containerOf (fit 512 (c.msg.data.getD i []))) ∧ a.orderFrom new (rd c.p 0 1) [] (sortBy id (new.map Container.image)) = some order) ∧
    Met .updateRun (fun c a => c.net = false ∧ a.upd.planState = .planned ∧ rd c.p 0 2 = a.upd.planId ∧
      (rd c.p 2 1 = 1 → ∀ x ∈ a.upd.plan, x.settingsFormat = 0 ∨ x.settingsFormat = (a.image x.image).settings ∨ x.writesFrom ≤ (a.image x.image).settings) ∧
      (rd c.p 4 4 = 0 ∨ (60 ≤ rd c.p 4 4 ∧ rd c.p 4 4 ≤ 86400)) ∧ rd c.p 2 1 = 1 ∧ rd c.p 4 4 = 86400) ∧
    Met .updateConfirm (fun c a => a.upd.planState = .confirmPending ∧ a.upd.falling = none ∧ rd c.p 0 2 = a.upd.planId ∧ c.rung < a.upd.deadline) ∧
    Met .updateFallback (fun c a => a.planBusy = true ∧ a.upd.falling = none ∧ rd c.p 0 2 = a.upd.planId) :=
  ⟨met qPlan _ (by decide +kernel) ⟨_, [6], by decide +kernel, by decide +kernel, by decide +kernel, rfl, by decide +kernel⟩,
   met { k := .updateRun, role := 2, p := [1, 0, 1, 0] ++ le 4 86400, s := planned } _ (by decide +kernel) (by decide +kernel),
   met { k := .updateConfirm, role := 2, p := [1, 0, 0, 0], s := waiting } _ (by decide +kernel) (by decide +kernel),
   met { k := .updateFallback, role := 2, p := [1, 0, 0, 0], s := waiting } _ (by decide +kernel) (by decide +kernel)⟩

theorem witness_RecorderAndScanCommandsAnswer :
    Met .recorderClear (fun c _ => rd c.p 0 1 = 0) ∧ Met .recorderFlush (fun _ _ => True) ∧ Met .recorderSubscribe (fun c _ => c.net = true ∧ (bit (rd c.p 0 1) 1 = true → c.role = 4) ∧ rd c.p 0 1 = 3) ∧
    Met .systemRestart (fun _ a => (∀ g < 4, (a.grpC g).next = none) ∧ a.upd.planState ≠ .running) ∧
    Met .scanSubmit (fun c a => ∃ j : ScanJob, rd c.p 8 8 < 2 ^ 35 ∧ a.health.jobs.length < 16 ∧ j = { id := rd c.p 0 2, start := rd c.p 8 8, length := rd c.p 4 4, submitted := a.health.submissions }) ∧
    ∀ n : Fin 6, Met .abort fun c _ => rd c.p 0 1 = n.val ∧ rd c.p 2 2 = (match n.val with | 0 => 24 | 1 => 0 | 2 => 15 | 3 => 1023 | 4 => 255 | _ => 31) ∧ (rd c.p 0 1 = 1 ∨ rd c.p 4 4 = 0) := by
  refine ⟨met { k := .recorderClear, role := 0, p := zeros 4 } _ (by decide +kernel) (by decide +kernel), met { k := .recorderFlush, role := 2, p := [] } _ (by decide +kernel) trivial,
    met { k := .recorderSubscribe, role := 4, mb := 18, ses := 9, p := [3, 0, 0, 0] } _ (by decide +kernel) (by decide +kernel), met { k := .systemRestart, role := 4, p := [1, 0, 0, 0] } _ (by decide +kernel) (by decide +kernel),
    met { k := .scanSubmit, role := 2, p := [1, 0, 0, 0] ++ le 4 1073741824 ++ le 8 34359738304 } _ (by decide +kernel) ⟨_, by decide +kernel, by decide +kernel, rfl⟩, fun n => ?_⟩
  match n with
  | 0 => exact met { k := .abort, role := 0, p := [0, 0, 24, 0] ++ zeros 4 } _ (by decide +kernel) (by decide +kernel)
  | 1 => exact met { k := .abort, role := 0, p := [1, 0, 0, 0, 255, 255, 255, 255] } _ (by decide +kernel) (by decide +kernel)
  | 2 => exact met { k := .abort, role := 0, p := [2, 0, 15, 0] ++ zeros 4 } _ (by decide +kernel) (by decide +kernel)
  | 3 => exact met { k := .abort, role := 0, p := [3, 0, 255, 3] ++ zeros 4 } _ (by decide +kernel) (by decide +kernel)
  | 4 => exact met { k := .abort, role := 0, p := [4, 0, 255, 0] ++ zeros 4 } _ (by decide +kernel) (by decide +kernel)
  | 5 => exact met { k := .abort, role := 0, p := [5, 0, 31, 0] ++ zeros 4 } _ (by decide +kernel) (by decide +kernel)

/-- A command is held on MB1 and on MB4; ABORT of role 1 may end the first and not the second. -/
def holding (target : Nat) (cause : Option HoldCause) : State :=
  rdy.setMbx target { state := if cause.isSome then .held else .running, job := some { kind := .layoutCommit, msg := {}, since := 0, order := 0, cause := cause } }

theorem witness_abort_held :
    (∀ n : Fin 2, Met .abort fun c a => ∃ j, (if n = 0 then 1 else 4) ∈ a.abortTargets (rd c.p 0 1) (rd c.p 2 2) (rd c.p 4 4) ∧ (if n = 0 then 1 else 4) ≠ c.mb ∧ (a.mbx (if n = 0 then 1 else 4)).job = some j ∧ j.kind ≠ .abort ∧
      a.mayAbort c (if n = 0 then 1 else 4) = decide (n = 0) ∧ j.cause.isSome = true) ∧
    Met .abort fun c a => ∃ j, 1 ∈ a.abortTargets (rd c.p 0 1) (rd c.p 2 2) (rd c.p 4 4) ∧ 1 ≠ c.mb ∧ (a.mbx 1).job = some j ∧ j.kind ≠ .abort ∧ j.cause = none ∧ j.kind ≠ .domainSet := by
  refine ⟨fun n => ?_, met { k := .abort, role := 2, p := [0, 0, 1, 0] ++ zeros 4, s := holding 1 none } _ (by decide +kernel) ⟨_, by decide +kernel, by decide +kernel, rfl, by decide +kernel, rfl, by decide +kernel⟩⟩
  match n with
  | 0 => exact met { k := .abort, role := 2, p := [0, 0, 1, 0] ++ zeros 4, s := holding 1 (some .flip) } _ (by decide +kernel) ⟨_, by decide +kernel, by decide +kernel, rfl, by decide +kernel, by decide +kernel, rfl⟩
  | 1 => exact met { k := .abort, role := 2, p := [0, 0, 4, 0] ++ zeros 4, s := holding 4 (some .flip) } _ (by decide +kernel) ⟨_, by decide +kernel, by decide +kernel, rfl, by decide +kernel, by decide +kernel, rfl⟩

/-- The recorder holds a record and has dropped one. -/
def full1 : State := { rdy with recorder := { buf := [{ ty := 1, time := 0, seq := 1, payload := [] }], seqOp := 1, dropped := 1 } }

theorem witness_recorder : Met .recorderClear (fun c a => rd c.p 0 1 = 0 ∧ a.recorder.seqOp ≠ 0) ∧
    Met .recorderFlush fun _ a => a.recorder.dropped ≠ 0 ∧ (∀ e ∈ a.recorder.buf, e.size ≤ 4072) ∧ a.recorder.buf.length ≤ 15872 :=
  ⟨met { k := .recorderClear, role := 0, p := zeros 4, s := full1 } _ (by decide +kernel) (by decide +kernel), met { k := .recorderFlush, role := 2, p := [], s := full1 } _ (by decide +kernel) (by decide +kernel)⟩

/-- Head 15 has written frames 0 and 1, and one record has been kept. -/
def recorded : State :=
  let s := full.setHead 15 { full.head 15 with nextFrame := 2, ring := [(0, [{ age := 0, oldest := 0, contrib := 0, state := 0, flagsOr := 0, crc := 0 }]), (1, [])] }
  { s with recorder := { buf := [{ ty := 1, time := 0, seq := 1, payload := [] }], seqOp := 1 } }

theorem witness_HostBufferReadsAnswer :
    Met .tileRecordsGet (fun c a => ∃ (h want : Nat) (r : TimingRec) (e : Nat × List TileRec) (bytes : Bytes), h = rd c.p 0 1 ∧ (a.head h).timing = some r ∧ a.headOn h = true ∧ (want + 1 = a.writingFrame h ∨ want + 2 = a.writingFrame h) ∧
      want = (if rd c.p 4 8 % 281474976710656 = 0xFFFFFFFFFFFF then a.writingFrame h - 1 else rd c.p 4 8 % 281474976710656) ∧ (a.head h).ring.find? (fun x => x.1 == want) = some e ∧ bytes = a.tileData c.mb h want e.2) ∧
    Met .recorderRead (fun c a => ∃ (recs : List Entry) (e : Entry), (rd c.p 0 1 = 1 → c.role = 4) ∧ recs.head? = some e ∧
      recs = fitting (c.cap 8) (match (a.journal (rd c.p 0 1 == 1)).head? with
        | some o => if notBefore (rd c.p 4 4) o.seq then (a.journal (rd c.p 0 1 == 1)).filter (fun x => notBefore x.seq (rd c.p 4 4)) else a.journal (rd c.p 0 1 == 1)
        | none => []) ∧ (c.net = false → a.hostAllows 1 (c.addr 8) (recs.flatMap Entry.bytes).length = true)) :=
  ⟨met { k := .tileRecordsGet, role := 0, p := [15, 0, 0, 0] ++ le 8 0 ++ desc 64, s := recorded } _ (by decide +kernel)
     ⟨15, 0, timing0, (0, [{ age := 0, oldest := 0, contrib := 0, state := 0, flagsOr := 0, crc := 0 }]), _, by decide +kernel, by decide +kernel, by decide +kernel, by decide +kernel, by decide +kernel, by decide +kernel, rfl⟩,
   met { k := .recorderRead, role := 0, p := zeros 8 ++ desc 64, s := recorded } _ (by decide +kernel) ⟨_, { ty := 1, time := 0, seq := 1, payload := [] }, by decide +kernel, by decide +kernel, rfl, by decide +kernel⟩⟩

/-- PD_TOWER1 is off. -/
def off8 : State := rdy.setDom 8 { state := .off, intended := false }

theorem witness_DomainAndDoorCommandsAnswer :
    Met .domainSet (fun c a => (a.izent.devState = .ready ∨ a.izent.devState = .fault) ∧ rd c.p 1 1 = 1 ∧ (a.dom (rd c.p 0 1)).state = .on) ∧
    Met .domainSet (fun c a => (a.izent.devState = .ready ∨ a.izent.devState = .fault) ∧ rd c.p 1 1 = 0 ∧ 4 ≤ rd c.p 0 1 ∧ (a.dom (rd c.p 0 1)).state = .off) ∧
    Met .domainSet (fun c a => (rd c.p 1 1 = 0 → 4 ≤ rd c.p 0 1) ∧ a.izent.devState ≠ .ready ∧ a.izent.devState ≠ .fault) ∧
    Met .domainSet (fun c a => rd c.p 1 1 = 0 ∧ 4 ≤ rd c.p 0 1 ∧ (a.izent.devState = .ready ∨ a.izent.devState = .fault) ∧ (a.dom (rd c.p 0 1)).state = .on ∧ a.offRefusal (rd c.p 0 1) = none) ∧
    Met .domainSet (fun c a => rd c.p 1 1 = 1 ∧ (a.izent.devState = .ready ∨ a.izent.devState = .fault) ∧ (a.dom (rd c.p 0 1)).state = .off ∧ (domNeeds (rd c.p 0 1)).all a.domOn = true) ∧
    ∀ d : Fin 2, Met .doorRulesSet fun c a => rd c.p 0 1 = (if d = 0 then 0x28 else 0x47) ∧ ∃ rs, rs = (regionRecs c.p).map regionOf ∧ regionsBad 4 [] rs = none ∧ a.prot.retiring = none := by
  refine ⟨met { k := .domainSet, role := 2, p := [13, 1, 0, 0] } _ (by decide +kernel) (by decide +kernel), met { k := .domainSet, role := 2, p := [8, 0, 0, 0], s := off8 } _ (by decide +kernel) (by decide +kernel),
    met { k := .domainSet, role := 2, p := [4, 0, 0, 0], s := { rdy with izent := { rdy.izent with devState := .starting } } } _ (by decide +kernel) (by decide +kernel),
    met { k := .domainSet, role := 2, p := [8, 0, 0, 0] } _ (by decide +kernel) (by decide +kernel), met { k := .domainSet, role := 2, p := [8, 1, 0, 0], s := off8 } _ (by decide +kernel) (by decide +kernel), fun d => ?_⟩
  match d with
  | 0 => exact met { k := .doorRulesSet, role := 4, p := [0x28, 1, 0, 0] ++ regionBytes { base := 0, granules := 1, attr := 3 } } _ (by decide +kernel) ⟨by decide +kernel, _, rfl, by decide +kernel, rfl⟩
  | 1 => exact met { k := .doorRulesSet, role := 4, p := [0x47, 0, 0, 0] } _ (by decide +kernel) ⟨by decide +kernel, _, rfl, by decide +kernel, rfl⟩

/-! Requests that are not served. -/

/-- A request for SYSTEM_STATUS. -/
def statusReq : Msg := req .systemStatus 1 []

theorem witness_EarlyChecksAnswer :
    (∃ m : Msg, (rdy.tick 0).reaches 0 m ∧ ∃ o, headerBad m = some o) ∧ (∃ m : Msg, (rdy.tick 0).reaches 0 m ∧ headerBad m = none ∧ m.crc ≠ msgCrc (code .systemStatus) m) ∧
    (∃ s : State, (s.tick 0).reaches 0 statusReq ∧ headerBad statusReq = none ∧ statusReq.crc = msgCrc (code .systemStatus) statusReq ∧ let d := (statusReq.sequence + 4294967296 - (s.mbx 0).lastSeq) % 4294967296; d < 1 ∨ 2147483647 < d) ∧
    (∃ (m : Msg) (e : Err), (rdy.tick 0).reaches 0 m ∧ headerBad m = none ∧ m.crc = msgCrc (code .debugLock) m ∧
      (let d := (m.sequence + 4294967296 - (rdy.mbx 0).lastSeq) % 4294967296; 1 ≤ d ∧ d ≤ 2147483647) ∧ (rdy.tick 0).mayIssue .debugLock 0 m (messagePayload m) = .error e) :=
  ⟨⟨{ statusReq with magic := 0 }, reaches_of _ _ _ (by decide +kernel), 0, by decide +kernel⟩, ⟨{ statusReq with crc := statusReq.crc + 1 }, reaches_of _ _ _ (by decide +kernel), by decide +kernel, by decide +kernel⟩,
   ⟨rdy.setMbx 0 { lastSeq := 1 }, reaches_of _ _ _ (by decide +kernel), by decide +kernel, by decide +kernel, .inl (by decide +kernel)⟩,
   ⟨req .debugLock 1 [], { status := stDenied, check := 6 }, reaches_of _ _ _ (by decide +kernel), by decide +kernel, by decide +kernel, ⟨by decide +kernel, by decide +kernel⟩, rfl⟩⟩

theorem witness_DoorbellsAndResponses : (∃ s : State, (s.tick 0).serves 15 = true ∧ (s.mbx 15).state ≠ .idle) ∧ Met .systemIdentify fun c a => c.mb < 16 ∧ c.msg.writeFails = false ∧ (a.mbx c.mb).resetting = false ∧
    ∃ r : Rsp, r = { command := 0x0101, status := stOk, session := c.msg.session, sequence := c.msg.sequence, tag := c.msg.tag, payload := a.identity } ∧
      a.hostAllows 1 ((a.mbx c.mb).rspLo + (a.mbx c.mb).rspHi * 4294967296) r.length = true :=
  ⟨⟨rdy.setMbx 15 { state := .held }, by decide +kernel, by decide +kernel⟩,
   met { k := .systemIdentify, role := 0, p := [] } _ (by decide +kernel) ⟨by decide +kernel, rfl, by decide +kernel, _, rfl, by decide +kernel⟩⟩

end Sys2Proof.Tests
end

