-- ==== Sys2Proof/Tests/WitnessTime.lean ====
section
/-! SUPPORT. For every claim about the queue, time, lanes, touch keys, registers, connections, protection and power, states and events that meet its hypotheses. -/

set_option Elab.async false

namespace Sys2Proof.Tests

open Sys2Proof Sys2Proof.Machine

/-! The whole machine. -/

theorem witness_StepRunsFront : ({ rdy with pending := [.reconcile 0] } : State).pending = .reconcile 0 :: [] ∧ rdy.pending = [] := ⟨rfl, rfl⟩

theorem witness_WellFormedCompletes : Instr.wellFormed (.mbxReset 0 15) = true := by decide

/-- READY, debug unlocked at instant 0. -/
def unlocked : State := { rdy with prot := { rdy.prot with unlockedAt := some 0 } }

/-- What an event leaves has a property. -/
def leaves (i : Instr) (s : State) (p : State → Bool) : Bool := match exec i s with | .next u => p u | _ => false

theorem witness_HealthEventsFollow :
    leaves (.jtagInstruction 0 .extest) unlocked (fun u => u.izent.devState != unlocked.izent.devState) = true ∧
    leaves (.configAudit 0 true false) rdy (fun u => u.flagBits != rdy.flagBits) = true ∧ leaves (.lanternSelftest 0 false) rdy (fun u => u.safeFault != rdy.safeFault) = true := by decide +kernel

theorem witness_HealthEventsReserved : rdy.izent.healthEvents < 8 ∧ (match step { rdy with pending := [.lanternSelftest 0 false] } with | .next _ => true | _ => false) = true := by decide +kernel

/-- A picture of 16 by 16 with a locked PTP stamp. -/
def pic0 : Picture := { tag := { cls := 0, info := 4, slot := 0 }, width := 16, height := 16, depth := 8, sampling := 0 }

theorem witness_NoContentUnderAReason : ((rdy.setWin 1023 { shown := 12 }).win 1023).shown ≠ 0 ∧ ((rdy.setHead 15 { reason := 10 }).head 15).reason ≠ 0 := by decide +kernel

/-! Time. -/

/-- Lane 15 is UP, and base `b` listens on it. -/
def ptpOn (b : Nat) : State := (rdy.setLane 15 { rdy.lane 15 with state := .up }).setBase b { rdy.base b with cfg := { base := b, source := 1, portMask := 32768 }, state := .acquiring }

def ptpMsg0 : PtpMsg := { domain := 0, transport := 0, sender := 1, seq := 1, body := .unsupported }

theorem witness_PtpEventsComplete :
    (((ptpOn 0).tick 0).ptpPort 15 = true ∧ (((ptpOn 0).tick 0).base 0).listens 15 ptpMsg0 = true ∧ (((ptpOn 0).tick 0).base 1).listens 15 ptpMsg0 = false) ∧
    (((ptpOn 1).tick 0).ptpPort 15 = true ∧ (((ptpOn 1).tick 0).base 0).listens 15 ptpMsg0 = false ∧ (((ptpOn 1).tick 0).base 1).listens 15 ptpMsg0 = true) ∧
    (((ptpOn 2).tick 0).ptpPort 15 = true ∧ (((ptpOn 2).tick 0).base 0).listens 15 ptpMsg0 = false ∧ (((ptpOn 2).tick 0).base 1).listens 15 ptpMsg0 = false) ∧
    (((ptpOn 1).tick 0).base 1).cfg.source = 1 := by decide +kernel

/-- TB2 is acquiring; TB0 is LOCKED; device time has stepped or not, and follows a base or none. -/
def timed (locked stepped : Bool) (st : DtState) : State :=
  let s := (rdy.setBase 2 { rdy.base 2 with state := .acquiring }).setBase 0 { rdy.base 0 with cfg := { source := 1, portMask := 1 }, state := if locked then .locked else .holdover }
  { s with time := { s.time with state := st, stepped := stepped } }

def evalAt (s : State) : State := (((s.tick 0).clearAgree 0).clearAgree 1).clearAgree 2

theorem witness_TimeBaseEventsComplete :
    ((((timed true false .free).tick 6000000000).base 2).state = .acquiring ∧
      (((timed true false .free).tick 6000000000).base 2).heardAt + (((timed true false .free).tick 6000000000).base 2).cfg.lossTimeout * 1000000 ≤ ((timed true false .free).tick 6000000000).clk) ∧
    ((evalAt (timed true false .free)).select = some 0 ∧ (evalAt (timed true false .free)).time.state ≠ .following 0 ∧ (evalAt (timed true false .free)).alignOpen = true) ∧
    ((evalAt (timed true true .free)).select = some 0 ∧ (evalAt (timed true true .free)).time.state ≠ .following 0 ∧ (evalAt (timed true true .free)).alignOpen = false) ∧
    ((evalAt (timed true true (.following 0))).select = some 0 ∧ (evalAt (timed true true (.following 0))).time.state = .following 0) ∧
    ((evalAt (timed false true (.following 0))).select = none ∧ (evalAt (timed false true (.following 0))).time.state = .following 0) := by decide +kernel

/-! Lanes. -/

/-- Lane 15 is as given. -/
def lane15 (x : Lane) : State := rdy.setLane 15 x

def goodCond : LaneCond := { signal := true, blockLock := true }

theorem witness_LaneEventsComplete :
    (((lane15 { cfg := { lane := 15, rate := 2 }, state := .up, present := true }).tick 0).laneEnabled 15 = true ∧ ((lane15 { cfg := { lane := 15, rate := 2 }, state := .up, present := true }).lane 15).state = .up ∧
      ((lane15 { cfg := { lane := 15, rate := 2 }, state := .up, present := true }).lane 15).present = true ∧ rdy.power.cageOff.contains 15 = false ∧
      ((lane15 { cfg := { lane := 15, rate := 2 }, state := .up, present := true }).lane 15).lockOf goodCond = true ∧
      ((lane15 { cfg := { lane := 15, rate := 2 }, state := .up, present := true }).lane 15).lockOf { goodCond with blockLock := false } = false) ∧
    (∀ st ∈ [LaneState.noSignal, .noBlockLock], ((lane15 { state := st, since := some 0 }).lane 15).since = some 0 ∧ ((lane15 { state := st, since := some 0 }).lane 15).state = st ∧ 0 + 10000000 ≤ ((lane15 { state := st, since := some 0 }).tick 10000000).clk) ∧
    (((lane15 { flapping := true, departures := [0] }).lane 15).flapping = true ∧ ∀ d ∈ ((lane15 { flapping := true, departures := [0] }).lane 15).departures, d + 1000000000 ≤ ((lane15 { flapping := true, departures := [0] }).tick 1000000000).clk) ∧
    (((lane15 { state := .up }).lane 15).state ≠ .disabled ∧ ((lane15 { state := .up }).lane 15).atLimit ≠ true) ∧
    (((lane15 { state := .up, cfg := { lane := 15, flags := 2 } }).lane 15).state = .up ∧ bit ((lane15 { state := .up, cfg := { lane := 15, flags := 2 } }).lane 15).cfg.flags 1 = true ∧ ((lane15 { state := .up, cfg := { lane := 15, flags := 2 } }).lane 15).cfg.fec = 0) ∧
    (∀ x ∈ [({ state := .up, eyeLow := false } : Lane), { state := .up, eyeLow := false, eyeSince := some 0 }, { state := .up, eyeLow := false, widthSince := some 0 }, { state := .up, eyeLow := true, eyeSince := some 0 }, { state := .noBlockLock }, { state := .noSignal }, {}],
      (lane15 x).lane 15 = x) ∧
    0 + 1000000000 ≤ ((lane15 { state := .up, eyeSince := some 0 }).tick 1000000000).clk := by decide +kernel

theorem witness_ModuleEventsComplete :
    ((lane15 {}).lane 15).present = false ∧ ((lane15 { present := true, state := .up }).lane 15).present = true ∧ ((lane15 { present := true, state := .up }).lane 15).txFault ≠ true ∧
    (let s := lane15 { cfg := { lane := 15, rate := 2 }, present := true, state := .up, seen := goodCond }; (s.lane 15).state = .up ∧ (s.tick 0).laneEnabled 15 = true ∧ (s.tick 0).laneSignal 15 (s.lane 15).seen = true) ∧
    (((lane15 { present := true, insertedAt := some 0 }).lane 15).insertedAt = some 0 ∧ 0 + 300000000 ≤ ((lane15 { present := true, insertedAt := some 0 }).tick 300000000).clk) ∧
    (((lane15 { txFault := true, txdisPulse := some 0 }).lane 15).txFault = true ∧ ((lane15 { txFault := true, txdisPulse := some 0 }).lane 15).txdisPulse = some 0 ∧ 0 + 1000000000 ≤ ((lane15 { txFault := true, txdisPulse := some 0 }).tick 1000000000).clk) := by decide +kernel

/-! Touch keys. -/

/-- Electrode 63 is as given. -/
def el63 (x : Electrode) : State := rdy.setEl 63 x

theorem witness_TouchEventsComplete :
    (∀ n ∈ [0, 15], let s : State := { (el63 { cfg := { electrode := 63, group := 15 }, sum := 160 }) with touch := { (el63 { cfg := { electrode := 63, group := 15 }, sum := 160 }).touch with frames := n } }
      (s.tick 1000000000).domOn 3 = true ∧ (s.image 6).good = true ∧ (s.tick 1000000000).activating 6 = false ∧ s.prot.halted.contains 28 = false ∧ (s.tick 1000000000).scanDue = true ∧
      (∀ g < 16, (s.grp g).nextMode = none) ∧ (∀ k < 64, (s.el k).rebase = false) ∧ s.touch.frames < 16 ∧ (s.el 63).used = true) ∧
    (∀ n ∈ [0, 1], let s := el63 { state := .touched, run := n }; (s.el 63).state = .touched ∧ (s.el 63).run = n ∧ (s.el 63).touchedAt + (s.el 63).maxOn * 1000000000 ≤ (s.tick 30000000000).clk) ∧
    (((el63 { state := .masked, quietSince := some 0 }).el 63).state = .masked ∧ ((el63 { state := .masked, quietSince := some 0 }).el 63).quietSince = some 0 ∧ 0 + 200000000 ≤ ((el63 { state := .masked, quietSince := some 0 }).tick 200000000).clk) ∧
    (((el63 { negSince := some 0 }).el 63).state = .released ∧ ((el63 { negSince := some 0 }).el 63).negSince = some 0) ∧
    (∀ b : Bool, ((el63 { rangeSince := some 0, fault := b }).el 63).rangeSince = some 0 ∧ ((el63 { rangeSince := some 0, fault := b }).el 63).fault = b ∧ 0 + 1000000000 ≤ ((el63 { rangeSince := some 0, fault := b }).tick 1000000000).clk) := by
  decide +kernel

/-! Registers, connections, expiries. -/

theorem witness_RegisterAccessesComplete :
    (rdy.tick 0).bar0Up = true ∧ rdy.izent.healthEvents < 8 ∧ (0x1D % 4 ≠ 0) ∧ ({ command := code .dramHashSet } : WriteAux).command = code .dramHashSet ∧
    ((rdy.tick 0).domOn 1 = true ∧ rdy.izent.devState ≠ .boot ∧ rdy.health.recovering.contains 1 = false ∧ (rdy.tick 0).activating 1 = false) := by decide +kernel

/-- A ring whose vector 16 is due. -/
def ringDue : State := { rdy with izent := { rdy.izent with ring := { enable := true, holdoff := 1000, raisedAt := some 0, pendingIrq := true } } }

theorem witness_EventRingCommandsComplete : (rdy.tick 0).bar0Up = true ∧ rdy.izent.ring.enable = false ∧ ringDue.izent.ring.enable = true ∧
    ringDue.izent.ring.pendingIrq = true ∧ ringDue.izent.ring.raisedAt = some 0 ∧ 0 + ringDue.izent.ring.holdoff * 1000 ≤ (ringDue.tick 1000000).clk := by decide +kernel

theorem witness_HostResetsComplete : (rdy.tick 0).bar0Up = true ∧ (rdy.mbx 5).job = none ∧ (∃ x, (rdy.tick 0).session? 5 = some x) ∧ (rdy.tick 0).domOn 1 = true :=
  ⟨by decide +kernel, by decide +kernel, ⟨_, rfl⟩, by decide +kernel⟩

/-- A port listens, and NM3 is free; NM7 has a connection in its handshake, NM1 and NM2 a session; the generator has been seeded, and device time stands in 2030. -/
def netted : State :=
  let s := (rdy.setLane 15 { rdy.lane 15 with state := .up, address := { port := 15, flags := 1 } }).setMbx 23 { conn := some { address := [9], since := 0 } }
  { s with prot := { s.prot with drbg := some {}, store := { s.prot.store with portMask := 32768, creds := [{ id := 6, role := 5, key := leafKey }], anchors := [(1, anchor0)] } }, time := { s.time with dt := 1900000000000000000 * tu } }

/-- The W16's private key in the handshake, and a client whose certificate has the credential's key. -/
def tlsKey : Nat := ofBe (netted.random 48).1 % (curveN - 1) + 1
def client0 : TlsClient :=
  { share := keyG, verify := leafVerify, finished := finishedOf (tlsSecrets (sharedSecret tlsKey curveG) []).1 [] }

theorem witness_ConnectionEventsComplete :
    ((List.range 8).find? (fun i => (netted.mbx (16 + i)).conn.isNone && (netted.mbx (16 + i)).job.isNone) = some 3 ∧ (netted.tick 0).listens = true ∧ netted.prot.entropyOk = true ∧ (netted.tick 0).blocked (addressWho [1]) = false) ∧
    ((netted.mbx 23).conn = some { address := [9], since := 0 } ∧ netted.prot.entropyOk = true ∧ (netted.tick 2000000000).clk ≤ 0 + 2000000000 ∧ (netted.tick 2000000000).blocked (addressWho [9]) = false ∧
      0 + 2000000000 ≤ (netted.tick 2000000000).clk) ∧
    (∃ x, (netted.tick 300000000000).session? 17 = some x ∧ (netted.mbx 17).job = none ∧ x.lastAt + netted.izent.idle * 1000000000 ≤ (netted.tick 300000000000).clk) :=
  ⟨by decide +kernel, by decide +kernel, ⟨{ id := 8, role := 2, mailbox := 17, opened := 0, lastRequest := 0, lastAt := 0, cred := 8 }, by decide +kernel, by decide +kernel, by decide +kernel⟩⟩

theorem witness_tlsHandshake :
    client0.offers = true ∧ (pointOf client0.share).isSome = true ∧ chainFault (netted.prot.store.anchors.map (·.2)) (netted.tick 2000000000).utcNow [leaf0] = none ∧ ([leaf0].head?.bind certOf).isSome = true ∧
    netted.prot.store.creds.find? (fun x => x.key == leafKey) = some { id := 6, role := 5, key := leafKey } ∧ (tlsMaster client0 (ofBe ((netted.tick 2000000000).random 48).1 % (curveN - 1) + 1) leafKey).isSome = true ∧
    chainFault (netted.prot.store.anchors.map (·.2)) (netted.tick 2000000000).utcNow [] = some 0 := by decide +kernel

/-- A command that MB15 or NM1 holds. -/
def heldJob : Job := { kind := .windowSet, msg := req .windowSet 3 (le 2 1 ++ zeros 2 ++ windowBytes { window := 1023 }), since := 0, order := 1, cause := some .locks }

def holds (mb : Nat) (j : Job) : State := rdy.setMbx mb { rdy.mbx mb with state := .held, job := some j }

theorem witness_ExpiriesComplete :
    (armed.comp.arm = some { id := 1, session := 4, entries := (safetyEntries armReq).map entryOf, crc := crc32c (armReq.drop 4), expiry := 30000000000 } ∧ 30000000000 < (armed.tick 30000000001).now ∧
      (armed.tick 30000000001).applyHeld { id := 1, session := 4, entries := (safetyEntries armReq).map entryOf, crc := crc32c (armReq.drop 4), expiry := 30000000000 } = false) ∧
    (unlocked.prot.unlockedAt = some 0 ∧ 0 + 3600000000000 ≤ (unlocked.tick 3600000000000).clk) ∧
    ((({ rdy with prot := { rdy.prot with auth := [{ who := 3, blockedUntil := some 60 }] } } : State).authOf 3).blockedUntil = some 60 ∧ 60 ≤ (({ rdy with prot := { rdy.prot with auth := [{ who := 3, blockedUntil := some 60 }] } } : State).tick 60).clk) ∧
    (((holds 15 heldJob).mbx 15).job = some heldJob ∧ heldJob.cause.isSome = true ∧ heldJob.since + 10000000000 ≤ ((holds 15 heldJob).tick 10000000000).clk) ∧
    (((holds 17 heldJob).mbx 17).conn.isSome = true ∧ ((holds 17 heldJob).mbx 17).job = some heldJob) ∧ rdy.prot.entropyOk = true := by decide +kernel

/-- NM1 has read a further message whose CRC is wrong. -/
def further : State := rdy.setMbx 17 { rdy.mbx 17 with next := some (.systemStatus, { statusReq with crc := statusReq.crc + 1 }) }

/-- An alert waits to be acknowledged. -/
def acking : State := { rdy with touch := { rdy.touch with queue := [{ electrode := 63, action := 2, arg := 1023, reason := 12 }] } }

theorem witness_HeldCommandsStart :
    (∃ (s : State) (j : Job) (b : State) (p : Bytes), (s.mbx 15).job = some j ∧ (s.tick 0).domOn 1 = true ∧ (s.tick 0).clk < j.since + 10000000000 ∧ j.cause = some .locks ∧ (s.tick 0).queuedBefore j = false ∧
      ∃ a : State, a = (if 15 < 16 && j.msg.session != 0 then { s.tick 0 with upd := { s.upd with requested := true } } else s.tick 0) ∧
      a.drains ((s.tick 0).callOf 15 j) = none ∧ (locks j.kind = true → a.deviceHolder = none) ∧ (firstBad F.bad11 (payF j.kind (16 ≤ 15) ((s.tick 0).callOf 15 j).p) ((s.tick 0).callOf 15 j).p = none) ∧
      bodyOf j.kind ((s.tick 0).callOf 15 j) a = .ok b p) ∧
    ((further.mbx 17).conn.isSome = true ∧ (further.mbx 17).job = none ∧ (further.mbx 17).next = some (.systemStatus, { statusReq with crc := statusReq.crc + 1 }) ∧ (further.tick 0).serves 17 = true ∧
      headerBad { statusReq with crc := statusReq.crc + 1 } = none ∧ ({ statusReq with crc := statusReq.crc + 1 } : Msg).crc ≠ msgCrc (code .systemStatus) { statusReq with crc := statusReq.crc + 1 }) ∧
    (acking.touch.queue = [{ electrode := 63, action := 2, arg := 1023, reason := 12 }] ∧ acking.touch.running = none ∧ (acking.tick 0).domOn 1 = true ∧ acking.health.recovering.contains 0 = false ∧ acking.prot.halted.contains 0 = false ∧
      acking.upd.spireSwitch = none ∧ acking.izent.devState = .ready) :=
  ⟨⟨holds 15 heldJob, heldJob, _, _, by decide +kernel, by decide +kernel, by decide +kernel, rfl, by decide +kernel, _, rfl, by decide +kernel, by decide +kernel, by decide +kernel, rfl⟩, by decide +kernel, by decide +kernel⟩

end Sys2Proof.Tests
end

