-- ==== Sys2Proof/Tests/WitnessPower.lean ====
section
/-! SUPPORT. For every claim about freshness, protection, power, start-up, supervision, repair, shedding, the recorder and update, states and events that meet its hypotheses. -/

set_option Elab.async false

namespace Sys2Proof.Tests

open Sys2Proof Sys2Proof.Machine

/-! Freshness. -/

/-- The frame that latches at 2 s: `a` microseconds is the age of `pic0`. -/
def frame0 (a : Nat) (trusted : Bool) : FrameCtx := { latch := 0, rec_ := {}, heads := [15], tf := a * 1000, lp := 0, u := 0, frame := 1, trusted := trusted }

def ageAt (a : Nat) (trusted : Bool) : Nat :=
  ageUs pic0.tag (rowInstant (frame0 a trusted).tf (frame0 a trusted).lp (evalRow {} (frame0 a trusted).rec_ (frame0 a trusted).heads)) (frame0 a trusted).u

theorem witness_FreshnessChecks :
    (({ rdy with time := { rdy.time with state := .following 1 } } : State).setBase 1 { rdy.base 1 with state := .locked }).trusted = true ∧
    pic0.tag.trusted true = true ∧ pic0.tag.trusted false = false ∧
    (({ ageLimit := 99, control := 1 } : Policy).ageLimit < ageAt 100 true ∧ ageAt 100 true ≤ ({ ageLimit := 100, control := 1 } : Policy).ageLimit) ∧
    ({ freezeLimit := 1 } : Policy).freezeLimit * 1000000 < rowInstant (frame0 1001 true).tf (frame0 1001 true).lp (evalRow {} (frame0 1001 true).rec_ (frame0 1001 true).heads) - pic0.tag.advance ∧
    (bit ({ control := 1 } : Policy).control 0 = true ∧ pic0.tag.trusted (frame0 0 false).trusted = false ∧ pic0.tag.trusted (frame0 0 true).trusted = true ∧ bit ({ control := 0 } : Policy).control 0 = false) := by decide +kernel

/-! Protection. -/

/-- Debug is unlocked, and a region with this attribute covers DRAM. -/
def debugging (attr : Nat) : State :=
  { unlocked with prot := { unlocked.prot with store := { unlocked.prot.store with debugRules := [{ base := 0, granules := 0xFFFFFFFF, attr := attr }] } } }

/-- Epoch 1 retires while a transfer of it waits, or none does; `jobs` waits for the new one. -/
def retiring (q : List Transfer) (jobs : Option Job) : State :=
  let s := ({ rdy with prot := { rdy.prot with epoch := 2, retiring := some 1 } } : State).setChannel 15 { queue := q }
  s.setMbx 5 { s.mbx 5 with job := jobs }

def transfer0 : Transfer := { op := { requester := 0, address := 0 }, epoch := 1 }

def retireJob : Job := { kind := .doorRulesSet, msg := statusReq, since := 0, order := 1 }

theorem witness_ProtectionEventsComplete :
    (rdy.prot.unlockedAt = none ∧ JtagIns.extest ≠ .idcode ∧ JtagIns.extest ≠ .sample) ∧ (unlocked.prot.unlockedAt = some 0 ∧ haltable 29 = true) ∧
    ((unlocked.tick 0).debugRefused 1 0 = some (0x28, 0) ∧ (debugging 0x600).prot.unlockedAt = some 0 ∧ ((debugging 0x600).tick 0).debugRefused 0 0x7E0000000 = some (0x40, 0x7E0000000)) ∧
    (((debugging 0x600).tick 0).debugRefused 1 0x7DFFFFFFC = none ∧ 0x7DFFFFFFC < 2 ^ 35 ∧ ((debugging 0x600).tick 0).domOn 2 = true ∧ Memory.wf (debugging 0x600).dram.mem = true) ∧
    (∀ s ∈ [{ debugging 0x200 with dram := { (debugging 0x200).dram with mem := (List.range 4).map fun i => (i, (7 : BitVec 8)) } }], s.prot.unlockedAt = some 0 ∧ (s.tick 0).debugRefused 0 3 = none ∧ s.dram.bytes? (3 / 4 * 4) 4 = some [7, 7, 7, 7]) ∧
    ((retiring [transfer0] none).prot.retiring = some 1 ∧ ((retiring [transfer0] none).tick 0).inFlight 1 = true) ∧
    ((retiring [] none).prot.retiring = some 1 ∧ ((retiring [] none).tick 0).inFlight 1 = false ∧ ((retiring [] none).tick 0).rulesJob = none) ∧
    ((retiring [] (some retireJob)).prot.retiring = some 1 ∧ ((retiring [] (some retireJob)).tick 0).inFlight 1 = false ∧ ((retiring [] (some retireJob)).tick 0).rulesJob = some (5, retireJob)) := by decide +kernel

/-! Feeds. -/

/-- Feeds 0 and 1 as given, the load on `holder`. -/
def fed (a b : Feed) (holder : Option Nat) : State :=
  ({ rdy with power := { rdy.power with holder := holder } } : State).setFeed 0 a |>.setFeed 1 b

/-- BOOT, with PD_AON alone on and the second feed within its range for 100 ms. -/
def cold : State :=
  let s := fed {} { mv := 20000, cond := .present, inRange := some 0 } none
  { s with izent := { s.izent with devState := .boot }, power := { s.power with domains := [(0, { state := .on })] } }

/-- KA as given, the load on `holder`. -/
def kept (mv : Nat) (present : Bool) (since : Option Time) (holder : Option Nat) : State :=
  { rdy with power := { rdy.power with kaMv := mv, kaPresent := present, kaSince := since, holder := holder } }

theorem witness_FeedEventsComplete :
    (cold.power.pfAt = none ∧ (cold.feed 1).cond = .present ∧ (cold.feed 1).inRange = some 0 ∧ 0 + 100000000 ≤ (cold.tick 100000000).clk ∧ (∀ d ∈ List.range 14, 1 ≤ d → (cold.dom d).state = .off) ∧
      cold.izent.devState = .boot ∧ cold.upd.bootRom = false ∧ cold.power.startedAt = none) ∧
    (∀ h ∈ [0, 1], ∀ s ∈ [if h = 0 then fed { cond := .qualified } { cond := .qualified } (some 0) else fed { cond := .qualified } { cond := .present } (some 1)],
      s.power.pfAt = none ∧ s.power.holder = some h ∧ (s.feed h).cond ≠ .lost) ∧
    ((fed { cond := .qualified } { cond := .qualified } (some 0)).feed 1).cond = .qualified ∧ ((fed { cond := .qualified } { cond := .qualified } (some 0)).feed 1).fault = false ∧
    ((fed {} { cond := .qualified } (some 1)).power.holder = some 1 ∧ ((fed {} { cond := .qualified } (some 1)).feed 1).cond ≠ .lost ∧ ((fed {} { cond := .qualified } (some 1)).feed 0).cond = .lost) ∧
    ((7499 < 7500 ∨ 21000 < 7499) ∧ (21001 < 7500 ∨ 21000 < 21001) ∧ 8000 ≤ 20000) ∧
    ((kept 2699 false (some 0) (some 1)).power.kaPresent = false ∧ (kept 2699 false (some 0) (some 1)).power.kaSince = some 0 ∧ 0 + 10000000 ≤ ((kept 2699 false (some 0) (some 1)).tick 10000000).clk ∧
      ((kept 2699 false (some 0) (some 1)).dom 0).state = .on) ∧
    ((kept 2700 true (some 0) (some 1)).power.kaPresent = true ∧ (kept 2700 true (some 0) (some 1)).power.holder = some 1 ∧ (kept 2700 true (some 0) none).power.holder = none ∧ (kept 2700 true (some 0) none).power.pfAt = none) := by
  decide +kernel

/-! Domains, resets, start-up. -/

/-- Domain `d` is in a state, a context and a channel with it as it goes off. -/
def domAt (d : Nat) (st : DomState) : State := rdy.setDom d { rdy.dom d with state := st }

def switchJob (d : Nat) : Job := { kind := .domainSet, msg := req .domainSet 3 (le 2 d ++ [1] ++ zeros 5), since := 0, order := 1 }

def switching (d : Nat) : State := let s := domAt d .switchingOn; s.setMbx 15 { s.mbx 15 with job := some (switchJob d) }

theorem witness_DomainEventsComplete :
    (∀ d ∈ [0, 6, 9, 13], ((domAt d .shuttingDown).dom d).state = .shuttingDown ∧ (∀ e ∈ (domAt d .shuttingDown).streams.ctx, e.2.state ≠ .draining) ∧ ∀ e ∈ (domAt d .shuttingDown).enc.chan, e.2.state = .draining → e.2.coding = none) ∧
    (∀ d ∈ [0, 13], ((domAt d .switchingOn).dom d).state = .switchingOn) ∧ (((switching 13).dom 13).state = .switchingOn ∧ (switching 13).switcher 13 = some (15, switchJob 13)) ∧
    (∀ d ∈ [1, 3, 4, 13], (rdy.dom d).state ≠ .off) ∧ rdy.power.pfAt = none := by decide +kernel

theorem witness_ResetsComplete : rdy.power.pfAt = none ∧ (rdy.dom 0).state = .on ∧
    (∀ m ∈ [0, 1], ({ rdy with power := { rdy.power with restart := some (m, 1000000) } } : State).power.restart = some (m, 1000000) ∧ 1000000 ≤ (({ rdy with power := { rdy.power with restart := some (m, 1000000) } } : State).tick 1000000).clk) := by
  decide +kernel

/-- A start stands at a step of Table 17-3. -/
def starting (stage failures : Nat) (warm : Bool) : State :=
  let s := fed {} { cond := .qualified, inRange := some 0 } (if stage = 0 then none else some 1)
  { s with izent := { devState := if stage < 3 then .boot else .starting }
           power := { s.power with startedAt := some 0, stage := stage, startFailures := failures, warm := warm, domains := (List.range 14).map fun d => (d, { state := if d = 0 || d < stage then .on else .off }) } }

def startObs : StartObs := { ok := true, temp := 250 }

theorem witness_StartUpCompletes :
    ((starting 0 0 false).power.startedAt = some 0 ∧ (starting 0 0 false).power.stage = 0 ∧ startObs.ok = true ∧ ((starting 0 0 false).tick 5000000).clk ≤ (starting 0 0 false).power.stageAt + 5000000 ∧ ((starting 0 0 false).tick 5000000).firstFeed = some 1) ∧
    (∀ n ∈ [2, 3, 4, 5, 6, 7, 8], ∀ warm ∈ [true, false], (starting (n - 1) 0 warm).power.startedAt = some 0 ∧ (starting (n - 1) 0 warm).power.stage + 1 = n ∧
      ((starting (n - 1) 0 warm).tick (stepBound n warm * 1000000)).clk ≤ (starting (n - 1) 0 warm).power.stageAt + stepBound n (starting (n - 1) 0 warm).power.warm * 1000000 ∧
      (((starting (n - 1) 0 warm).tick (stepBound n warm * 1000000)).startStep n startObs).upd.bootRom = false) ∧
    ((starting 8 1 false).power.stage = 8 ∧ ((starting 8 1 false).tick 100000000).clk ≤ (starting 8 1 false).power.stageAt + 100000000 ∧ (∀ i ∈ List.range 8, ((starting 8 1 false).image i).good = true)) ∧
    ((starting 8 0 true).power.pfAt = none ∧ (starting 8 0 true).power.startFailures = 0 ∧ 1 ≤ (starting 0 1 true).power.startFailures ∧ ({ startObs with ok := false } : StartObs).ok = false) ∧
    (∀ n ∈ [1, 5, 9], (starting (n - 1) 0 true).power.stage + 1 = n ∧ (starting (n - 1) 0 true).power.stageAt + stepBound n (starting (n - 1) 0 true).power.warm * 1000000 < ((starting (n - 1) 0 true).tick (stepBound n true * 1000000 + 1)).clk) := by
  decide +kernel

/-! Supervision. -/

/-- Domain 13 shuts down although intended on; `c` is known of it, and nothing of any other unit. -/
def leaving (c : List Compare) : State := let s := domAt 13 .shuttingDown; { s with health := { s.health with compares := c } }

def settledPair (c : List Compare) : State := { rdy with health := { rdy.health with compares := c } }

def known0 : Compare := { kind := 6, unit := 13, sinceDt := 0, since := 0 }

theorem witness_SupervisionCompletes :
    (∀ s ∈ [leaving [], leaving [known0], settledPair [], settledPair [known0]], s.izent.devState = .ready ∧ (s.tick 0).spireB = true ∧ (6, 13) ∈ (s.tick 0).pairUnits ∧
      ∀ x ∈ (s.tick 0).pairUnits, x ≠ (6, 13) → ((s.tick 0).pair x.1 x.2).agrees ((s.tick 0).pendingFor x.1 x.2) = true) ∧
    (((settledPair []).tick 0).pair 6 13).agrees (((settledPair []).tick 0).pendingFor 6 13) = true ∧ (((leaving []).tick 0).pair 6 13).agrees (((leaving []).tick 0).pendingFor 6 13) = false ∧
    (((leaving [known0]).tick 100000000).clk = known0.since + 100000000 ∧ ((leaving [known0]).tick 100000000).canApply 6 13 = false) ∧
    (∀ c ∈ [{ known0 with reportedAt := some 100000000 }], (leaving [c]).health.compares = [c] ∧ c.reportedAt = some 100000000 ∧ c.persistent = false ∧ 100000000 + 1000000000 ≤ ((leaving [c]).tick 1100000000).clk) := by decide +kernel

/-- Domain 13 with this voltage and history. -/
def paced (x : Domain) : State := rdy.setDom 13 { x with state := .on }

theorem witness_AdaptiveLoopsComplete :
    ((rdy.tick 0).domOn 3 = true ∧ (rdy.tick 0).activating 0 = false ∧ rdy.prot.halted.contains 26 = false ∧ (rdy.tick 0).domOn 13 = true ∧ (rdy.tick 0).domOn 1 = true) ∧
    ((List.range 12).map (· + 1000) ++ [1029])[13 - 1]? = some 1029 ∧
    (((paced { steppedAt := some 0 }).dom 13).steppedAt = some 0 ∧ ((paced { steppedAt := some 0 }).tick 9999999).clk < 0 + 10000000 ∧ 0 + 10000000 ≤ ((paced { steppedAt := some 0 }).tick 10000000).clk) ∧
    (((paced { mv := 879 }).dom 13).mv < (vRange 13).2 ∧ (vRange 13).2 ≤ ((paced { mv := 880 }).dom 13).mv ∧ ((paced { mv := 880 }).dom 13).belowSince = none ∧ (vRange 13).1 < ((paced { mv := 721 }).dom 13).mv) ∧
    (((paced { belowSince := some 0, atLimit := true }).dom 13).belowSince = some 0 ∧ 0 + 1000000000 ≤ ((paced { belowSince := some 0, atLimit := true }).tick 1000000000).clk) ∧ rdy.power.capMw < 118001 ∧ 118000 ≤ rdy.power.capMw := by
  decide +kernel

/-- Context 255 decodes on engine 16, and scaler 95 is assigned. -/
def inService : State :=
  let s := rdy.setCtx 255 { state := .active, decl := { context := 255 }, decoder := 16 }
  { s with comp := { s.comp with assigns := [{ group := 3, window := 1023, row := 0, head := 15, crop := [], rect := [], scalers := [95] }] } }

theorem witness_FailedUnitsComplete :
    (∀ e ∈ [0, 7, 9, 16], inService.health.engines.contains e = true ∧ inService.health.failedEngines.contains e = false ∧ (inService.tick 0).domOn (if e < 9 then 7 else 8) = true) ∧
    ((towerEngines 8).find? fun y => y != 16 && !inService.health.engines.contains y && !inService.health.failedEngines.contains y) = some 17 ∧
    (inService.ctxOpen 255 = true ∧ (inService.ctx 255).decl.compressed = true ∧ (inService.ctx 255).decoder = 16) ∧
    (∀ n ∈ [0, 95], inService.health.scalers.contains n = true ∧ inService.health.failedScalers.contains n = false) ∧ (inService.tick 0).domOn 10 = true ∧
    ((List.range 104).find? fun y => y != 95 && !inService.health.scalers.contains y && !inService.health.failedScalers.contains y) = some 96 ∧
    ((inService.tick 0).domOn 3 = true ∧ inService.health.bgSuspended = false ∧ inService.prot.halted.contains 26 = false) ∧
    (∀ e < 18, Map.get? inService.streams.working e = none ∧ Map.get? inService.health.engineTested e = none) ∧ (∀ n ∈ [0, 95], inService.scalerIdle n = true ∧ Map.get? inService.health.scalerTested n = none) ∧
    (let s := inService.setWin 1023 { diagnose := some [95] }; (s.win 1023).diagnose = some [95] ∧ 95 ∈ [95] ∧ (s.head (s.activeWindow 1023).head).scanning = false) := by decide +kernel

/-- Recoveries of a pair, and operations that engine 3 abandoned, in the past. -/
def troubled (r : List (Nat × Time)) (recovering : List Nat) (a : List (Nat × Time)) (mbJob : Option Job) : State :=
  let s : State := { rdy with health := { rdy.health with recoveries := r, recovering := recovering, abandoned := a } }
  s.setMbx 15 { s.mbx 15 with job := mbJob }

theorem witness_LockstepAndReloadComplete :
    (∀ p ∈ [0, 1], ((troubled [(p, 0)] [] [] none).tick 600000000000).domOn 1 = true ∧ (troubled [(p, 0)] [] [] none).upd.planState ≠ .running ∧ (troubled [(p, 0)] [] [] none).health.recovering.contains p = false ∧
      ((troubled [(p, 0)] [] [] none).health.recoveries.filter fun x => x.1 == p && ((troubled [(p, 0)] [] [] none).tick 600000000000).clk ≤ x.2 + 600000000000).length < 2 ∧
      (troubled [] [p] [] none).health.recovering.contains p = true ∧
      2 ≤ ((troubled [(p, 0), (p, 0)] [] [] none).health.recoveries.filter fun x => x.1 == p && ((troubled [(p, 0), (p, 0)] [] [] none).tick 600000000000).clk ≤ x.2 + 600000000000).length) ∧
    (((troubled [] [] [] (some (switchJob 13))).mbx 15).job = some (switchJob 13) ∧ (switchJob 13).cause = none ∧ ∀ k ∈ List.range 25, k ≠ 15 → ((troubled [] [] [] (some (switchJob 13))).mbx k).job = none) ∧
    (((troubled [] [] [(3, 0)] none).tick 60000000000).domOn 3 = true ∧
      ((troubled [] [] [(3, 0), (3, 0), (3, 1)] none).health.abandoned.filter fun x => ((troubled [] [] [(3, 0), (3, 0), (3, 1)] none).tick 60000000000).clk < x.2 + 60000000000 && x.1 == 3).length < 2 ∧
      2 ≤ ((troubled [] [] [(3, 1), (3, 1)] none).health.abandoned.filter fun x => ((troubled [] [] [(3, 1), (3, 1)] none).tick 60000000000).clk < x.2 + 60000000000 && x.1 == 3).length) := by decide +kernel

/-- A shortfall or none; channel 31 codes H.265 at this raise; window 1023 of head 15 may be shed. -/
def short (bits raise : Nat) (h : Health) : State :=
  let s := (rdy.setEnc 31 { state := .running, decl := { channel := 31, flags := 1, maxQpRaise := 12 }, raise := raise }).setHead 15 { timing := some { head := 15, flags := 16, sg := 3 } }
  { s.setGrpC 3 { s.grpC 3 with act := { windows := [(1023, { window := 1023, head := 15, flags := 2 })] } } with health := { h with conditions := bits } }

theorem witness_SheddingCompletes :
    (((short 0 0 {}).tick 0).spireB = true ∧ ((short 0 0 {}).tick 0).shortfall = 0) ∧ (((short 1 0 {}).tick 0).shortfall ≠ 0 ∧ (short 1 0 {}).health.bgSuspended = false) ∧
    (((short 1 11 { bgSuspended := true }).tick 0).shortfall ≠ 0 ∧ ((short 1 11 { bgSuspended := true }).tick 0).shedStart.qpRoom = true) ∧
    (((short 1 12 { bgSuspended := true }).tick 0).shedStart.qpRoom = false ∧ ((allChannels.foldl State.raiseQp ((short 1 12 { bgSuspended := true }).tick 0).shedStart).nextShed.map WindowDesc.window) = some 1023) ∧
    (((short 0 0 {}).tick 9999999999).unwindDue = false ∧ ((short 0 0 { shed := [1023] }).tick 10000000000).unwindDue = true ∧ (short 0 0 { shed := [1023] }).health.shed = [1023]) ∧
    ((short 0 12 { qpSteps := 1 }).health.shed = [] ∧ (short 0 12 { qpSteps := 1 }).health.qpSteps ≠ 0) ∧
    ((short 0 0 { bgSuspended := true }).health.shed = [] ∧ (short 0 0 { bgSuspended := true }).health.qpSteps = 0 ∧ (short 0 0 { bgSuspended := true }).health.jobs = []) := by decide +kernel

/-! The scan engine and the recorder. -/

/-- A host job of four bytes runs. -/
def scanning : State :=
  let h : Health := { jobs := [{ id := 65535, start := 60, length := 4, submitted := 1 }], scanBusy := true, results := [(65535, { submitted := 1, state := 2 })] }
  { rdy with health := h, dram := { rdy.dram with mem := (List.range 4).map fun i => (60 + i, (1 : BitVec 8)) } }

def rate0 : RateEntry := { ty := 0x0101, subject := 7, lastAt := 0, suppressed := 1, payload := zeros 8 }

def limited : State := { rdy with recorder := { rdy.recorder with rate := [rate0], lastFlush := 0 } }

theorem witness_BackgroundEventsComplete :
    (scanning.health.jobs = [{ id := 65535, start := 60, length := 4, submitted := 1 }] ∧ scanning.health.scanBusy = true ∧ (scanning.tick 0).scanRefused { id := 65535, start := 60, length := 4, submitted := 1 } = false ∧
      Map.get? scanning.health.results 65535 = some { submitted := 1, state := 2 } ∧ scanning.dram.bytes? 60 4 = some [1, 1, 1, 1]) ∧
    ((limited.tick 10000000000).spireB = true ∧ limited.recorder.flushing = none ∧ limited.recorder.lastFlush + 10000000000 ≤ (limited.tick 10000000000).clk) ∧
    (∀ s ∈ [({ rdy with recorder := { rdy.recorder with flushing := some 1 } } : State)], (s.tick 0).spireB = true ∧ s.recorder.flushing = some 1) ∧
    ((limited.recorder.rate.find? fun x => x.ty == 0x0101 && x.subject == 7) = some rate0 ∧ rate0.suppressed ≠ 0 ∧ rate0.lastAt + 1000000000 ≤ (limited.tick 1000000000).clk) := by decide +kernel

/-! Update. -/

def container (i : Nat) : Container := { ({} : Image).running with image := i, confirmCriteria := 1 }

/-- The header of a container of an image without blocks, whose signatures are those of the vendor's key: over no plaintext, and over the header. -/
def emptyText : Bytes := [0, 0, 0, 0, 1, 0, 5, 0] ++ zeros 24 ++ le 8 5 ++ zeros 72 ++ signG [] ++ zeros 208
def emptyHeader : Bytes := emptyText ++ signG emptyText

/-- Images 5 and 6 are staged, 5 first, from that container. -/
def staging : State := { vendored with upd := { vendored.upd with planId := 1, planState := .running, plan := [containerOf emptyHeader, container 6], order := [5, 6] } }

/-- A plan for TOUCH and NET in the state and at the place given. -/
def update (st : PlanState) (u : Update) : State :=
  { rdy with upd := { u with planId := 1, planState := st, plan := [container 5, container 6], order := [5, 6], images := [(5, { running := container 5, staged := if u.stagedCount = 2 then some (container 5) else none })] } }

theorem witness_UpdateEventsComplete :
    (staging.upd.order[staging.upd.stagedCount]? = some 5 ∧ staging.upd.planState = .running ∧ staging.upd.falling = none ∧ staging.power.pfWarn = false ∧
      (staging.tick 0).hostAllows 0 (Map.get (0, 0) staging.upd.sources 5).1 (Map.get (0, 0) staging.upd.sources 5).2 = true ∧ staging.headerValid emptyHeader = true ∧ staging.passes emptyHeader [] = true ∧
      (staging.upd.plan.find? fun x => x.image == 5 && x == containerOf emptyHeader) = some (containerOf emptyHeader) ∧ staging.upd.stagedCount + 1 < staging.upd.order.length ∧ staging.headerValid (zeros 512) = false) ∧
    ((update .running { spireDue := true }).upd.spireDue = true ∧ (∀ e ∈ (update .running { spireDue := true }).izent.mbx, ∀ j ∈ e.2.job, j.cause.isSome = true) ∧ (update .running { spireDue := true }).touch.running = none) ∧
    ((update .running { compDue := true }).upd.compDue = true ∧ (update .running { compDue := true }).upd.activating = none ∧ ∀ g ∈ List.range 4, ((update .running { compDue := true }).grpC g).next = none) ∧
    (∀ done ∈ [[], [6]], ∀ s ∈ [update .running { stagedCount := 2, activating := some (5, 0), activated := done }], s.upd.activating = some (5, 0) ∧ 5 ≠ 3 ∧ s.upd.activated.contains 5 = false ∧ (s.image 5).staged = some (container 5) ∧ s.upd.falling = none) ∧
    (activationBound 5 = some 200000000 ∧ 0 + 200000000 ≤ ((update .running {}).tick 200000000).clk ∧ [6] = [] ++ [6]) ∧
    (∀ s ∈ [update .confirmPending { activated := [5, 6], deadline := 60000000000 }], s.upd.planState = .confirmPending ∧ s.upd.falling = none ∧ s.upd.deadline ≤ (s.tick 60000000000).now ∧ (s.tick 60000000000).confirmHeld = false ∧ s.upd.activating = none ∧ s.upd.activated = [5] ++ [6]) ∧
    (∀ s ∈ [update .confirmPending { activated := [5, 6], deadline := 60000000000 }], (∀ c ∈ s.upd.plan, c.confirmCriteria ≠ 0) ∧ criterionBroken (s.tick 10000000000) (s.tick 10000000000) = false ∧
      bit (s.tick 10000000000).criteria 6 = false ∧ s.upd.settledFrom + maxL (s.upd.plan.map Container.settleS) * 1000000000 ≤ (s.tick 10000000000).clk) := by decide +kernel

end Sys2Proof.Tests
end

