-- ==== Sys2Proof/Tests/WitnessUnits.lean ====
section
/-! SUPPORT. For every claim about ingest, decoding, sources, heads, links, Lantern, encoding and DRAM, states and events that meet its hypotheses. -/

set_option Elab.async false

namespace Sys2Proof.Tests

open Sys2Proof Sys2Proof.Machine

/-! Ingest. -/

def decl0 : StreamRec :=
  { context := 255, level := 51, bitDepth := 8, maxWidth := 16, maxHeight := 16, rateNum := 25, maxBitrate := 1000, payloadType := 96, group := [239, 1, 1, 1] ++ zeros 12, udpPort := 5004, portMask := 32768 }

/-- Lane 15 is UP with the address 10.0.0.1, and context 255 listens on it. -/
def hearing (x : Ctx) : State := (rdy.setLane 15 { state := .up, address := { port := 15, flags := 1, ipv4 := [10, 0, 0, 1] } }).setCtx 255 { x with decl := decl0 }

def joiner : Ctx := { state := .joining, ssrc := some 9 }

/-- An RTP packet of payload type 96 with one NAL unit of two bytes (RFC 3550, RFC 6184). -/
def rtp0 : Bytes := [0x80, 96] ++ be 2 65535 ++ be 4 1 ++ be 4 9 ++ [0x65, 1]
def packet0 : RtpPacket := { payloadType := 96, marker := false, seq := 65535, ts := 1, ssrc := 9, bits := 16, payload := .single [0x65, 1] }

/-- Ethernet, IPv4 and UDP around it, from 10.0.0.2 to 239.1.1.1, port 5004. -/
def ether0 (ty : Nat) : Bytes := [1, 0, 0x5E, 1, 1, 1, 0, 0, 0, 0, 0, 5] ++ be 2 ty
def ipBody0 : Bytes := [0x45, 0] ++ be 2 42 ++ zeros 4 ++ [64, 17, 0, 0, 10, 0, 0, 2, 239, 1, 1, 1] ++ be 2 5004 ++ be 2 5004 ++ be 2 22 ++ [0, 0] ++ rtp0
def rtpFrame : Frame := { lane := 15, bytes := ether0 0x0800 ++ fit 46 ipBody0 }

/-- An ARP request of 10.0.0.2 for 10.0.0.1 (RFC 826). -/
def arpFrame : Frame := { lane := 15, bytes := ether0 0x0806 ++ be 2 1 ++ be 2 0x0800 ++ [6, 4] ++ be 2 1 ++ [0, 0, 0, 0, 0, 5, 10, 0, 0, 2] ++ zeros 6 ++ [10, 0, 0, 1] ++ zeros 18 }

/-- Pair 7 holds the frame with a trailer of LAN B, and has seen its number. -/
def twice : PrpHeld := { stamp := 1, at_ := 0, frame := { rtpFrame with bytes := rtpFrame.bytes ++ be 2 65535 ++ be 2 (0xB000 + 52) ++ be 2 0x88FB } }

def doubled : State := (hearing joiner).setPrp 7 { held := [twice], entries := [{ mac := 5, high := 65535, seen := [65535], lastAt := 0 }] }

def parsed0 : Parsed := parseEther rtpFrame.bytes

theorem witness_FramesComplete :
    (((hearing joiner).lane 15).state = .up ∧ (rdy.lane 15).state ≠ .up ∧ (rtpFrame.fcsOk = true ∧ 60 ≤ rtpFrame.bytes.length ∧ rtpFrame.bytes.length ≤ 9596)) ∧
    (((hearing joiner).tick 0).domOn 6 = true ∧ (((hearing joiner).setDom 6 {}).tick 0).domOn 6 = false ∧ ((hearing joiner).tick 0).activating 2 = false ∧ (hearing joiner).answers 15 parsed0 = none) ∧
    (let p := parseEther arpFrame.bytes; 60 ≤ arpFrame.bytes.length ∧ bit ((hearing joiner).lane 15).cfg.flags 0 = false ∧ p.qinq = false ∧ p.vlan = ((hearing joiner).lane 15).address.vlan ∧ p.ty = 0x0806 ∧ rdBe p.body 0 2 = 1 ∧ rdBe p.body 2 2 = 0x0800 ∧
      rdBe p.body 6 2 = 1 ∧ ((hearing joiner).lane 15).owns false (sub p.body 24 4) = true) ∧
    ((parsed0.ip?.bind Packet.udp?) = some rtp0 ∧ (parsed0.ip?.bind Packet.udpPort) = some 5004 ∧ (parsed0.ip?.map Packet.odd) = some false ∧ (hearing joiner).contextsOf 15 parsed0 = [255] ∧ (hearing joiner).prot.halted.contains (2 + ((hearing joiner).ctx 255).engine) = false ∧
      bit ((hearing joiner).ctx 255).decl.flags 3 = false ∧ udpBody ((hearing joiner).ctx 255).decl 5004 rtp0 = .rtp packet0 ∧
      packet0.payloadType = ((hearing joiner).ctx 255).decl.payloadType ∧ ((hearing joiner).ctx 255).ssrc = some 9 ∧ packet0.ssrc = 9 ∧ (((hearing joiner).ctx 255).police 15 packet0.bits ((hearing joiner).tick 0).clk).isSome = true ∧
      ((hearing joiner).ctx 255).state = .joining ∧ ((hearing joiner).ctx 255).decl.kind ≠ 2 ∧ ((hearing joiner).ctx 255).high = none ∧ ((hearing joiner).ctx 255).nextSeq = none ∧ ((hearing joiner).ctx 255).jitter = [] ∧
      packet0.payload = .single [0x65, 1] ∧ packet0.marker = false ∧ packet0.seq < 65536 ∧ cdiv packet0.bits 8 ≤ ((hearing joiner).ctx 255).decl.jitterBytes) ∧
    (let p := parseEther twice.frame.bytes; (doubled.prpPair 7).held = [twice] ∧ (doubled.prpPair 7).ripe (doubled.tick 999).clk twice = false ∧ (doubled.prpPair 7).ripe (doubled.tick 1000).clk twice = true ∧ p.trailer = some (65535, twice.frame.lane % 2 == 1) ∧
      ((doubled.prpPair 7).entries.find? fun x => x.mac == ofBe p.srcMac) = some { mac := 5, high := 65535, seen := [65535], lastAt := 0 } ∧ doubled.contextsOf 15 p.strip = [255]) ∧
    (((hearing joiner).tick 0).oldQuerier 15 false = false ∧ ((hearing joiner).ctx 255).multicast = true ∧ bit ((hearing joiner).ctx 255).decl.portMask 15 = true ∧ ((hearing joiner).ctx 255).v6 = false) ∧
    (((hearing joiner).ctx 255).reported = false ∧ ((hearing joiner).ctx 255).joinedAt + 1000000000 ≤ ((hearing joiner).tick 1000000000).clk) := by decide +kernel

def held0 : Held := { seq := 70000, arrival := { at_ := 0 }, pkt := packet0 }

def assembly0 : Assembly := { rtp := 1, arrival := { at_ := 0 }, firstSeq := 5, lastSeq := 6, seqs := [6, 5], marker := false, outside := false, ext := none, extSeen := false, segments := [], old := false }

theorem witness_IngestDeadlinesComplete :
    (((hearing { jump := some (held0, 0) }).ctx 255).jump = some (held0, 0) ∧ 0 + ((hearing { jump := some (held0, 0) }).ctx 255).decl.jitterDepth * 1000 ≤ ((hearing { jump := some (held0, 0) }).tick 20000000).clk) ∧
    (∀ s ∈ [hearing { jitter := [held0] }], (∀ h ∈ (s.ctx 255).jitter, h.pkt.ts = 1) ∧ (∀ h ∈ (s.ctx 255).jitter, (s.tick 19999999).now < h.arrival.at_ + (s.ctx 255).decl.jitterDepth * 1000) ∧
      (∃ h ∈ (s.ctx 255).jitter, h.arrival.at_ + (s.ctx 255).decl.jitterDepth * 1000 ≤ (s.tick 20000000).now) ∧ (s.ctx 255).queue.length < 8) ∧
    (∀ s ∈ [hearing { assembly := [assembly0] }], (s.ctx 255).assembly = [assembly0] ∧
      (s.tick 59999999).now < assembly0.arrival.at_ + (s.ctx 255).decl.rateDen * 1000000000 / (s.ctx 255).decl.rateNum + (s.ctx 255).decl.jitterDepth * 1000 ∧
      assembly0.arrival.at_ + (s.ctx 255).decl.rateDen * 1000000000 / (s.ctx 255).decl.rateNum + (s.ctx 255).decl.jitterDepth * 1000 ≤ (s.tick 60000000).now) := by decide +kernel

/-! Decoding and sources. -/

/-- An access unit of H.264 Constrained Baseline, level 1, 16×16: sequence and picture parameter sets and an IDR slice, written out from the syntax of ITU-T H.264. -/
def unit0 : AccessUnit := { rtp := 1, arrival := { at_ := 0 }, incomplete := false, degraded := false, nals := [[0x67, 0x42, 0xC0, 0x0A, 0xDA, 0x79], [0x68, 0xCE, 0x38, 0x80], [0x65, 0x88, 0x84, 0xE0]], order := 0 }

def ready255 : Ctx := { state := .active, decoder := 16, join := .showing, queue := [unit0], slots := 2, pool := [{ current := true }, {}], unacked := [pic0] }

def read0 : UnitRead := readUnit 0 {} unit0.nals

def decoding0 : Decoding := { context := 255, slot := 1, started := 0, au := unit0, info := { slices := read0.heads 0 } }

/-- Engine 16 decodes into slot 1 of context 255. -/
def busy : State := let s := hearing ready255; { s with streams := { s.streams with working := [(16, decoding0)] } }

/-- The only window of the context is shed. -/
def hidden : State :=
  let s := ((hearing ready255).setHead 15 { timing := some { head := 15, sg := 3, flags := 16 } }).setWin 1023 { shed := true }
  s.setGrpC 3 { s.grpC 3 with act := { windows := [(1023, { window := 1023, head := 15, source := 255 })] } }

theorem witness_DecodingEventsComplete :
    (∀ s ∈ [hearing ready255, hidden], s.health.engines.contains 16 = true ∧ (s.tick 0).domOn (towerDomain 16) = true ∧ Map.get? s.streams.working 16 = none ∧ s.nextUnit 16 = some 255 ∧ (s.ctx 255).queue = [unit0]) ∧ hidden.ctxShed 255 = true ∧
    (∀ s ∈ [hearing ready255], s.ctxShed 255 = false ∧ (s.ctx 255).discarding = false ∧ (s.ctx 255).skipping = false ∧ (s.ctx 255).join = .showing ∧ (s.ctx 255).dec = {} ∧ (s.ctx 255).decl.kind = 0 ∧ read0.errors = 0 ∧ read0.endBefore = false ∧ read0.endAfter = false ∧
      (read0.seq (s.ctx 255).decl).any (inEnvelope (s.ctx 255).decl) = true ∧ (read0.heads 0).length = read0.slices.length ∧
      (match (read0.heads 0).head? with | some (.avc a) => (read0.dec.gap a).isEmpty | _ => false) = true ∧ (s.ctx 255).pool.length ≤ (s.ctx 255).slots ∧ (s.ctx 255).freeSlot ≠ none) ∧
    rdy.nextUnit 17 = none ∧ Map.get? busy.streams.working 16 = some decoding0 ∧ decoding0.info.slices ≠ [] ∧
    ((busy.tick 50000).clk < decoding0.started + workBudget (busy.ctx 255).decl ∧ decoding0.started + workBudget (busy.ctx 255).decl ≤ (busy.tick 51000).clk) ∧
    ((hearing ready255).ctx 255).unacked = pic0 :: [] ∧ ((rdy.setSrc 15 { unacked := [pic0] }).src 15).unacked = pic0 :: [] ∧
    (((hearing { join := .waitEntry }).ctx 255).join = .waitEntry ∧ ((hearing { join := .waitEntry }).ctx 255).waitSince + 10000000000 ≤ ((hearing { join := .waitEntry }).tick 10000000000).clk) ∧
    (((hearing { state := .draining, pool := [{ held := 1 }] }).ctx 255).state = .draining ∧ ∀ r ∈ (hearing { state := .draining, pool := [{ held := 1 }] }).comp.reopens, r.decl.context ≠ 255) := by decide +kernel

def pattern15 : State := rdy.setSrc 15 { decl := { source := 15, kind := 1, width := 8, height := 2, rateNum := 25, rateDen := 1 } }

/-- Source 15 is a STILL of 1 by 1; its verification is queued, or not. -/
def stillAt (q : List Nat) : State :=
  let s := rdy.setSrc 15 { decl := { source := 15, kind := 3, width := 1, height := 1, verifyPeriod := 100, stillCrc := 77 }, image := [[0], [0], [0]] }
  { s with health := { s.health with stillJobs := q } }

theorem witness_SourceEventsComplete :
    ((pattern15.src 15).decl.kind = 1 ∧ (pattern15.tick 0).domOn 6 = true ∧ (pattern15.src 15).dueAt (pattern15.src 15).ticks ≤ (pattern15.tick 0).now) ∧
    (∀ q ∈ [[], [15]], ((stillAt q).src 15).decl.kind = 3 ∧ ((stillAt q).tick 100000000).domOn 6 = true ∧ ((stillAt q).tick 100000000).domOn 3 = true ∧ ((stillAt q).src 15).dueAt (((stillAt q).src 15).ticks + 1) ≤ ((stillAt q).tick 100000000).now) ∧
    ((stillAt [15]).health.stillJobs.contains 15 = true ∧ (stillAt []).health.stillJobs.contains 15 = false ∧ (stillAt [15]).health.stillJobs = [15] ∧ 77 = ((stillAt [15]).src 15).decl.stillCrc ∧ 78 ≠ ((stillAt [15]).src 15).decl.stillCrc) := by decide +kernel

/-! Heads. -/

def timing1 (mode : Nat) : TimingRec := { head := 15, mode := mode, sg := 3, gang := 0, lanes := 4, linkRate := 0x1E, flags := 16, hActive := 64, vActive := 64, rateNum := 50, rateDen := 1, hFront := 8, hSync := 8, hBack := 8, vFront := 2, vSync := 2, vBack := 2 }

def window0 : WindowDesc := { window := 1023, head := 15, source := 255, width := 64, height := 64, cropW := 16, cropH := 16, policy := 1 }

def pic1 : Picture := { pic0 with tag := { pic0.tag with source := 255 } }

/-- Head 15 of generator 3, which runs and whose frame starts at 500 µs; window 1023 shows context 255. -/
def showing (x : Head) (w : Win) (g : Gen) : State :=
  let s := (((hearing { ready255 with unacked := [], complete := [(1, pic1)] }).setHead 15 { x with timing := some (timing1 0) }).setWin 1023 w).setGen 3 g
  s.setGrpC 3 { s.grpC 3 with act := { windows := [(1023, window0)] } }

def gen0 : Gen := { running := true, tf := 500000 }

/-- Frame 0 of head 15 is scanned from 500 µs on; its panic as given. -/
def scanned (w : Win) (b : Bool) : State := showing { scanning := true, nextFrame := 1, tf := 500000, panic := b } w gen0

theorem witness_FrameEventsComplete :
    (∀ s ∈ [showing {} {} { gen0 with tf := 1000000 }, showing {} { badTag := true, latched := some pic1 } { gen0 with tf := 1000000 }], (s.gen 3).running = true ∧ (s.gen 3).latched = false ∧ (s.gen 3).tf ≤ (s.tick 500000).now + 500000 ∧
      (s.tick 500000).takers 3 ≠ [] ∧ (∀ h ∈ (s.tick 500000).headsOf 3, (s.head h).own ≠ none ∨ ((s.head h).scanning = false ∧ (s.head h).due = false)) ∧ (s.grpC 3).next = none ∧ (s.tick 500000).groupWindows 3 = [window0] ∧ (s.head 15).timing = some (timing1 0) ∧
      (s.tick 500000).latchOf ((s.tick 500000).clkOf ((s.gen 3).tf - 500000)) window0 = some pic1 ∧ (pic1.tag.source == window0.source && s.shows 255) = true ∧ (s.head 15).own = none ∧ (s.head 15).notBefore ≤ (s.gen 3).tf) ∧
    (bit ({ control := 1 } : Policy).control 0 = true ∧ bit ({} : Policy).control 0 = false ∧ pic0.tag.trusted true = true ∧ pic0.tag.trusted false = false) ∧
    (∀ s ∈ [showing { due := true } {} gen0], (s.tick 500000).headOn 15 = true ∧ (s.head 15).scanning = false ∧ (s.head 15).due = true ∧ (s.head 15).own = none ∧ (s.gen (timing1 0).sg).tf ≤ (s.tick 500000).now) ∧
    (∀ s ∈ [scanned { latched := some pic0 } false], (s.head 15).scanning = true ∧ frameEnd (timing1 0) (s.head 15).tf (s.head 15).lp ≤ (s.tick 500000).now ∧
      (∀ d ∈ (s.tick 0).groupWindows 3, (s.tick 0).starved d (timing1 0) = false ∧ (s.win d.window).refused = false) ∧ s.prot.halted.contains (18 + 15 / 2) = false ∧ (s.tick 500000).groupWindows 3 = [window0] ∧ window0.window ∈ [1023] ∧
      (∀ line ∈ [0, 63], lineDeadline (s.head 15).tf (s.head 15).lp line ≤ (s.tick 500000).now ∧ (onHead window0 (timing1 0) 15).2.1 ≤ (line : Int) ∧ (line : Int) < (onHead window0 (timing1 0) 15).2.2.2) ∧
      window0.head = (timing1 0).leader 15 ∧ (s.win 1023).latched ≠ none ∧ rectEmpty (onHead window0 (timing1 0) 15) = false ∧ (s.win 1023).offAt = []) ∧
    (∀ b : Bool, ((scanned {} b).tick 250001).headOn 15 = true ∧ ((scanned {} b).head 15).panic = b ∧ ((scanned {} b).tick 250001).lead 15 (timing1 0) (some 0) = some 49999 ∧ ((scanned {} b).tick 250000).lead 15 (timing1 0) (some 0) = some 50000 ∧
      ((scanned {} b).tick 150000).lead 15 (timing1 0) (some 0) = some 150000 ∧ ((scanned {} b).tick 150000).lead 15 (timing1 0) none = none) := by decide +kernel

/-- Head 15 follows, or leads by SYNC_IN; generator 3 as given. -/
def synced (mode : Nat) (x : Head) (g : Gen) : State := (rdy.setHead 15 { x with timing := some (timing1 mode), stored := some (timing1 mode) }).setGen 3 g

theorem witness_SyncEventsComplete :
    (({ width := 99 } : SyncEdge).width < 100 ∧ 100 ≤ ({} : SyncEdge).width ∧ ({} : SyncEdge).error = 0) ∧
    (∀ p ∈ [none, some 0], ((synced 1 {} { pulse := p }).tick 0).domOn 3 = true ∧ ((synced 1 {} { pulse := p }).tick 0).watched 3 = some (timing1 1) ∧ (timing1 1).mode = 1 ∧ (timing1 1).syncCfg % 2 = 0 ∧ bit (timing1 1).syncCfg 1 ≠ ({} : SyncEdge).rising ∧
      ((synced 1 {} { pulse := p }).base 2).cfg.source ≠ 2 + 0 ∧ ((synced 1 {} { pulse := p }).gen 3).pulse = p ∧ ((synced 1 {} { pulse := p }).gen 3).pulses = []) ∧
    (nearPulse (timing1 1) 0 ((synced 1 {} { pulse := some 0 }).tick 20000000).now 1 10000 = true ∧ ∀ k ∈ [1, 2, 3], nearPulse (timing1 1) 0 ((synced 1 {} { pulse := some 0 }).tick 10000000).now k 10000 = false) ∧
    (100 * pulseSpan (timing1 1) * 3 + pulseSpan (timing1 1) < 100 * (((synced 1 {} { pulse := some 0 }).tick 60200001).now - 0) * (timing1 1).rateNum ∧
      100 * (((synced 1 {} { pulse := some 0 }).tick 60200000).now - 0) * (timing1 1).rateNum ≤ 100 * pulseSpan (timing1 1) * 3 + pulseSpan (timing1 1)) ∧
    (((synced 1 {} { insideSince := some 0, atLimit := true }).gen 3).insideSince = some 0 ∧ ((synced 1 {} { insideSince := some 0, atLimit := true }).gen 3).atLimit = true ∧ 0 + 1000000000 ≤ ((synced 1 {} { insideSince := some 0, atLimit := true }).tick 1000000000).clk) ∧
    (∀ b : Bool, ((synced 3 { scanning := b } {}).head 15).timing = some (timing1 3) ∧ ((synced 3 { scanning := b } {}).head 15).synth = true ∧ (timing1 3).mode = 3 ∧ ((synced 3 { scanning := b } {}).tick 0).headOn 15 = true ∧ ((synced 3 { scanning := b } {}).head 15).stopped = false ∧
      ((synced 3 { scanning := b } {}).head 15).own = none) := by
  decide +kernel

theorem witness_LinkEventsComplete :
    (∀ b : Bool, ((synced 0 { hpd := b } {}).tick 0).domOn (headDomain 15) = true ∧ ((synced 0 { hpd := b } {}).head 15).hpd = b ∧ ((synced 0 { hpd := b } {}).tick 0).trains 15 = true ∧ (synced 0 { hpd := b } {}).comp.formats = []) ∧
    (((synced 0 { hpd := true, link := some (4, 0x1E) } {}).head 15).hpd = true ∧ ((synced 0 { hpd := true, link := some (4, 0x1E) } {}).head 15).link.isSome = true) ∧
    (((synced 0 { training := some 0 } {}).head 15).training = some 0 ∧ (synced 0 { training := some 0 } {}).trainingRec 15 = some (timing1 0) ∧ (trainingOrder (timing1 0)).find? [(4, 0x1E)].contains = some (4, 0x1E) ∧
      (trainingOrder (timing1 0)).find? ([] : List (Nat × Nat)).contains = none) ∧
    (((synced 0 { failed := some 0, hpd := true } {}).head 15).failed = some 0 ∧ ((synced 0 { failed := some 0, hpd := true } {}).tick 1000000000).trains 15 = true ∧ ((synced 0 { failed := some 0, hpd := true } {}).head 15).hpd = true ∧
      0 + 1000000000 ≤ ((synced 0 { failed := some 0, hpd := true } {}).tick 1000000000).clk) := by decide +kernel

/-! Lantern and encoding. -/

/-- A safety window, and frame 5 of an earlier format of 4 by 4 pixels as Lantern has it, with tile 0 observed as `crc`; window 1023 shows its picture at T_w 500000. -/
def safe0 : WindowDesc := { window0 with kind := 2 }
def compared0 (crc : Nat) : Compared :=
  { frame := 5, tf := 1000000, lp := 0, u := 0, trusted := true, timing := { timing1 0 with hActive := 4, vActive := 4 }, reason := 0, readout := 0, windows := [(safe0, { latched := some pic1, shown := 1 }, 500000)]
    set := { windows := [(1023, safe0)] }, safety := {}, bad := [], observed := [(0, crc)], skips := [], assigns := [{ group := 3, window := 1023, row := 0, head := 15, crop := [], rect := [], scalers := [95] }] }

/-- What Lantern expects of its tile. -/
def crc0 : Nat := (compared0 0).expected [] 15 0

/-- The frame waits for its comparison in blanking, the next frame as given, its latch instant reached. -/
def comparing (next crc : Nat) : State := showing { toCompare := [compared0 crc], nextFrame := next } {} gen0

/-- The unlatched LANTERN of window 1023 began at 0. -/
def clearing : State := showing {} { active := 128 } { tf := 1000500000 }

theorem witness_LanternEventsComplete :
    (∀ crc ∈ [crc0, crc0 + 1], let s := comparing 7 crc; (s.head 15).timing = some (timing1 0) ∧ (s.head 15).toCompare = [compared0 crc] ∧ (compared0 crc).frame = 5 ∧ (compared0 crc).timing.gangSize = 1 ∧ (s.head 15).scanning = false ∧ s.comp.findings = [] ∧
      5 + 2 ≤ (s.head 15).nextFrame ∧ (s.head 15).own.getD (s.gen (timing1 0).sg).tf ≤ (s.tick 0).now + 500000) ∧
    ((compared0 crc0).diffs [] [] 15 = [] ∧ (∀ e ∈ (compared0 crc0).windows, (compared0 crc0).decides [] 15 e = false) ∧ ∃ e ∈ { compared0 crc0 with windows := [(safe0, { latched := some pic1 }, 500000)] }.windows, (compared0 crc0).content [] e = true) ∧
    ((compared0 (crc0 + 1)).windows = [(safe0, { latched := some pic1, shown := 1 }, 500000)] ∧ ∃ y ∈ (compared0 (crc0 + 1)).diffs [] [] 15, rectEmpty (rectMeet (onHead safe0 (compared0 0).timing 15) (tileRect (compared0 0).timing y.1)) = false) ∧
    (clearing.groupOf (clearing.activeWindow 1023) = some 3 ∧ bit (clearing.win 1023).active 7 = true ∧ (clearing.win 1023).lanternLatched = false ∧ (clearing.win 1023).lanternFault = false ∧ (clearing.win 1023).mismatch = false ∧
      (clearing.gen 3).latched = false ∧ (clearing.gen 3).tf ≤ (clearing.tick 1000000000).now + 500000 ∧ (clearing.win 1023).lanternAt + 1000500000 ≤ (clearing.gen 3).tf) ∧
    ((rdy.tick 0).selftestNow = true ∧ ({ rdy with comp := { rdy.comp with selftestDue := 1 } }.tick 0).selftestNow = false ∧ (rdy.tick 0).domOn 3 = true ∧ rdy.comp.copyAOk = true ∧ rdy.comp.copyB.generation ≤ rdy.comp.copyA.generation) := by decide +kernel

/-- A picture of 128 by 128 that channel 31 codes, at QP 51, for the network, for a host ring, or raw. -/
def coding0 (flags format : Nat) : Coding :=
  { copy := { frame := 0, tf := 0, pixels := [], bpc := 8, colorimetry := 0, pairs := [], windows := [], reasons := [], unc := 0, locked := false, d := 0 }, decl := { channel := 31, flags := flags, format := format, width := 128, height := 128 }, raise := 0, planes := [] }

/-- Channel 31 as given. -/
def chan31 (x : EncChan) : State := rdy.setEnc 31 x

/-- Its coded picture: VPS, SPS and PPS of Main profile, level 1, and the slices of both CTU rows, IDR_N_LP and I, written out from the syntax of ITU-T H.265. -/
def codedRow (nal : Bytes) : CodedRow := { base := { nal := nal }, recode := { nal := nal }, fallback := { nal := nal } }
def coded0 : CodedPicture :=
  { sets := [[0x40, 0x01, 0x0C, 0x01, 0xFF, 0xFF, 0x01, 0x60, 0x00, 0x00, 0x03, 0x00, 0x90, 0x00, 0x00, 0x03, 0x00, 0x00, 0x03, 0x00, 0x1E, 0xAC, 0x09],
             [0x42, 0x01, 0x01, 0x01, 0x60, 0x00, 0x00, 0x03, 0x00, 0x90, 0x00, 0x00, 0x03, 0x00, 0x00, 0x03, 0x00, 0x1E, 0xA0, 0x10, 0x20, 0x20, 0x59, 0x6B, 0x92, 0x4C, 0x12, 0xE2, 0x6A, 0x02, 0x1A, 0x02, 0x01],
             [0x44, 0x01, 0xC0, 0x71, 0x80, 0x12]]
    rows := [codedRow [0x28, 0x01, 0xAC, 0x19, 0x40, 0x80], codedRow [0x28, 0x01, 0x33, 0x06, 0x50, 0x80]] }

/-- Channel 31 is starting with this picture. -/
def coding31 (flags : Nat) : State := chan31 { state := .starting, level := 30, coding := some (coding0 flags 0) }

theorem codes_network : ((coding31 0).enc? 31).coding = some (coding0 0 0) ∧ (coding0 0 0).decl.toHost = false ∧ (((coding31 0).enc? 31).codes (coding0 0 0) coded0).isSome = true := ⟨rfl, rfl, by decide +kernel⟩
theorem codes_host : ((coding31 2).enc? 31).coding = some (coding0 2 0) ∧ (coding0 2 0).decl.toHost = true ∧ (((coding31 2).enc? 31).codes (coding0 2 0) { coded0 with consumer := 63 }).isSome = true := ⟨rfl, rfl, by decide +kernel⟩
theorem codes_nothing : (coding0 0 0).decl.h265 = true ∧ (((coding31 0).enc? 31).codes (coding0 0 0) {}).isNone = true := ⟨rfl, by decide +kernel⟩

theorem witness_EncodeEventsComplete :
    ((chan31 {}).enc? 31).coding = none ∧ ((coding0 0 2).decl.h265 = false ∧ (63 : Nat) % 64 ≠ 0) ∧
    (((chan31 { state := .draining, engine := 3 }).enc? 31).state = .draining ∧ ((chan31 { state := .draining, engine := 3 }).enc? 31).coding = none ∧ ∀ e ∈ (chan31 { state := .draining, engine := 3 }).comp.reEnc, e.1.channel ≠ 31) := by decide +kernel

/-! DRAM. -/

def shadow0 (taken : List Nat) : SlotShadow := { group := 3, latchedAt := some 5, need := [(16, 2)], taken := taken }

def shadowed (taken : List Nat) : State := { rdy with dram := { rdy.dram with shadows := [shadow0 taken] } }

theorem witness_AddressMapIsOneToOne : ∃ p ∈ [({ profile := 4, masks := [0x8080100, 0x10200, 0x400000400, 0x800, 0x555551000, 0x2AAAA2000, 0x4000, 0x7FFFF8000] } : HashProfile)],
    (p.profile = 4 ∧ ∀ k < 8, maskOk k (p.masks.getD k 0) = true) ∧
    (let a := 2 ^ 35 - 1; a < 2 ^ 35 ∧ p.channel a = p.channel a ∧ p.bank a = p.bank a) ∧ 2 ^ 23 - 1 < 2 ^ 23 ∧ 15 < 16 ∧ 4095 < 4096 ∧
    p.channel (2 ^ 35 - 1) ≠ p.channel (2 ^ 35 - 257) ∧ p.bank (2 ^ 35 - 1) = p.bank (2 ^ 35 - 257) := by decide +kernel

theorem witness_DramEventsComplete :
    (∀ w : Bool, ∀ a ∈ [({ requester := 39, address := 63, write := w, data := [1, 2] } : Arrival)], (rdy.tick 0).domOn 2 = true ∧ (rdy.channel 0).queue = [] ∧ (rdy.channel 0).held = [] ∧ (rdy.channel 0).lfsr = none ∧ a.requester < 40 ∧ a.requester ≠ 37 ∧
      a.address < 2 ^ 35 ∧ rdy.dram.hash.channel a.address = 0 ∧ doorAllows (rdy.rulesOf a.requester) (levelOf a) (accessOf a) a.address = true ∧ doorAllows (rdy.rulesAt rdy.prot.epoch 0x40) (levelOf a) (accessOf a) a.address = true ∧ Memory.wf rdy.dram.mem = true) ∧
    (∀ s ∈ [({ rdy with prot := { rdy.prot with fwRules := [(39, [{ base := 4096, granules := 1, attr := 0x7FF }])] } } : State)], ∀ a ∈ [({ requester := 39, address := 4095 } : Arrival)],
      (s.tick 0).domOn 2 = true ∧ (s.channel 15).queue = [] ∧ (s.channel 15).held = [] ∧ doorAllows (s.rulesOf a.requester) (levelOf a) (accessOf a) a.address = false) ∧
    (∀ l ∈ [[], List.range 15], ((shadowed l).tick 5).domOn 2 = true ∧ (shadowed l).dram.shadows = [shadow0 l] ∧ (shadow0 l).taken.contains 15 = false ∧ (shadow0 l).latchedAt = some 5 ∧ 5 ≤ ((shadowed l).tick 5).clk ∧ ((shadow0 l).taken.length < 15 ∨ 15 ≤ (shadow0 l).taken.length)) ∧
    (Map.get 0 (rdy.channel 15).refresh 15 < refreshSlack ∧ -refreshSlack < Map.get 0 (rdy.channel 15).refresh 15 ∧ (∀ y ∈ (rdy.channel 15).queue, rdy.dram.bankOf y ≠ 15) ∧ ∀ h ∈ List.range 16, (rdy.head h).panic = false) ∧
    ((rdy.channel 15).trainedAt + 100000000 ≤ (rdy.tick 100000000).clk ∧ (rdy.tick 99999999).clk < (rdy.channel 15).trainedAt + 100000000 ∧ 50 ≤ ((50 : Int) - (rdy.channel 15).trainTemp).natAbs ∧ (rdy.channel 15).trainFailed = false ∧
      ((49 : Int) - (rdy.channel 15).trainTemp).natAbs < 50) ∧
    (rdy.health.bgSuspended = false ∧ rdy.dram.scrubAt + 64 * 1 < scrubTo ∧ scrubTo ≤ rdy.dram.scrubAt + 64 * ((scrubTo - scrubFrom) / 64)) ∧
    (∀ a ∈ [scrubFrom, scrubTo - 1], rdy.dram.handled (rdy.dram.rowId a) = false ∧ rdy.dram.repaired.contains ((rdy.dram.rowId a).channel, (rdy.dram.rowId a).bank) = false ∧
      ∀ x ∈ rdy.dram.marked, x.channel ≠ (rdy.dram.rowId a).channel ∨ x.bank ≠ (rdy.dram.rowId a).bank) := by decide +kernel

end Sys2Proof.Tests
end

