-- ==== Sys2Proof/Tests/Slice0.lean ====
section
/-! SUPPORT. Ill-formed commands that the check refuses, and the manual's worked examples and single effects. -/

set_option Elab.async false

namespace Sys2Proof.Tests

open Sys2Proof Sys2Proof.Machine

/-! Ill-formed commands: one for each check of WellFormed. -/

theorem test_message_fields_refused :
    ([({ magic := 65536 } : Msg), { version := 256 }, { flags := 256 }, { length := 4294967296 }, { status := 65536 }, { session := 4294967296 }, { sequence := 4294967296 }, { tag := 4294967296 },
      { reserved := 4294967296 }, { crc := 4294967296 }, { payload := zeros 16353 }, { dataCrc := [4294967296] }].all fun m => !m.wellFormed) = true := by decide +kernel

/-- The check refuses every one of these. -/
def allRefused (l : List Instr) : Bool := l.all fun i => !i.wellFormed

/-- The commands of the mailboxes, on one of them. -/
def mailboxCommands (mb : Nat) (m : Msg) : List Instr :=
  ([
    Instr.systemIdentify, Instr.systemStatus, Instr.systemRestart, Instr.abort, Instr.layoutPropose, Instr.layoutCommit, Instr.layoutStore, Instr.layoutStoredCommit, Instr.layoutRead,
    Instr.streamOpen, Instr.streamClose, Instr.streamStatus, Instr.decodeStatus, Instr.sourceSet, Instr.sourceStatus, Instr.windowSet, Instr.windowGet, Instr.windowStatus, Instr.backgroundSet,
    Instr.blendSet, Instr.toneProfileSet, Instr.toneProfileGet, Instr.coefSet, Instr.coefGet, Instr.tileRecordsGet, Instr.glyphGet, Instr.safetyArm, Instr.safetyApply, Instr.safetyGet,
    Instr.lanternClear, Instr.lanternStatus, Instr.alertAck, Instr.headTimingSet, Instr.headTimingGet, Instr.headStatus, Instr.headEdidGet, Instr.encodeOpen, Instr.encodeSet, Instr.encodeClose,
    Instr.encodeStatus, Instr.timeBaseSet, Instr.timeSelectSet] ++ [
    Instr.timeAccept, Instr.timeConfigGet, Instr.timeStatus, Instr.portAddressSet, Instr.portAddressGet, Instr.laneSet, Instr.laneRead, Instr.laneModuleRead, Instr.mgmtSet, Instr.touchKeySet,
    Instr.touchModeSet, Instr.localActionSet, Instr.touchRebaseline, Instr.touchRead, Instr.sessionOpen, Instr.sessionClose, Instr.sessionList, Instr.sessionIdleSet, Instr.credentialSet,
    Instr.trustAnchorSet, Instr.deviceCertGet, Instr.doorRulesSet, Instr.doorRulesGet, Instr.debugUnlock, Instr.debugLock, Instr.updatePlan, Instr.updateRun, Instr.updateConfirm, Instr.updateFallback,
    Instr.updateStatus, Instr.recorderRead, Instr.recorderClear, Instr.recorderSubscribe, Instr.recorderFlush, Instr.domainSet, Instr.powerCapSet, Instr.domainStatus, Instr.healthRead,
    Instr.scanSubmit, Instr.scanResult, Instr.lanePrbsSet, Instr.lanePrbsRead, Instr.dramHashSet]).map
    fun (k : Time → Nat → Msg → Instr) => k 0 mb m

theorem test_commands_on_absent_mailbox_refused : ((mailboxCommands 24 {}).all fun i => !i.wellFormed) = true ∧ ((mailboxCommands 23 { version := 256 }).all fun i => !i.wellFormed) = true ∧
    ((mailboxCommands 23 {}).all Instr.wellFormed) = true := by decide +kernel

theorem test_accesses_to_absent_units_refused :
    allRefused [.registerWrite 0 65536 0 {}, .registerWrite 0 2 0 {}, .registerWrite 0 0 4294967296 {}, .registerWrite 0 0 0 { msg := { version := 256 } }, .mbxReset 0 16, .evrDropsRead 0 4294967296, .evrEnable 0 4294967296, .evrConsumerWrite 0 4294967296,
      .tlsHandshake 0 15 [] {}, .tlsHandshake 0 24 [] {}, .mgmtHandshakeTimeout 0 15, .mgmtHandshakeTimeout 0 24, .mgmtConnectionLoss 0 15, .mgmtConnectionLoss 0 24, .sessionIdleExpiry 0 24, .heldCommandStart 0 25,
      .holdTimeout 0 25] = true := by decide +kernel

theorem test_events_of_absent_heads_and_streams_refused :
    allRefused [.latchInstant 0 { sg := 4 }, .frameStart 0 16, .frameEnd 0 16, .lineDeadline 0 16 0 [], .headPanic 0 16 none, .syncInEdge 0 2 {}, .syncPulseMissed 0 4, .syncTrimRelease 0 4, .hpdChange 0 16 true {}, .irqHpd 0 16 true,
      .linkTrainingDone 0 16 [], .linkRetryTimer 0 16, .lanternCompareDone 0 16 0 [] [], .lanternLate 0 16 0, .lanternRetry 0 1024, .lanternDiagnosis 0 1024 [], .frameReceived 0 { rtpFrame with lane := 16 }, .prpHoldExpiry 0 8,
      .prpEntryForget 0 8 0, .jumpHoldExpiry 0 256, .accessUnitDeadline 0 256, .st2110PictureDeadline 0 256, .igmpQuery 0 { port := 16, family := 4, old := true, group := [] }, .igmpReportRepeat 0 256, .patternPicture 0 16,
      .stillVerifyPeriod 0 16, .decodeStart 0 18 0, .decodeStart 0 0 256, .decodeEnd 0 18 {}, .workBudgetExpiry 0 18 {}, .tagWriteAck 0 272, .noEntryTimer 0 256, .contextDrainEnd 0 256, .encodePictureDone 0 32 {},
      .encodeDrainEnd 0 32, .synthesiserLockChange 0 16 true] = true := by decide +kernel

theorem test_events_of_absent_units_refused :
    allRefused [.ptpMessage 0 16 ptpMsg0, .ptpRequestInterval 0 2, .timeBaseLossTimeout 0 3, .dramGrant 0 16 {}, .slotTableWrap 0 16, .dramRefresh 0 16 0 true, .dramRefresh 0 0 16 true, .dramRetrain 0 16 0 true, .laneSignalChange 0 16 goodCond,
      .laneStateTimer 0 16, .laneFlapQuiet 0 16, .laneAdaptLimit 0 16 true, .laneEyeCheck 0 16 0 0, .lpiIdleTimer 0 16, .modabsChange 0 16 true, .moduleReadDelay 0 16 [], .txfltChange 0 16 true, .txdisCycle 0 16,
      .moduleOvercurrent 0 16, .keyMaxOnExpiry 0 64, .keyUnmaskTimer 0 64, .negativeDeltaTimer 0 64, .electrodeFaultTimer 0 64, .domainOffComplete 0 14, .domainOnComplete 0 14 [] [] true, .domainFault 0 14 0,
      .decoderSelfTest 0 18 true, .scalerSelfTest 0 104 true, .spireLockstep 0 2 0, .houseEngineReload 0 4, .spireRecoveryDone 0 2, .ptpMasterLoss 0 2 0, .ptpMasterLoss 0 0 16] = true := by decide +kernel

/-! The queue. -/

theorem test_step_takes_the_front : step { rdy with pending := [.devTimeLoRead 5, .reconcile 9] } = exec (.devTimeLoRead 5) { rdy with pending := [.reconcile 9] } := rfl

/-! The manual's worked examples. -/

/-- The check value of CRC-32C: the CRC of the digits 1 to 9 (RFC 3720 names the polynomial that R317 uses). -/
theorem test_crc32c : crc32c ([0x31, 0x32, 0x33, 0x34, 0x35, 0x36, 0x37, 0x38, 0x39] : Bytes) = 0xE3069283 := by decide +kernel

/-- *Memory system and arbitration*, one address under profile 1: C6, bank 11, row 18 058; under LINEAR C10, bank 7. -/
theorem test_hash_of_worked_address : (({} : HashProfile).channel 0x234567A40, ({} : HashProfile).bank 0x234567A40, dramRow 0x234567A40) = (6, 11, 18058) ∧
    (({ profile := 0 } : HashProfile).channel 0x234567A40, ({ profile := 0 } : HashProfile).bank 0x234567A40) = (10, 7) := by decide +kernel

/-- The draw of R386: 255, 40 and 5 tickets, r = 185, and the first wins. -/
theorem test_draw : 0x9E37 * 300 / 65536 = 185 ∧ drawn [(30, 255), (31, 40), (36, 5)] 185 0 [30, 31, 36] = some 30 ∧ drawn [(30, 255), (31, 40), (36, 5)] 255 0 [30, 31, 36] = some 31 := by decide +kernel

/-- Table 6-6. -/
theorem test_blend : [(3000, 1000), (1200, 2600), (400, 4095)].map (fun e => let v := blendC 0 (stepAlpha 2048 4095) e.1 e.2; (v, quantise 10 v, quantise 8 v)) = [(2000, 500, 125), (1900, 475, 119), (2247, 562, 140)] := by decide +kernel

/-- Table 6-9, and the filtered sample of its example. -/
theorem test_scaler : [0, 3832, 3840].map (fun i => (position i 3840 7680, place i 3840 7680)) = [(-16384, (-1, 48)), (125550592, (1915, 48)), (125812736, (1919, 48))] ∧
    filtered (List.replicate 384 0 ++ [-8, 40, -120, 352, 880, -130, 18, -8]) 8 3 0 3840 7680 (fun x => if x < 2 then 2000 else 3200) = 2012 := by decide +kernel

/-- Table 8-4. -/
theorem test_readout : [850000, 12400000, 187000000, 4294000000].map readout = [[8, 5, 0, 14, 13], [1, 2, 10, 4, 14, 12], [3, 11, 0, 7], [1, 11, 1, 1, 11, 3, 4]] := by decide +kernel

/-- The STALE badge on W40: its width, and two stripe pixels. -/
theorem test_badge : textWidth (badgeText 1 2014446) = 176 ∧ (quantise 10 0x400, quantise 10 0xC00, quantise 10 0x800, quantise 10 0) = (256, 768, 512, 0) := by decide +kernel

/-- Head H5 of Vessmark. -/
def h5 : TimingRec := { head := 5, hActive := 3840, hFront := 176, hSync := 88, hBack := 296, vActive := 2160, vFront := 8, vSync := 10, vBack := 72, rateNum := 60, rateDen := 1 }

/-- Tables 2-7 and 2-8: the latch instant's picture of SC12 in frame n, with t0 = 1 s. -/
def sc12 : Picture := { pic0 with tag := { pic0.tag with capture := 851700000, unc := 500000, advance := 990800000 } }

def w40 : WindowDesc := { window := 40, head := 5, y := 1080, width := 3840, height := 1080 }

/-- A window of one tile, judged at the instant of W40's evaluation row in the frame that starts at `tf`. -/
def judged (tf : Nat) : Win :=
  ({} : Win).judge { w40 with y := 0, width := 64, height := 64 } {} { latch := 0, rec_ := { h5 with hActive := 64, vActive := 64 }, heads := [5], tf := rowInstant tf h5.line 33, lp := h5.line, u := 1000, frame := 0, trusted := true } sc12

theorem test_tile_age : rowInstant 1000000000 h5.line 20 = 1009481482 ∧ ageUs sc12.tag (rowInstant 1000000000 h5.line 20) 1000 = 158283 ∧ evalRow w40 h5 [5] = 33 := by decide +kernel

theorem test_window_ages : [1000000000, 2833333333, 2850000000, 3966666667, 3983333333].map (fun tf => let w := judged tf; (w.ageUs, bit w.active 1, bit w.active 2)) =
    [(164446, false, false), (1997779, false, false), (2014446, true, false), (3131113, true, false), (3147779, true, true)] := by decide +kernel

/-- QP and stripe 7 of Table 9-6's picture; and R262 by hand: with 32 bits to spare over two rows of at least 8, row 0 may take 40 bits, and leaves row 1 the 8 that it is clipped to. -/
theorem test_encode_budget : (qpBase { quality := 55 } 0, stripeOf 7 30 30) = (22, (7, 8)) ∧
    (codeRows 32 8 2 [{ base := { nal := zeros 6 }, recode := { nal := zeros 5 }, fallback := { nal := zeros 1 } }, { base := { nal := zeros 2 }, recode := { nal := zeros 2 }, fallback := { nal := zeros 1 } }] 0 0 false).map (fun r => (r.recoded, r.clipped, r.nal.length)) =
      [(true, false, 5), (true, true, 1)] := by decide +kernel

/-! Single effects. -/

/-- R306: a doorbell on a mailbox that is not IDLE sets OVERRUN and is lost. -/
theorem test_doorbell_overrun : leaves (.systemStatus 0 15 statusReq) (holds 15 heldJob) (fun u => (u.mbx 15).overrun && (u.mbx 15).state == .held && (u.mbx 15).rsp.isNone) = true := by decide +kernel

/-- The status of what stands on a mailbox after a message. -/
def answered (mb : Nat) (i : Instr) (p : Nat → Bool) : Bool := leaves i rdy fun u => match (u.mbx mb).rsp with | some r => p r.status | none => false

/-- R324: SYSTEM_STATUS answers ST_OK in its mailbox's session, and ST_DENIED on a mailbox that the session is not bound to. -/
theorem test_status_answers : answered 0 (.systemStatus 0 0 statusReq) (· == stOk) = true ∧ answered 6 (.systemStatus 0 6 statusReq) (· == 5) = true := by decide +kernel

/-- R86: device time that follows a base out of lock is not trusted. -/
theorem test_unlocked_time_not_trusted : (({ rdy with time := { rdy.time with state := .following 0 } } : State).trusted) = false := by decide +kernel

/-- R102: a bucket holds what its depth gives, and a packet beyond it is policed. -/
theorem test_policing : (({ decl := decl0 } : Ctx).police 15 33001 0).isNone = true ∧ (({ decl := decl0 } : Ctx).police 15 33000 0).isSome = true := by decide +kernel

/-- R112: a number 3 000 ahead is in order, 3 001 ahead is a jump, and one behind is late. -/
theorem test_sequence_classes : [3000, 3001, 65535, 0].map (seqClass false 65536) = [.ahead 68536, .jump, .earlier 65535, .duplicate] := by decide +kernel

/-- R63: priority among reasons: 0xB before 0xA before 9, 7, 0xC, 8, 3, 6, 5, 1, 2, 4. -/
theorem test_reason_priority : [0x1FFE, 0x17FE, 0x13FE, 0x11FE, 0x117E, 0x16, 0x14].map topReason = [11, 10, 9, 7, 12, 1, 2] := by decide +kernel

/-- R215: a head's panic hysteresis. -/
theorem test_panic : leaves (.headPanic 150001 15 (some 0)) (scanned {} true) (fun u => (u.head 15).panic) = true ∧ leaves (.headPanic 250001 15 (some 0)) (scanned {} false) (fun u => (u.head 15).panics == 1) = true := by decide +kernel

/-- The worked example of *Display heads and synchronisation*: the last active pixel leaves 15 999 057 ns after t_f. -/
theorem test_frame_end : frameEnd h5 0 h5.line = 15999057 := by decide +kernel

/-- SHA-384 of "abc" (FIPS 180-4). -/
theorem test_sha384 : ofBe (sha384 [0x61, 0x62, 0x63]) = 0xCB00753F45A35E8BB5A03D699AC65007272C32AB0EDED1631A8B605A43FF5BED8086072BA1E7CC2358BAECA134C825A7 := by decide +kernel

/-- AES-256 (FIPS 197, appendix C.3), and GCM of one zero block under a zero key and a zero nonce (the test vectors of the submission of GCM). -/
theorem test_aes : aesBlock (aesKeys 0x000102030405060708090A0B0C0D0E0F101112131415161718191A1B1C1D1E1F) 0x00112233445566778899AABBCCDDEEFF = 0x8EA2B7CA516745BFEAFC49904B496089 := by decide +kernel
theorem test_gcm : ofBe (gcmCrypt 0 (zeros 12) (zeros 16)) = 0xCEA7403D4D606B6E074EC5D3BAF39D18 ∧ ofBe (gcmTag 0 (zeros 12) [] (be 16 0xCEA7403D4D606B6E074EC5D3BAF39D18)) = 0xD0D1C8A799996BF0265B98B5D48AB919 := by decide +kernel

/-- R374: a write stays within its 64-byte block. -/
theorem test_dram_write : leaves (.dramGrant 0 0 { arrivals := [{ requester := 39, address := 62, write := true, data := [1, 2, 3] }] }) rdy (fun u => u.dram.mem == [(62, 1), (63, 2)]) = true := by decide +kernel

end Sys2Proof.Tests
end

section
/-! PROOFS of the scope's claims (spec/00_scope.md): what a command writes to the sender's buffer stays written, and what a BAR0 access changes. -/

namespace Sys2Proof.Machine

/-! What has been sent stays sent: no later part of a step takes a host write or a data block back. -/

/-- Every host write and data block of `a` stands in `b`, in the same order. -/
structure State.KeepsSent (a b : State) : Prop where
  host : a.out.host <+: b.out.host
  blocks : a.out.blocks <+: b.out.blocks

theorem State.KeepsSent.of_eq {a b : State} (h : b.out.host = a.out.host) (k : b.out.blocks = a.out.blocks) : State.KeepsSent a b :=
  ⟨h ▸ List.prefix_refl _, k ▸ List.prefix_refl _⟩

theorem State.KeepsSent.refl (a : State) : State.KeepsSent a a := .of_eq rfl rfl

theorem State.KeepsSent.trans {a b c : State} (h : State.KeepsSent a b) (k : State.KeepsSent b c) : State.KeepsSent a c :=
  ⟨h.host.trans k.host, h.blocks.trans k.blocks⟩

/-- What `b` keeps of an earlier state that has sent the same. -/
theorem State.KeepsSent.of_same {a b c : State} (k : State.KeepsSent b c) (h : b.out.host = a.out.host) (g : b.out.blocks = a.out.blocks) : State.KeepsSent a c :=
  (State.KeepsSent.of_eq h g).trans k

theorem State.KeepsSent.ite {s a b : State} {c : Prop} [Decidable c] (h : State.KeepsSent s a) (k : State.KeepsSent s b) : State.KeepsSent s (if c then a else b) := by
  split
  · exact h
  · exact k

theorem State.KeepsSent.fold {α : Type} (f : State → α → State) (h : ∀ s x, State.KeepsSent s (f s x)) (l : List α) (s : State) : State.KeepsSent s (l.foldl f s) := by
  induction l generalizing s with
  | nil => exact .refl s
  | cons x l ih => exact (h s x).trans (ih (f s x))

theorem State.hostWrite_keepsSent (s : State) (addr : Nat) (bs : Bytes) : State.KeepsSent s (s.hostWrite addr bs) :=
  ⟨List.prefix_append _ _, List.prefix_refl _⟩

theorem State.raise_keepsSent (s : State) (v : Nat) : State.KeepsSent s (s.raise v) := .of_eq rfl rfl

theorem State.ringChanged_keepsSent (s : State) : State.KeepsSent s s.ringChanged := by
  unfold State.ringChanged
  exact .ite (.of_eq rfl rfl) (.of_eq rfl rfl)

theorem State.ringPut_keepsSent (s : State) (pad bs : Bytes) (n : Nat) : State.KeepsSent s (s.ringPut pad bs n) := by
  unfold State.ringPut
  dsimp only
  generalize hw : (if pad.isEmpty then s else s.hostWrite (s.izent.ring.base + s.izent.ring.producer) pad) = w
  have h : State.KeepsSent s w := by
    subst hw
    exact .ite (.refl s) (s.hostWrite_keepsSent _ pad)
  exact (h.trans (w.hostWrite_keepsSent _ bs)).trans ((State.ringChanged_keepsSent _).of_same rfl rfl)

theorem State.ringFault_keepsSent (s : State) (addr n : Nat) : State.KeepsSent s (s.ringFault addr n) := .of_eq rfl rfl

theorem State.ringWrite_keepsSent (s : State) (e : Entry) : State.KeepsSent s (s.ringWrite e) := by
  unfold State.ringWrite
  dsimp only
  exact .ite (.refl s) (.ite (.of_eq rfl rfl) (.ite (s.ringFault_keepsSent _ _) (.ite (s.ringFault_keepsSent _ _) (s.ringPut_keepsSent _ _ _))))

theorem State.deliverTo_keepsSent (s : State) (e : Entry) (x : Session) : State.KeepsSent s (s.deliverTo e x) := by
  unfold State.deliverTo
  dsimp only
  cases (s.mbx x.mailbox).conn with
  | none => exact .refl s
  | some c => exact .ite (.refl s) (.ite (.of_eq rfl rfl) (.of_eq rfl rfl))

theorem State.deliver_keepsSent (s : State) (e : Entry) : State.KeepsSent s (s.deliver e) := .fold _ (fun s x => s.deliverTo_keepsSent e x) _ s

theorem State.recordRaw_keepsSent (s : State) (ty time : Nat) (bs : Bytes) : State.KeepsSent s (s.recordRaw ty time bs) := by
  unfold State.recordRaw
  dsimp only
  refine .ite (.of_eq rfl rfl) (.trans (.trans ?_ (State.ringWrite_keepsSent _ _)) (State.deliver_keepsSent _ _))
  exact .ite (.of_eq rfl rfl) (.of_eq rfl rfl)

theorem State.record_keepsSent (s : State) (ty : Nat) (v : List (Nat × Int)) : State.KeepsSent s (s.record ty v) := s.recordRaw_keepsSent _ _ _

theorem State.recordLimited_keepsSent (s : State) (ty subject : Nat) (v : List (Nat × Int)) : State.KeepsSent s (s.recordLimited ty subject v) := by
  simp only [State.recordLimited]
  split
  · exact (State.recordRaw_keepsSent _ _ _ _).of_same rfl rfl
  · exact .ite ((State.recordRaw_keepsSent _ _ _ _).of_same rfl rfl) (.of_eq rfl rfl)

theorem State.doorDenied_keepsSent (s : State) (d i l k a e : Nat) : State.KeepsSent s (s.doorDenied d i l k a e) := s.recordLimited_keepsSent _ _ _

theorem State.hostDenied_keepsSent (s : State) (kind addr n : Nat) : State.KeepsSent s (s.hostDenied kind addr n) := by
  unfold State.hostDenied
  split
  · exact s.doorDenied_keepsSent _ _ _ _ _ _
  · exact .refl s

/-- A response of a PCIe or network mailbox only adds to what has been sent (R307). -/
theorem respond_keepsSent (s : State) (mb cmd : Nat) (m : Msg) (status : Nat) (p : Bytes) (h : mb < 24) : State.KeepsSent s (s.respond mb cmd m status p) := by
  unfold State.respond
  dsimp only
  by_cases hm : mb < 16
  · rw [if_pos hm]
    have hd : State.KeepsSent s (if m.writeFails = true then s else s.hostDenied 1 (s.mbx mb).rspAddr (rspOf cmd m status p).length) := .ite (.refl s) (s.hostDenied_keepsSent _ _ _)
    refine hd.trans ?_
    refine .ite (.trans ?_ (State.raise_keepsSent _ _)) ?_ <;> exact .ite ((State.hostWrite_keepsSent _ _ _).of_same rfl rfl) (.of_eq rfl rfl)
  · rw [if_neg hm, if_neg (by omega)]
    exact .of_eq rfl rfl

theorem setHealth_keepsSent (s : State) (x y z : Bool) : State.KeepsSent s (s.setHealth x y z) := by
  refine .of_eq ?_ ?_ <;> simp only [State.setHealth] <;> split <;> split <;> rfl

theorem drive_keepsSent (s : State) : State.KeepsSent s s.drive := .of_eq rfl rfl

theorem settled_keepsSent (a b : State) : State.KeepsSent b (settled a b) := by
  unfold settled
  dsimp only
  generalize hc : (if ((a.safeCauses != 0) != (b.safeCauses != 0)) = true then b.record evSafeFaultChange [p2 b.safeCauses] else b) = c
  have h : State.KeepsSent b c := by
    subst hc
    exact .ite (b.record_keepsSent _ _) (.refl b)
  cases c.out.ringDenied with
  | none => exact h
  | some x => exact h.trans ((State.doorDenied_keepsSent _ _ _ _ _ _ _).of_same rfl rfl)

theorem settle_keepsSent (a b : State) : State.KeepsSent b (settle a b) := by
  rw [settle_eq]
  refine (settled_keepsSent a b).trans (.trans ?_ (setHealth_keepsSent _ _ _ _))
  exact (drive_keepsSent _).trans (.of_eq (by rw [settleCount_out]) (by rw [settleCount_out]))

/-! Descriptor data of a read command (R315, R345). -/

/-- What has been written stays written. -/
theorem State.wrote_keepsSent {a u v : State} {c : Call} {o : Nat} {data : Bytes} (h : a.wrote c o data u) (k : State.KeepsSent u v) : a.wrote c o data v := by
  intro hd hl
  obtain ⟨hn, hp⟩ := h hd hl
  exact ⟨fun hc => k.blocks.subset (hn hc), fun hc hw => k.host.subset (hp hc hw)⟩

/-- Writing to the sender's buffer changes no unit. -/
theorem State.writeBuffer_same (s : State) (c : Call) (o : Nat) (data : Bytes) : State.SameUnits s (s.writeBuffer c o data) := by
  unfold State.writeBuffer
  refine .ite (.refl s) (.ite (by constructor <;> intros <;> rfl) (.ite (s.hostWrite_same _ _) ?_))
  exact .trans (s.setMbx_same c.mb { s.mbx c.mb with addrFault := true } rfl rfl) (State.hostDenied_same _ _ _ _)

theorem State.writeBuffer_wrote (s : State) (c : Call) (o : Nat) (data : Bytes) : s.wrote c o data (s.writeBuffer c o data) := by
  intro hd _
  have he : ¬ data.isEmpty = true := by simpa using hd
  unfold State.writeBuffer
  rw [if_neg he]
  constructor
  · intro hn
    rw [if_pos hn]
    exact List.mem_append_right _ (List.mem_singleton_self _)
  · intro hn hw
    rw [if_neg (by simp [hn]), if_pos hw]
    exact List.mem_append_right _ (List.mem_singleton_self _)

/-- NEEDED is the size of the data, and WRITTEN is 0 where the buffer is too short (R345). -/
theorem writeWhole_eq (s : State) (c : Call) (o : Nat) (data : Bytes) :
    writeWhole s c o data = ((writeWhole s c o data).1, data.length, if c.cap o < data.length then 0 else data.length) := by
  unfold writeWhole
  split <;> rfl

theorem writeWhole_same (s : State) (c : Call) (o : Nat) (data : Bytes) : State.SameUnits s (writeWhole s c o data).1 := by
  unfold writeWhole
  split
  · exact .refl s
  · exact s.writeBuffer_same c o data

theorem writeWhole_wrote (s : State) (c : Call) (o : Nat) (data : Bytes) : s.wrote c o data (writeWhole s c o data).1 := by
  intro hd hl
  rw [writeWhole, if_neg (by omega)]
  exact s.writeBuffer_wrote c o data hd hl

/-- An accepted command whose own part completes: what that part sent stands among what the step sent. -/
theorem accepted_keepsSent {k : CmdKind} {t : Time} {mb : Nat} {m : Msg} {role : Nat} {s b u : State} {p : Bytes} {body : Body} (h : Accepted k mb m role (s.tick t))
    (hb : body ((s.tick t).callAt k mb m role) ((s.tick t).atBody k mb m) = .ok b p) (hu : command k body t mb m s = .next u) : State.KeepsSent b u := by
  have hl := reaches_lt h.arrives
  rw [command, runIf_next (by simpa using hl), accepted_issue h, hb] at hu
  cases hu
  exact (respond_keepsSent b mb (code k) m stOk p hl).trans (settle_keepsSent _ _)

/-- A read whose own part writes `data` to the buffer at `o`, changes no unit and completes as stated. -/
theorem answersWith_wrote {k : CmdKind} {pre : Call → State → Prop} {payload : Call → State → Bytes} {o : Nat} {data : Bytes} {left : Call → State → State}
    (hb : ∀ c a, pre c a → bodyOf k c a = .ok (left c a) (payload c a)) (hs : ∀ c a, State.SameUnits a (left c a)) (hw : ∀ c (a : State), a.wrote c o data (left c a)) :
    AnswersWith k pre payload (fun _ a => a) fun c a u => a.wrote c o data u := by
  intro t mb m role s h hp
  obtain ⟨u, h1, h2, h3⟩ := accepted_block h (hb _ _ hp) ((hs _ _).heard mb)
  exact ⟨u, (cmdInstr_exec ..).trans h1, h2, (hs _ _).block.trans h3, State.wrote_keepsSent (hw _ _) (accepted_keepsSent h (hb _ _ hp) h1)⟩

/-- TILE_RECORDS_GET's own part for a frame whose records it serves (R356). -/
theorem bodyTileRecordsGet_ok {c : Call} {a : State} {h want : Nat} {r : TimingRec} {e : Nat × List TileRec} (hh : h = rd c.p 0 1) (ht : (a.head h).timing = some r)
    (hon : a.headOn h = true) (hf : want + 1 = a.writingFrame h ∨ want + 2 = a.writingFrame h)
    (hw : want = if rd c.p 4 8 % 281474976710656 = 0xFFFFFFFFFFFF then a.writingFrame h - 1 else rd c.p 4 8 % 281474976710656)
    (hr : (a.head h).ring.find? (fun x => x.1 == want) = some e) :
    bodyTileRecordsGet c a = .ok (writeWhole a c 12 (a.tileData c.mb h want e.2)).1
      (le 8 want ++ le 1 (tileCols r) ++ le 1 (tileRows r) ++ le 2 (tileCols r * tileRows r) ++ le 4 (a.tileData c.mb h want e.2).length ++
        le 4 (if c.cap 12 < (a.tileData c.mb h want e.2).length then 0 else (a.tileData c.mb h want e.2).length) ++ zeros 4) := by
  subst hh
  have hn : (want + 1 == a.writingFrame (rd c.p 0 1) || want + 2 == a.writingFrame (rd c.p 0 1)) = true := by simpa using hf
  simp only [bodyTileRecordsGet, ← hw, ht, hr, hon, hn, Bool.not_true, Bool.false_eq_true, if_false]
  exact congrArg (fun x : State × Nat × Nat => Res.ok x.1 (le 8 want ++ le 1 (tileCols r) ++ le 1 (tileRows r) ++ le 2 (tileCols r * tileRows r) ++ le 4 x.2.1 ++ le 4 x.2.2 ++ zeros 4))
    (writeWhole_eq a c 12 (a.tileData c.mb (rd c.p 0 1) want e.2))

/-- The records of a journal from `since`, or all of them where the oldest is later (R370, R536). -/
def recordsFrom (all : List Entry) (since : Nat) : List Entry :=
  match all.head? with
  | some o => if notBefore since o.seq then all.filter (fun x => notBefore x.seq since) else all
  | none => []

/-- RECORDER_READ's own part where at least one record fits and the buffer can be written (R370). -/
theorem bodyRecorderRead_ok {c : Call} {a : State} {recs : List Entry} {e : Entry} (hrole : rd c.p 0 1 = 1 → c.role = 4) (he : recs.head? = some e)
    (hrecs : recs = fitting (c.cap 8) (recordsFrom (a.journal (rd c.p 0 1 == 1)) (rd c.p 4 4)))
    (hdoor : c.net = false → a.hostAllows 1 (c.addr 8) (recs.flatMap Entry.bytes).length = true) :
    bodyRecorderRead c a = .ok (a.writeBuffer c 8 (recs.flatMap Entry.bytes))
      (le 4 e.seq ++ le 4 (nextSeq (recs.getLastD e).seq) ++ le 4 recs.length ++ le 4 (recs.flatMap Entry.bytes).length) := by
  have haudit : (rd c.p 0 1 == 1 && c.role != 4) = false := by
    by_cases h : rd c.p 0 1 = 1
    · simp [hrole h]
    · simp [h]
  obtain ⟨last, hlast⟩ : ∃ x, recs.getLast? = some x := by
    cases recs with
    | nil => cases he
    | cons x l => exact ⟨_, List.getLast?_eq_some_getLast (List.cons_ne_nil x l)⟩
  have hlastD : recs.getLastD e = last := by rw [List.getLastD_eq_getLast?, hlast]; rfl
  have hopen : (!(recs.flatMap Entry.bytes).isEmpty && !c.net && !a.hostAllows 1 (c.addr 8) (recs.flatMap Entry.bytes).length) = false := by
    cases hn : c.net with
    | true => rw [Bool.not_true, Bool.and_false, Bool.false_and]
    | false => rw [hdoor hn, Bool.not_true, Bool.and_false]
  cases hj : (a.journal (rd c.p 0 1 == 1)).head? with
  | none =>
    rw [recordsFrom, hj] at hrecs
    subst hrecs
    cases he
  | some o =>
    simp only [recordsFrom, hj] at hrecs
    simp only [bodyRecorderRead, hj, haudit, ← hrecs, hlast, he, hopen, hlastD, Bool.false_eq_true, if_false]

/-- Settles O22: the own part of either command writes its data to the buffer and changes no unit, and neither the response nor the settling of the step takes a write back. -/
theorem hostBufferReadsAnswer : Obligations.HostBufferReadsAnswer := by
  unfold Obligations.HostBufferReadsAnswer
  constructor
  · intro h want r e bytes
    refine answersWith_wrote (left := fun c a => (writeWhole a c 12 bytes).1) ?_ (fun c a => writeWhole_same a c 12 bytes) (fun c a => writeWhole_wrote a c 12 bytes)
    rintro c a ⟨hh, ht, hon, hf, hw, hr, rfl⟩
    exact bodyTileRecordsGet_ok hh ht hon hf hw hr
  · intro recs e
    refine answersWith_wrote (left := fun c a => a.writeBuffer c 8 (recs.flatMap Entry.bytes)) ?_ (fun c a => a.writeBuffer_same c 8 _) (fun c a => a.writeBuffer_wrote c 8 _)
    rintro c a ⟨hrole, he, hrecs, hdoor⟩
    exact bodyRecorderRead_ok hrole he hrecs hdoor

/-! The bits of a register (Table 11-2). -/

@[simp] theorem bit_bitsOf_zero (b : Bool) (l : List Bool) : bit (bitsOf (b :: l)) 0 = b := by
  cases b <;> simp [bit, bitsOf]

@[simp] theorem bit_bitsOf_succ (b : Bool) (l : List Bool) (i : Nat) : bit (bitsOf (b :: l)) (i + 1) = bit (bitsOf l) i := by
  have h : ((if b then 1 else 0) + 2 * bitsOf l) / 2 ^ (i + 1) = bitsOf l / 2 ^ i := by
    rw [Nat.pow_succ', ← Nat.div_div_eq_div_mul]
    congr 1
    split <;> omega
  simp only [bit, bitsOf, h]

/-- DEV_HEALTH_EVENTS holds three bits: a value below 8 is its bits. -/
theorem bitsOf_healthEvents {h : Nat} (hh : h < 8) : bitsOf [bit h 0, bit h 1, bit h 2] = h := by
  have hall : ∀ n < 8, bitsOf [bit n 0, bit n 1, bit n 2] = n := by decide
  exact hall h hh

/-! Steps that change nothing but the interface and what is sent out. -/

/-- The parts of the interface that belong to the block are the same (State.SameBlock). -/
structure Izent.SameState (x y : Izent) : Prop where
  devState : y.devState = x.devState
  sessions : y.sessions = x.sessions
  idle : y.idle = x.idle

/-- Settling such a step records nothing and sets no health event (R247, R302). -/
theorem settle_interface (a : State) {y : Izent} {o : Out} (hy : Izent.SameState a.izent y) (ho : o.ringDenied = none) :
    (settle a { a with izent := y, out := o }).izent = { y with healthEvents := bitsOf [bit y.healthEvents 0, bit y.healthEvents 1, bit y.healthEvents 2] } ∧
    State.SameBlock a (settle a { a with izent := y, out := o }) := by
  have hsafe : ({ a with izent := y, out := o } : State).safeCauses = a.safeCauses := by simp only [State.safeCauses, hy.devState]
  have hquiet : settled a { a with izent := y, out := o } = { a with izent := y, out := o } := by simp [settled, hsafe, ho]
  constructor
  · rw [settle_eq, hquiet, hsafe]
    have hflags : a.flagBits = ({ a with izent := y, out := o } : State).flagBits := rfl
    simp [State.setHealth, hy.devState, ← hflags]
  · constructor <;> simp [hy.devState, hy.sessions, hy.idle]

/-- A row whose effect is on the interface and on what is sent out alone completes, and its conclusion is read off the new interface. -/
theorem completes_interface {i : Instr} {t : Time} {s : State} {y : Izent} {o : Out} {P : State → Prop} (hi : exec i s = .next (settle (s.tick t) { s.tick t with izent := y, out := o }))
    (hy : Izent.SameState s.izent y) (ho : o.ringDenied = none)
    (hP : ∀ u : State, u.izent = { y with healthEvents := bitsOf [bit y.healthEvents 0, bit y.healthEvents 1, bit y.healthEvents 2] } → State.SameBlock (s.tick t) u → P u) : Completes i s P :=
  ⟨_, hi, hP _ (settle_interface (s.tick t) hy ho).1 (settle_interface (s.tick t) hy ho).2⟩

/-! Writes to BAR0 (R302, R303). -/

/-- An unaligned write does nothing (R302). -/
theorem exec_registerWrite_unaligned (t : Time) {off : Nat} (val : Nat) (aux : WriteAux) (s : State) (h : off % 4 ≠ 0) : exec (.registerWrite t off val aux) s = .next (settle (s.tick t) (s.tick t)) := by
  show execRegisterWrite t off val aux s = _
  have hb : (!(s.tick t).bar0Up || off % 4 != 0) = true := by simp [h]
  rw [execRegisterWrite, run_next]
  simp only [hb, if_true]

/-- No two commands have the same code (R319). -/
theorem kindOf_code (k : CmdKind) : kindOf (code k) = some k := by
  cases k <;> rfl

section
variable {t : Time} {s : State} (hup : (s.tick t).bar0Up = true)
include hup

theorem exec_registerWrite_healthEvents (val : Nat) (aux : WriteAux) :
    exec (.registerWrite t 0x1C val aux) s = .next (settle (s.tick t) ((s.tick t).writeHealthEvents (val % 4294967296) aux.hits)) := by
  show execRegisterWrite t 0x1C val aux s = _
  rw [execRegisterWrite, run_next]
  simp [hup]

theorem exec_registerWrite_mbx {off mb r : Nat} (val : Nat) (aux : WriteAux) (hmb : mb < 16) (hr : r < 64) (h4 : r % 4 = 0) (hoff : off = 0x1000 + 64 * mb + r) :
    exec (.registerWrite t off val aux) s = .next (settle (s.tick t) ((s.tick t).writeMbx mb r (val % 4294967296) aux.hits)) := by
  show execRegisterWrite t off val aux s = _
  have hmod : off % 4 = 0 := by omega
  have hunit : (off - 0x1000) / 64 = mb := by omega
  have hreg : off % 64 = r := by omega
  rw [execRegisterWrite, run_next]
  simp only [hup, hmod, hunit, hreg]
  rw [if_neg (by simp), if_neg (by omega), if_pos (by simp; omega)]

theorem exec_registerWrite_doorbell {mb : Nat} (val : Nat) (aux : WriteAux) (hmb : mb < 16) :
    exec (.registerWrite t (0x2000 + 4 * mb) val aux) s = .next (settle (s.tick t) ((s.tick t).doorbell mb aux.command aux.msg)) := by
  show execRegisterWrite t (0x2000 + 4 * mb) val aux s = _
  have hmod : (0x2000 + 4 * mb) % 4 = 0 := by omega
  have hunit : (0x2000 + 4 * mb - 0x2000) / 4 = mb := by omega
  rw [execRegisterWrite, run_next]
  simp only [hup, hmod, hunit]
  rw [if_neg (by simp), if_neg (by omega), if_neg (by simp; omega), if_pos (by simp; omega)]

/-- A write that sets one mailbox's record and nothing else. -/
theorem mbxWrite_completes {off mb r val : Nat} {aux : WriteAux} {x : Mailbox} (hmb : mb < 16) (hr : r < 64) (h4 : r % 4 = 0) (hoff : off = 0x1000 + 64 * mb + r)
    (hx : (s.tick t).writeMbx mb r (val % 4294967296) aux.hits = (s.tick t).setMbx mb x) :
    Completes (.registerWrite t off val aux) s fun u => u.mbx mb = x ∧ State.SameBlock (s.tick t) u := by
  refine completes_interface (y := { s.izent with mbx := Map.set s.izent.mbx mb x }) (o := {}) ((exec_registerWrite_mbx hup val aux hmb hr h4 hoff).trans (by rw [hx]; rfl)) ⟨rfl, rfl, rfl⟩ rfl
    fun u hu hb => ⟨?_, hb⟩
  rw [State.mbx, hu]
  exact Map.get_set_same _ _ _ _

/-- The address registers of a mailbox (Table 11-3). -/
theorem addressWrites_complete {val : Nat} (aux : WriteAux) (hval : val < 4294967296) {mb : Nat} (hmb : mb < 16) :
    Completes (.registerWrite t (0x1000 + 64 * mb) val aux) s (fun u => u.mbx mb = { s.mbx mb with reqLo := val } ∧ State.SameBlock (s.tick t) u) ∧
    Completes (.registerWrite t (0x1004 + 64 * mb) val aux) s (fun u => u.mbx mb = { s.mbx mb with reqHi := val } ∧ State.SameBlock (s.tick t) u) ∧
    Completes (.registerWrite t (0x1008 + 64 * mb) val aux) s (fun u => u.mbx mb = { s.mbx mb with rspLo := val } ∧ State.SameBlock (s.tick t) u) ∧
    Completes (.registerWrite t (0x100C + 64 * mb) val aux) s (fun u => u.mbx mb = { s.mbx mb with rspHi := val } ∧ State.SameBlock (s.tick t) u) := by
  have hv : val % 4294967296 = val := Nat.mod_eq_of_lt hval
  exact ⟨mbxWrite_completes hup (r := 0x00) hmb (by decide) rfl (by omega) (by rw [hv]; rfl), mbxWrite_completes hup (r := 0x04) hmb (by decide) rfl (by omega) (by rw [hv]; rfl),
    mbxWrite_completes hup (r := 0x08) hmb (by decide) rfl (by omega) (by rw [hv]; rfl), mbxWrite_completes hup (r := 0x0C) hmb (by decide) rfl (by omega) (by rw [hv]; rfl)⟩

/-- A doorbell is the command that stands in the request buffer (R305). -/
theorem exec_doorbell (k : CmdKind) {mb : Nat} (val : Nat) {aux : WriteAux} (hmb : mb < 16) (hk : aux.command = code k) :
    exec (.registerWrite t (0x2000 + 4 * mb) val aux) s = exec (cmdInstr k t mb aux.msg) s := by
  have h24 : decide (mb < 24) = true := by simp; omega
  rw [exec_registerWrite_doorbell hup val aux hmb, cmdInstr_exec, command, runIf_next h24, State.doorbell, hk, kindOf_code]

end

/-- DEV_HEALTH_EVENTS after a write: a bit is set that hardware sets, or that stood and was not written 1 (R8). -/
theorem writeHealthEvents_eq (s : State) (v hits : Nat) :
    ∃ y o, s.writeHealthEvents v hits = { s with izent := y, out := o } ∧ Izent.SameState s.izent y ∧ o.ringDenied = s.out.ringDenied ∧
      ∀ i < 3, bit y.healthEvents i = (bit hits i || (bit s.izent.healthEvents i && !bit v i)) := by
  refine ⟨(s.writeHealthEvents v hits).izent, (s.writeHealthEvents v hits).out, ?_, ?_, ?_, ?_⟩
  · simp only [State.writeHealthEvents, State.setHealth]; split <;> split <;> rfl
  · constructor <;> simp [State.writeHealthEvents]
  · simp only [State.writeHealthEvents, State.setHealth]; split <;> split <;> rfl
  · have hset : (s.setHealth (bit hits 0) (bit hits 1) (bit hits 2)).izent.healthEvents =
        bitsOf [bit s.izent.healthEvents 0 || bit hits 0, bit s.izent.healthEvents 1 || bit hits 1, bit s.izent.healthEvents 2 || bit hits 2] := by
      simp only [State.setHealth]; split <;> split <;> rfl
    have hbit : ∀ h x w : Bool, ((h || x) && (x || !w)) = (x || (h && !w)) := by decide
    intro i hi
    match i, hi with
    | 0, _ | 1, _ | 2, _ => simp only [State.writeHealthEvents, hset, bit_bitsOf_zero, bit_bitsOf_succ, hbit]

/-- A write to DEV_HEALTH_EVENTS (R8, R302). -/
theorem healthEventsWrite_completes {t : Time} {val : Nat} {s : State} (aux : WriteAux) (hup : (s.tick t).bar0Up = true) (hval : val < 4294967296) :
    Completes (.registerWrite t 0x1C val aux) s fun u => State.SameBlock (s.tick t) u ∧ ∀ i < 3, bit u.izent.healthEvents i = (bit aux.hits i || (bit s.izent.healthEvents i && !bit val i)) := by
  obtain ⟨y, o, he, hy, ho, hbits⟩ := writeHealthEvents_eq (s.tick t) val aux.hits
  have hi := exec_registerWrite_healthEvents hup val aux
  rw [Nat.mod_eq_of_lt hval, he] at hi
  refine completes_interface hi hy ho fun u hu hb => ⟨hb, fun i h3 => ?_⟩
  rw [hu, ← State.tick_izent s t, ← hbits i h3]
  match i, h3 with
  | 0, _ | 1, _ | 2, _ => simp only [bit_bitsOf_zero, bit_bitsOf_succ]

/-- An unaligned write leaves the interface as it is (R302). -/
theorem unalignedWrite_completes (t : Time) {off : Nat} (val : Nat) (aux : WriteAux) {s : State} (h : off % 4 ≠ 0) (h8 : s.izent.healthEvents < 8) :
    Completes (.registerWrite t off val aux) s fun u => State.SameBlock (s.tick t) u ∧ u.izent = s.izent := by
  refine completes_interface (y := s.izent) (o := {}) (exec_registerWrite_unaligned t val aux s h) ⟨rfl, rfl, rfl⟩ rfl fun u hu hb => ⟨hb, ?_⟩
  rw [hu, bitsOf_healthEvents h8]

/-! Reads with an effect, and DEV_ALIVE (R7, R303). -/

theorem devTimeLoRead_completes {t : Time} {s : State} (hup : (s.tick t).bar0Up = true) : Completes (.devTimeLoRead t) s fun u =>
    u.izent.lastRead = (s.tick t).now % 4294967296 ∧ u.izent.timeHi = (s.tick t).now / 4294967296 % 4294967296 ∧ State.SameBlock (s.tick t) u := by
  refine completes_interface (y := { s.izent with lastRead := (s.tick t).now % 4294967296, timeHi := (s.tick t).now / 4294967296 % 4294967296 }) (o := {}) ?_ ⟨rfl, rfl, rfl⟩ rfl
    fun u hu hb => ⟨by rw [hu], by rw [hu], hb⟩
  show execDevTimeLoRead t s = _
  rw [execDevTimeLoRead, run_next]
  simp only [hup, if_true]
  rfl

theorem devAliveTick_completes {t : Time} {s : State} (hon : (s.tick t).domOn 1 = true) (hboot : s.izent.devState ≠ .boot) (hrec : s.health.recovering.contains 1 = false)
    (hact : (s.tick t).activating 1 = false) : Completes (.devAliveTick t) s fun u => u.izent.alive = (s.izent.alive + 1) % 4294967296 ∧ State.SameBlock (s.tick t) u := by
  refine completes_interface (y := { s.izent with alive := (s.izent.alive + 1) % 4294967296 }) (o := {}) ?_ ⟨rfl, rfl, rfl⟩ rfl fun u hu hb => ⟨by rw [hu], hb⟩
  show execDevAliveTick t s = _
  have hcounts : ((s.tick t).domOn 1 && (s.tick t).izent.devState != .boot && !(s.tick t).health.recovering.contains 1 && !(s.tick t).activating 1) = true := by
    rw [hon, hact, State.tick_health, hrec, State.tick_izent, bne_iff_ne.mpr hboot]; rfl
  rw [execDevAliveTick, run_next]
  simp only [hcounts, if_true]
  rfl

theorem evrDropsRead_completes {t : Time} (hits : Nat) {s : State} (hup : (s.tick t).bar0Up = true) : Completes (.evrDropsRead t hits) s fun u =>
    u.izent.lastRead = s.izent.ring.drops ∧ u.izent.ring = { s.izent.ring with drops := hits % 4294967296 } ∧ State.SameBlock (s.tick t) u := by
  refine completes_interface (y := { s.izent with lastRead := s.izent.ring.drops, ring := { s.izent.ring with drops := hits % 4294967296 } }) (o := {}) ?_ ⟨rfl, rfl, rfl⟩ rfl
    fun u hu hb => ⟨by rw [hu], by rw [hu], hb⟩
  show execEvrDropsRead t hits s = _
  rw [execEvrDropsRead, run_next]
  simp only [hup, if_true]
  rfl

/-- Settles O31: each access changes the interface alone, and settling the step leaves what it wrote. -/
theorem registerAccessesComplete : Obligations.RegisterAccessesComplete := by
  unfold Obligations.RegisterAccessesComplete
  refine ⟨fun t val aux s hup hval => ⟨fun mb hmb => addressWrites_complete hup aux hval hmb, healthEventsWrite_completes aux hup hval, fun off h h8 => unalignedWrite_completes t val aux h h8,
    fun k mb hmb hk => exec_doorbell hup k val hmb hk⟩, fun t s hup => devTimeLoRead_completes hup, fun t s hon hboot hrec hact => devAliveTick_completes hon hboot hrec hact,
    fun t hits s hup => evrDropsRead_completes hits hup⟩

end Sys2Proof.Machine
end

section
/-! PROOFS of the overview's claims (spec/01_overview.md): a command or event whose unit exists answers a next state. -/

namespace Sys2Proof.Machine

/-! When each form of a meaning completes. The only outcome that is no next state is the fault of a unit that does not exist (the model's choice, log 1). -/

theorem run_completes (t : Time) (s : State) (f : State → State) : ∃ u, run t s f = .next u := ⟨_, run_next t s f⟩

theorem powerRun_completes (t : Time) (s : State) (f : State → State) : ∃ u, powerRun t s f = .next u := run_completes t s _

theorem runIf_completes {ok : Bool} (hunit : ok = true) (t : Time) (s : State) (f : State → State) : ∃ u, runIf ok t s f = .next u := ⟨_, runIf_next hunit t s f⟩

/-- Only the mailbox decides: whatever the checks or the command's own part then answer, an error status included, is part of the next state. -/
theorem command_completes {mb : Nat} {m : Msg} (hwf : (mb < 24 && m.wellFormed) = true) (k : CmdKind) (body : Body) (t : Time) (s : State) :
    ∃ u, command k body t mb m s = .next u := by
  obtain ⟨hmb, -⟩ := (Bool.and_eq_true _ _).mp hwf
  exact runIf_completes hmb t s _

/-- Settles O2: the rows fall into the commands of Izent, which need their mailbox, the events that name a unit, whose well-formedness is that the unit exists, and the power events and other events, which name none. -/
theorem wellFormedCompletes : Obligations.WellFormedCompletes := by
  unfold Obligations.WellFormedCompletes
  intro i s hwf
  cases i with
  | systemIdentify | systemStatus | systemRestart | abort | layoutPropose | layoutCommit | layoutStore | layoutStoredCommit | layoutRead | streamOpen
  | streamClose | streamStatus | decodeStatus | sourceSet | sourceStatus | windowSet | windowGet | windowStatus | backgroundSet | blendSet
  | toneProfileSet | toneProfileGet | coefSet | coefGet | tileRecordsGet | glyphGet | safetyArm | safetyApply | safetyGet | lanternClear
  | lanternStatus | alertAck | headTimingSet | headTimingGet | headStatus | headEdidGet | encodeOpen | encodeSet | encodeClose | encodeStatus
  | timeBaseSet | timeSelectSet | timeAccept | timeConfigGet | timeStatus | portAddressSet | portAddressGet | laneSet | laneRead | laneModuleRead
  | mgmtSet | touchKeySet | touchModeSet | localActionSet | touchRebaseline | touchRead | sessionOpen | sessionClose | sessionList | sessionIdleSet
  | credentialSet | trustAnchorSet | deviceCertGet | doorRulesSet | doorRulesGet | debugUnlock | debugLock | updatePlan | updateRun | updateConfirm
  | updateFallback | updateStatus | recorderRead | recorderClear | recorderSubscribe | recorderFlush | domainSet | powerCapSet | domainStatus
  | healthRead | scanSubmit | scanResult | lanePrbsSet | lanePrbsRead | dramHashSet => exact command_completes hwf ..
  | mbxReset | tlsHandshake | mgmtHandshakeTimeout | mgmtConnectionLoss | sessionIdleExpiry | heldCommandStart | holdTimeout | latchInstant
  | frameStart | frameEnd | lineDeadline | headPanic | syncInEdge | syncPulseMissed | syncTrimRelease | hpdChange | irqHpd | linkTrainingDone
  | linkRetryTimer | lanternCompareDone | lanternLate | lanternRetry | lanternDiagnosis | frameReceived | prpHoldExpiry | prpEntryForget
  | jumpHoldExpiry | accessUnitDeadline | st2110PictureDeadline | igmpQuery | igmpReportRepeat | patternPicture | stillVerifyPeriod | decodeStart
  | decodeEnd | workBudgetExpiry | tagWriteAck | noEntryTimer | contextDrainEnd | encodePictureDone | encodeDrainEnd | ptpMessage
  | ptpRequestInterval | timeBaseLossTimeout | dramGrant | slotTableWrap | dramRefresh | dramRetrain | laneSignalChange | laneStateTimer
  | laneFlapQuiet | laneAdaptLimit | laneEyeCheck | lpiIdleTimer | modabsChange | moduleReadDelay | txfltChange | txdisCycle | moduleOvercurrent
  | keyMaxOnExpiry | keyUnmaskTimer | negativeDeltaTimer | electrodeFaultTimer | domainOffComplete | domainOnComplete | domainFault | decoderSelfTest
  | scalerSelfTest | spireLockstep | houseEngineReload | synthesiserLockChange | spireRecoveryDone | ptpMasterLoss => exact runIf_completes hwf ..
  | feedVoltageChange | feedQualifyTimer | switchingCycleEnd | frontEndFault | kaChange | sysReset | startUp | startStepTimeout | restartDelay =>
    rw [exec] -- to the row's own meaning, whose form then matches without reducing its effect
    exact powerRun_completes ..
  | registerWrite | devTimeLoRead | evrDropsRead | evrEnable | evrConsumerWrite | evrHoldoffExpiry | mgmtTcpConnect | safetyArmExpiry
  | debugUnlockExpiry | authBackoffEnd | entropyTestFail | entropyRetest | jtagInstruction | debugMemoryAccess | epochRetire | devAliveTick
  | reconcile | lanternSelftest | stillVerifyDone | scanJobDone | configAudit | qpRaiseDecay | timeSelectEval | dramScrub | touchScanFrame
  | localActionStart | pciePerst | paceSample | powerOverCap | shedEvaluation | shedUnwind | updateStageDone | spireASwitch | compActivation
  | imageRunning | activationTimeout | confirmDeadline | selfTestSettled | flushTimer | recorderFlushDone | rateLimitClose | sramScrub =>
    rw [exec]
    exact run_completes ..

end Sys2Proof.Machine
end

section
/-! PROOFS of the claims on device time (spec/03_time.md): the time settings of the host, the loss of a time base, and the evaluation of the selection. -/

namespace Sys2Proof.Machine

/-! The time bases of a state. -/

@[simp] theorem State.setBase_mbx (s : State) (b : Nat) (x : Base) (n : Nat) : (s.setBase b x).mbx n = s.mbx n := rfl

theorem State.base_setBase_other (s : State) {b j : Nat} (x : Base) (h : j ≠ b) : (s.setBase b x).base j = s.base j := Map.get_set_other _ _ _ h

/-- The bases are part of the time state alone. -/
theorem State.base_of_time {a b : State} (h : b.time = a.time) (j : Nat) : b.base j = a.base j := congrArg (fun ts => ts.base? j) h

/-- From `a` to `c` at most base `b` is set; what else differs is the recorder and what is sent out. -/
def State.SetsBase (b : Nat) (a c : State) : Prop := State.SameUnits a c ∨ ∃ x, State.SameUnits (a.setBase b x) c

theorem State.SetsBase.base_other {b j : Nat} {a c : State} (h : State.SetsBase b a c) (hj : j ≠ b) : c.base j = a.base j := by
  obtain h | ⟨x, h⟩ := h
  · exact State.base_of_time h.time j
  · exact (State.base_of_time h.time j).trans (a.base_setBase_other x hj)

theorem State.SetsBase.heard {b : Nat} {a c : State} (h : State.SetsBase b a c) (n : Nat) : (c.mbx n).conn.isSome = (a.mbx n).conn.isSome := by
  obtain h | ⟨x, h⟩ := h <;> exact h.heard n

/-- TB3 follows device time and moves no other base (R78, R82). -/
theorem State.settleTb3_setsBase (s : State) (u : Nat) : State.SetsBase 3 s (s.settleTb3 u) := by
  unfold State.settleTb3
  dsimp only
  split
  · exact .inr ⟨_, State.record_same _ _ _⟩
  · split
    · exact .inr ⟨_, State.record_same _ _ _⟩
    · exact .inl (.refl s)

theorem State.clearAgree_setsBase (s : State) (b : Nat) : State.SetsBase b s (s.clearAgree b) := by
  unfold State.clearAgree
  dsimp only
  split
  · exact .inr ⟨_, .refl _⟩
  · exact .inl (.refl s)

/-- A base that takes another state is set to a record in that state; then TB3 settles (R78). -/
theorem State.baseTo_sets {s : State} {b : Nat} {st : BaseState} (h : (s.base b).state ≠ st) :
    ∃ x w, x.state = st ∧ State.SameUnits (s.setBase b x) w ∧ s.baseTo b st = w.settleTb3 (s.uDt s.now) := by
  generalize he : s.baseTo b st = r
  unfold State.baseTo at he
  extract_lets x u far x' told judged at he
  rw [if_neg h] at he
  refine ⟨x', judged, ?_, ?_, he.symm⟩
  · simp only [x']
    cases st <;> rfl
  · exact .ite ((State.record_same _ _ _).trans (State.record_same _ _ _)) (State.record_same _ _ _)

theorem State.baseTo_heard (s : State) (b : Nat) (st : BaseState) (n : Nat) : ((s.baseTo b st).mbx n).conn.isSome = (s.mbx n).conn.isSome := by
  by_cases h : (s.base b).state = st
  · simp only [State.baseTo, h, if_true]
  · obtain ⟨x, w, -, hw, he⟩ := State.baseTo_sets h
    rw [he, (w.settleTb3_setsBase _).heard n, hw.heard n, State.setBase_mbx]

/-! The time settings (R74, R80, R84). -/

theorem State.setBaseCfg_heard (s : State) (r : BaseRec) (n : Nat) : ((s.setBaseCfg r).mbx n).conn.isSome = (s.mbx n).conn.isSome := by
  unfold State.setBaseCfg
  dsimp only
  split
  · rfl
  · split
    · rw [(State.settleTb3_setsBase _ _).heard n, State.baseTo_heard, State.setBase_mbx]
    · rw [State.baseTo_heard, State.setBase_mbx]

/-- Settles O11: each command's own part passes its checks and leaves the state that is claimed, with every connection as it was. -/
theorem timeSettingsAnswer : Obligations.TimeSettingsAnswer := by
  unfold Obligations.TimeSettingsAnswer
  refine ⟨answers ?_ fun c a n _ => a.setBaseCfg_heard _ n, answers ?_ fun _ _ _ _ => rfl, answers ?_ fun _ _ _ _ => rfl⟩
  · rintro c a ⟨hrec, hadm⟩
    simp only [bodyOf, bodyTimeBaseSet, hrec, hadm]
  · intro c a hrec
    simp only [bodyOf, bodyTimeSelectSet, hrec]
  · intro c a hdis
    simp [bodyOf, bodyTimeAccept, hdis]

/-! What leaves device time as it is, and what steps it or changes its state (R67, R68). -/

/-- Device time reads the same in `b` as in `a`: its value, its state, the base it names and what it keeps of its entry to HOLD and of its step. The bases themselves may differ. -/
structure State.KeepsDeviceTime (a b : State) : Prop where
  dt : b.time.dt = a.time.dt
  state : b.time.state = a.time.state
  base : b.time.base = a.time.base
  uh : b.time.uh = a.time.uh
  th : b.time.th = a.time.th
  unset : b.time.unset = a.time.unset
  stepped : b.time.stepped = a.time.stepped

theorem State.KeepsDeviceTime.of_time {a b : State} (h : b.time = a.time) : State.KeepsDeviceTime a b := by
  constructor <;> rw [h]

theorem State.KeepsDeviceTime.trans {a b c : State} (h : State.KeepsDeviceTime a b) (k : State.KeepsDeviceTime b c) : State.KeepsDeviceTime a c :=
  ⟨k.dt.trans h.dt, k.state.trans h.state, k.base.trans h.base, k.uh.trans h.uh, k.th.trans h.th, k.unset.trans h.unset, k.stepped.trans h.stepped⟩

theorem State.KeepsDeviceTime.ite {s a b : State} {c : Prop} [Decidable c] (h : State.KeepsDeviceTime s a) (k : State.KeepsDeviceTime s b) :
    State.KeepsDeviceTime s (if c then a else b) := by
  split
  · exact h
  · exact k

theorem State.KeepsDeviceTime.fold {α : Type} (f : State → α → State) (h : ∀ s x, State.KeepsDeviceTime s (f s x)) (l : List α) (s : State) :
    State.KeepsDeviceTime s (l.foldl f s) := by
  induction l generalizing s with
  | nil => exact .of_time rfl
  | cons x l ih => exact (h s x).trans (ih (f s x))

theorem State.SetsBase.keepsDeviceTime {b : Nat} {a c : State} (h : State.SetsBase b a c) : State.KeepsDeviceTime a c := by
  obtain h | ⟨x, h⟩ := h
  · exact .of_time h.time
  · have hset : State.KeepsDeviceTime a (a.setBase b x) := by constructor <;> rfl
    exact hset.trans (.of_time h.time)

theorem State.record_keepsDeviceTime (s : State) (ty : Nat) (v : List (Nat × Int)) : State.KeepsDeviceTime s (s.record ty v) := .of_time (s.record_time ty v)

theorem State.shiftFrames_keepsDeviceTime (s : State) (d : Int) : State.KeepsDeviceTime s (s.shiftFrames d) := .of_time rfl

theorem State.ptpStep_keepsDeviceTime (s : State) : State.KeepsDeviceTime s s.ptpStep := by
  refine .fold _ (fun s g => ?_) _ s
  refine .ite (.of_time rfl) (.ite ?_ (.ite (.of_time rfl) (.of_time rfl)))
  exact .of_time (State.record_time _ _ _)

theorem State.judgeBases_keepsDeviceTime (s : State) : State.KeepsDeviceTime s s.judgeBases :=
  .fold _ (fun _ _ => .ite (State.SetsBase.keepsDeviceTime (.inr ⟨_, State.record_same _ _ _⟩)) (.of_time rfl)) _ s

/-- Device time steps onto a base, and keeps its state (R68). -/
theorem State.align_time (s : State) (b : Nat) : (s.align b).time.dt = (s.base b).count ∧ (s.align b).time.stepped = true ∧ (s.align b).time.state = s.time.state := by
  unfold State.align
  extract_lets d ts stepped upd moved
  have hmoved : State.KeepsDeviceTime stepped moved := .ite (.of_time rfl) (.of_time rfl)
  have hrecorded := hmoved.trans (moved.record_keepsDeviceTime evTimeAlign [p2 b, p8s d])
  have hjudged := ((hrecorded.trans (State.shiftFrames_keepsDeviceTime _ (-d))).trans (State.ptpStep_keepsDeviceTime _)).trans (State.judgeBases_keepsDeviceTime _)
  exact ⟨hjudged.dt, hjudged.stepped, hjudged.state⟩

/-- Device time begins to follow a base, from the value that it has (R67, R69). -/
theorem State.dtTo_following {s : State} {b : Nat} (h : s.time.state ≠ .following b) :
    (s.dtTo (.following b)).time.state = .following b ∧ (s.dtTo (.following b)).time.base = b ∧ (s.dtTo (.following b)).time.unset = false ∧
      (s.dtTo (.following b)).time.dt = s.time.dt ∧ (s.dtTo (.following b)).time.stepped = s.time.stepped := by
  unfold State.dtTo
  extract_lets u old ts entered told switched
  rw [if_neg h]
  have htold : State.KeepsDeviceTime entered told := .ite (.of_time rfl) (State.record_keepsDeviceTime _ _ _)
  have hsettled := (htold.trans (told.record_keepsDeviceTime evTimeSwitch [p2 b, p8s (told.dB b)])).trans (switched.settleTb3_setsBase u).keepsDeviceTime
  exact ⟨hsettled.state, hsettled.base, hsettled.unset, hsettled.dt, hsettled.stepped⟩

/-- Device time enters HOLD with the bound of that instant (R67, R85). -/
theorem State.dtTo_hold {s : State} (h : s.time.state ≠ .hold) :
    (s.dtTo .hold).time.state = .hold ∧ (s.dtTo .hold).time.uh = s.uDt s.now ∧ (s.dtTo .hold).time.th = s.now ∧ (s.dtTo .hold).time.dt = s.time.dt := by
  unfold State.dtTo
  extract_lets u old ts entered told switched
  rw [if_neg h]
  have htold : State.KeepsDeviceTime entered told := .ite (.of_time rfl) (State.record_keepsDeviceTime _ _ _)
  have hsettled := htold.trans (told.settleTb3_setsBase u).keepsDeviceTime
  exact ⟨hsettled.state, hsettled.uh, hsettled.th, hsettled.dt⟩

/-! The loss of a base, and the evaluation of the selection (R78, R80). -/

/-- Settling a step leaves the time state that its effect left. -/
theorem completes_time {i : Instr} {t : Time} {s v : State} {P : State → Prop} (hi : exec i s = .next (settle (s.tick t) v)) (h : ∀ u : State, u.time = v.time → P u) : Completes i s P :=
  ⟨_, hi, h _ (settle_time _ _)⟩

/-- The bases TB0 to TB2 after one of them takes another state. -/
theorem State.baseTo_bases {s : State} {b : Nat} {st : BaseState} (hb : b < 3) (h : (s.base b).state ≠ st) :
    ((s.baseTo b st).base b).state = st ∧ ∀ j < 3, j ≠ b → (s.baseTo b st).base j = s.base j := by
  obtain ⟨x, w, hx, hw, he⟩ := State.baseTo_sets h
  have hbase : ∀ j < 3, (s.baseTo b st).base j = (s.setBase b x).base j := fun j hj => by
    rw [he, (w.settleTb3_setsBase _).base_other (by omega), State.base_of_time hw.time]
  constructor
  · rw [hbase b hb, State.base_setBase, hx]
  · intro j hj hne
    rw [hbase j hj, State.base_setBase_other s x hne]

theorem timeBaseLossTimeout_completes {t : Time} {b : Nat} {s : State} (hb : b < 3) (hst : ((s.tick t).base b).state = .acquiring ∨ ((s.tick t).base b).state = .locked)
    (hlost : ((s.tick t).base b).heardAt + ((s.tick t).base b).cfg.lossTimeout * 1000000 ≤ (s.tick t).clk) :
    Completes (.timeBaseLossTimeout t b) s fun u => (u.base b).state = (if ((s.tick t).base b).everLocked then .holdover else .free) ∧
      ∀ j < 3, j ≠ b → u.base j = (s.tick t).base j := by
  generalize hto : (if ((s.tick t).base b).everLocked = true then BaseState.holdover else .free) = st
  have hne : ((s.tick t).base b).state ≠ st := by
    rw [← hto]
    rcases hst with h | h <;> (rw [h]; split <;> decide)
  have hi : exec (.timeBaseLossTimeout t b) s = .next (settle (s.tick t) ((s.tick t).baseTo b st)) := by
    show execTimeBaseLossTimeout t b s = _
    rw [execTimeBaseLossTimeout, runIf_next (by simpa using hb)]
    dsimp only
    rw [if_pos (by simp only [Bool.and_eq_true, Bool.or_eq_true, decide_eq_true_eq]; exact ⟨hst, hlost⟩), hto]
  refine completes_time hi fun u hu => ?_
  obtain ⟨hown, hothers⟩ := State.baseTo_bases hb hne
  exact ⟨by rw [State.base_of_time hu, hown], fun j hj hj' => (State.base_of_time hu j).trans (hothers j hj hj')⟩

/-- DISAGREE ends where it may before the selection is read, and device time stays as it is (R80, R84). -/
theorem agreed_keepsDeviceTime (s : State) : State.KeepsDeviceTime s (((s.clearAgree 0).clearAgree 1).clearAgree 2) :=
  ((s.clearAgree_setsBase 0).keepsDeviceTime.trans (State.clearAgree_setsBase _ 1).keepsDeviceTime).trans (State.clearAgree_setsBase _ 2).keepsDeviceTime

section
variable {t : Time} {s a : State} {b : Nat} (ha : a = (((s.tick t).clearAgree 0).clearAgree 1).clearAgree 2)
include ha

theorem agreed_dt : a.time.dt = (s.tick t).time.dt := by
  rw [ha]
  exact (agreed_keepsDeviceTime (s.tick t)).dt

theorem exec_timeSelectEval_some (hsel : a.select = some b) :
    exec (.timeSelectEval t) s = .next (settle (s.tick t) (if a.time.state = .following b then a else (if a.alignOpen then a.align b else a).dtTo (.following b))) := by
  show execTimeSelectEval t s = _
  rw [execTimeSelectEval, run_next, ← ha]
  simp only [hsel]

/-- Where nothing qualifies, a selection of TB3 makes it the base that device time stays selected on (R81, R82). -/
theorem exec_timeSelectEval_none (hsel : a.select = none) (hst : a.time.state = .following b) :
    exec (.timeSelectEval t) s = .next (settle (s.tick t)
      (if a.time.sel.mode = 1 && a.prefs = [3] then { a.dtTo .hold with time := { (a.dtTo .hold).time with base := 3 } } else a.dtTo .hold)) := by
  show execTimeSelectEval t s = _
  rw [execTimeSelectEval, run_next, ← ha]
  simp only [hsel, hst]

/-- The selection names a base that device time does not follow (R68, R80, R81). -/
theorem timeSelectEval_follows (hsel : a.select = some b) (hne : a.time.state ≠ .following b) :
    Completes (.timeSelectEval t) s fun u => u.time.state = .following b ∧ u.time.base = b ∧ u.time.unset = false ∧
      (a.alignOpen = true → u.time.dt = (a.base b).count ∧ u.time.stepped = true) ∧ (a.alignOpen = false → u.time.dt = (s.tick t).time.dt) := by
  have hi := exec_timeSelectEval_some ha hsel
  rw [if_neg hne] at hi
  refine completes_time hi fun u hu => ?_
  rw [hu, ← agreed_dt ha]
  cases a.alignOpen with
  | true =>
    rw [if_pos rfl]
    obtain ⟨hdt, hstepped, hstate⟩ := a.align_time b
    have hstay : (a.align b).time.state ≠ .following b := by rw [hstate]; exact hne
    obtain ⟨hstate', hbase, hunset, hdt', hstepped'⟩ := State.dtTo_following hstay
    exact ⟨hstate', hbase, hunset, fun _ => ⟨hdt'.trans hdt, hstepped'.trans hstepped⟩, (nomatch ·)⟩
  | false =>
    rw [if_neg Bool.false_ne_true]
    obtain ⟨hstate, hbase, hunset, hdt, -⟩ := State.dtTo_following hne
    exact ⟨hstate, hbase, hunset, (nomatch ·), fun _ => hdt⟩

/-- The selection names the base that device time follows. -/
theorem timeSelectEval_stays (hsel : a.select = some b) (hst : a.time.state = .following b) :
    Completes (.timeSelectEval t) s fun u => u.time.state = .following b ∧ u.time.dt = (s.tick t).time.dt := by
  have hi := exec_timeSelectEval_some ha hsel
  rw [if_pos hst] at hi
  exact completes_time hi fun u hu => ⟨by rw [hu, hst], by rw [hu, agreed_dt ha]⟩

/-- The selection names no base while device time follows one (R81, R85). -/
theorem timeSelectEval_holds (hsel : a.select = none) (hst : a.time.state = .following b) :
    Completes (.timeSelectEval t) s fun u => u.time.state = .hold ∧ u.time.uh = a.uDt a.now ∧ u.time.th = a.now ∧ u.time.dt = (s.tick t).time.dt := by
  have hne : a.time.state ≠ .hold := by rw [hst]; exact (nomatch ·)
  obtain ⟨hstate, huh, hth, hdt⟩ := State.dtTo_hold hne
  refine completes_time (exec_timeSelectEval_none ha hsel hst) fun u hu => ?_
  rw [hu, ← agreed_dt ha]
  split <;> exact ⟨hstate, huh, hth, hdt⟩

end

/-- Settles O27: a base that takes another state changes no other base but TB3, and of device time an evaluation changes what a step onto the base, or the entry to FOLLOWING or HOLD, sets. -/
theorem timeBaseEventsComplete : Obligations.TimeBaseEventsComplete := by
  unfold Obligations.TimeBaseEventsComplete
  exact ⟨fun t b s hb hst hlost => timeBaseLossTimeout_completes hb hst hlost,
    fun t s a ha => ⟨fun b hsel hne => timeSelectEval_follows ha hsel hne, fun b hsel hst => timeSelectEval_stays ha hsel hst, fun b hsel hst => timeSelectEval_holds ha hsel hst⟩⟩

end Sys2Proof.Machine
end

section
/-! PROOFS of the claim on the composition settings (spec/06_composition.md): each writes the shadow and nothing else (R189). -/

namespace Sys2Proof.Machine

/-- The shadow is no part of a mailbox. -/
@[simp] theorem State.setShadow_mbx (s : State) (x : Settings) (n : Nat) : (s.setShadow x).mbx n = s.mbx n := rfl

/-- A command whose own part writes the shadow and answers an empty payload (R189). -/
theorem answers_setShadow {k : CmdKind} {pre : Call → State → Prop} {shadow : Call → State → Settings} (body : Body) (hk : bodyOf k = body)
    (hb : ∀ c a, pre c a → body c a = .ok (a.setShadow (shadow c a)) []) : Answers k pre (fun _ _ => []) fun c a => a.setShadow (shadow c a) := by
  subst hk
  exact answers hb fun c a n _ => by rw [a.setShadow_mbx (shadow c a) n]

/-- WINDOW_SET's own part where every descriptor passes (R356). -/
theorem bodyWindowSet_ok {c : Call} {a : State} (h : windowsBad 4 [] (windowRecs c.p) = none) :
    bodyWindowSet c a = .ok (a.setShadow { a.comp.shadow with windows := (windowRecs c.p).foldl (fun m b => Map.set m (rd b 0 2) (windowOf b)) a.comp.shadow.windows }) [] := by
  unfold bodyWindowSet
  rw [h]

/-- COEF_SET's own part where every tap and every phase sum passes (R175). -/
theorem bodyCoefSet_ok {c : Call} {a : State} (h : coefX c.p = none) :
    bodyCoefSet c a = .ok (a.setShadow { a.comp.shadow with coefs := Map.set a.comp.shadow.coefs (rd c.p 0 1) (coefOf c.p) }) [] := by
  unfold bodyCoefSet
  rw [h]

/-- Settles O10: WINDOW_SET and COEF_SET have a check of their own to pass first, and the own part of each of the five is a write to the shadow. -/
theorem shadowSettingsAnswer : Obligations.ShadowSettingsAnswer := by
  unfold Obligations.ShadowSettingsAnswer
  refine ⟨?window, ?background, ?blend, ?tone, ?coef⟩
  case window => exact answers_setShadow bodyWindowSet rfl fun _ _ h => bodyWindowSet_ok h
  case background => exact answers_setShadow bodyBackgroundSet rfl fun _ _ _ => rfl
  case blend => exact answers_setShadow bodyBlendSet rfl fun _ _ _ => rfl
  case tone => exact answers_setShadow bodyToneProfileSet rfl fun _ _ _ => rfl
  case coef => exact answers_setShadow bodyCoefSet rfl fun _ _ h => bodyCoefSet_ok h

end Sys2Proof.Machine
end

section
/-! PROOFS of the claims on heads and generators (spec/07_heads.md): what an event settles, which connections and which generators a part of a step leaves alone. -/

namespace Sys2Proof.Machine

/-! How an event's effect is read off the next state. -/

/-- Settling a step changes no unit. -/
theorem settle_block (a b : State) : State.SameBlock b (settle a b) := by constructor <;> simp

theorem leaves_settled {i : Instr} {t : Time} {s v b : State} (hi : exec i s = .next (settle (s.tick t) v)) (h : State.SameBlock b v) : Leaves i s b :=
  ⟨_, hi, h.trans (settle_block _ v)⟩

/-- An event whose effect does not come about: time advances, nothing else happens. -/
theorem leaves_tick {i : Instr} {t : Time} {s : State} (hi : exec i s = .next (settle (s.tick t) (s.tick t))) : Leaves i s (s.tick t) :=
  leaves_settled hi (.refl _)

/-- Settling a step leaves composition and display as its effect left them. -/
theorem completes_comp {i : Instr} {t : Time} {s v : State} {P : State → Prop} (hi : exec i s = .next (settle (s.tick t) v)) (h : ∀ u : State, u.comp = v.comp → P u) : Completes i s P :=
  ⟨_, hi, h _ (settle_comp _ _)⟩

/-- Heads and generators are part of composition and display alone. -/
theorem State.head_of_comp {a b : State} (h : b.comp = a.comp) (k : Nat) : b.head k = a.head k := by simp only [State.head, h]

theorem State.gen_of_comp {a b : State} (h : b.comp = a.comp) (g : Nat) : b.gen g = a.gen g := by simp only [State.gen, h]

/-- Time moves no head and no generator. -/
@[simp] theorem State.tick_head (s : State) (t : Time) (h : Nat) : (s.tick t).head h = s.head h := rfl

@[simp] theorem State.tick_gen (s : State) (t : Time) (g : Nat) : (s.tick t).gen g = s.gen g := rfl

/-! Two writes of one head. -/

theorem Map.set_set {α : Type} (m : Map α) (k : Nat) (u v : α) : Map.set (Map.set m k u) k v = Map.set m k v := by
  induction m with
  | nil => simp [Map.set]
  | cons e m ih =>
    obtain ⟨j, w⟩ := e
    rcases Nat.lt_trichotomy k j with h | h | h
    · simp [Map.set, h]
    · simp [Map.set, h]
    · have hj : ¬ k < j := Nat.lt_asymm h
      have hne : j ≠ k := Nat.ne_of_lt h
      simp [Map.set, hj, hne, ih]

theorem State.setHead_setHead (s : State) (h : Nat) (x y : Head) : (s.setHead h x).setHead h y = s.setHead h y := by
  simp only [State.setHead, Map.set_set]

end Sys2Proof.Machine
end

section
/-! PROOF of the claim on HEAD_TIMING_SET and LANE_SET (spec/07_heads.md, spec/14_lanes.md): what they apply keeps every connection, so that the response reaches its sender. -/

namespace Sys2Proof.Machine

/-! Parts of a step that open and close no connection. -/

/-- `b` has the connections of `a`, and no other. -/
structure State.SameConns (a b : State) : Prop where
  heard : ∀ n, (b.mbx n).conn.isSome = (a.mbx n).conn.isSome

theorem State.SameConns.of_izent {a b : State} (h : b.izent = a.izent := by rfl) : State.SameConns a b := ⟨fun n => by simp only [State.mbx, h]⟩

theorem State.SameConns.refl (a : State) : State.SameConns a a := .of_izent

theorem State.SameConns.trans {a b c : State} (h : State.SameConns a b) (k : State.SameConns b c) : State.SameConns a c := ⟨fun n => (k.heard n).trans (h.heard n)⟩

theorem State.SameConns.ite {s a b : State} {c : Prop} [Decidable c] (h : State.SameConns s a) (k : State.SameConns s b) : State.SameConns s (if c then a else b) := by
  split
  · exact h
  · exact k

theorem State.SameConns.fold {α : Type} {f : State → α → State} (h : ∀ s x, State.SameConns s (f s x)) (l : List α) (s : State) : State.SameConns s (l.foldl f s) :=
  ⟨fun n => fold_heard (fun s x => (h s x).heard n) l s⟩

/-- Recording after a change that opens and closes no connection. -/
theorem State.SameConns.record {a b : State} (h : State.SameConns a b) (ty : Nat) (v : List (Nat × Int)) : State.SameConns a (b.record ty v) :=
  h.trans ⟨record_heard b ty v⟩

theorem State.setGen_sameConns (s : State) (g : Nat) (x : Gen) : State.SameConns s (s.setGen g x) := .of_izent

/-! Generators (R208, R211, R214, R218). -/

theorem State.genTo_sameConns (s : State) (g : Nat) (st : SyncState) : State.SameConns s (s.genTo g st) := by
  unfold State.genTo
  dsimp only
  exact .ite (.refl s) (.record .of_izent _ _)

theorem State.reErr_sameConns (s : State) (g : Nat) : State.SameConns s (s.reErr g) := by
  unfold State.reErr
  dsimp only
  split <;> exact .of_izent

theorem State.watchAnew_sameConns (s : State) (old : Option TimingRec) (r : TimingRec) : State.SameConns s (s.watchAnew old r) := by
  unfold State.watchAnew
  dsimp only
  exact .ite (.refl s) .of_izent

theorem State.changeReference_sameConns (s : State) (r : TimingRec) : State.SameConns s (s.changeReference r) := by
  unfold State.changeReference
  extract_lets head timed x retuned gen
  have hretuned : State.SameConns s retuned := .trans .of_izent (State.reErr_sameConns _ _)
  refine .ite .of_izent (.ite ?_ (.ite ?_ ?_))
  · exact hretuned.trans ((State.setGen_sameConns _ _ _).trans (State.genTo_sameConns _ _ _))
  · exact hretuned.trans .of_izent
  · exact hretuned.trans (State.genTo_sameConns _ _ _)

/-! Format changes (R213, R219, R220). -/

theorem State.loseAlignment_sameConns (s : State) (h : Nat) (r : TimingRec) : State.SameConns s (s.loseAlignment h r) := by
  unfold State.loseAlignment
  dsimp only
  exact .ite (.refl s) (.record .of_izent _ _)

theorem State.leaderStops_sameConns (s : State) (h : Nat) (out : List Nat) : State.SameConns s (s.leaderStops h out) := by
  unfold State.leaderStops
  split
  · refine .ite (.refl s) (.fold (fun s k => ?_) _ s)
    split
    · exact .ite (s.loseAlignment_sameConns _ _) (.refl s)
    · exact .refl s
  · exact .refl s

theorem State.endOldFormat_sameConns (s : State) (h : Nat) : State.SameConns s (s.endOldFormat h) := by
  unfold State.endOldFormat
  dsimp only
  split
  · exact .refl s
  · exact .ite (.refl s) ((s.leaderStops_sameConns _ _).trans .of_izent)

theorem State.restartGroup_sameConns (s : State) (f : FormatSet) (tr at_ g : Nat) : State.SameConns s (s.restartGroup f tr at_ g) := by
  unfold State.restartGroup
  dsimp only
  split
  · exact .of_izent
  · exact .ite (.refl s) (((s.setGen_sameConns g _).trans (State.genTo_sameConns _ g _)).trans (State.setGen_sameConns _ g _))

theorem State.reassign_sameConns (s : State) (g : Nat) : State.SameConns s (s.reassign g) := by
  unfold State.reassign
  dsimp only
  exact .trans .of_izent (.fold (fun s e => .ite (.refl s) .of_izent) _ _)

theorem State.regroup_sameConns (s : State) (g : Nat) : State.SameConns s (s.regroup g) := by
  unfold State.regroup
  dsimp only
  exact .trans (.ite (.refl s) .of_izent) (State.reassign_sameConns _ g)

theorem State.restartFormats_sameConns (s : State) : State.SameConns s s.restartFormats := by
  unfold State.restartFormats
  refine .fold (fun s f => ?_) _ s
  extract_lets hs tr at_ headed grouped live
  have hheaded : State.SameConns s headed := .fold (fun s q => .of_izent) f.recs s
  have hgrouped : State.SameConns headed grouped := .fold (fun s g => (s.restartGroup_sameConns f tr at_ g).trans (State.regroup_sameConns _ g)) f.groups headed
  exact .ite (.refl s) ((hheaded.trans hgrouped).trans .of_izent)

theorem State.startFormat_sameConns (s : State) (recs : List TimingRec) : State.SameConns s (s.startFormat recs) := by
  unfold State.startFormat
  dsimp only
  refine .trans (.trans .of_izent (.fold (fun s q => ?_) recs _)) (State.restartFormats_sameConns _)
  exact .ite (.refl s) (s.endOldFormat_sameConns _)

/-! Records and lane settings that admission takes (R219, R257, R406). -/

theorem State.applyTimings_sameConns (s : State) (recs : List TimingRec) : State.SameConns s (s.applyTimings recs) := by
  unfold State.applyTimings
  extract_lets new formats refs stored retimed
  have hstored : State.SameConns s stored := .fold (fun s r => (s.watchAnew_sameConns _ r).trans .of_izent) new s
  have hretimed : State.SameConns s retimed := hstored.trans (.fold (fun s r => .ite (s.changeReference_sameConns r) .of_izent) refs stored)
  exact .ite hretimed (hretimed.trans (State.startFormat_sameConns _ _))

theorem State.relevel_sameConns (s : State) (adm : Plan) : State.SameConns s (s.relevel adm) := by
  unfold State.relevel
  dsimp only
  exact .fold (fun s e => .ite .of_izent (.refl s)) _ s

theorem State.sealOpen_sameConns (s : State) (adm : Plan) (set : Settings) : State.SameConns s (s.sealOpen adm set) := by
  unfold State.sealOpen
  dsimp only
  refine .fold (fun s e => .ite (.refl s) ?_) _ s
  split
  · exact .ite .of_izent .of_izent
  · exact .of_izent

theorem State.laneDeparts_sameConns (s : State) (k : Nat) (st : LaneState) (cause : Nat) : State.SameConns s (s.laneDeparts k st cause) := by
  unfold State.laneDeparts
  extract_lets l deps flaps quiet departed told
  have htold : State.SameConns s told := .ite .of_izent (.record .of_izent _ _)
  exact .ite (htold.record _ _) htold

theorem State.laneTo_sameConns (s : State) (k : Nat) (st : LaneState) (cause : Nat) : State.SameConns s (s.laneTo k st cause) := by
  unfold State.laneTo
  dsimp only
  exact .ite (.refl s) (.ite (s.laneDeparts_sameConns k st cause) (.ite (.ite .of_izent (.record .of_izent _ _)) .of_izent))

theorem State.laneRefresh_sameConns (s : State) (k : Nat) : State.SameConns s (s.laneRefresh k) := by
  unfold State.laneRefresh
  dsimp only
  exact .ite ((s.laneTo_sameConns k _ _).trans .of_izent) (.ite (s.laneTo_sameConns k _ _) (.refl s))

theorem State.applyLane_sameConns (s : State) (c : LaneCfg) : State.SameConns s (s.applyLane c) := by
  unfold State.applyLane
  dsimp only
  exact .ite (.trans (.trans .of_izent (State.laneTo_sameConns _ _ _ _)) (State.laneRefresh_sameConns _ _)) .of_izent

/-! The commands' own parts. -/

/-- What admission takes is applied and sealed, and the verdict is the payload (R279, R298). -/
theorem admitted_ok {a : State} {p adm : Plan} (effect : State → Plan → State) (h : admits p adm) :
    a.admitted p effect = .ok ((effect a.useFree adm).sealOpen adm a.comp.committed) (a.verdictOn p) := by
  unfold State.admitted
  dsimp only
  rw [show (p.verdict false).result = .ok adm from h]
  rfl

theorem findIdx?_eq_none {α : Type} {p : α → Bool} {l : List α} (h : ∀ x ∈ l, p x = false) : findIdx? p l = none := by
  unfold findIdx?
  rw [List.find?_eq_none.mpr, Option.map_none]
  rintro ⟨x, i⟩ hx
  rw [h x (List.fst_mem_of_mem_zipIdx hx)]
  exact Bool.false_ne_true

/-- HEAD_TIMING_SET's own part where every record passes, no group concerned is busy and admission takes the records (R219, R220). -/
theorem bodyHeadTimingSet_ok {c : Call} {a : State} {recs : List TimingRec} {adm : Plan} (hfields : timingsBad 4 [] (pieces 40 (rd c.p 0 1) (c.p.drop 4)) = none)
    (hrecs : recs = (pieces 40 (rd c.p 0 1) (c.p.drop 4)).map timingOf) (hfree : a.groupsBusy false (a.timingGroups recs) = none) (hadm : admits (a.planTimings recs) adm) :
    bodyHeadTimingSet c a = .ok (((a.useFree.applyTimings recs).relevel adm).sealOpen adm a.comp.committed) (a.verdictOn (a.planTimings recs)) := by
  unfold bodyHeadTimingSet
  dsimp only
  rw [hfields]
  dsimp only
  rw [← hrecs, hfree]
  exact admitted_ok (fun s adm => (s.applyTimings recs).relevel adm) hadm

/-- LANE_SET's own part where every entry passes, the PRP flags of each pair agree and admission takes the entries (R361, R405). -/
theorem bodyLaneSet_ok {c : Call} {a : State} {ds : List LaneCfg} {adm : Plan} (hfields : lanesBad 4 [] (pieces 16 (rd c.p 0 1) (c.p.drop 4)) = none)
    (hds : ds = (pieces 16 (rd c.p 0 1) (c.p.drop 4)).map laneOf)
    (hprp : ∀ d ∈ ds, a.prpFlag ds d.lane = a.prpFlag ds (if d.lane % 2 = 0 then d.lane + 1 else d.lane - 1)) (hadm : admits (a.planLanes ds) adm) :
    bodyLaneSet c a = .ok ((ds.foldl State.applyLane a.useFree).sealOpen adm a.comp.committed) (a.verdictOn (a.planLanes ds)) := by
  have hagree : findIdx? (fun (d : LaneCfg) => a.prpFlag ds d.lane != a.prpFlag ds (if d.lane % 2 = 0 then d.lane + 1 else d.lane - 1)) ds = none :=
    findIdx?_eq_none fun d hd => bne_eq_false_iff_eq.mpr (hprp d hd)
  unfold bodyLaneSet
  dsimp only
  rw [hfields]
  dsimp only
  rw [← hds, hagree]
  exact admitted_ok (fun s _ => ds.foldl State.applyLane s) hadm

/-- Settles O16: each command's own part passes its checks and applies what admission took, with every connection as it was. -/
theorem headAndLaneCommandsAnswer : Obligations.HeadAndLaneCommandsAnswer := by
  unfold Obligations.HeadAndLaneCommandsAnswer
  refine ⟨fun adm recs => answers ?timing ?timingConns, fun adm ds => answers ?lane ?laneConns⟩
  case timing =>
    rintro c a ⟨hfields, hrecs, hfree, hadm⟩
    exact bodyHeadTimingSet_ok hfields hrecs hfree hadm
  case lane =>
    rintro c a ⟨hfields, hds, hprp, hadm⟩
    exact bodyLaneSet_ok hfields hds hprp hadm
  case timingConns =>
    intro c a n _
    have happlied : State.SameConns a (a.useFree.applyTimings recs) := .trans .of_izent (a.useFree.applyTimings_sameConns recs)
    exact ((happlied.trans (State.relevel_sameConns _ adm)).trans (State.sealOpen_sameConns _ adm _)).heard n
  case laneConns =>
    intro c a n _
    have happlied : State.SameConns a (ds.foldl State.applyLane a.useFree) := .trans .of_izent (.fold State.applyLane_sameConns ds a.useFree)
    exact (happlied.trans (State.sealOpen_sameConns _ adm _)).heard n

end Sys2Proof.Machine
end

section
/-! PROOF of the claim on sync pulses, the trim and a follower's synthesiser (spec/07_heads.md, R208–R213): what each does to its own generator or head, and that it touches no other generator. -/

namespace Sys2Proof.Machine

/-! Parts of a step that leave a generator alone. -/

theorem State.gen_setGen_other (s : State) {g j : Nat} (x : Gen) (h : j ≠ g) : (s.setGen g x).gen j = s.gen j := Map.get_set_other _ _ _ h

/-- Generator `j` and the heads are in `b` as in `a`. -/
structure State.KeepsGen (j : Nat) (a b : State) : Prop where
  heads : b.comp.heads = a.comp.heads
  gen : b.gen j = a.gen j

theorem State.KeepsGen.of_comp {j : Nat} {a b : State} (h : b.comp = a.comp) : State.KeepsGen j a b := ⟨congrArg Comp.heads h, State.gen_of_comp h j⟩

theorem State.KeepsGen.refl (j : Nat) (a : State) : State.KeepsGen j a a := .of_comp rfl

theorem State.KeepsGen.trans {j : Nat} {a b c : State} (h : State.KeepsGen j a b) (k : State.KeepsGen j b c) : State.KeepsGen j a c :=
  ⟨k.heads.trans h.heads, k.gen.trans h.gen⟩

theorem State.KeepsGen.ite {j : Nat} {s a b : State} {c : Prop} [Decidable c] (h : State.KeepsGen j s a) (k : State.KeepsGen j s b) :
    State.KeepsGen j s (if c then a else b) := by
  split
  · exact h
  · exact k

theorem State.KeepsGen.fold {j : Nat} {α : Type} {f : State → α → State} (l : List α) (h : ∀ s, ∀ x ∈ l, State.KeepsGen j s (f s x)) (s : State) :
    State.KeepsGen j s (l.foldl f s) := by
  induction l generalizing s with
  | nil => exact .refl j s
  | cons x l ih => exact (h s x (.head l)).trans (ih (fun s y hy => h s y (.tail x hy)) (f s x))

theorem State.KeepsGen.record {j : Nat} {a b : State} (h : State.KeepsGen j a b) (ty : Nat) (v : List (Nat × Int)) : State.KeepsGen j a (b.record ty v) :=
  h.trans (.of_comp (b.record_comp ty v))

/-- What a generator watches is told by the heads' stored records (R211). -/
theorem State.watched_of_heads {a b : State} (h : b.comp.heads = a.comp.heads) (g : Nat) : b.watched g = a.watched g := by
  simp only [State.watched, State.head, h]

/-! What a pulse is at a generator: valid, the first of a run, a part of it, or spurious (R211). -/

/-- A pulse 1, 2 or 3 periods after the last valid one. -/
theorem State.syncPulse_valid {s : State} {g p q k : Nat} {r : TimingRec} (hpulse : (s.gen g).pulse = some p) (hnear : [1, 2, 3].find? (fun k => nearPulse r p q k 10000) = some k) :
    s.syncPulse g r q = s.pulseValid g r p q k := by
  fun_cases State.syncPulse s g r q with
  | case1 x p' hp k' hk =>
    obtain rfl : p = p' := Option.some.inj (hpulse.symm.trans hp)
    rw [Option.some.inj (hnear.symm.trans hk)]
  | case2 x p' hp hk =>
    obtain rfl : p = p' := Option.some.inj (hpulse.symm.trans hp)
    exact nomatch hnear.symm.trans hk
  | case3 x hp => exact nomatch hpulse.symm.trans hp
  | case4 x hp => exact nomatch hpulse.symm.trans hp
  | case5 x hp => exact nomatch hpulse.symm.trans hp
  | case6 x hp => exact nomatch hpulse.symm.trans hp

/-- A pulse that is near no whole number of periods up to three after the last valid one. -/
theorem State.syncPulse_spurious {s : State} {g p q : Nat} {r : TimingRec} (hpulse : (s.gen g).pulse = some p) (hfar : [1, 2, 3].find? (fun k => nearPulse r p q k 10000) = none) :
    s.syncPulse g r q = s.setGen g { s.gen g with spurious := sat 2 ((s.gen g).spurious + 1) } := by
  fun_cases State.syncPulse s g r q with
  | case1 x p' hp k' hk =>
    obtain rfl : p = p' := Option.some.inj (hpulse.symm.trans hp)
    exact nomatch hfar.symm.trans hk
  | case2 => rfl
  | case3 x hp => exact nomatch hpulse.symm.trans hp
  | case4 x hp => exact nomatch hpulse.symm.trans hp
  | case5 x hp => exact nomatch hpulse.symm.trans hp
  | case6 x hp => exact nomatch hpulse.symm.trans hp

theorem State.syncPulse_begins {s : State} {g : Nat} (hpulse : (s.gen g).pulse = none) (hrun : (s.gen g).pulses = []) (r : TimingRec) (q : Nat) :
    s.syncPulse g r q = s.setGen g { s.gen g with pulses := [q] } := by
  simp only [State.syncPulse, hpulse, hrun]

section
variable {j g : Nat} (hj : j ≠ g)
include hj

theorem State.setGen_keepsGen (s : State) (x : Gen) : State.KeepsGen j s (s.setGen g x) := ⟨rfl, s.gen_setGen_other x hj⟩

theorem State.genTo_keepsGen (s : State) (st : SyncState) : State.KeepsGen j s (s.genTo g st) := by
  unfold State.genTo
  dsimp only
  exact .ite (.refl j s) (.record (State.setGen_keepsGen hj s _) _ _)

theorem State.reErr_keepsGen (s : State) : State.KeepsGen j s (s.reErr g) := by
  unfold State.reErr
  dsimp only
  split <;> exact State.setGen_keepsGen hj s _

theorem State.trimTo_keepsGen (s : State) (r : TimingRec) (p q k : Nat) : State.KeepsGen j s (s.trimTo g r p q k) := by
  unfold State.trimTo
  dsimp only
  have hset := State.setGen_keepsGen hj s
  exact .ite (.ite (hset _) (.record (hset _) _ _)) (hset _)

theorem State.pulseValid_keepsGen (s : State) (r : TimingRec) (p q k : Nat) : State.KeepsGen j s (s.pulseValid g r p q k) := by
  unfold State.pulseValid
  dsimp only
  exact ((State.setGen_keepsGen hj s _).trans (State.trimTo_keepsGen hj _ r p q k)).trans (State.reErr_keepsGen hj _)

/-- A pulse at a generator is nothing to another. -/
theorem State.syncPulse_keepsGen (s : State) (r : TimingRec) (q : Nat) : State.KeepsGen j s (s.syncPulse g r q) := by
  fun_cases State.syncPulse s g r q with
  | case1 x p _ k => exact State.pulseValid_keepsGen hj s r p q k
  | case2 => exact State.setGen_keepsGen hj s _
  | case3 => exact State.setGen_keepsGen hj s _
  | case4 => exact State.setGen_keepsGen hj s _
  | case5 x _ l => exact State.pulseValid_keepsGen hj s r l q 1
  | case6 => exact State.setGen_keepsGen hj s _

end

/-! What a pulse does to its own generator (R209, R211). -/

/-- e follows the targets; all else of the generator stays (R208). -/
theorem State.reErr_gen (s : State) (g : Nat) : ∃ e, (s.reErr g).gen g = { s.gen g with e := e } := by
  unfold State.reErr
  dsimp only
  split <;> exact ⟨_, State.gen_setGen _ _ _⟩

theorem State.genTo_gen {s : State} {g : Nat} {st : SyncState} (h : (s.gen g).state ≠ st) : (s.genTo g st).gen g = { s.gen g with state := st, bigRun := 0 } := by
  unfold State.genTo
  dsimp only
  rw [if_neg h, State.gen_of_comp (State.record_comp _ _ _), State.gen_setGen]

/-- The trim that a spacing asks for, within 100 ppm; pulses and counts stay (R209). -/
theorem State.trimTo_gen (s : State) (g : Nat) (r : TimingRec) (p q k : Nat) :
    ((s.trimTo g r p q k).gen g).trim = clampI (-100000) 100000 ((((q : Int) - p) * r.rateNum - (k * pulseSpan r : Nat)) * 1000000000 / (k * pulseSpan r : Nat)) ∧
      ((s.trimTo g r p q k).gen g).pulse = (s.gen g).pulse ∧ ((s.trimTo g r p q k).gen g).spurious = (s.gen g).spurious := by
  unfold State.trimTo
  extract_lets x want trim limited
  split
  · have hgen : (if x.atLimit = true then limited else limited.record evSyncAtLimit [p2 g, p1 0]).gen g = limited.gen g := by
      split
      · rfl
      · exact State.gen_of_comp (State.record_comp _ _ _) g
    rw [hgen, State.gen_setGen]
    exact ⟨rfl, rfl, rfl⟩
  · rw [State.gen_setGen]
    exact ⟨rfl, rfl, rfl⟩

theorem State.pulseValid_gen (s : State) (g : Nat) (r : TimingRec) (p q k : Nat) :
    ((s.pulseValid g r p q k).gen g).pulse = some q ∧ ((s.pulseValid g r p q k).gen g).spurious = (s.gen g).spurious ∧
      ((s.pulseValid g r p q k).gen g).trim = clampI (-100000) 100000 ((((q : Int) - p) * r.rateNum - (k * pulseSpan r : Nat)) * 1000000000 / (k * pulseSpan r : Nat)) := by
  unfold State.pulseValid
  extract_lets x again
  obtain ⟨e, he⟩ := ((s.setGen g { x with pulse := some q, pulses := [], jump := x.jump || again }).trimTo g r p q k).reErr_gen g
  obtain ⟨htrim, hpulse, hspurious⟩ := (s.setGen g { x with pulse := some q, pulses := [], jump := x.jump || again }).trimTo_gen g r p q k
  rw [he]
  exact ⟨hpulse.trans (by rw [State.gen_setGen]), hspurious.trans (by rw [State.gen_setGen]), htrim⟩

/-! An edge at the generators. -/

/-- An edge at a sync input, as generator `g` takes it: as a pulse where its record makes it watch that input and that edge (R211). -/
def State.edgeAt (inp : Nat) (e : SyncEdge) (q : Nat) (s : State) (g : Nat) : State :=
  match s.watched g with
  | some r => if r.mode = 1 && r.syncCfg % 2 = inp && bit r.syncCfg 1 != e.rising then s.syncPulse g r q else s
  | none => s

theorem State.edgeAt_keepsGen {j g : Nat} (hj : j ≠ g) (inp : Nat) (e : SyncEdge) (q : Nat) (s : State) : State.KeepsGen j s (s.edgeAt inp e q g) := by
  unfold State.edgeAt
  split
  · exact .ite (State.syncPulse_keepsGen hj s _ q) (.refl j s)
  · exact .refl j s

theorem State.edgeAt_pulse {inp : Nat} {e : SyncEdge} {s : State} {g : Nat} {r : TimingRec} (hr : s.watched g = some r) (hmode : r.mode = 1) (hinp : r.syncCfg % 2 = inp)
    (hedge : bit r.syncCfg 1 ≠ e.rising) (q : Nat) : s.edgeAt inp e q g = s.syncPulse g r q := by
  unfold State.edgeAt
  simp [hr, hmode, hinp, hedge]

/-- Of all that an edge does, a generator sees the pulse at itself alone. -/
theorem State.edges_gen {g : Nat} (hg : g < 4) (inp : Nat) (e : SyncEdge) (q : Nat) (s : State) :
    ∃ a, State.KeepsGen g s a ∧ ((List.range 4).foldl (State.edgeAt inp e q) s).gen g = (a.edgeAt inp e q g).gen g := by
  obtain ⟨before, after, hl⟩ := List.append_of_mem (List.mem_range.mpr hg)
  have hnodup : (before ++ g :: after).Nodup := hl ▸ List.nodup_range
  obtain ⟨-, hafter, hbefore⟩ := List.nodup_append.mp hnodup
  have hkeeps : ∀ l : List Nat, (∀ k ∈ l, g ≠ k) → ∀ a, State.KeepsGen g a (l.foldl (State.edgeAt inp e q) a) :=
    fun l hne a => .fold l (fun a k hk => a.edgeAt_keepsGen (hne k hk) inp e q) a
  refine ⟨before.foldl (State.edgeAt inp e q) s, hkeeps before (fun k hk => (hbefore k hk g (.head after)).symm) s, ?_⟩
  rw [hl, List.foldl_append, List.foldl_cons]
  exact (hkeeps after (fun k hk h => (List.nodup_cons.mp hafter).1 (h ▸ hk)) _).gen

/-! SYNC_IN_EDGE (R211, R546). -/

/-- Time moves TB2's count and nothing else of it. -/
theorem State.tick_base2 (s : State) (t : Time) : ((s.tick t).base 2).cfg = (s.base 2).cfg ∧ ((s.tick t).base 2).state = (s.base 2).state := by
  have hset : ∀ (m : Map Base) (b : Base) (c : Prop) [Decidable c], Map.get { cfg := { base := 2 } } (if c then Map.set m 3 b else m) 2 = Map.get { cfg := { base := 2 } } m 2 := by
    intro m b c _
    split
    · exact Map.get_set_other _ _ _ (by decide)
    · rfl
  have hbase : (s.tick t).base 2 = (s.base 2).run (t - s.time.clk) := by
    refine (hset _ _ _).trans ((Map.get_set_other _ _ _ (by decide)).trans ?_)
    exact Map.get_set_same _ _ _ _
  rw [hbase]
  exact ⟨rfl, rfl⟩

/-- A pulse narrower than 100 ns does not count. -/
theorem syncInEdge_narrow {t : Time} {inp : Nat} {e : SyncEdge} {s : State} (hinp : inp < 2) (hwidth : e.width < 100) : Leaves (.syncInEdge t inp e) s (s.tick t) := by
  refine leaves_tick ?_
  show execSyncInEdge t inp e s = _
  rw [execSyncInEdge, runIf_next (by simpa using hinp), if_pos (by simp [hwidth])]

section
variable {t : Time} {inp g : Nat} {e : SyncEdge} {r : TimingRec} {s : State}

/-- An edge that counts and is none of TB2's goes to the generators, stamped with device time. -/
theorem exec_syncInEdge (hinp : inp < 2) (hwidth : 100 ≤ e.width) (herror : e.error = 0) (hon : (s.tick t).domOn 3 = true)
    (htb2 : e.rising = true → (s.base 2).cfg.source ≠ 2 + inp ∨ (s.base 2).state = .disabled) :
    exec (.syncInEdge t inp e) s = .next (settle (s.tick t) ((List.range 4).foldl (State.edgeAt inp e (s.tick t).now) (s.tick t))) := by
  have hcounts : ¬ (decide (e.width < 100) || !(s.tick t).domOn 3) = true := by simp [hon, Nat.not_lt.mpr hwidth]
  have hother : ¬ (e.rising && ((s.tick t).base 2).cfg.source == 2 + inp && ((s.tick t).base 2).state != .disabled) = true := by
    obtain ⟨hcfg, hstate⟩ := s.tick_base2 t
    rw [hcfg, hstate]
    intro htaken
    simp only [Bool.and_eq_true, beq_iff_eq, bne_iff_ne] at htaken
    obtain ⟨⟨hrise, hsource⟩, henabled⟩ := htaken
    exact (htb2 hrise).elim (fun hne => hne hsource) henabled
  have hstamp : (((s.tick t).now : Int) + clampI (-2) 2 e.error).toNat = (s.tick t).now := by
    rw [herror]
    exact Int.toNat_natCast _
  show execSyncInEdge t inp e s = _
  rw [execSyncInEdge, runIf_next (by simpa using hinp), if_neg hcounts]
  dsimp only
  rw [if_neg hother, hstamp]
  rfl

/-- A generator that watches the input and the edge takes the pulse, and that is all that it sees of the edge. -/
theorem syncInEdge_completes {P : State → Prop} (hinp : inp < 2) (hg : g < 4) (hwidth : 100 ≤ e.width) (herror : e.error = 0) (hon : (s.tick t).domOn 3 = true) (hr : (s.tick t).watched g = some r)
    (hmode : r.mode = 1) (hcfg : r.syncCfg % 2 = inp) (hedge : bit r.syncCfg 1 ≠ e.rising) (htb2 : e.rising = true → (s.base 2).cfg.source ≠ 2 + inp ∨ (s.base 2).state = .disabled)
    (hP : ∀ a u : State, a.gen g = s.gen g → u.gen g = (a.syncPulse g r (s.tick t).now).gen g → P u) : Completes (.syncInEdge t inp e) s P := by
  obtain ⟨a, hkeeps, hgen⟩ := State.edges_gen hg inp e (s.tick t).now (s.tick t)
  refine completes_comp (exec_syncInEdge hinp hwidth herror hon htb2) fun u hu => hP a u hkeeps.gen ?_
  rw [State.gen_of_comp hu, hgen, State.edgeAt_pulse ((State.watched_of_heads hkeeps.heads g).trans hr) hmode hcfg hedge]

end

/-! SYNC_PULSE_MISSED and SYNC_TRIM_RELEASE (R209, R211). -/

/-- A generator that has lost its reference: no valid pulse is known, and a lock that only a jump brought about is not reported. -/
def Gen.unreferenced (x : Gen) : Gen := { x.blank with lockNext := x.lockNext && x.state != .hold }

section
variable {t : Time} {g p : Nat} {r : TimingRec} {s : State} (hg : g < 4) (hr : (s.tick t).watched g = some r) (hmode : r.mode = 1) (hpulse : (s.gen g).pulse = some p)
include hg hr hmode hpulse

/-- The row's effect, with its condition still to be decided. -/
theorem exec_syncPulseMissed : exec (.syncPulseMissed t g) s = .next (settle (s.tick t) (
    if 100 * pulseSpan r * 3 + pulseSpan r < 100 * ((s.tick t).now - p) * r.rateNum then
      if (s.gen g).state = .locked then (((s.tick t).setGen g (s.gen g).unreferenced).reErr g).genTo g .hold
      else ((s.tick t).setGen g (s.gen g).unreferenced).reErr g
    else s.tick t)) := by
  show execSyncPulseMissed t g s = _
  rw [execSyncPulseMissed, runIf_next (by simpa using hg)]
  simp only [State.tick_gen, hr, hpulse, hmode, decide_true, Bool.true_and, decide_eq_true_eq]
  rfl

/-- Three missed pulses lose the reference, and lock with it. -/
theorem syncPulseMissed_loses (hmissed : 100 * pulseSpan r * 3 + pulseSpan r < 100 * ((s.tick t).now - p) * r.rateNum) : Completes (.syncPulseMissed t g) s fun u =>
    (u.gen g).pulse = none ∧ (u.gen g).pulses = [] ∧ (u.gen g).state = (if (s.gen g).state = .locked then .hold else (s.gen g).state) ∧ ∀ k, k ≠ g → u.gen k = s.gen k := by
  have hi := exec_syncPulseMissed hg hr hmode hpulse
  rw [if_pos hmissed] at hi
  refine completes_comp hi fun u hu => ?_
  generalize hlost : ((s.tick t).setGen g (s.gen g).unreferenced).reErr g = lost at hu
  obtain ⟨e, he⟩ := ((s.tick t).setGen g (s.gen g).unreferenced).reErr_gen g
  rw [hlost, State.gen_setGen] at he
  have hothers : ∀ k, k ≠ g → State.KeepsGen k (s.tick t) lost := fun k hk =>
    hlost ▸ (State.setGen_keepsGen hk (s.tick t) (s.gen g).unreferenced).trans (State.reErr_keepsGen hk _)
  by_cases hlock : (s.gen g).state = .locked
  · rw [if_pos hlock] at hu
    have hstate : (lost.gen g).state ≠ .hold := by
      rw [he]
      show (s.gen g).state ≠ .hold
      rw [hlock]
      decide
    rw [State.gen_of_comp hu, State.genTo_gen hstate, he, if_pos hlock]
    exact ⟨rfl, rfl, rfl, fun k hk => (State.gen_of_comp hu k).trans ((hothers k hk).trans (State.genTo_keepsGen hk lost _)).gen⟩
  · rw [if_neg hlock] at hu
    rw [State.gen_of_comp hu, he, if_neg hlock]
    exact ⟨rfl, rfl, rfl, fun k hk => (State.gen_of_comp hu k).trans (hothers k hk).gen⟩

theorem syncPulseMissed_early (hearly : 100 * ((s.tick t).now - p) * r.rateNum ≤ 100 * pulseSpan r * 3 + pulseSpan r) : Leaves (.syncPulseMissed t g) s (s.tick t) := by
  have hi := exec_syncPulseMissed hg hr hmode hpulse
  rw [if_neg (Nat.not_lt.mpr hearly)] at hi
  exact leaves_tick hi

end

/-- AT_LIMIT ends after 1 000 ms inside the bound. -/
theorem syncTrimRelease_leaves {t t0 : Time} {g : Nat} {s : State} (hg : g < 4) (hinside : (s.gen g).insideSince = some t0) (hlimit : (s.gen g).atLimit = true)
    (hlong : t0 + 1000000000 ≤ (s.tick t).clk) : Leaves (.syncTrimRelease t g) s ((s.tick t).setGen g { s.gen g with atLimit := false, insideSince := none }) := by
  have hpast : decide (t0 + 1000 * ms ≤ (s.tick t).clk) = true := decide_eq_true hlong
  have hi : exec (.syncTrimRelease t g) s =
      .next (settle (s.tick t) (((s.tick t).setGen g { s.gen g with atLimit := false, insideSince := none }).record evSyncAtLimit [p2 g, p1 1])) := by
    show execSyncTrimRelease t g s = _
    rw [execSyncTrimRelease, runIf_next (by simpa using hg)]
    simp only [State.tick_gen, hinside, hlimit, hpast, Bool.and_self, if_true]
  exact leaves_settled hi (State.record_same _ _ _).block

/-! SYNTHESISER_LOCK_CHANGE (R213). -/

theorem synthesiserLockChange_relocks {t : Time} {h : Nat} {s : State} (hh : h < 16) : Leaves (.synthesiserLockChange t h true) s ((s.tick t).setHead h { s.head h with synth := true }) := by
  have hi : exec (.synthesiserLockChange t h true) s = .next (settle (s.tick t) ((s.tick t).setHead h { s.head h with synth := true })) := by
    show execSynthesiserLockChange t h true s = _
    rw [execSynthesiserLockChange, runIf_next (by simpa using hh)]
    simp only [Bool.and_true, Bool.true_or, if_true]
    split <;> rfl
  exact leaves_settled hi (.refl _)

/-- A follower of generator `g` that goes on with the generator's last span, from the frame in progress or from the one that is fixed. -/
def Head.unaligned (x : Head) (g : Gen) : Head :=
  { x with own := some (if g.cur = some g.tf then x.tf + g.span else g.tf), span := g.span, lp := if x.scanning then x.lp else g.lp, rejoin := false, realigned := none, due := false }

theorem State.loseAlignment_eq {s : State} {h : Nat} (r : TimingRec) (hown : (s.head h).own = none) : s.loseAlignment h r =
    (s.setHead h ((s.head h).unaligned (s.gen r.sg))).record evSyncStateChange [p2 r.sg, p2 h, p1 (s.gen r.sg).state.code, p1 3, p8s (s.head h).e] := by
  have haligned : ¬ (s.head h).own.isSome = true := by simp [hown]
  unfold State.loseAlignment
  dsimp only
  rw [if_neg haligned]
  rfl

theorem State.headOn_setHead_same (s : State) (h : Nat) {x : Head} (hx : x.timing = (s.head h).timing) : (s.setHead h x).headOn h = s.headOn h := by
  unfold State.headOn
  rw [State.head_setHead, hx]
  rfl

theorem synthesiserLockChange_loses {t : Time} {h : Nat} {r : TimingRec} {s : State} (hh : h < 16) (hr : (s.head h).timing = some r) (hsynth : (s.head h).synth = true) (hmode : r.mode = 3)
    (hon : (s.tick t).headOn h = true) (hrun : (s.head h).stopped = false) (hown : (s.head h).own = none) :
    Leaves (.synthesiserLockChange t h false) s ((s.tick t).setHead h { s.head h with
      synth := false, own := some (if (s.gen r.sg).cur = some (s.gen r.sg).tf then (s.head h).tf + (s.gen r.sg).span else (s.gen r.sg).tf), span := (s.gen r.sg).span
      lp := if (s.head h).scanning then (s.head h).lp else (s.gen r.sg).lp, rejoin := false, realigned := none, due := false }) := by
  generalize hx : { s.head h with timing := some r, synth := false, rejoin := false } = x
  have htiming : x.timing = ((s.tick t).head h).timing := by rw [← hx, State.tick_head, hr]
  have hcond : ¬ (false || !(s.head h).synth || r.mode != 3 || !((s.tick t).setHead h x).headOn h || (s.head h).stopped) = true := by
    rw [State.headOn_setHead_same _ _ htiming, hon, hsynth, hmode, hrun]
    decide
  have hi : exec (.synthesiserLockChange t h false) s = .next (settle (s.tick t) (((s.tick t).setHead h x).loseAlignment h r)) := by
    show execSynthesiserLockChange t h false s = _
    rw [execSynthesiserLockChange, runIf_next (by simpa using hh)]
    simp only [State.tick_head, Bool.and_false, hr]
    subst hx
    rw [if_neg hcond]
  have hown' : (((s.tick t).setHead h x).head h).own = none := by rw [State.head_setHead, ← hx]; exact hown
  rw [State.loseAlignment_eq r hown', State.head_setHead, State.setHead_setHead, ← hx, ← hr] at hi
  exact leaves_settled hi (State.record_same _ _ _).block

/-- Settles O54: of an edge each generator sees the pulse at itself alone, and each other row sets its own generator or head. -/
theorem syncEventsComplete : Obligations.SyncEventsComplete := by
  unfold Obligations.SyncEventsComplete
  refine ⟨fun t inp e s hinp hwidth => syncInEdge_narrow hinp hwidth, ?edge, ?missed, fun t t0 g s hg hinside hlimit hlong => syncTrimRelease_leaves hg hinside hlimit hlong,
    fun t h s hh => synthesiserLockChange_relocks hh, fun t h r s hh hr hsynth hmode hon hrun hown => synthesiserLockChange_loses hh hr hsynth hmode hon hrun hown⟩
  case edge =>
    intro t inp g e r s hinp hg hwidth herror hon hr hmode hcfg hedge htb2
    refine ⟨fun hpulse hrun => ?begins, fun p hpulse hnear => ?valid, fun p hpulse hfar => ?spurious⟩
    all_goals refine syncInEdge_completes hinp hg hwidth herror hon hr hmode hcfg hedge htb2 fun a u ha hu => ?_
    case begins =>
      rw [← ha] at hpulse hrun ⊢
      rw [hu, State.syncPulse_begins hpulse hrun, State.gen_setGen]
    case valid =>
      rw [← ha] at hpulse ⊢
      rw [hu, State.syncPulse_valid hpulse (List.find?_cons_of_pos hnear)]
      obtain ⟨hp, hs, htrim⟩ := a.pulseValid_gen g r p (s.tick t).now 1
      rw [Nat.one_mul] at htrim
      exact ⟨hp, hs, htrim⟩
    case spurious =>
      rw [← ha] at hpulse ⊢
      have hnone : [1, 2, 3].find? (fun k => nearPulse r p (s.tick t).now k 10000) = none := by
        rw [List.find?_eq_none]
        intro k hk
        have hrange : 1 ≤ k ∧ k ≤ 3 := by simp at hk; omega
        rw [hfar k hrange.1 hrange.2]
        exact Bool.false_ne_true
      rw [hu, State.syncPulse_spurious hpulse hnone, State.gen_setGen]
  case missed =>
    intro t g p r s hg hr hmode hpulse
    exact ⟨syncPulseMissed_loses hg hr hmode hpulse, syncPulseMissed_early hg hr hmode hpulse⟩

end Sys2Proof.Machine
end

section
/-! PROOF of the claim on links (spec/07_heads.md, R197, R203–R205): the record that each event leaves its head, where no format change waits for it. -/

namespace Sys2Proof.Machine

/-! What training needs and does (R203). -/

/-- The record of a head as training starts at instant `clk`. -/
def Head.inTraining (x : Head) (clk : Time) : Head :=
  { x with d3 := false, training := some clk, trainings := sat 2 (x.trainings + 1), link := none, fallback := false, sending := false, failed := none }

theorem State.train_head (s : State) (h : Nat) : (s.train h).head h = (s.head h).inTraining s.clk := State.head_setHead _ _ _

/-- Whether a head trains is told by its record, the format changes, the domains and the time. -/
theorem State.trains_eq {a b : State} {h : Nat} (ht : (b.head h).timing = (a.head h).timing) (hf : b.comp.formats = a.comp.formats) (hp : b.power = a.power) (hc : b.time = a.time) :
    b.trains h = a.trains h := by
  simp only [State.trains, State.trainingRec, State.domOn, State.dom, State.pastFail, ht, hf, hp, hc]

/-- A head that is set to another record with the same timing, after which an event is recorded or not. -/
theorem State.trains_of_setHead {s v : State} {h : Nat} {x : Head} (hv : State.SameUnits (s.setHead h x) v) (hx : x.timing = (s.head h).timing) : v.trains h = s.trains h := by
  have hhead : (v.head h).timing = (s.head h).timing := by rw [State.head_of_comp hv.comp, State.head_setHead, hx]
  exact State.trains_eq hhead (by rw [hv.comp]; rfl) hv.power hv.time

theorem State.restartFormats_of_none {s : State} (h : s.comp.formats = []) : s.restartFormats = s := by
  unfold State.restartFormats
  rw [h]
  rfl

/-- The end of training matters to format changes alone (R219). -/
theorem State.linkReady_comp {s : State} (hf : s.comp.formats = []) (h : Nat) : (s.linkReady h).comp = s.comp := by
  unfold State.linkReady
  dsimp only
  rw [State.restartFormats_of_none (by simp [hf]), hf, List.map_nil, ← hf]

/-! HPD_CHANGE (R204, R205). -/

/-- The record of a head that has read its sink at device time `now`. -/
def Head.plugged (x : Head) (sink : SinkInfo) (now : Nat) : Head :=
  { x with hpd := true, sink := some (sink.maxLanes, sink.maxRate, sink.ssc), edid := sink.edid.take 512, edidAt := now }

/-- The record of a head whose hot-plug detect has gone. -/
def Head.unplugged (x : Head) : Head :=
  { x with hpd := false, link := none, fallback := false, training := none, failed := none, sending := false, linkLosses := sat 2 (x.linkLosses + 1) }

section
variable {t : Time} {h : Nat} {sink : SinkInfo} {s : State} (hh : h < 16) (hon : (s.tick t).domOn (headDomain h) = true)
include hh hon

/-- What assertion does before the head trains or not: it reads the sink, and records an EDID that changed. -/
theorem exec_hpdChange_asserts (hpd : (s.head h).hpd = false) : ∃ told, State.SameUnits ((s.tick t).setHead h ((s.head h).plugged sink (s.tick t).now)) told ∧
    exec (.hpdChange t h true sink) s = .next (settle (s.tick t) (if told.trains h then told.train h else told)) := by
  refine ⟨if sink.edid.take 512 != (s.head h).edid then ((s.tick t).setHead h ((s.head h).plugged sink (s.tick t).now)).record evEdidChange [p2 h]
    else (s.tick t).setHead h ((s.head h).plugged sink (s.tick t).now), .ite (State.record_same _ _ _) (.refl _), ?_⟩
  show execHpdChange t h true sink s = _
  rw [execHpdChange, runIf_next (by simpa using hh)]
  dsimp only
  rw [if_neg (by simp [hpd, hon]), if_pos rfl]
  rfl

theorem hpdChange_asserts (hpd : (s.head h).hpd = false) (htrains : (s.tick t).trains h = true) : Completes (.hpdChange t h true sink) s fun u =>
    u.head h = ((s.head h).plugged sink (s.tick t).now).inTraining (s.tick t).clk := by
  obtain ⟨told, hsame, hi⟩ := exec_hpdChange_asserts (sink := sink) hh hon hpd
  rw [if_pos ((State.trains_of_setHead hsame rfl).trans htrains)] at hi
  refine completes_comp hi fun u hu => ?_
  rw [State.head_of_comp hu, State.train_head, State.head_of_comp hsame.comp, State.head_setHead, State.clk, hsame.time]
  rfl

theorem hpdChange_deasserts (hpd : (s.head h).hpd = true) (hf : s.comp.formats = []) : Completes (.hpdChange t h false sink) s fun u => u.head h = (s.head h).unplugged := by
  have hi : exec (.hpdChange t h false sink) s = .next (settle (s.tick t) ((((s.tick t).setHead h (s.head h).unplugged).record evLinkDown [p2 h]).linkReady h)) := by
    show execHpdChange t h false sink s = _
    rw [execHpdChange, runIf_next (by simpa using hh)]
    dsimp only
    rw [if_neg (by simp [hpd, hon]), if_neg Bool.false_ne_true]
    rfl
  have hf' : (((s.tick t).setHead h (s.head h).unplugged).record evLinkDown [p2 h]).comp.formats = [] := by rw [State.record_comp]; exact hf
  refine completes_comp hi fun u hu => ?_
  rw [State.head_of_comp hu, State.head_of_comp (State.linkReady_comp hf' h), State.head_of_comp (State.record_comp _ _ _), State.head_setHead]

end

/-! IRQ_HPD (R197). -/

theorem irqHpd_keepsLink {t : Time} {h : Nat} {s : State} (hh : h < 16) : Leaves (.irqHpd t h false) s (s.tick t) := by
  refine leaves_tick ?_
  show execIrqHpd t h false s = _
  rw [execIrqHpd, runIf_next (by simpa using hh)]
  rfl

/-- The record of a head whose link was lost while its sink stayed. -/
def Head.unlinked (x : Head) : Head := { x with linkLosses := sat 2 (x.linkLosses + 1) }

theorem irqHpd_losesLink {t : Time} {h : Nat} {s : State} (hh : h < 16) (hpd : (s.head h).hpd = true) (hlink : (s.head h).link.isSome = true) (htrains : (s.tick t).trains h = true) :
    Completes (.irqHpd t h true) s fun u => u.head h = (s.head h).unlinked.inTraining (s.tick t).clk := by
  have hi : exec (.irqHpd t h true) s = .next (settle (s.tick t) ((((s.tick t).setHead h (s.head h).unlinked).record evLinkDown [p2 h]).train h)) := by
    show execIrqHpd t h true s = _
    rw [execIrqHpd, runIf_next (by simpa using hh)]
    dsimp only
    rw [if_pos (by simp [hpd, hlink, htrains])]
    rfl
  refine completes_comp hi fun u hu => ?_
  rw [State.head_of_comp hu, State.train_head, State.head_of_comp (State.record_comp _ _ _), State.head_setHead, State.clk, State.record_time]
  rfl

/-! LINK_TRAINING_DONE and LINK_RETRY_TIMER (R203). -/

/-- The record of a head whose link came up in configuration `c`. -/
def Head.linked (x : Head) (r : TimingRec) (c : Nat × Nat) : Head := { x with training := none, failed := none, link := some c, fallback := c != (r.lanes, r.linkRate) }

/-- The record of a head that found no configuration that works, at instant `clk`. -/
def Head.linkFailed (x : Head) (clk : Time) : Head := { x with training := none, failed := some clk, link := none, fallback := false }

section
variable {t x : Time} {h : Nat} {works : List (Nat × Nat)} {r : TimingRec} {s : State}
  (hh : h < 16) (hx : (s.head h).training = some x) (hr : s.trainingRec h = some r) (hf : s.comp.formats = [])

section
include hh hx hr

/-- What an attempt that succeeds does before format changes go on: the link is up, and what came up is recorded. -/
theorem exec_linkTrainingDone_trained {c : Nat × Nat} (hc : (trainingOrder r).find? works.contains = some c) :
    ∃ told, State.SameUnits ((s.tick t).setHead h ((s.head h).linked r c)) told ∧ exec (.linkTrainingDone t h works) s = .next (settle (s.tick t) (told.linkReady h)) := by
  have hr' : (s.tick t).trainingRec h = some r := hr
  refine ⟨if c != (r.lanes, r.linkRate) then (((s.tick t).setHead h ((s.head h).linked r c)).record evLinkUp [p2 h]).record evLinkFallback [p2 h]
    else ((s.tick t).setHead h ((s.head h).linked r c)).record evLinkUp [p2 h], .ite ((State.record_same _ _ _).trans (State.record_same _ _ _)) (State.record_same _ _ _), ?_⟩
  show execLinkTrainingDone t h works s = _
  rw [execLinkTrainingDone, runIf_next (by simpa using hh)]
  simp only [State.tick_head, hx, hr', hc]
  rfl

theorem exec_linkTrainingDone_fails (hc : (trainingOrder r).find? works.contains = none) :
    exec (.linkTrainingDone t h works) s = .next (settle (s.tick t) (((s.tick t).setHead h ((s.head h).linkFailed (s.tick t).clk)).linkReady h)) := by
  have hr' : (s.tick t).trainingRec h = some r := hr
  show execLinkTrainingDone t h works s = _
  rw [execLinkTrainingDone, runIf_next (by simpa using hh)]
  simp only [State.tick_head, hx, hr', hc]
  rfl

end

include hh hx hr hf

theorem linkTrainingDone_trained {c : Nat × Nat} (hc : (trainingOrder r).find? works.contains = some c) : Completes (.linkTrainingDone t h works) s fun u =>
    u.head h = (s.head h).linked r c := by
  obtain ⟨told, hsame, hi⟩ := exec_linkTrainingDone_trained (t := t) hh hx hr hc
  have hf' : told.comp.formats = [] := by rw [hsame.comp]; exact hf
  refine completes_comp hi fun u hu => ?_
  rw [State.head_of_comp hu, State.head_of_comp (State.linkReady_comp hf' h), State.head_of_comp hsame.comp, State.head_setHead]

theorem linkTrainingDone_fails (hc : (trainingOrder r).find? works.contains = none) : Completes (.linkTrainingDone t h works) s fun u =>
    u.head h = (s.head h).linkFailed (s.tick t).clk := by
  have hf' : ((s.tick t).setHead h ((s.head h).linkFailed (s.tick t).clk)).comp.formats = [] := hf
  refine completes_comp (exec_linkTrainingDone_fails hh hx hr hc) fun u hu => ?_
  rw [State.head_of_comp hu, State.head_of_comp (State.linkReady_comp hf' h), State.head_setHead]

end

theorem linkRetryTimer_trains {t t0 : Time} {h : Nat} {s : State} (hh : h < 16) (hfailed : (s.head h).failed = some t0) (htrains : (s.tick t).trains h = true) (hpd : (s.head h).hpd = true)
    (hlong : t0 + 1000000000 ≤ (s.tick t).clk) : Completes (.linkRetryTimer t h) s fun u => u.head h = (s.head h).inTraining (s.tick t).clk := by
  have hpast : decide (t0 + 1000 * ms ≤ (s.tick t).clk) = true := decide_eq_true hlong
  have hi : exec (.linkRetryTimer t h) s = .next (settle (s.tick t) ((s.tick t).train h)) := by
    show execLinkRetryTimer t h s = _
    rw [execLinkRetryTimer, runIf_next (by simpa using hh)]
    simp only [State.tick_head, hfailed, htrains, hpd, hpast, Bool.and_self, if_true]
  refine completes_comp hi fun u hu => ?_
  rw [State.head_of_comp hu, State.train_head, State.tick_head]

/-- Settles O55: each event sets its head's record, and training starts as `Head.inTraining` says wherever it starts. -/
theorem linkEventsComplete : Obligations.LinkEventsComplete := by
  unfold Obligations.LinkEventsComplete
  exact ⟨fun t h sink s hh hon => ⟨hpdChange_asserts hh hon, hpdChange_deasserts hh hon⟩, fun t h s hh => irqHpd_keepsLink hh, fun t h s hh hpd hlink htrains => irqHpd_losesLink hh hpd hlink htrains,
    fun t x h works r s hh hx hr hf => ⟨fun c hc => linkTrainingDone_trained hh hx hr hf hc, linkTrainingDone_fails hh hx hr hf⟩,
    fun t t0 h s hh hfailed htrains hpd hlong => linkRetryTimer_trains hh hfailed htrains hpd hlong⟩

end Sys2Proof.Machine
end

section
/-! PROOF of the claim on the state after reset (R207, R303, R377). -/

namespace Sys2Proof.Machine

/-- Settles O60: after reset no table lists a unit, so every unit reads as its reset record, and every other field named has its reset value. -/
theorem resetStateHolds : Obligations.ResetStateHolds := by
  unfold Obligations.ResetStateHolds
  have hmailboxes : ∀ mb, (State.reset.mbx mb).rsp = none ∧ (State.reset.mbx mb).job = none := fun _ => ⟨rfl, rfl⟩
  have hcontexts : ∀ c, (State.reset.ctx c).state = .closed ∧ (State.reset.ctx c).decoder = 255 := fun _ => ⟨rfl, rfl⟩
  have hchannels : ∀ c, (State.reset.enc? c).state = .closed := fun _ => rfl
  have hwindows : ∀ w, (State.reset.win w).active = 0 := fun _ => rfl
  have hheads : ∀ h, (State.reset.head h).nextFrame = 0 := fun _ => rfl
  exact ⟨rfl, rfl, rfl, hmailboxes, rfl, rfl, rfl, rfl, hcontexts, hchannels, hwindows, hheads, rfl⟩

end Sys2Proof.Machine
end

section
/-! PROOF of the claim on expiries and the entropy source (spec/08_shutter_lantern.md R233, spec/11_izent.md R332, spec/16_protection.md R448, R453, R458): what each ends, and that nothing else changes. -/

namespace Sys2Proof.Machine

/-! SAFETY_ARM_EXPIRY (R233). -/

theorem safetyArmExpiry_discards {t : Time} {a : Arm} {s : State} (harm : s.comp.arm = some a) (hpast : a.expiry < (s.tick t).now) (hheld : (s.tick t).applyHeld a = false) :
    Leaves (.safetyArmExpiry t) s { s.tick t with comp := { s.comp with arm := none } } := by
  have hi : exec (.safetyArmExpiry t) s = .next (settle (s.tick t) { s.tick t with comp := { s.comp with arm := none } }) := by
    show execSafetyArmExpiry t s = _
    rw [execSafetyArmExpiry, run_next]
    simp only [State.tick_comp, harm]
    rw [if_pos (by simp [hpast, hheld])]
  exact leaves_settled hi (.refl _)

/-! DEBUG_UNLOCK_EXPIRY (R448). -/

/-- Debug that is unlocked locks, which is recorded. -/
theorem State.lockDebug_same {s : State} {x : Time} (h : s.prot.unlockedAt = some x) : State.SameUnits { s with prot := { s.prot with unlockedAt := none } } s.lockDebug := by
  rw [State.lockDebug, if_pos (by simp [h])]
  exact State.record_same _ _ _

theorem debugUnlockExpiry_locks {t x : Time} {s : State} (hx : s.prot.unlockedAt = some x) (hpast : x + 3600000000000 ≤ (s.tick t).clk) :
    Leaves (.debugUnlockExpiry t) s { s.tick t with prot := { s.prot with unlockedAt := none } } := by
  have hi : exec (.debugUnlockExpiry t) s = .next (settle (s.tick t) (s.tick t).lockDebug) := by
    show execDebugUnlockExpiry t s = _
    rw [execDebugUnlockExpiry, run_next]
    simp only [State.tick_prot, hx]
    rw [if_pos (show x + 3600 * sec ≤ (s.tick t).clk from hpast)]
  exact leaves_settled hi (State.lockDebug_same (s := s.tick t) hx).block

/-! AUTH_BACKOFF_END (R458): the authentication records by subject. -/

theorem State.authOf_who (s : State) (who : Nat) : (s.authOf who).who = who := by
  unfold State.authOf
  cases h : s.prot.auth.find? fun a => a.who == who with
  | none => rfl
  | some a => simpa using List.find?_some h

theorem State.authOf_setAuth_same (s : State) (a : AuthRec) : (s.setAuth a).authOf a.who = a := by
  simp [State.authOf, State.setAuth]

theorem State.authOf_setAuth_other (s : State) {a : AuthRec} {w : Nat} (h : w ≠ a.who) : (s.setAuth a).authOf w = s.authOf w := by
  have hsubject : (fun b : AuthRec => decide ((b.who != a.who) = true ∧ (b.who == w) = true)) = fun b => b.who == w := by
    funext b
    by_cases hb : b.who = w
    · simp [hb, h]
    · simp [hb]
  have hne : (a.who == w) = false := by simpa using h.symm
  simp only [State.authOf, State.setAuth, List.find?_cons, hne, List.find?_filter, hsubject]

theorem State.authOf_of_prot {a b : State} (h : b.prot = a.prot) (who : Nat) : b.authOf who = a.authOf who := by simp only [State.authOf, h]

theorem authBackoffEnd_unblocks {t x : Time} {who : Nat} {s : State} (hx : (s.authOf who).blockedUntil = some x) (hpast : x ≤ (s.tick t).clk) :
    Completes (.authBackoffEnd t who) s fun u => (u.authOf who).blockedUntil = none ∧ ∀ w, w ≠ who → u.authOf w = s.authOf w := by
  have hwho : (s.authOf who).who = who := s.authOf_who who
  have hi : exec (.authBackoffEnd t who) s = .next (settle (s.tick t) ((s.tick t).setAuth { s.authOf who with blockedUntil := none })) := by
    show execAuthBackoffEnd t who s = _
    have hx' : ((s.tick t).authOf who).blockedUntil = some x := hx
    rw [execAuthBackoffEnd, run_next]
    simp only [hx']
    rw [if_pos hpast]
    rfl
  refine ⟨_, hi, ?_, fun w hw => ?_⟩
  · rw [State.authOf_of_prot (settle_prot _ _)]
    have hsame := (s.tick t).authOf_setAuth_same { s.authOf who with blockedUntil := none }
    rw [show ({ s.authOf who with blockedUntil := none } : AuthRec).who = who from hwho] at hsame
    rw [hsame]
  · rw [State.authOf_of_prot (settle_prot _ _), State.authOf_setAuth_other _ (by simpa [hwho] using hw)]
    rfl

/-! HOLD_TIMEOUT (R332). -/

/-- Settling a step keeps the responses that stand (R307). -/
theorem responds_settle {v : State} {k : CmdKind} {mb status : Nat} {m : Msg} {p : Bytes} (a : State) (h : (v.mbx mb).rsp = some (rspOf (code k) m status p)) : (settle a v).responds k mb m status p :=
  (settle_rsp a v mb).trans h

theorem holdTimeout_answers {t : Time} {mb : Nat} {j : Job} {s : State} (hmb : mb < 24) (hheard : mb < 16 ∨ (s.mbx mb).conn.isSome = true) (hjob : (s.mbx mb).job = some j) (hheld : j.cause.isSome = true)
    (hlong : j.since + 10000000000 ≤ (s.tick t).clk) : Completes (.holdTimeout t mb) s fun u =>
      u.responds j.kind mb j.msg stTimeout (({ status := stTimeout, check := 0 } : Err).bytes) ∧ State.SameBlock (s.tick t) u := by
  have hjob' : ((s.tick t).mbx mb).job = some j := hjob
  have hpast : (s.tick t).heldLong j = true := decide_eq_true hlong
  have hi : exec (.holdTimeout t mb) s = .next (settle (s.tick t) ((s.tick t).respond mb (code j.kind) j.msg stTimeout (({ status := stTimeout, check := 0 } : Err).bytes))) := by
    show execHoldTimeout t mb s = _
    rw [execHoldTimeout, runIf_next (by simp; omega)]
    simp only [hjob', hheld, hpast, State.endHeld, Bool.and_self, if_true]
    rfl
  have hsame := respond_same (s.tick t) mb (code j.kind) j.msg stTimeout (({ status := stTimeout, check := 0 } : Err).bytes) hmb hheard
  have hstored : State.SameBlock (s.tick t) ((s.tick t).setMbx mb { (s.tick t).mbx mb with rsp := some (rspOf (code j.kind) j.msg stTimeout (({ status := stTimeout, check := 0 } : Err).bytes)) }) := by
    constructor <;> rfl
  exact ⟨_, hi, responds_settle _ (respond_rsp _ _ _ _ _ _ hmb hheard), (hstored.trans hsame.block).trans (settle_block _ _)⟩

/-! ENTROPY_TEST_FAIL and ENTROPY_RETEST (R453). -/

theorem entropyTestFail_fails {t : Time} {s : State} (hok : s.prot.entropyOk = true) : Leaves (.entropyTestFail t) s { s.tick t with prot := { s.prot with entropyOk := false } } := by
  have hi : exec (.entropyTestFail t) s = .next (settle (s.tick t) (({ s.tick t with prot := { s.prot with entropyOk := false } } : State).record evEntropyFail [])) := by
    show execEntropyTestFail t s = _
    rw [execEntropyTestFail, run_next, if_pos (show (s.tick t).prot.entropyOk = true from hok)]
    rfl
  exact leaves_settled hi (State.record_same _ _ _).block

theorem entropyRetest_serves (t : Time) (s : State) : Leaves (.entropyRetest t true) s { s.tick t with prot := { s.prot with entropyOk := true } } := by
  have hi : exec (.entropyRetest t true) s = .next (settle (s.tick t) { s.tick t with prot := { s.prot with entropyOk := true } }) := rfl
  exact leaves_settled hi (.refl _)

/-- Settles O35: each expiry is one update of the state and, but for AUTH_BACKOFF_END and HOLD_TIMEOUT, at most a record. -/
theorem expiriesComplete : Obligations.ExpiriesComplete := by
  unfold Obligations.ExpiriesComplete
  exact ⟨fun t a s => safetyArmExpiry_discards, fun t x s => debugUnlockExpiry_locks, fun t x who s => authBackoffEnd_unblocks, fun t mb j s => holdTimeout_answers,
    fun t s => entropyTestFail_fails, entropyRetest_serves⟩

end Sys2Proof.Machine
end

section
/-! PROOF of the claim on Lantern's events (spec/08_shutter_lantern.md, R235, R241, R243, R244, R246, R247): a comparison leaves one finding, and concluding the frame of a head that has a surface to itself judges that finding alone. -/

namespace Sys2Proof.Machine

/-! Windows of a state, and what Lantern's release of pictures leaves alone. -/

theorem State.win_setWin_other (s : State) {w v : Nat} (x : Win) (h : v ≠ w) : (s.setWin w x).win v = s.win v := Map.get_set_other _ _ _ h

theorem State.win_of_comp {a b : State} (h : b.comp = a.comp) (w : Nat) : b.win w = a.win w := by simp only [State.win, h]

@[simp] theorem bit_setBit_true (x i : Nat) : bit (setBit x i true) i = true := by
  unfold setBit
  split
  · assumption
  · rename_i h
    have hclear : x / 2 ^ i % 2 = 0 := by
      have : ¬ x / 2 ^ i % 2 = 1 := by simpa [bit] using h
      omega
    have hset : (x / 2 ^ i + 1) % 2 = 1 := by omega
    simp only [if_true, bit, Nat.add_div_right x (Nat.two_pow_pos i), hset, beq_self_eq_true]

/-- The marks of held buffers stand in the streams alone. -/
theorem State.setHolds_marks (s : State) (hs : List Hold) : (s.setHolds hs).comp = { s.comp with holds := hs } ∧ (s.setHolds hs).health = s.health := by
  unfold State.setHolds
  exact List.foldlRecOn (motive := fun v : State => v.comp = { s.comp with holds := hs } ∧ v.health = s.health) _ _ ⟨rfl, rfl⟩ fun v hv c _ => by
    split
    · exact hv
    · exact hv

theorem State.lanternReleases_health (s : State) (h n : Nat) : (s.lanternReleases h n).health = s.health := (s.setHolds_marks _).2

theorem State.lanternReleases_head (s : State) (h n k : Nat) : (s.lanternReleases h n).head k = s.head k := by
  simp only [State.lanternReleases, State.head, (s.setHolds_marks _).1]

theorem State.lanternReleases_win (s : State) (h n w : Nat) : (s.lanternReleases h n).win w = s.win w := by
  simp only [State.lanternReleases, State.win, (s.setHolds_marks _).1]

/-- Of the pictures that Lantern reads, those of later frames stay held. -/
theorem State.lanternReleases_holds {s : State} {h n : Nat} {e : Hold} (he : e ∈ (s.lanternReleases h n).comp.holds) (hsafe : e.safety = true) (hh : e.head = h) : n < e.frame := by
  rw [State.lanternReleases, (s.setHolds_marks _).1] at he
  simpa [hsafe, hh] using (List.mem_filter.mp he).2

/-! Concluding one window (R243, R247). -/

/-- What is done to window `w` alone: its record, and nothing of the heads and the shortfall conditions. -/
structure State.SetsWindow (w : Nat) (a b : State) : Prop where
  heads : b.comp.heads = a.comp.heads
  health : b.health = a.health
  others : ∀ v, v ≠ w → b.win v = a.win v

theorem State.SetsWindow.refl (w : Nat) (a : State) : State.SetsWindow w a a := ⟨rfl, rfl, fun _ _ => rfl⟩

theorem State.setWin_setsWindow (s : State) (w : Nat) (x : Win) : State.SetsWindow w s (s.setWin w x) := ⟨rfl, rfl, fun _ hv => s.win_setWin_other x hv⟩

section
variable (s : State) (assigns : List Assign) (w h n tile expected observed count kind : Nat)

theorem State.lanternMismatch_win : (s.lanternMismatch assigns w h n tile expected observed count kind).win w =
    { s.win w with mismatch := true, diagnose := some ((assigns.filter fun a => a.window == w).flatMap Assign.scalers) } := by
  rw [State.lanternMismatch, State.win_of_comp (State.record_comp _ _ _), State.win_setWin]

theorem State.lanternMismatch_setsWindow : State.SetsWindow w s (s.lanternMismatch assigns w h n tile expected observed count kind) := by
  refine ⟨?_, ?_, fun v hv => ?_⟩
  · rw [State.lanternMismatch, State.record_comp]; rfl
  · rw [State.lanternMismatch, State.record_health]; rfl
  · rw [State.lanternMismatch, State.win_of_comp (State.record_comp _ _ _), State.win_setWin_other _ _ hv]

end

theorem State.concludeWindow_setsWindow (s : State) (fs : List Finding) (d : WindowDesc) : State.SetsWindow d.window s (s.concludeWindow fs d) := by
  unfold State.concludeWindow
  dsimp only
  split
  · exact State.lanternMismatch_setsWindow ..
  · split
    · exact State.lanternMismatch_setsWindow ..
    · exact State.lanternMismatch_setsWindow ..
    · split
      · exact s.setWin_setsWindow _ _
      · exact .refl _ s

/-- The finding is about the window. -/
def Finding.meets (f : Finding) (d : WindowDesc) : Bool := f.windows.any fun e => e.1.window == d.window

/-- The finding saw the window's content. -/
def Finding.sawContent (f : Finding) (d : WindowDesc) : Bool := f.windows.any fun e => e.1.window == d.window && e.2

theorem insertBy_ne_nil {α : Type} (key : α → Nat) (x : α) (l : List α) : insertBy key x l ≠ [] := by
  cases l with
  | nil => exact List.cons_ne_nil _ _
  | cons y ys =>
    rw [insertBy]
    split <;> exact List.cons_ne_nil _ _

theorem sortBy_ne_nil {α : Type} (key : α → Nat) {l : List α} (h : l ≠ []) : sortBy key l ≠ [] := by
  rw [sortBy, ← List.dropLast_concat_getLast h, List.foldl_append]
  exact insertBy_ne_nil _ _ _

section
variable {s : State} {f : Finding} {d : WindowDesc} (hmeets : f.meets d = true)
include hmeets

theorem Finding.filter_meets : [f].filter (fun f => f.windows.any fun e => e.1.window == d.window) = [f] := by
  simpa [Finding.meets] using hmeets

/-- A finding without a difference, not late, proves the content that it saw. -/
theorem State.concludeWindow_clean (hdiffs : f.diffs = []) (hdecision : f.decision = []) (hlate : f.late = false) :
    s.concludeWindow [f] d = if f.sawContent d then s.setWin d.window { s.win d.window with unproven := false } else s := by
  have hof : f.of d = [] := by simp [Finding.of, hdiffs, sortBy]
  rw [State.concludeWindow, Finding.filter_meets hmeets]
  simp only [List.map_cons, List.map_nil, List.find?_cons, List.find?_nil, hof, hlate, hdecision, List.isEmpty_nil, List.contains_nil, List.all_cons, List.all_nil, Bool.and_true, Bool.not_true, Finding.sawContent]
  rfl

/-- A differing tile that meets the window is a mismatch of it, and so is a late comparison. -/
theorem State.concludeWindow_mismatch (hbad : f.of d ≠ [] ∨ f.late = true) :
    ∃ tile expected observed count kind, s.concludeWindow [f] d = s.lanternMismatch f.assigns d.window f.head f.frame tile expected observed count kind := by
  rw [State.concludeWindow, Finding.filter_meets hmeets]
  cases hof : f.of d with
  | cons y l => exact ⟨y.1, y.2.1, y.2.2, _, 0, by simp [hof]; rfl⟩
  | nil =>
    have hlate : f.late = true := hbad.resolve_left (by simp [hof])
    exact ⟨0xFFFF, 0, 0, 0, 2, by simp [hof, hlate]⟩

end

/-! Concluding a frame of one finding (R243). -/

/-- Induction over a list from its end, as a left fold runs through it. -/
theorem concat_induction {α : Type} {motive : List α → Prop} (nil : motive []) (concat : ∀ l x, motive l → motive (l ++ [x])) (l : List α) : motive l := by
  have hreverse : ∀ k : List α, motive k.reverse := by
    intro k
    induction k with
    | nil => exact nil
    | cons x k ih =>
      rw [List.reverse_cons]
      exact concat _ _ ih
  exact List.reverse_reverse l ▸ hreverse l.reverse

/-- The windows of a list, the first of each number. -/
def windowsOnce (l : List WindowDesc) : List WindowDesc := l.foldl (fun l d => if l.any fun e => e.window == d.window then l else l ++ [d]) []

theorem windowsOnce_concat (l : List WindowDesc) (d : WindowDesc) :
    windowsOnce (l ++ [d]) = if (windowsOnce l).any fun e => e.window == d.window then windowsOnce l else windowsOnce l ++ [d] := by
  simp only [windowsOnce, List.foldl_append]
  rfl

theorem windowsOnce_subset (l : List WindowDesc) : windowsOnce l ⊆ l := by
  induction l using concat_induction with
  | nil => exact List.nil_subset _
  | concat l x ih =>
    rw [windowsOnce_concat]
    split
    · exact List.subset_append_of_subset_left _ ih
    · exact List.append_subset.mpr ⟨List.subset_append_of_subset_left _ ih, List.subset_append_right _ _⟩

/-- No window number is left out. -/
theorem windowsOnce_covers {l : List WindowDesc} {d : WindowDesc} (hd : d ∈ l) : ∃ e ∈ windowsOnce l, e.window = d.window := by
  induction l using concat_induction with
  | nil => cases hd
  | concat l x ih =>
    rw [windowsOnce_concat]
    rcases List.mem_append.mp hd with hl | hx
    · obtain ⟨e, he, hw⟩ := ih hl
      refine ⟨e, ?_, hw⟩
      split
      · exact he
      · exact List.mem_append_left _ he
    · obtain rfl := List.mem_singleton.mp hx
      split
      · rename_i hany
        simpa using hany
      · exact ⟨d, List.mem_append_right _ (List.mem_singleton_self d), rfl⟩

/-- What each step of a fold establishes for its own element, and every step keeps, holds for all elements at the end. -/
theorem foldl_establishes {α β : Type} {f : β → α → β} {P : β → α → Prop} {l : List α} (b : β) (hset : ∀ b, ∀ x ∈ l, P (f b x) x) (hkeep : ∀ b y, ∀ x ∈ l, P b y → P (f b x) y) :
    ∀ x ∈ l, P (l.foldl f b) x := by
  induction l using concat_induction with
  | nil => exact fun x hx => nomatch hx
  | concat l y ih =>
    intro x hx
    have hy : y ∈ l ++ [y] := List.mem_append_right _ (List.mem_singleton_self y)
    rw [List.foldl_append, List.foldl_cons, List.foldl_nil]
    rcases List.mem_append.mp hx with hl | hxy
    · exact hkeep _ _ _ hy (ih (fun b z hz => hset b z (List.mem_append_left _ hz)) (fun b w z hz => hkeep b w z (List.mem_append_left _ hz)) x hl)
    · obtain rfl := List.mem_singleton.mp hxy
      exact hset _ _ hy

/-- The only finding of a state is judged for each of its windows. -/
def State.concludeAlone (s : State) (f : Finding) : State :=
  (windowsOnce (f.windows.map (·.1))).foldl (fun s d => s.concludeWindow [f] d) { s with comp := { s.comp with findings := [] } }

/-- The frame of a head that has a surface to itself, and has nothing of it left to compare, is concluded by its finding alone. -/
theorem State.concludeFrame_alone {s : State} {f : Finding} {r : TimingRec} {h tf : Nat} (hr : f.timing = r) (hh : f.head = h) (htf : f.tf = tf) (hgang : r.gangSize = 1)
    (hcompare : (s.head h).toCompare = []) (hscan : (s.head h).scanning = false) (hfindings : s.comp.findings = [f]) : s.concludeFrame r h tf = s.concludeAlone f := by
  subst hr hh htf
  simp [State.concludeFrame, hgang, hcompare, hscan, hfindings, sortBy, insertBy, State.concludeAlone, windowsOnce]

theorem Finding.meets_of_windowsOnce {f : Finding} {d : WindowDesc} (hd : d ∈ windowsOnce (f.windows.map (·.1))) : f.meets d = true := by
  obtain ⟨e, he, rfl⟩ := List.mem_map.mp (windowsOnce_subset _ hd)
  exact List.any_eq_true.mpr ⟨e, he, beq_self_eq_true _⟩

theorem State.concludeAlone_keeps (s : State) (f : Finding) : (∀ k, (s.concludeAlone f).head k = s.head k) ∧ (s.concludeAlone f).health = s.health := by
  have hkept : (s.concludeAlone f).comp.heads = s.comp.heads ∧ (s.concludeAlone f).health = s.health :=
    List.foldlRecOn (motive := fun v : State => v.comp.heads = s.comp.heads ∧ v.health = s.health) _ _ ⟨rfl, rfl⟩ fun v hv d _ =>
      ⟨(v.concludeWindow_setsWindow [f] d).heads.trans hv.1, (v.concludeWindow_setsWindow [f] d).health.trans hv.2⟩
  exact ⟨fun k => by simp only [State.head, hkept.1], hkept.2⟩

/-- A late comparison marks every window of its finding (R241). -/
theorem State.concludeAlone_late (s : State) {f : Finding} (hlate : f.late = true) : ∀ e ∈ f.windows, ((s.concludeAlone f).win e.1.window).mismatch = true := by
  have hset : ∀ b : State, ∀ d ∈ windowsOnce (f.windows.map (·.1)), ((b.concludeWindow [f] d).win d.window).mismatch = true := by
    intro b d hd
    obtain ⟨tile, expected, observed, count, kind, h⟩ := b.concludeWindow_mismatch (Finding.meets_of_windowsOnce hd) (.inr hlate)
    rw [h, State.lanternMismatch_win]
  have hkeep : ∀ (b : State) (y : WindowDesc), ∀ d ∈ windowsOnce (f.windows.map (·.1)), (b.win y.window).mismatch = true → ((b.concludeWindow [f] d).win y.window).mismatch = true := by
    intro b y d hd hy
    by_cases hw : y.window = d.window
    · rw [hw]; exact hset b d hd
    · rw [(b.concludeWindow_setsWindow [f] d).others _ hw]; exact hy
  intro e he
  obtain ⟨d, hd, hw⟩ := windowsOnce_covers (List.mem_map_of_mem he)
  rw [← hw]
  exact foldl_establishes (P := fun (b : State) d => (b.win d.window).mismatch = true) _ hset hkeep d hd

section
variable {f : Finding} (hdiffs : f.diffs = []) (hdecision : f.decision = []) (hlate : f.late = false)
include hdiffs hdecision hlate

/-- A finding without a difference sets no mark of a window, and clears at most its want of proof. -/
theorem State.concludeWindow_clean_win (s : State) {d : WindowDesc} (hmeets : f.meets d = true) (w : Nat) :
    ((s.concludeWindow [f] d).win w).mismatch = (s.win w).mismatch ∧ ((s.win w).unproven = false → ((s.concludeWindow [f] d).win w).unproven = false) := by
  rw [State.concludeWindow_clean hmeets hdiffs hdecision hlate]
  split
  · by_cases hw : w = d.window
    · subst hw
      rw [State.win_setWin]
      exact ⟨rfl, fun _ => rfl⟩
    · rw [State.win_setWin_other _ _ hw]
      exact ⟨rfl, id⟩
  · exact ⟨rfl, id⟩

theorem State.concludeAlone_clean (s : State) :
    (∀ w, ((s.concludeAlone f).win w).mismatch = (s.win w).mismatch) ∧ ∀ e ∈ f.windows, e.2 = true → ((s.concludeAlone f).win e.1.window).unproven = false := by
  refine ⟨fun w => ?_, fun e he hcontent => ?_⟩
  · exact List.foldlRecOn (motive := fun v : State => (v.win w).mismatch = (s.win w).mismatch) _ _ rfl fun v hv d hd =>
      (State.concludeWindow_clean_win hdiffs hdecision hlate v (Finding.meets_of_windowsOnce hd) w).1.trans hv
  · have hset : ∀ b : State, ∀ d ∈ windowsOnce (f.windows.map (·.1)), f.sawContent d = true → ((b.concludeWindow [f] d).win d.window).unproven = false := by
      intro b d hd hsaw
      rw [State.concludeWindow_clean (Finding.meets_of_windowsOnce hd) hdiffs hdecision hlate, if_pos hsaw, State.win_setWin]
    obtain ⟨d, hd, hw⟩ := windowsOnce_covers (List.mem_map_of_mem (f := Prod.fst) he)
    have hsaw : f.sawContent d = true := List.any_eq_true.mpr ⟨e, he, by simp [hw, hcontent]⟩
    rw [← hw]
    exact foldl_establishes (P := fun (b : State) d => f.sawContent d = true → (b.win d.window).unproven = false) _ hset
      (fun b y d hd hy hsaw => (State.concludeWindow_clean_win hdiffs hdecision hlate b (Finding.meets_of_windowsOnce hd) y.window).2 (hy hsaw)) d hd hsaw

end

/-- A finding of one window whose tiles differ marks that window, and no other (R243, R493). -/
theorem State.concludeAlone_differs (s : State) {f : Finding} {e : WindowDesc × Bool} (hwindows : f.windows = [e]) (hof : f.of e.1 ≠ []) :
    (s.concludeAlone f).win e.1.window = { s.win e.1.window with mismatch := true, diagnose := some ((f.assigns.filter fun a => a.window == e.1.window).flatMap Assign.scalers) } ∧
    ∀ v, v ≠ e.1.window → (s.concludeAlone f).win v = s.win v := by
  have hmeets : f.meets e.1 = true := by simp [Finding.meets, hwindows]
  have hone : s.concludeAlone f = State.concludeWindow { s with comp := { s.comp with findings := [] } } [f] e.1 := by
    rw [State.concludeAlone, hwindows]; rfl
  rw [hone]
  obtain ⟨tile, expected, observed, count, kind, h⟩ := State.concludeWindow_mismatch (s := { s with comp := { s.comp with findings := [] } }) hmeets (.inl hof)
  exact ⟨by rw [h, State.lanternMismatch_win]; rfl, (State.concludeWindow_setsWindow _ [f] e.1).others⟩

/-! The finding of a comparison (R241). -/

/-- A finding waits for its conclusion. -/
def State.found (s : State) (f : Finding) : State := { s with comp := { s.comp with findings := s.comp.findings ++ [f] } }

/-- The windows of a decision mismatch. -/
def Compared.decision (c : Compared) (h : Nat) (reports : List (Nat × Nat)) : List Nat := (c.windows.filter (c.decides reports h)).map fun e => e.1.window

/-- What a comparison that ends in time finds. -/
def Compared.finding (c : Compared) (h : Nat) (seen reports : List (Nat × Nat)) : Finding :=
  { head := h, frame := c.frame, tf := c.tf, timing := c.timing, diffs := c.diffs seen reports h, windows := c.windows.map fun e => (e.1, c.content reports e), decision := c.decision h reports
    late := false, assigns := c.assigns }

/-- What a late comparison finds. -/
def Compared.lateFinding (c : Compared) (h : Nat) : Finding :=
  { head := h, frame := c.frame, tf := c.tf, timing := c.timing, diffs := [], windows := c.windows.map fun e => (e.1, false), decision := [], late := true, assigns := c.assigns }

/-- The record of a head after a comparison that found `diffs` differing tiles and `dec` windows of a decision mismatch. -/
def Head.compared (x : Head) (c : Compared) (diffs dec : Nat) (found : Bool) : Head :=
  { x with toCompare := x.toCompare.filter fun q => q.frame != c.frame, late := false, lastCompared := some c.frame, framesCompared := sat 4 (x.framesCompared + 1)
           tilesCompared := sat 4 (x.tilesCompared + (c.observed.length - c.skips.length)), mismatchTiles := sat 4 (x.mismatchTiles + diffs)
           decisionMismatches := sat 4 (x.decisionMismatches + dec), lastMismatch := if found then some c.frame else x.lastMismatch }

/-- The record of a head after a late comparison. -/
def Head.comparedLate (x : Head) (c : Compared) : Head :=
  { x with toCompare := x.toCompare.filter fun q => q.frame != c.frame, late := true, lateFrames := sat 2 (x.lateFrames + 1), lastMismatch := some c.frame }

/-- The record that a comparison leaves its head. -/
def Compared.headAfter (c : Compared) (x : Head) (h : Nat) (seen reports : List (Nat × Nat)) : Head :=
  x.compared c (c.diffs seen reports h).length (c.decision h reports).length (!(c.diffs seen reports h).isEmpty || !(c.decision h reports).isEmpty)

theorem State.compareFrame_eq (s : State) (h : Nat) (c : Compared) (seen reports : List (Nat × Nat)) :
    s.compareFrame h c seen reports = ((((s.setHead h (c.headAfter (s.head h) h seen reports)).found (c.finding h seen reports)).concludeFrame c.timing h c.tf).lanternReleases h c.frame) := rfl

theorem State.compareLate_leaves (s : State) (h : Nat) (c : Compared) : (s.compareLate h c).comp = ((s.setHead h ((s.head h).comparedLate c)).found (c.lateFinding h)).comp ∧
    (s.compareLate h c).health = { s.health with conditions := setBit s.health.conditions 2 true } := by
  constructor
  · simp only [State.compareLate, State.record_comp]; rfl
  · simp only [State.compareLate, State.record_health]; rfl

/-! LANTERN_COMPARE_DONE and LANTERN_LATE (R241). -/

section
variable {t : Time} {h : Nat} {r : TimingRec} {c : Compared} {s : State} (hh : h < 16) (hcompare : (s.head h).toCompare = [c])
include hh hcompare

theorem exec_lanternCompareDone (seen reports : List (Nat × Nat)) : exec (.lanternCompareDone t h c.frame seen reports) s = .next (settle (s.tick t) ((s.tick t).compareFrame h c seen reports)) := by
  show execLanternCompareDone t h c.frame seen reports s = _
  rw [execLanternCompareDone, runIf_next (by simpa using hh)]
  simp only [State.tick_head, hcompare, List.find?_cons, beq_self_eq_true]

theorem exec_lanternLate (hr : (s.head h).timing = some r) (hscan : (s.head h).scanning = false) (hnext : c.frame + 2 ≤ (s.head h).nextFrame) (hlatch : (s.head h).own.getD (s.gen r.sg).tf ≤ (s.tick t).now + 500000) :
    exec (.lanternLate t h c.frame) s = .next (settle (s.tick t) ((((s.tick t).compareLate h c).concludeFrame c.timing h c.tf).lanternReleases h c.frame)) := by
  show execLanternLate t h c.frame s = _
  rw [execLanternLate, runIf_next (by simpa using hh)]
  simp only [State.tick_head, State.tick_gen, hcompare, hr, hscan, List.find?_cons, beq_self_eq_true, Bool.false_eq_true, if_false]
  rw [if_pos (by simp [hnext, hlatch])]

variable (hgang : c.timing.gangSize = 1) (hscan : (s.head h).scanning = false) (hfindings : s.comp.findings = [])
include hgang hscan hfindings

omit hh in
/-- The only comparison of a head is concluded as it ends. -/
theorem State.compareFrame_alone (seen reports : List (Nat × Nat)) :
    s.compareFrame h c seen reports = (((s.setHead h (c.headAfter (s.head h) h seen reports)).found (c.finding h seen reports)).concludeAlone (c.finding h seen reports)).lanternReleases h c.frame := by
  have hhead : ((s.setHead h (c.headAfter (s.head h) h seen reports)).found (c.finding h seen reports)).head h = c.headAfter (s.head h) h seen reports := s.head_setHead _ _
  rw [State.compareFrame_eq, State.concludeFrame_alone (f := c.finding h seen reports) (r := c.timing) (h := h) (tf := c.tf) rfl rfl rfl hgang]
  · rw [hhead]; simp [Compared.headAfter, Head.compared, hcompare]
  · rw [hhead]; exact hscan
  · simp [State.found, State.setHead, hfindings]

/-- What a comparison that ends leaves: the head's record, the pictures that stay held, and the windows as concluding its finding leaves them. -/
theorem lanternCompareDone_leaves (seen reports : List (Nat × Nat)) : Completes (.lanternCompareDone t h c.frame seen reports) s fun u =>
    u.head h = c.headAfter (s.head h) h seen reports ∧ (∀ e ∈ u.comp.holds, e.safety = true → e.head = h → c.frame < e.frame) ∧
    ∃ b : State, (∀ w, b.win w = s.win w) ∧ ∀ w, u.win w = (b.concludeAlone (c.finding h seen reports)).win w := by
  have hi := exec_lanternCompareDone (t := t) hh hcompare seen reports
  rw [State.compareFrame_alone (s := s.tick t) hcompare hgang hscan hfindings] at hi
  refine completes_comp hi fun u hu => ⟨?_, ?_, ((s.tick t).setHead h (c.headAfter (s.head h) h seen reports)).found (c.finding h seen reports), fun _ => rfl, fun w => ?_⟩
  · rw [State.head_of_comp hu, State.lanternReleases_head, (State.concludeAlone_keeps _ _).1]
    exact (s.tick t).head_setHead _ _
  · rw [hu]
    exact fun e he => State.lanternReleases_holds he
  · rw [State.win_of_comp hu, State.lanternReleases_win]
    rfl

theorem lanternCompareDone_clean (hdiffs : c.diffs [] [] h = []) (hdecides : ∀ e ∈ c.windows, c.decides [] h e = false) : Completes (.lanternCompareDone t h c.frame [] []) s fun u =>
    (u.head h).lastCompared = some c.frame ∧ (u.head h).framesCompared = sat 4 ((s.head h).framesCompared + 1) ∧ (u.head h).lastMismatch = (s.head h).lastMismatch ∧ (u.head h).late = false ∧
    (∀ w, (u.win w).mismatch = (s.win w).mismatch) ∧ (∀ e ∈ c.windows, c.content [] e = true → (u.win e.1.window).unproven = false) ∧ (∀ e ∈ u.comp.holds, e.safety = true → e.head = h → c.frame < e.frame) := by
  have hdecision : c.decision h [] = [] := by simpa [Compared.decision, List.filter_eq_nil_iff] using hdecides
  have hsame : (c.headAfter (s.head h) h [] []).lastMismatch = (s.head h).lastMismatch := by simp [Compared.headAfter, Head.compared, hdiffs, hdecision]
  obtain ⟨u, hu, hhead, hholds, b, hb, hwin⟩ := lanternCompareDone_leaves (t := t) hh hcompare hgang hscan hfindings [] []
  obtain ⟨hmarks, hproven⟩ := b.concludeAlone_clean (f := c.finding h [] []) hdiffs hdecision rfl
  refine ⟨u, hu, ?_, ?_, ?_, ?_, fun w => ?_, fun e he hcontent => ?_, hholds⟩
  · rw [hhead]; rfl
  · rw [hhead]; rfl
  · rw [hhead, hsame]
  · rw [hhead]; rfl
  · rw [hwin, hmarks, hb]
  · rw [hwin]
    exact hproven _ (List.mem_map_of_mem he) hcontent

theorem lanternCompareDone_differs {seen : List (Nat × Nat)} {e : WindowDesc × Win × Nat} (hwindows : c.windows = [e])
    (hdiffs : ∃ y ∈ c.diffs seen [] h, rectEmpty (rectMeet (onHead e.1 c.timing h) (tileRect c.timing y.1)) = false) : Completes (.lanternCompareDone t h c.frame seen []) s fun u =>
    (u.win e.1.window).mismatch = true ∧ (u.win e.1.window).diagnose = some ((c.assigns.filter fun a => a.window == e.1.window).flatMap Assign.scalers) ∧
    (u.head h).lastMismatch = some c.frame ∧ (u.head h).lastCompared = some c.frame ∧ ∀ v, v ≠ e.1.window → u.win v = s.win v := by
  obtain ⟨y, hy, hmeet⟩ := hdiffs
  have hof : (c.finding h seen []).of e.1 ≠ [] := sortBy_ne_nil _ (List.ne_nil_of_mem (List.mem_filter.mpr ⟨hy, by simpa [Compared.finding] using hmeet⟩))
  have hfound : (c.headAfter (s.head h) h seen []).lastMismatch = some c.frame := by simp [Compared.headAfter, Head.compared, List.ne_nil_of_mem hy]
  obtain ⟨u, hu, hhead, -, b, hb, hwin⟩ := lanternCompareDone_leaves (t := t) hh hcompare hgang hscan hfindings seen []
  obtain ⟨hmarked, hothers⟩ := b.concludeAlone_differs (f := c.finding h seen []) (e := (e.1, c.content [] e)) (by simp [Compared.finding, hwindows]) hof
  refine ⟨u, hu, ?_, ?_, ?_, ?_, fun v hv => ?_⟩
  · rw [hwin, hmarked]
  · rw [hwin, hmarked]; rfl
  · rw [hhead, hfound]
  · rw [hhead]; rfl
  · rw [hwin, hothers v hv, hb]

theorem lanternLate_marks (hr : (s.head h).timing = some r) (hnext : c.frame + 2 ≤ (s.head h).nextFrame) (hlatch : (s.head h).own.getD (s.gen r.sg).tf ≤ (s.tick t).now + 500000) :
    Completes (.lanternLate t h c.frame) s fun u =>
      (∀ e ∈ c.windows, (u.win e.1.window).mismatch = true) ∧ (u.head h).late = true ∧ (u.head h).lateFrames = sat 2 ((s.head h).lateFrames + 1) ∧ (u.head h).lastMismatch = some c.frame ∧
      bit u.health.conditions 2 = true := by
  obtain ⟨hcomp, hhealth⟩ := (s.tick t).compareLate_leaves h c
  have hhead : ((s.tick t).compareLate h c).head h = (s.head h).comparedLate c := by
    rw [State.head_of_comp hcomp]
    exact (s.tick t).head_setHead _ _
  have hconclude : ((s.tick t).compareLate h c).concludeFrame c.timing h c.tf = ((s.tick t).compareLate h c).concludeAlone (c.lateFinding h) := by
    refine State.concludeFrame_alone rfl rfl rfl hgang ?_ ?_ ?_
    · rw [hhead]; simp [Head.comparedLate, hcompare]
    · rw [hhead]; exact hscan
    · rw [hcomp]; simp [State.found, State.setHead, hfindings]
  obtain ⟨hheads, hkept⟩ := ((s.tick t).compareLate h c).concludeAlone_keeps (c.lateFinding h)
  have hi := exec_lanternLate hh hcompare hr hscan hnext hlatch
  rw [hconclude] at hi
  have hend : ∀ a v : State, (settle a (v.lanternReleases h c.frame)).head h = v.head h := fun a v => (State.head_of_comp (settle_comp _ _) h).trans (v.lanternReleases_head h c.frame h)
  refine ⟨_, hi, fun e he => ?_, ?_, ?_, ?_, ?_⟩
  · rw [State.win_of_comp (settle_comp _ _), State.lanternReleases_win]
    exact ((s.tick t).compareLate h c).concludeAlone_late (f := c.lateFinding h) rfl _ (List.mem_map_of_mem he)
  · rw [hend, hheads, hhead]; rfl
  · rw [hend, hheads, hhead]; rfl
  · rw [hend, hheads, hhead]; rfl
  · rw [settle_health, State.lanternReleases_health, hkept, hhealth, bit_setBit_true]

end

/-! LANTERN_RETRY (R244). -/

/-- A frame that starts this much later latches 1 000 ms later, 500 µs before its start. -/
theorem add_retryInterval (a : Nat) : a + 1000 * ms + 500000 = a + 1000500000 := Nat.add_assoc a (1000 * ms) 500000

theorem lanternRetry_clears {t : Time} {w g : Nat} {s : State} (hw : w < 1024) (hg : s.groupOf (s.activeWindow w) = some g) (hactive : bit (s.win w).active 7 = true) (hlatched : (s.win w).lanternLatched = false)
    (hfault : (s.win w).lanternFault = false) (hmismatch : (s.win w).mismatch = false) (hframe : (s.gen g).latched = false) (hlatch : (s.gen g).tf ≤ (s.tick t).now + 500000)
    (hlong : (s.win w).lanternAt + 1000500000 ≤ (s.gen g).tf) :
    Leaves (.lanternRetry t w) s ((s.tick t).setWin w { s.win w with active := setBit (s.win w).active 7 false, unproven := (s.activeWindow w).kind == 2 }) := by
  have hg' : (s.tick t).groupOf ((s.tick t).activeWindow w) = some g := hg
  have hwin : (s.tick t).win w = s.win w := rfl
  have hlong' : (s.win w).lanternAt + 1000 * ms + 500000 ≤ (s.gen g).tf := by rw [add_retryInterval]; exact hlong
  have hi : exec (.lanternRetry t w) s = .next (settle (s.tick t)
      (((s.tick t).setWin w { s.win w with active := setBit (s.win w).active 7 false, unproven := (s.activeWindow w).kind == 2 }).recordAt evLanternCleared (s.gen g).tf [p2 w])) := by
    show execLanternRetry t w s = _
    rw [execLanternRetry, runIf_next (by simpa using hw)]
    simp only [hg', hwin, State.tick_gen]
    rw [if_pos (by simp [hactive, hlatched, hfault, hmismatch, hframe, hlatch, hlong'])]
    rfl
  exact leaves_settled hi (State.recordAt_same _ _ _ _).block

/-! LANTERN_SELFTEST (R246). -/

section
variable {t : Time} {s : State}

theorem lanternSelftest_passes (hnow : (s.tick t).selftestNow = true) :
    Leaves (.lanternSelftest t true) s { s.tick t with comp := { s.comp with selftestDue := s.comp.selftestDue + 1000000000, selftestPassed := true } } := by
  have hi : exec (.lanternSelftest t true) s = .next (settle (s.tick t) { s.tick t with comp := { s.comp with selftestDue := s.comp.selftestDue + 1000000000, selftestPassed := true } }) := by
    show execLanternSelftest t true s = _
    rw [execLanternSelftest, run_next, if_neg (by simp [hnow])]
    rfl
  exact leaves_settled hi (.refl _)

theorem lanternSelftest_fails (hnow : (s.tick t).selftestNow = true) :
    Leaves (.lanternSelftest t false) s { s.tick t with comp := { s.comp with selftestDue := s.comp.selftestDue + 1000000000, selftestFail := true, selftestPassed := false } } := by
  have hi : exec (.lanternSelftest t false) s = .next (settle (s.tick t)
      (({ s.tick t with comp := { s.comp with selftestDue := s.comp.selftestDue + 1000000000, selftestFail := true, selftestPassed := false } } : State).record evLanternSelftestFail [])) := by
    show execLanternSelftest t false s = _
    rw [execLanternSelftest, run_next, if_neg (by simp [hnow])]
    rfl
  exact leaves_settled hi (State.record_same _ _ _).block

theorem lanternSelftest_waits {pass : Bool} (hnow : (s.tick t).selftestNow = false) : Leaves (.lanternSelftest t pass) s (s.tick t) := by
  refine leaves_tick ?_
  show execLanternSelftest t pass s = _
  rw [execLanternSelftest, run_next, if_pos (by simp [hnow])]

/-! CONFIG_AUDIT (R235). -/

theorem configAudit_intact (ok : Bool) : Leaves (.configAudit t false ok) s (s.tick t) := leaves_tick rfl

/-- Copy A is taken where it is valid, and B is not or has no higher generation. -/
theorem State.loadSafety_copyA (ha : s.comp.copyAOk = true) (hb : s.comp.copyBOk = false ∨ s.comp.copyB.generation ≤ s.comp.copyA.generation) :
    s.loadSafety = { s with comp := { s.comp with safety := s.comp.copyA, cfgIntact := true } } := by
  have hnewer : (s.comp.copyAOk && (!s.comp.copyBOk || decide (s.comp.copyB.generation ≤ s.comp.copyA.generation))) = true := by simpa [ha] using hb
  unfold State.loadSafety
  dsimp only
  rw [if_pos hnewer]

/-- Without a valid copy the values of first start are taken, which is recorded. -/
theorem State.loadSafety_restores (ha : s.comp.copyAOk = false) (hb : s.comp.copyBOk = false) :
    s.loadSafety = ({ s with comp := { s.comp with safety := {}, cfgIntact := true, restored := true } } : State).record evSafetyConfigRestored [] := by
  simp only [State.loadSafety, ha, hb, Bool.false_and, Bool.false_eq_true, if_false]

variable (hon : (s.tick t).domOn 3 = true)
include hon

theorem exec_configAudit_corrupt (ok : Bool) : exec (.configAudit t true ok) s = .next (settle (s.tick t)
    ((if ok then s.tick t else { s.tick t with comp := { s.comp with copyAOk := false, copyBOk := false } }).loadSafety.record evSafetyConfigAudit [])) := by
  show execConfigAudit t true ok s = _
  rw [execConfigAudit, run_next, if_neg (by simp [hon])]
  rfl

theorem configAudit_reloads (ha : s.comp.copyAOk = true) (hb : s.comp.copyBOk = false ∨ s.comp.copyB.generation ≤ s.comp.copyA.generation) :
    Leaves (.configAudit t true true) s { s.tick t with comp := { s.comp with safety := s.comp.copyA, cfgIntact := true } } := by
  have hi := exec_configAudit_corrupt hon true
  rw [if_pos rfl, State.loadSafety_copyA (s := s.tick t) ha hb] at hi
  exact leaves_settled hi (State.record_same _ _ _).block

theorem configAudit_restores : Leaves (.configAudit t true false) s { s.tick t with comp := { s.comp with copyAOk := false, copyBOk := false, safety := {}, cfgIntact := true, restored := true } } := by
  have hi := exec_configAudit_corrupt hon false
  rw [if_neg Bool.false_ne_true, State.loadSafety_restores rfl rfl] at hi
  exact leaves_settled hi ((State.record_same _ _ _).trans (State.record_same _ _ _)).block

end

/-- Settles O56: a comparison leaves one finding, whose windows are judged one by one; the other events are one update of the state and at most a record. -/
theorem lanternEventsComplete : Obligations.LanternEventsComplete := by
  unfold Obligations.LanternEventsComplete
  refine ⟨?_, fun t w g s => lanternRetry_clears, fun t s hnow => ⟨lanternSelftest_passes hnow, lanternSelftest_fails hnow⟩, fun t pass s => lanternSelftest_waits, fun t ok s => configAudit_intact ok,
    fun t s hon => ⟨configAudit_reloads hon, configAudit_restores hon⟩⟩
  rintro t h n r c s hh hr hcompare rfl hgang hscan hfindings
  exact ⟨lanternCompareDone_clean hh hcompare hgang hscan hfindings, fun seen e => lanternCompareDone_differs hh hcompare hgang hscan hfindings, lanternLate_marks hh hcompare hgang hscan hfindings hr⟩

end Sys2Proof.Machine
end

section
/-! PROOF of the claim on shedding (spec/09_encode.md R264, spec/18_resilience.md R500–R502): an action on encoder quality is one update of each channel by itself, so that the order of the channels does not matter; every other action is one update of the state and its record. -/

namespace Sys2Proof.Machine

/-! One update of several channels, each from what it held itself. -/

/-- The channels of `l` are updated by `g`; of the rest of the encoder's channels, of supervision, of composition and of time nothing changes. -/
structure State.UpdatesChannels (l : List Nat) (g : EncChan → EncChan) (a b : State) : Prop where
  channel : ∀ k, b.enc? k = if k ∈ l then g (a.enc? k) else a.enc? k
  time : b.time = a.time
  health : b.health = a.health
  comp : b.comp = a.comp

theorem State.enc_of_enc {a b : State} (h : b.enc = a.enc) (c : Nat) : b.enc? c = a.enc? c := by simp only [State.enc?, h]

theorem State.enc_setEnc_other (s : State) {c k : Nat} (x : EncChan) (h : k ≠ c) : (s.setEnc c x).enc? k = s.enc? k := Map.get_set_other _ _ _ h

section
variable {g : EncChan → EncChan} {s : State} {c : Nat}

theorem State.setEnc_updatesChannel {x : EncChan} (h : x = g (s.enc? c)) : State.UpdatesChannels [c] g s (s.setEnc c x) where
  channel k := by
    by_cases hk : k = c
    · rw [if_pos (List.mem_singleton.mpr hk), hk, State.enc_setEnc, h]
    · rw [if_neg (mt List.mem_singleton.mp hk), s.enc_setEnc_other x hk]
  time := rfl
  health := rfl
  comp := rfl

/-- A channel that `g` leaves as it is needs no update. -/
theorem State.UpdatesChannels.refl_of_fixed (h : g (s.enc? c) = s.enc? c) : State.UpdatesChannels [c] g s s where
  channel k := by
    split
    · rename_i hk
      rw [List.mem_singleton.mp hk, h]
    · rfl
  time := rfl
  health := rfl
  comp := rfl

theorem State.UpdatesChannels.record {l : List Nat} {a b : State} (h : State.UpdatesChannels l g a b) (ty : Nat) (v : List (Nat × Int)) : State.UpdatesChannels l g a (b.record ty v) where
  channel k := (State.enc_of_enc (State.record_enc b ty v) k).trans (h.channel k)
  time := (State.record_time b ty v).trans h.time
  health := (State.record_health b ty v).trans h.health
  comp := (State.record_comp b ty v).trans h.comp

/-- Updates of single channels add up to the update of all of them: none reads what another one writes. -/
theorem State.UpdatesChannels.fold {f : State → Nat → State} (hf : ∀ s c, State.UpdatesChannels [c] g s (f s c)) {l : List Nat} (hl : l.Nodup) (s : State) : State.UpdatesChannels l g s (l.foldl f s) := by
  induction l generalizing s with
  | nil => exact ⟨fun k => (if_neg List.not_mem_nil).symm, rfl, rfl, rfl⟩
  | cons c l ih =>
    obtain ⟨hc, hl⟩ := List.nodup_cons.mp hl
    have hfirst := hf s c
    have hrest := ih hl (f s c)
    refine ⟨fun k => ?_, hrest.time.trans hfirst.time, hrest.health.trans hfirst.health, hrest.comp.trans hfirst.comp⟩
    rw [List.foldl_cons, hrest.channel k, hfirst.channel k]
    by_cases hk : k = c
    · subst hk; simp [hc]
    · simp [hk]

end

/-! Encoder quality (R264). -/

theorem allChannels_nodup : allChannels.Nodup := List.nodup_range

theorem mem_allChannels {c : Nat} : c ∈ allChannels ↔ c < 32 := List.mem_range

/-- An H.265 channel that is open has its quality lowered by one step, up to its bound. -/
def EncChan.raised (x : EncChan) : EncChan :=
  if (x.state == .starting || x.state == .running) && x.decl.h265 then
    { x with raise := min x.decl.maxQpRaise (x.raise + 6), atLimit := min x.decl.maxQpRaise (x.raise + 6) == x.decl.maxQpRaise }
  else x

/-- One such step is taken back on an H.265 channel. -/
def EncChan.lowered (x : EncChan) : EncChan :=
  if x.decl.h265 then { x with raise := x.raise - 6, atLimit := x.atLimit && x.raise - 6 == x.decl.maxQpRaise } else x

theorem EncChan.lowered_raise (x : EncChan) : x.lowered.raise = if x.decl.h265 then x.raise - 6 else x.raise := by
  unfold EncChan.lowered
  split <;> rfl

theorem State.raiseQp_updates (s : State) (c : Nat) : State.UpdatesChannels [c] EncChan.raised s (s.raiseQp c) := by
  unfold State.raiseQp
  by_cases hopen : (s.encOpen c && (s.enc? c).decl.h265) = true
  · simp only [hopen, Bool.not_true, Bool.false_eq_true, if_false]
    split
    · exact State.UpdatesChannels.record (State.setEnc_updatesChannel (g := EncChan.raised) (if_pos hopen).symm) _ _
    · exact State.setEnc_updatesChannel (if_pos hopen).symm
  · simp only [hopen, Bool.not_false, if_true]
    exact .refl_of_fixed (if_neg hopen)

theorem State.raiseAll_updates (s : State) : State.UpdatesChannels allChannels EncChan.raised s (allChannels.foldl State.raiseQp s) := .fold State.raiseQp_updates allChannels_nodup s

theorem State.lowerQp_updates (s : State) : State.UpdatesChannels allChannels EncChan.lowered s s.lowerQp := by
  refine .fold (fun s c => ?_) allChannels_nodup s
  by_cases hcodec : (s.enc? c).decl.h265 = true
  · rw [if_pos hcodec]
    exact State.setEnc_updatesChannel (if_pos hcodec).symm
  · rw [if_neg hcodec]
    exact .refl_of_fixed (if_neg hcodec)

theorem State.released_health (s : State) (action w : Nat) : (s.released action w).health = { s.health with unwoundAt := s.clk } := State.record_health _ _ _
theorem State.released_enc (s : State) (action w : Nat) : (s.released action w).enc = s.enc := State.record_enc _ _ _

/-- What taking back one step leaves: one step less, its instant, and every channel's raise 6 lower. -/
theorem State.undoQp_leaves (s : State) : s.undoQp.health = { s.health with qpSteps := s.health.qpSteps - 1, unwoundAt := s.clk } ∧ ∀ c < 32, s.undoQp.enc? c = (s.enc? c).lowered := by
  have hlower := State.lowerQp_updates { s with health := { s.health with qpSteps := s.health.qpSteps - 1 } }
  refine ⟨?_, fun c hc => ?_⟩
  · rw [State.undoQp, State.released_health, State.clk, hlower.health, hlower.time]
    rfl
  · rw [State.undoQp, State.enc_of_enc (State.released_enc _ _ _)]
    exact (hlower.channel c).trans (if_pos (mem_allChannels.mpr hc))

/-! The next action of a shortfall (R501). -/

section
variable (s : State) (bits : Nat)

theorem State.shedNext_background (hbg : s.health.bgSuspended = false) :
    s.shedNext bits = ({ s with health := { s.health with bgSuspended := true } } : State).record evShedStep [p1 0, p2 0xFFFF, p2 bits] := by
  simp only [State.shedNext, hbg, Bool.not_false, if_true]

theorem State.shedNext_quality (hbg : s.health.bgSuspended = true) (hroom : s.qpRoom = true) {r : State} (hr : allChannels.foldl State.raiseQp s = r) :
    s.shedNext bits = ({ r with health := { r.health with qpSteps := r.health.qpSteps + 1 } } : State).record evShedStep [p1 1, p2 0xFFFF, p2 bits] := by
  simp only [State.shedNext, hbg, hroom, hr, Bool.not_true, Bool.false_eq_true, if_false, if_true]

theorem State.shedNext_window (hbg : s.health.bgSuspended = true) (hroom : s.qpRoom = false) {r : State} (hr : allChannels.foldl State.raiseQp s = r) {d : WindowDesc} (hd : r.nextShed = some d) :
    s.shedNext bits = (({ r with health := { r.health with shed := d.window :: r.health.shed } } : State).setWin d.window { r.win d.window with shed := true }).record evShedStep [p1 2, p2 d.window, p2 bits] := by
  simp only [State.shedNext, hbg, hroom, hr, hd, Bool.not_true, Bool.false_eq_true, if_false]

end

/-! SHED_EVALUATION (R500, R501). -/

section
variable {t : Time} {s : State}

/-- What an event leaves that ends with a record, read off the state before the record. -/
theorem completes_recorded {i : Instr} {v : State} {ty : Nat} {p : List (Nat × Int)} {P : State → Prop} (hi : exec i s = .next (settle (s.tick t) (v.record ty p)))
    (h : ∀ u : State, u.health = v.health → u.enc = v.enc → u.comp = v.comp → P u) : Completes i s P :=
  ⟨_, hi, h _ ((settle_health _ _).trans (State.record_health _ _ _)) ((settle_enc _ _).trans (State.record_enc _ _ _)) ((settle_comp _ _).trans (State.record_comp _ _ _))⟩

theorem State.periodDue_of {s : State} {last : Option Time} {period : Time} (h : ∀ x, last = some x → x + period ≤ s.clk) : s.periodDue last period = true := by
  cases last with
  | none => rfl
  | some x => exact decide_eq_true (h x rfl)

variable (hspire : (s.tick t).spireB = true) (hperiod : ∀ x, s.health.evaluatedAt = some x → x + 100000000 ≤ (s.tick t).clk)
include hspire hperiod

theorem shedEvaluation_due : (!(s.tick t).spireB || !(s.tick t).periodDue (s.tick t).health.evaluatedAt (100 * ms)) = false := by
  have hdue : (s.tick t).periodDue (s.tick t).health.evaluatedAt (100 * ms) = true := State.periodDue_of hperiod
  rw [hspire, hdue]
  rfl

theorem shedEvaluation_clears (hnone : (s.tick t).shortfall = 0) : Leaves (.shedEvaluation t) s
    { s.tick t with health := { s.health with evaluatedAt := some (s.tick t).clk, conditions := 0, exhausted := false }, enc := { s.enc with dropped := false } } := by
  refine leaves_settled (t := t) ?_ (.refl _)
  show execShedEvaluation t s = _
  rw [execShedEvaluation, run_next, if_neg (ne_true_of_eq_false (shedEvaluation_due hspire hperiod))]
  simp only [hnone, if_true, bne_self_eq_false, Bool.and_false, State.tick_health, State.tick_enc]

theorem exec_shedEvaluation_acts (hshort : (s.tick t).shortfall ≠ 0) : exec (.shedEvaluation t) s = .next (settle (s.tick t) ((s.tick t).shedStart.shedNext (s.tick t).shortfall)) := by
  show execShedEvaluation t s = _
  rw [execShedEvaluation, run_next, if_neg (ne_true_of_eq_false (shedEvaluation_due hspire hperiod))]
  simp only [hshort, if_false, bne_iff_ne.mpr hshort, Bool.and_true]
  rfl

variable {a : State} (ha : a = (s.tick t).shedStart) (hshort : (s.tick t).shortfall ≠ 0)
include ha hshort

theorem shedEvaluation_suspends (hbg : s.health.bgSuspended = false) : Leaves (.shedEvaluation t) s { a with health := { a.health with bgSuspended := true } } := by
  subst ha
  have hi := exec_shedEvaluation_acts hspire hperiod hshort
  rw [(s.tick t).shedStart.shedNext_background _ hbg] at hi
  exact leaves_settled hi (State.record_same _ _ _).block

theorem shedEvaluation_raises (hbg : s.health.bgSuspended = true) (hroom : a.qpRoom = true) : Completes (.shedEvaluation t) s fun u => u.health.qpSteps = s.health.qpSteps + 1 ∧ u.health.shed = s.health.shed ∧
    ∀ c < 32, if a.encOpen c && (a.enc? c).decl.h265 then (u.enc? c).raise = min (a.enc? c).decl.maxQpRaise ((a.enc? c).raise + 6) else u.enc? c = a.enc? c := by
  subst ha
  have hraise := (s.tick t).shedStart.raiseAll_updates
  generalize hr : allChannels.foldl State.raiseQp (s.tick t).shedStart = r at hraise
  have hi := exec_shedEvaluation_acts hspire hperiod hshort
  rw [(s.tick t).shedStart.shedNext_quality _ hbg hroom hr] at hi
  refine completes_recorded hi fun u hhealth henc _ => ⟨?_, ?_, fun c hc => ?_⟩
  · rw [hhealth, hraise.health]; rfl
  · rw [hhealth, hraise.health]; rfl
  · have hchannel := (State.enc_of_enc henc c).trans ((hraise.channel c).trans (if_pos (mem_allChannels.mpr hc)))
    split
    · rename_i hopen
      exact congrArg EncChan.raise (hchannel.trans (if_pos hopen))
    · rename_i hopen
      exact hchannel.trans (if_neg hopen)

theorem shedEvaluation_sheds {d : WindowDesc} (hbg : s.health.bgSuspended = true) (hroom : a.qpRoom = false) (hd : (allChannels.foldl State.raiseQp a).nextShed = some d) :
    Completes (.shedEvaluation t) s fun u => u.health.shed = d.window :: s.health.shed ∧ (u.win d.window).shed = true ∧ ∀ w, w ≠ d.window → u.win w = s.win w := by
  subst ha
  have hraise := (s.tick t).shedStart.raiseAll_updates
  generalize hr : allChannels.foldl State.raiseQp (s.tick t).shedStart = r at hraise hd
  have hi := exec_shedEvaluation_acts hspire hperiod hshort
  rw [(s.tick t).shedStart.shedNext_window _ hbg hroom hr hd] at hi
  refine completes_recorded hi fun u hhealth _ hcomp => ⟨?_, ?_, fun w hw => ?_⟩
  · rw [hhealth, State.setWin_health, hraise.health]; rfl
  · rw [State.win_of_comp hcomp, State.win_setWin]
  · rw [State.win_of_comp hcomp, State.win_setWin_other _ _ hw]
    exact State.win_of_comp hraise.comp w

end

/-! SHED_UNWIND and QP_RAISE_DECAY (R264, R502). -/

theorem State.startScan_idle {s : State} (h : s.health.jobs = []) : s.startScan = s := by simp only [State.startScan, h]

section
variable {t : Time} {s : State}

theorem shedUnwind_waits (hdue : (s.tick t).unwindDue = false) : Leaves (.shedUnwind t) s (s.tick t) := by
  refine leaves_tick ?_
  show execShedUnwind t s = _
  rw [execShedUnwind, run_next, if_pos (by simp only [hdue, Bool.not_false])]

theorem qpRaiseDecay_waits (hdue : (s.tick t).unwindDue = false) : Leaves (.qpRaiseDecay t) s (s.tick t) := by
  refine leaves_tick ?_
  show execQpRaiseDecay t s = _
  rw [execQpRaiseDecay, run_next, if_neg (by simp [State.qpUndoDue, hdue])]

variable (hdue : (s.tick t).unwindDue = true)
include hdue

theorem shedUnwind_window {w : Nat} {ws : List Nat} (hshed : s.health.shed = w :: ws) :
    Leaves (.shedUnwind t) s ({ s.tick t with health := { s.health with shed := ws, unwoundAt := (s.tick t).clk } }.setWin w { s.win w with shed := false }) := by
  have hi : exec (.shedUnwind t) s = .next (settle (s.tick t) (({ s.tick t with health := { s.health with shed := ws } }.setWin w { s.win w with shed := false }).released 2 w)) := by
    show execShedUnwind t s = _
    rw [execShedUnwind, run_next, if_neg (by simp [hdue])]
    simp only [State.tick_health, hshed]
    rfl
  exact leaves_settled hi (State.record_same _ _ _).block

section
variable (hshed : s.health.shed = [])
include hshed

/-- Both events undo the same step of encoder quality. -/
theorem exec_undoQp (hsteps : s.health.qpSteps ≠ 0) {i : Instr} (hi : i = .shedUnwind t ∨ i = .qpRaiseDecay t) : exec i s = .next (settle (s.tick t) (s.tick t).undoQp) := by
  rcases hi with rfl | rfl
  · show execShedUnwind t s = _
    rw [execShedUnwind, run_next, if_neg (by simp [hdue])]
    simp only [State.tick_health, hshed, bne_iff_ne.mpr hsteps, if_true]
  · show execQpRaiseDecay t s = _
    rw [execQpRaiseDecay, run_next, if_pos (by simp [State.qpUndoDue, hdue, hshed, hsteps])]

theorem undoQp_completes (i : Instr) (hsteps : s.health.qpSteps ≠ 0) (hi : i = .shedUnwind t ∨ i = .qpRaiseDecay t) : Completes i s fun u =>
    u.health.qpSteps = s.health.qpSteps - 1 ∧ u.health.unwoundAt = (s.tick t).clk ∧ u.health.bgSuspended = s.health.bgSuspended ∧
    ∀ c < 32, (u.enc? c).raise = if (s.enc? c).decl.h265 then (s.enc? c).raise - 6 else (s.enc? c).raise := by
  obtain ⟨hhealth, hchannels⟩ := (s.tick t).undoQp_leaves
  refine ⟨_, exec_undoQp hdue hshed hsteps hi, ?_, ?_, ?_, fun c hc => ?_⟩
  · rw [settle_health, hhealth]; rfl
  · rw [settle_health, hhealth]
  · rw [settle_health, hhealth]; rfl
  · rw [State.enc_of_enc (settle_enc _ _), hchannels c hc, EncChan.lowered_raise]
    rfl

theorem shedUnwind_background (hsteps : s.health.qpSteps = 0) (hbg : s.health.bgSuspended = true) (hjobs : s.health.jobs = []) :
    Leaves (.shedUnwind t) s { s.tick t with health := { s.health with bgSuspended := false, unwoundAt := (s.tick t).clk } } := by
  have hi : exec (.shedUnwind t) s = .next (settle (s.tick t) (({ s.tick t with health := { s.health with bgSuspended := false } } : State).released 0 0xFFFF)) := by
    show execShedUnwind t s = _
    rw [execShedUnwind, run_next, if_neg (by simp [hdue])]
    simp only [State.tick_health, hshed, hsteps, hbg, bne_self_eq_false, Bool.false_eq_true, if_false, if_true]
    rw [State.startScan_idle (by rw [State.released, State.record_health]; exact hjobs)]
  exact leaves_settled hi (State.record_same _ _ _).block

end

end

/-- Settles O46: the evaluation takes the first action of the order that is left, and the unwinding the last one that was taken; encoder quality moves on each channel by itself. -/
theorem sheddingCompletes : Obligations.SheddingCompletes := by
  unfold Obligations.SheddingCompletes
  refine ⟨fun t s a hspire hperiod ha => ⟨shedEvaluation_clears hspire hperiod, shedEvaluation_suspends hspire hperiod ha, shedEvaluation_raises hspire hperiod ha, fun d hshort => shedEvaluation_sheds hspire hperiod ha hshort⟩,
    fun t s hdue => ⟨shedUnwind_waits hdue, qpRaiseDecay_waits hdue⟩,
    fun t s hdue => ⟨fun w ws => shedUnwind_window hdue, fun i hshed => undoQp_completes hdue hshed i, shedUnwind_background hdue⟩⟩

end Sys2Proof.Machine
end

section
/-! PROOF of the claim on the device settings (spec/10_admission.md R295, spec/11_izent.md R326, spec/12_commands.md R361, spec/13_memory.md R377 and R378): each command writes its setting and keeps every connection. -/

namespace Sys2Proof.Machine

/-- POWER_CAP_SET's own part where the committed layout fits the new cap (R295). -/
theorem bodyPowerCapSet_ok {c : Call} {a : State} (hfits : overBreach 13 0 10 0 a.plan.admitted (rd c.p 0 4) = none) :
    bodyPowerCapSet c a = .ok { a with power := { a.power with capMw := rd c.p 0 4 } } [] := by
  unfold bodyPowerCapSet
  dsimp only
  rw [hfits]

/-- The eight masks of a DRAM_HASH_SET request (R377). -/
def hashMasks (p : Bytes) : List Nat := (List.range 8).map fun k => rd p (8 + 8 * k) 8

theorem hashMasks_getD (p : Bytes) {k : Nat} (hk : k < 8) : (hashMasks p).getD k 0 = rd p (8 + 8 * k) 8 := by
  simp [hashMasks, List.getD_eq_getElem?_getD, List.getElem?_map, List.getElem?_range hk]

/-- The search for the first bad mask finds none where each mask meets R378. -/
theorem find?_badMask_eq_none {p : Bytes} (hmasks : ∀ k < 8, maskOk k (rd p (8 + 8 * k) 8) = true) :
    (List.range 8).find? (fun k => !maskOk k ((hashMasks p).getD k 0)) = none := by
  rw [List.find?_eq_none]
  intro k hk
  have hlt : k < 8 := List.mem_range.mp hk
  rw [hashMasks_getD p hlt, hmasks k hlt]
  exact Bool.false_ne_true

/-- DRAM_HASH_SET's own part where the masks of a custom set meet R378. -/
theorem bodyDramHashSet_ok {c : Call} {a : State} (hmasks : rd c.p 0 1 = 4 → ∀ k < 8, maskOk k (rd c.p (8 + 8 * k) 8) = true) :
    bodyDramHashSet c a = .ok { a with dram := { a.dram with hashStored := { profile := rd c.p 0 1, masks := if rd c.p 0 1 = 4 then hashMasks c.p else [] } } } [] := by
  have hnone : (if rd c.p 0 1 = 4 then (List.range 8).find? (fun k => !maskOk k ((hashMasks c.p).getD k 0)) else none) = none := by
    split
    case isTrue hcustom => exact find?_badMask_eq_none (hmasks hcustom)
    case isFalse => rfl
  unfold bodyDramHashSet
  dsimp only
  rw [← hashMasks, hnone]

/-- Settles O13: POWER_CAP_SET and DRAM_HASH_SET have a check of their own to pass first, and the own part of each of the four writes its setting and opens and closes no connection. -/
theorem deviceSettingsAnswer : Obligations.DeviceSettingsAnswer := by
  unfold Obligations.DeviceSettingsAnswer
  refine ⟨?powerCap, ?idle, ?mgmt, ?hash⟩
  case powerCap => exact answers (fun _ _ hfits => bodyPowerCapSet_ok hfits) fun _ _ _ _ => rfl
  case idle => exact answers (fun _ _ _ => rfl) fun _ _ _ _ => rfl
  case mgmt => exact answers (fun _ _ _ => rfl) fun _ _ _ _ => rfl
  case hash => exact answers (fun _ _ hmasks => bodyDramHashSet_ok hmasks) fun _ _ _ _ => rfl

end Sys2Proof.Machine
end

section
/-! PROOFS of the claims on the Izent interface (spec/11_izent.md): what recording, a response and settling a step leave of the mailboxes and of the journals. -/

namespace Sys2Proof.Machine

/-! A property of the units of a table, after a write that keeps it. -/

theorem Map.any_of_get {α : Type} {p : α → Bool} {d : α} (hd : p d = false) {m : Map α} {k : Nat} (h : p (Map.get d m k) = true) : m.any (fun e => p e.2) = true := by
  induction m with
  | nil => rw [Map.get, hd] at h; cases h
  | cons e m ih =>
    obtain ⟨j, u⟩ := e
    rw [Map.get] at h
    rw [List.any_cons, Bool.or_eq_true]
    split at h
    · exact .inl h
    · exact .inr (ih h)

/-- A write with the property of what it replaces does not change whether any unit has it. -/
theorem Map.any_set {α : Type} {p : α → Bool} {d v : α} (hd : p d = false) {m : Map α} {k : Nat} (hv : p v = p (Map.get d m k)) : (Map.set m k v).any (fun e => p e.2) = m.any (fun e => p e.2) := by
  induction m with
  | nil => simp [Map.set, hv, Map.get, hd]
  | cons e m ih =>
    obtain ⟨j, u⟩ := e
    rw [Map.get] at hv
    rw [Map.set]
    split
    case isTrue hlt =>
      rw [if_neg (by omega)] at hv
      rw [List.any_cons, Bool.or_eq_right_iff_imp, List.any_cons, Bool.or_eq_true]
      exact fun h => .inr (Map.any_of_get hd (hv ▸ h))
    case isFalse hlt =>
      split
      case isTrue heq =>
        rw [if_pos heq] at hv
        simp only [List.any_cons, hv]
      case isFalse hne =>
        rw [if_neg hne] at hv
        simp only [List.any_cons, ih hv]

theorem State.mbx_setMbx_other (s : State) {m n : Nat} (x : Mailbox) (h : n ≠ m) : (s.setMbx m x).mbx n = s.mbx n := Map.get_set_other _ _ _ h

/-! Recording an event (R316, R528–R533). -/

/-- The journals of `q` are those of `r` with records added to the buffer. -/
structure Recorder.Grows (r q : Recorder) : Prop where
  buf : r.buf <+: q.buf
  nand : q.nand = r.nand
  clearedTo : q.clearedTo = r.clearedTo
  lastFlush : q.lastFlush = r.lastFlush

theorem Recorder.Grows.refl (r : Recorder) : r.Grows r := ⟨List.prefix_refl _, rfl, rfl, rfl⟩

theorem Recorder.Grows.of_eq {r q : Recorder} (h : q = r) : r.Grows q := h ▸ .refl r

theorem Recorder.Grows.trans {r q w : Recorder} (h : r.Grows q) (k : q.Grows w) : r.Grows w :=
  ⟨h.buf.trans k.buf, k.nand.trans h.nand, k.clearedTo.trans h.clearedTo, k.lastFlush.trans h.lastFlush⟩

/-- What recording does to the mailboxes and the journals: of a mailbox only what its connection counts changes (R316), and the journals grow. -/
structure State.Records (a b : State) : Prop where
  mail : ∀ n, b.mbx n = { a.mbx n with conn := (b.mbx n).conn }
  jobs : ∀ f : Option Job → Bool, f none = false → b.izent.mbx.any (fun e => f e.2.job) = a.izent.mbx.any (fun e => f e.2.job)
  journals : a.recorder.Grows b.recorder

theorem State.Records.of_eq {a b : State} (h : b.izent.mbx = a.izent.mbx) (g : a.recorder.Grows b.recorder) : State.Records a b :=
  ⟨fun n => by rw [State.mbx, h]; rfl, fun f _ => by rw [h], g⟩

theorem State.Records.refl (a : State) : State.Records a a := .of_eq rfl (.refl _)

theorem State.Records.trans {a b c : State} (h : State.Records a b) (k : State.Records b c) : State.Records a c :=
  ⟨fun n => by rw [k.mail n, h.mail n], fun f hf => (k.jobs f hf).trans (h.jobs f hf), h.journals.trans k.journals⟩

theorem State.Records.ite {s a b : State} {c : Prop} [Decidable c] (h : State.Records s a) (k : State.Records s b) : State.Records s (if c then a else b) := by
  split
  · exact h
  · exact k

theorem State.Records.fold {α : Type} {f : State → α → State} (h : ∀ s x, State.Records s (f s x)) (l : List α) (s : State) : State.Records s (l.foldl f s) := by
  induction l generalizing s with
  | nil => exact .refl s
  | cons x l ih => exact (h s x).trans (ih (f s x))

theorem State.Records.lastSeq {a b : State} (h : State.Records a b) (n : Nat) : (b.mbx n).lastSeq = (a.mbx n).lastSeq := by rw [h.mail n]
theorem State.Records.job {a b : State} (h : State.Records a b) (n : Nat) : (b.mbx n).job = (a.mbx n).job := by rw [h.mail n]
theorem State.Records.next {a b : State} (h : State.Records a b) (n : Nat) : (b.mbx n).next = (a.mbx n).next := by rw [h.mail n]
theorem State.Records.rsp {a b : State} (h : State.Records a b) (n : Nat) : (b.mbx n).rsp = (a.mbx n).rsp := by rw [h.mail n]

/-- A connection that counts an event message. -/
theorem State.setConnOf_records (s : State) (m : Nat) (c : Option Conn) : State.Records s (s.setMbx m { s.mbx m with conn := c }) where
  mail n := by
    by_cases hn : n = m
    · subst hn; rw [State.mbx_setMbx]
    · rw [State.mbx_setMbx_other s _ hn]
  jobs f hf := Map.any_set (p := fun x : Mailbox => f x.job) (d := {}) hf rfl
  journals := .refl _

theorem State.ringChanged_records (s : State) : State.Records s s.ringChanged := by
  unfold State.ringChanged
  exact .ite (.of_eq rfl (.refl _)) (.of_eq rfl (.refl _))

theorem State.ringPut_records (s : State) (pad bs : Bytes) (n : Nat) : State.Records s (s.ringPut pad bs n) := by
  unfold State.ringPut
  dsimp only
  refine .trans (.of_eq ?_ ?_) (State.ringChanged_records _)
  · split <;> rfl
  · split <;> exact .refl _

theorem State.ringWrite_records (s : State) (e : Entry) : State.Records s (s.ringWrite e) := by
  unfold State.ringWrite
  dsimp only
  exact .ite (.refl s) (.ite (.of_eq rfl (.refl _)) (.ite (.of_eq rfl (.refl _)) (.ite (.of_eq rfl (.refl _)) (s.ringPut_records _ _ _))))

theorem State.deliverTo_records (s : State) (e : Entry) (x : Session) : State.Records s (s.deliverTo e x) := by
  unfold State.deliverTo
  dsimp only
  cases (s.mbx x.mailbox).conn with
  | none => exact .refl s
  | some c => exact .ite (.refl s) (.ite (s.setConnOf_records _ _) (.trans (s.setConnOf_records _ _) (.of_eq rfl (.refl _))))

theorem State.deliver_records (s : State) (e : Entry) : State.Records s (s.deliver e) := .fold (fun s x => s.deliverTo_records e x) _ s

/-- A record that the buffer takes stands in it with the journal's next sequence number (R529, R532). -/
theorem State.recordRaw_added {s : State} {ty time : Nat} {bs : Bytes} (hroom : bit ty 15 = true ∨ s.recorder.used + 16 + (padTo 4 bs).length ≤ 245760) :
    ({ s.recorder with buf := s.recorder.buf ++ [{ ty := ty, time := time, seq := nextSeq (if bit ty 15 then s.recorder.seqAudit else s.recorder.seqOp), payload := padTo 4 bs }] } : Recorder).Grows
      (s.recordRaw ty time bs).recorder := by
  have hkept : ¬ ((!bit ty 15 && decide (s.recorder.used + 16 + (padTo 4 bs).length > 262144 - 16384)) = true) := by
    rcases hroom with h | h
    · simp [h]
    · simp [h]
  unfold State.recordRaw
  dsimp only
  rw [if_neg hkept]
  refine .trans ?_ ((State.ringWrite_records _ _).trans (State.deliver_records _ _)).journals
  split <;> split <;> exact ⟨List.prefix_refl _, rfl, rfl, rfl⟩

theorem State.recordRaw_records (s : State) (ty time : Nat) (bs : Bytes) : State.Records s (s.recordRaw ty time bs) := by
  unfold State.recordRaw
  dsimp only
  refine .ite (.of_eq rfl ⟨List.prefix_refl _, rfl, rfl, rfl⟩) (.trans (.of_eq ?_ ?_) ((State.ringWrite_records _ _).trans (State.deliver_records _ _)))
  · split <;> split <;> rfl
  · split <;> split <;> exact ⟨List.prefix_append _ _, rfl, rfl, rfl⟩

theorem State.record_records (s : State) (ty : Nat) (v : List (Nat × Int)) : State.Records s (s.record ty v) := s.recordRaw_records _ _ _

theorem State.recordLimited_records (s : State) (ty subject : Nat) (v : List (Nat × Int)) : State.Records s (s.recordLimited ty subject v) := by
  have raw (l : List RateEntry) (bs : Bytes) : State.Records s (({ s with recorder := { s.recorder with rate := l } } : State).recordRaw ty s.now bs) :=
    .trans (.of_eq (b := { s with recorder := { s.recorder with rate := l } }) rfl ⟨List.prefix_refl _, rfl, rfl, rfl⟩) (State.recordRaw_records _ _ _ _)
  simp only [State.recordLimited]
  split
  · exact raw _ _
  · exact .ite (raw _ _) (.of_eq rfl ⟨List.prefix_refl _, rfl, rfl, rfl⟩)

theorem State.doorDenied_records (s : State) (d i l k a e : Nat) : State.Records s (s.doorDenied d i l k a e) := s.recordLimited_records _ _ _

theorem State.hostDenied_records (s : State) (kind addr n : Nat) : State.Records s (s.hostDenied kind addr n) := by
  unfold State.hostDenied
  split
  · exact s.doorDenied_records _ _ _ _ _ _
  · exact .refl s

/-! Settling a step. -/

theorem settled_records (a b : State) : State.Records b (settled a b) := by
  unfold settled
  dsimp only
  generalize hc : (if ((a.safeCauses != 0) != (b.safeCauses != 0)) = true then b.record evSafeFaultChange [p2 b.safeCauses] else b) = c
  have h : State.Records b c := by
    subst hc
    exact .ite (b.record_records _ _) (.refl b)
  cases c.out.ringDenied with
  | none => exact h
  | some x => exact h.trans (.trans (.of_eq (b := { c with out := { c.out with ringDenied := none } }) rfl (.refl _)) (State.doorDenied_records _ _ _ _ _ _ _))

theorem settle_records (a b : State) : State.Records b (settle a b) := by
  rw [settle_eq]
  refine (settled_records a b).trans (.of_eq ?_ (.of_eq ?_))
  · rw [setHealth_mbx, settleCount_izent, drive_izent]
  · rw [setHealth_recorder, settleCount_recorder, drive_recorder]

theorem State.safeCauses_of_same {a b : State} (h : b.comp = a.comp) (g : b.izent.devState = a.izent.devState) : b.safeCauses = a.safeCauses := by
  simp only [State.safeCauses, h, g]

/-- A step that moves no cause of SAFE_FAULT and wrote its event ring records nothing as it is settled (R248, R443). -/
theorem settled_quiet {a b : State} (hsafe : b.safeCauses = a.safeCauses) (hring : b.out.ringDenied = none) : settled a b = b := by
  simp [settled, hsafe, hring]

theorem settle_quiet_mbx {a b : State} (hsafe : b.safeCauses = a.safeCauses) (hring : b.out.ringDenied = none) (n : Nat) : (settle a b).mbx n = b.mbx n := by
  rw [State.mbx, settle_eq, setHealth_mbx, settleCount_izent, drive_izent, settled_quiet hsafe hring]
  rfl

theorem setHealth_msix (s : State) (x y z : Bool) : s.out.msix <+: (s.setHealth x y z).out.msix := by
  simp only [State.setHealth]
  split <;> split <;> simp [State.raise]

/-- Its vectors stay raised (R312). -/
theorem settle_quiet_msix {a b : State} (hsafe : b.safeCauses = a.safeCauses) (hring : b.out.ringDenied = none) : b.out.msix <+: (settle a b).out.msix := by
  rw [settle_eq, settled_quiet hsafe hring]
  refine .trans ?_ (setHealth_msix _ _ _ _)
  rw [settleCount_out]
  exact List.prefix_refl _

/-! A response (R307). -/

/-- A command sent by ABORT leaves the job of its mailbox; every other response ends it (R335). -/
def endsJob (cmd : Nat) (x : Mailbox) : Bool := cmd != 0x01FF || x.job.isNone

/-- The mailbox `x` once the response has been stored in it: what stays, and that the response stands where there is someone to hear it (R314). -/
structure Mailbox.Answered (cmd : Nat) (r : Rsp) (pcie : Bool) (x y : Mailbox) : Prop where
  lastSeq : y.lastSeq = x.lastSeq
  next : y.next = x.next
  conn : y.conn = x.conn
  job : y.job = if endsJob cmd x then none else x.job
  rsp : y.rsp = if pcie || x.conn.isSome then some r else none

/-- The end of a local action is recorded (R434). -/
theorem State.localEnded_records (s : State) (status : Nat) (p : Bytes) : State.Records s (s.localEnded status p) := by
  unfold State.localEnded
  split
  · exact .refl s
  · exact .trans (.of_eq (b := { s with touch := { s.touch with running := none } }) rfl (.refl _)) (State.record_records _ _ _)

/-- A response that the door lets through is written, and its vector raised (R312). -/
theorem State.sent_records (s : State) (ok irq : Bool) (addr v : Nat) (bs : Bytes) :
    State.Records s (if (ok && irq) = true then (if ok = true then s.hostWrite addr bs else s).raise v else if ok = true then s.hostWrite addr bs else s) := by
  cases ok <;> cases irq <;> exact .of_eq rfl (.refl _)

/-- A response writes its own mailbox; on others, and on the journals, it leaves what recording leaves. -/
theorem respond_writes (s : State) (mb cmd : Nat) (m : Msg) (status : Nat) (p : Bytes) :
    ∃ y, Mailbox.Answered cmd (rspOf cmd m status p) (mb < 16 || mb = 24) (s.mbx mb) y ∧ ∃ a, State.Records s a ∧ State.Records (a.setMbx mb y) (s.respond mb cmd m status p) := by
  unfold State.respond
  dsimp only
  by_cases hm : mb < 16
  · rw [if_pos hm]
    refine ⟨_, ?_, _, ?_, State.sent_records _ _ _ _ _ _⟩
    · constructor <;> simp [hm, endsJob, rspOf]
    · exact .ite (.refl s) (s.hostDenied_records _ _ _)
  · rw [if_neg hm]
    refine ⟨_, ?_, s, .refl s, .ite (State.localEnded_records _ _ _) (.refl _)⟩
    constructor <;> simp [hm, endsJob, rspOf]

section
variable (s : State) (mb cmd : Nat) (m : Msg) (status : Nat) (p : Bytes)

theorem respond_other {n : Nat} (h : n ≠ mb) : (s.respond mb cmd m status p).mbx n = { s.mbx n with conn := ((s.respond mb cmd m status p).mbx n).conn } := by
  obtain ⟨y, -, a, ha, hr⟩ := respond_writes s mb cmd m status p
  rw [hr.mail n, State.mbx_setMbx_other a y h, ha.mail n]

theorem respond_own : ∃ y, Mailbox.Answered cmd (rspOf cmd m status p) (mb < 16 || mb = 24) (s.mbx mb) y ∧ (s.respond mb cmd m status p).mbx mb = { y with conn := ((s.respond mb cmd m status p).mbx mb).conn } := by
  obtain ⟨y, hy, a, -, hr⟩ := respond_writes s mb cmd m status p
  exact ⟨y, hy, by rw [hr.mail mb, State.mbx_setMbx]⟩

theorem respond_grows : s.recorder.Grows (s.respond mb cmd m status p).recorder := by
  obtain ⟨y, -, a, ha, hr⟩ := respond_writes s mb cmd m status p
  exact ha.journals.trans hr.journals

theorem respond_lastSeq : ((s.respond mb cmd m status p).mbx mb).lastSeq = (s.mbx mb).lastSeq := by
  obtain ⟨y, hy, hr⟩ := respond_own s mb cmd m status p
  rw [hr]; exact hy.lastSeq

theorem respond_next : ((s.respond mb cmd m status p).mbx mb).next = (s.mbx mb).next := by
  obtain ⟨y, hy, hr⟩ := respond_own s mb cmd m status p
  rw [hr]; exact hy.next

end

end Sys2Proof.Machine
end

section
/-! PROOF of the claim on the event ring's registers (spec/11_izent.md, R309, R310, R312): each row writes the ring's registers and nothing else of the block. -/

namespace Sys2Proof.Machine

/-- EVR_CONTROL as the write leaves the ring (R309). -/
def EventRing.controlled (r : EventRing) (v : Nat) : EventRing :=
  { (if bit v 0 && !r.enable then { r with producer := 0, consumer := 0, fault := false } else r) with enable := bit v 0, operational := bit v 1, audit := bit v 2, holdoff := min 1000 (field v 16 10) }

theorem EventRing.controlled_starts {r : EventRing} {v : Nat} (h : bit v 0 = true ∧ r.enable = false) :
    r.controlled v = { r with enable := bit v 0, operational := bit v 1, audit := bit v 2, holdoff := min 1000 (field v 16 10), producer := 0, consumer := 0, fault := false } := by
  rw [EventRing.controlled, if_pos (by simp [h])]

theorem EventRing.controlled_keeps {r : EventRing} {v : Nat} (h : ¬ (bit v 0 = true ∧ r.enable = false)) :
    r.controlled v = { r with enable := bit v 0, operational := bit v 1, audit := bit v 2, holdoff := min 1000 (field v 16 10) } := by
  rw [EventRing.controlled, if_neg (by simpa using h)]

theorem exec_evrEnable {t : Time} {val : Nat} {s : State} (hup : (s.tick t).bar0Up = true) (hval : val < 4294967296) :
    exec (.evrEnable t val) s = .next (settle (s.tick t) { s.tick t with izent := { s.izent with ring := s.izent.ring.controlled val }, out := {} }) := by
  show execEvrEnable t val s = _
  rw [execEvrEnable, run_next, if_pos hup, Nat.mod_eq_of_lt hval]
  rfl

theorem evrEnable_completes {t : Time} {val : Nat} {s : State} (hup : (s.tick t).bar0Up = true) (hval : val < 4294967296) : Completes (.evrEnable t val) s fun u =>
    u.izent.ring.enable = bit val 0 ∧ u.izent.ring.operational = bit val 1 ∧ u.izent.ring.audit = bit val 2 ∧ u.izent.ring.holdoff = min 1000 (field val 16 10) ∧
    u.izent.ring.base = s.izent.ring.base ∧ u.izent.ring.size = s.izent.ring.size ∧ u.izent.ring.drops = s.izent.ring.drops ∧
    (if bit val 0 = true ∧ s.izent.ring.enable = false then u.izent.ring.producer = 0 ∧ u.izent.ring.consumer = 0 ∧ u.izent.ring.fault = false
     else u.izent.ring.producer = s.izent.ring.producer ∧ u.izent.ring.consumer = s.izent.ring.consumer ∧ u.izent.ring.fault = s.izent.ring.fault) ∧ State.SameBlock (s.tick t) u := by
  refine completes_interface (exec_evrEnable hup hval) ⟨rfl, rfl, rfl⟩ rfl fun u hu hb => ?_
  rw [hu]
  split
  case isTrue hstart =>
    rw [EventRing.controlled_starts hstart]
    exact ⟨rfl, rfl, rfl, rfl, rfl, rfl, rfl, ⟨rfl, rfl, rfl⟩, hb⟩
  case isFalse hstart =>
    rw [EventRing.controlled_keeps hstart]
    exact ⟨rfl, rfl, rfl, rfl, rfl, rfl, rfl, ⟨rfl, rfl, rfl⟩, hb⟩

theorem State.ringConsumer_eq (s : State) (v : Nat) : s.ringConsumer v = s.setRing (if v % 8 = 0 ∧ v < s.izent.ring.size then { s.izent.ring with consumer := v } else s.izent.ring) := by
  by_cases hin : v % 8 = 0 ∧ v < s.izent.ring.size
  · rw [State.ringConsumer, if_pos hin, if_pos (by simpa using hin)]
  · rw [State.ringConsumer, if_neg hin, if_neg (by simpa using hin)]; rfl

theorem exec_evrConsumerWrite {t : Time} {val : Nat} {s : State} (hup : (s.tick t).bar0Up = true) (hval : val < 4294967296) :
    exec (.evrConsumerWrite t val) s = .next (settle (s.tick t)
      { s.tick t with izent := { s.izent with ring := if val % 8 = 0 ∧ val < s.izent.ring.size then { s.izent.ring with consumer := val } else s.izent.ring }, out := {} }) := by
  show execEvrConsumerWrite t val s = _
  rw [execEvrConsumerWrite, run_next, if_pos hup, Nat.mod_eq_of_lt hval, State.ringConsumer_eq]
  rfl

theorem evrConsumerWrite_completes {t : Time} {val : Nat} {s : State} (hup : (s.tick t).bar0Up = true) (hval : val < 4294967296) : Completes (.evrConsumerWrite t val) s fun u =>
    State.SameBlock (s.tick t) u ∧ u.izent.ring = if val % 8 = 0 ∧ val < s.izent.ring.size then { s.izent.ring with consumer := val } else s.izent.ring :=
  completes_interface (exec_evrConsumerWrite hup hval) ⟨rfl, rfl, rfl⟩ rfl fun _ hu hb => ⟨hb, by rw [hu]⟩

/-- The interface once vector 16 has been raised at the end of the hold-off (R310, R312). -/
def State.holdoffEnded (a : State) : Izent :=
  { a.izent with
    ring := { a.izent.ring with raisedAt := some a.clk, pendingIrq := false }
    msixPending := if a.masked 16 then setBit a.izent.msixPending 16 true else a.izent.msixPending }

theorem exec_evrHoldoffExpiry {t x : Time} {s : State} (hpending : s.izent.ring.pendingIrq = true) (hraised : s.izent.ring.raisedAt = some x) (hpast : x + s.izent.ring.holdoff * 1000 ≤ (s.tick t).clk) :
    exec (.evrHoldoffExpiry t) s = .next (settle (s.tick t) { s.tick t with izent := (s.tick t).holdoffEnded, out := { msix := [16] } }) := by
  show execEvrHoldoffExpiry t s = _
  have hpending' : (s.tick t).izent.ring.pendingIrq = true := hpending
  have hraised' : (s.tick t).izent.ring.raisedAt = some x := hraised
  have hpast' : x + (s.tick t).izent.ring.holdoff * us ≤ (s.tick t).clk := hpast
  rw [execEvrHoldoffExpiry, run_next]
  simp only [hpending', hraised', hpast', decide_true, Bool.and_self, if_true]
  rfl

/-- The hold-off ends with a change outstanding: vector 16 is raised, and stays raised as the step is settled. -/
theorem evrHoldoffExpiry_raises {t x : Time} {s : State} (hpending : s.izent.ring.pendingIrq = true) (hraised : s.izent.ring.raisedAt = some x) (hpast : x + s.izent.ring.holdoff * 1000 ≤ (s.tick t).clk) :
    Completes (.evrHoldoffExpiry t) s fun u =>
      16 ∈ u.out.msix ∧ u.izent.ring = { s.izent.ring with raisedAt := some (s.tick t).clk, pendingIrq := false } ∧ State.SameBlock (s.tick t) u := by
  obtain ⟨hizent, hblock⟩ := settle_interface (s.tick t) (y := (s.tick t).holdoffEnded) (o := { msix := [16] }) ⟨rfl, rfl, rfl⟩ rfl
  refine ⟨_, exec_evrHoldoffExpiry hpending hraised hpast, ?_, congrArg Izent.ring hizent, hblock⟩
  have hsent : [16] <+: (settle (s.tick t) { s.tick t with izent := (s.tick t).holdoffEnded, out := { msix := [16] } }).out.msix :=
    settle_quiet_msix (b := { s.tick t with izent := (s.tick t).holdoffEnded, out := { msix := [16] } }) (State.safeCauses_of_same rfl rfl) rfl
  exact hsent.subset (List.mem_singleton_self 16)

/-- Settles O32: each row writes the ring's registers, and settling the step leaves what it wrote. -/
theorem eventRingCommandsComplete : Obligations.EventRingCommandsComplete := by
  unfold Obligations.EventRingCommandsComplete
  exact ⟨fun t val s => evrEnable_completes, fun t val s => evrConsumerWrite_completes, fun t x s => evrHoldoffExpiry_raises⟩

end Sys2Proof.Machine
end

section
/-! PROOF of the claim on reconciliation (spec/11_izent.md, R342): each unit is compared by itself, so that where every other pair agrees the next state is that of the one comparison. -/

namespace Sys2Proof.Machine

/-! What the pairs of a state depend on. -/

/-- What leaves the units alone differs in the interface, the recorder and what is sent out alone. -/
theorem State.SameUnits.eq_with {a b : State} (h : State.SameUnits a b) : b = { a with izent := b.izent, recorder := b.recorder, out := b.out } := by
  obtain ⟨htime, hprot, hpower, hhealth, hupd, hstreams, hcomp, henc, hlanes, htouch, hdram, hfree, hpending⟩ := h
  cases a
  cases b
  simp only at htime hprot hpower hhealth hupd hstreams hcomp henc hlanes htouch hdram hfree hpending
  subst htime hprot hpower hhealth hupd hstreams hcomp henc hlanes htouch hdram hfree hpending
  rfl

/-- The command of a job names the unit (R334). -/
def State.namesUnit (s : State) (u : Nat × Nat) : Option Job → Bool
  | some j => (s.targets j).contains u
  | none => false

/-- The job holds the device lock exclusively (R330). -/
def holdsDevice : Option Job → Bool
  | some j => j.cause.isNone
  | none => false

theorem State.pair_of_same {a b : State} (h : State.SameUnits a b) (k n : Nat) : b.pair k n = a.pair k n := by
  rw [h.eq_with]; rfl

theorem State.pendingFor_of_same {a b : State} (h : State.SameUnits a b) (g : State.Records a b) (k n : Nat) : b.pendingFor k n = a.pendingFor k n := by
  have hjobs := g.jobs (a.namesUnit (k, n)) rfl
  rw [h.eq_with]
  exact congrArg (· || _) hjobs

theorem State.deviceHolder_isNone (s : State) : s.deviceHolder.isNone = !s.izent.mbx.any fun e => holdsDevice e.2.job := by
  show (Option.map (·.1) (s.izent.mbx.find? fun e => holdsDevice e.2.job)).isNone = _
  rw [Bool.eq_iff_iff]
  simp

theorem State.canApply_of_same {a b : State} (h : State.SameUnits a b) (g : State.Records a b) (k n : Nat) : b.canApply k n = a.canApply k n := by
  have hholder : b.deviceHolder.isNone = a.deviceHolder.isNone := by rw [b.deviceHolder_isNone, a.deviceHolder_isNone, g.jobs holdsDevice rfl]
  have hdom : b.dom n = a.dom n := by rw [h.eq_with]; rfl
  have hon : b.domOn = a.domOn := by rw [h.eq_with]; rfl
  have hoff : (fun d => (b.dom d).state == DomState.off) = fun d => (a.dom d).state == DomState.off := by rw [h.eq_with]; rfl
  unfold State.canApply
  rw [hholder, hdom, hon, hoff, h.comp]

/-! Comparing the units (R342). -/

/-- The state during a comparison of the units of `a` that has so far left `l` as the disagreements; the rest of `a` stays, but for what recording changes. -/
structure State.Comparing (a : State) (l : List Compare) (v : State) : Prop where
  units : State.SameUnits { a with health := { a.health with comparedAt := some a.clk, compares := l } } v
  mail : State.Records { a with health := { a.health with comparedAt := some a.clk, compares := l } } v

section
variable {a v : State} {l : List Compare}

theorem State.Comparing.begin (a : State) : State.Comparing a a.health.compares { a with health := { a.health with comparedAt := some a.clk } } := ⟨.refl _, .refl _⟩

theorem State.Comparing.compares (h : State.Comparing a l v) : v.health.compares = l := congrArg Health.compares h.units.health

theorem State.Comparing.clk (h : State.Comparing a l v) : v.clk = a.clk := congrArg TimeState.clk h.units.time

theorem State.Comparing.now (h : State.Comparing a l v) : v.now = a.now := congrArg TimeState.now h.units.time

theorem State.Comparing.agrees (h : State.Comparing a l v) (k n : Nat) : (v.pair k n).agrees (v.pendingFor k n) = (a.pair k n).agrees (a.pendingFor k n) := by
  rw [State.pair_of_same h.units, State.pendingFor_of_same h.units h.mail]; rfl

theorem State.Comparing.canApply (h : State.Comparing a l v) (k n : Nat) : v.canApply k n = a.canApply k n := by
  rw [State.canApply_of_same h.units h.mail]; rfl

/-- Other disagreements are noted. -/
theorem State.Comparing.note (h : State.Comparing a l v) (r : List Compare) : State.Comparing a r { v with health := { v.health with compares := r } } := by
  have hhealth : ({ v.health with compares := r } : Health) = { a.health with comparedAt := some a.clk, compares := r } := by rw [h.units.health]
  exact ⟨⟨h.units.time, h.units.prot, h.units.power, hhealth, h.units.upd, h.units.streams, h.units.comp, h.units.enc, h.units.lanes, h.units.touch, h.units.dram, h.units.freeCtr, h.units.pending,
    h.units.devState, h.units.sessions, h.units.idle, h.units.alive, h.units.rsp, h.units.heard⟩, ⟨h.mail.mail, h.mail.jobs, h.mail.journals⟩⟩

theorem State.Comparing.record (h : State.Comparing a l v) (ty : Nat) (p : List (Nat × Int)) : State.Comparing a l (v.record ty p) :=
  ⟨h.units.trans (v.record_same ty p), h.mail.trans (v.record_records ty p)⟩

theorem State.Comparing.recordMismatch (h : State.Comparing a l v) (k n : Nat) (p : Bool) : State.Comparing a l (v.recordMismatch k n p) := h.record _ _

end

/-! One comparison. -/

theorem thousand_ms : 1000 * ms = 1000000000 := rfl

/-- What is known of a unit's disagreement, where its pair is the only one that may disagree. -/
def Compare.isOf (c : Compare) (k n : Nat) : Prop := c.kind = k ∧ c.unit = n

section
variable {a v : State} {k n : Nat}

theorem compareUnit_unlisted {l : List Compare} (h : State.Comparing a l v) (hl : ∀ c ∈ l, ¬ c.isOf k n) (hok : (a.pair k n).agrees (a.pendingFor k n) = true) : v.compareUnit k n = v := by
  have hnone : v.health.compares.find? (fun c => c.kind == k && c.unit == n) = none := by
    rw [h.compares, List.find?_eq_none]
    exact fun c hc => by simpa [Compare.isOf] using hl c hc
  simp only [State.compareUnit, h.agrees, hok, hnone, if_true]

/-- A pair that disagrees anew is noted. -/
theorem compareUnit_notes (h : State.Comparing a [] v) (hbad : (a.pair k n).agrees (a.pendingFor k n) = false) :
    State.Comparing a [{ kind := k, unit := n, sinceDt := a.now, since := a.clk }] (v.compareUnit k n) := by
  simp only [State.compareUnit, h.agrees, hbad, Bool.false_eq_true, if_false, h.compares, h.now, h.clk, List.nil_append]
  exact h.note _

variable {c : Compare} (hc : c.isOf k n)
include hc

theorem find_isOf : [c].find? (fun c => c.kind == k && c.unit == n) = some c := by
  obtain ⟨rfl, rfl⟩ := hc
  simp

theorem setCompare_isOf (h : State.Comparing a [c] v) {d : Compare} (hd : d.isOf k n) : State.Comparing a [d] (v.setCompare d) := by
  have hone : v.health.compares.map (fun x : Compare => if x.kind == d.kind && x.unit == d.unit then d else x) = [d] := by
    obtain ⟨rfl, rfl⟩ := hc
    rw [h.compares]
    simp [hd.1, hd.2]
  rw [State.setCompare, hone]
  exact h.note _

/-- A pair that agrees again is forgotten. -/
theorem compareUnit_forgets (h : State.Comparing a [c] v) (hok : (a.pair k n).agrees (a.pendingFor k n) = true) : State.Comparing a [] (v.compareUnit k n) := by
  have hfind : v.health.compares.find? (fun c => c.kind == k && c.unit == n) = some c := by rw [h.compares, find_isOf hc]
  have hrest : v.health.compares.filter (fun x => !(x.kind == k && x.unit == n)) = [] := by
    obtain ⟨rfl, rfl⟩ := hc
    simp [h.compares]
  simp only [State.compareUnit, h.agrees, hok, hfind, hrest, if_true]
  split
  · exact (h.note []).record _ _
  · exact h.note []

section
variable (hbad : (a.pair k n).agrees (a.pendingFor k n) = false)
include hbad

/-- A disagreement that is not due for its report waits. -/
theorem compareUnit_waits (h : State.Comparing a [c] v) (hnew : c.reportedAt = none) (hearly : a.clk < c.since + 100000000) : v.compareUnit k n = v := by
  have hfind : v.health.compares.find? (fun c => c.kind == k && c.unit == n) = some c := by rw [h.compares, find_isOf hc]
  have hearly' : v.clk < c.since + 100 * ms := h.clk ▸ hearly
  simp only [State.compareUnit, h.agrees, hbad, hfind, hnew, hearly', Bool.false_eq_true, if_false, if_true]

/-- A disagreement of 100 ms is reported; where the intended configuration cannot be applied it waits. -/
theorem compareUnit_reports (h : State.Comparing a [c] v) (hnew : c.reportedAt = none) (hdue : c.since + 100000000 ≤ a.clk) (hcannot : a.canApply k n = false) :
    State.Comparing a [{ c with reportedAt := some a.clk }] (v.compareUnit k n) := by
  have hfind : v.health.compares.find? (fun c => c.kind == k && c.unit == n) = some c := by rw [h.compares, find_isOf hc]
  have hdue' : ¬ a.clk < c.since + 100 * ms := Nat.not_lt.mpr hdue
  obtain ⟨rfl, rfl⟩ := hc
  have hreported := (setCompare_isOf ⟨rfl, rfl⟩ h (d := { c with reportedAt := some a.clk }) ⟨rfl, rfl⟩).recordMismatch c.kind c.unit false
  have hleft := hreported.canApply c.kind c.unit
  rw [hcannot] at hleft
  simp only [State.compareUnit, h.agrees, hbad, hfind, hnew, h.clk, hdue', Bool.false_eq_true, if_false]
  rw [State.tryApply, if_pos (by simp [hleft])]
  exact hreported

/-- A reported disagreement that is not due for PERSISTENT waits, where the intended configuration cannot be applied or has been given up. -/
theorem compareUnit_stays {t0 : Time} (h : State.Comparing a [c] v) (hreported : c.reportedAt = some t0) (hnot : c.persistent = true ∨ (a.clk < t0 + 1000000000 ∧ a.canApply k n = false)) : v.compareUnit k n = v := by
  have hfind : v.health.compares.find? (fun c => c.kind == k && c.unit == n) = some c := by rw [h.compares, find_isOf hc]
  have hwait : ¬ (!c.persistent && decide (t0 + 1000 * ms ≤ v.clk)) = true := by
    rw [h.clk]
    rcases hnot with hp | ⟨hearly, -⟩
    · simp [hp]
    · have : ¬ t0 + 1000000000 ≤ a.clk := Nat.not_le.mpr hearly
      simp [thousand_ms, this]
  have hleft : (c.applied || c.persistent || !v.canApply c.kind c.unit) = true := by
    rw [hc.1, hc.2, h.canApply]
    rcases hnot with hp | ⟨-, hcannot⟩
    · simp [hp]
    · simp [hcannot]
  simp only [State.compareUnit, h.agrees, hbad, hfind, hreported, Bool.false_eq_true, if_false]
  rw [if_neg hwait, State.tryApply, if_pos hleft]

/-- A disagreement reported 1 000 ms ago is reported as PERSISTENT. -/
theorem compareUnit_persists {t0 : Time} (h : State.Comparing a [c] v) (hreported : c.reportedAt = some t0) (hdue : t0 + 1000000000 ≤ a.clk) (hnot : c.persistent = false) :
    State.Comparing a [{ c with persistent := true }] (v.compareUnit k n) := by
  have hfind : v.health.compares.find? (fun c => c.kind == k && c.unit == n) = some c := by rw [h.compares, find_isOf hc]
  have hdue' : (!c.persistent && decide (t0 + 1000 * ms ≤ v.clk)) = true := by
    rw [h.clk, hnot, thousand_ms, decide_eq_true hdue]; rfl
  have hpersists := (setCompare_isOf hc h (d := { c with persistent := true }) hc).recordMismatch k n true
  simp only [hreported] at hpersists
  simp only [State.compareUnit, h.agrees, hbad, hfind, hreported, Bool.false_eq_true, if_false]
  rw [if_pos hdue']
  exact hpersists

end
end

/-! RECONCILE. -/

theorem foldl_keeps {α β : Type} {f : β → α → β} {P : β → Prop} {l : List α} (h : ∀ b, P b → ∀ x ∈ l, P (f b x)) {b : β} (hb : P b) : P (l.foldl f b) := by
  induction l generalizing b with
  | nil => exact hb
  | cons x l ih => exact ih (fun b hb y hy => h b hb y (List.mem_cons_of_mem _ hy)) (h b hb x (List.mem_cons_self ..))

/-- A fold in which one element turns `P` into `Q`, and every other, and that one again, keeps both. -/
theorem foldl_turns {α β : Type} {f : β → α → β} {P Q : β → Prop} {x : α} {l : List α} (hx : x ∈ l) (hother : ∀ b, P b → ∀ y ∈ l, y ≠ x → P (f b y)) (hturn : ∀ b, P b → Q (f b x))
    (hkeep : ∀ b, Q b → ∀ y ∈ l, Q (f b y)) {b : β} (hb : P b) : Q (l.foldl f b) := by
  induction l generalizing b with
  | nil => cases hx
  | cons y l ih =>
    have hrest : ∀ z ∈ l, z ∈ y :: l := fun z hz => List.mem_cons_of_mem _ hz
    by_cases hy : y = x
    · subst hy
      exact foldl_keeps (fun b hb z hz => hkeep b hb z (hrest z hz)) (hturn b hb)
    · have hx' : x ∈ l := (List.mem_cons.mp hx).resolve_left (Ne.symm hy)
      exact ih hx' (fun b hb z hz => hother b hb z (hrest z hz)) (fun b hb z hz => hkeep b hb z (hrest z hz)) (hother b hb y (List.mem_cons_self ..) hy)

section
variable {t : Time} {k n : Nat} {s : State} (hready : s.izent.devState = .ready) (hspire : (s.tick t).spireB = true) (hperiod : ∀ x, s.health.comparedAt = some x → x + 10000000 ≤ (s.tick t).clk)
include hready hspire hperiod

theorem exec_reconcile : exec (.reconcile t) s = .next (settle (s.tick t)
    ((s.tick t).pairUnits.foldl (fun v u => v.compareUnit u.1 u.2) { s.tick t with health := { s.health with comparedAt := some (s.tick t).clk } })) := by
  have hdue : (s.tick t).periodDue (s.tick t).health.comparedAt (10 * ms) = true := State.periodDue_of hperiod
  have hready' : (s.tick t).izent.devState = .ready := hready
  show execReconcile t s = _
  rw [execReconcile, run_next, hready', hspire, hdue]
  rfl

theorem reconcile_leaves {l : List Compare} (h : State.Comparing (s.tick t) l ((s.tick t).pairUnits.foldl (fun v u => v.compareUnit u.1 u.2) { s.tick t with health := { s.health with comparedAt := some (s.tick t).clk } })) :
    Leaves (.reconcile t) s { s.tick t with health := { s.health with comparedAt := some (s.tick t).clk, compares := l } } :=
  leaves_settled (exec_reconcile hready hspire hperiod) h.units.block

variable (hothers : ∀ x ∈ (s.tick t).pairUnits, x ≠ (k, n) → ((s.tick t).pair x.1 x.2).agrees ((s.tick t).pendingFor x.1 x.2) = true)
include hothers

/-- Where every other pair agrees, the comparison of one unit decides what is noted. -/
theorem reconcile_one {l r : List Compare} (hl : s.health.compares = l) (hmem : (k, n) ∈ (s.tick t).pairUnits) (hof : ∀ c ∈ l ++ r, c.isOf k n)
    (hturn : ∀ v, State.Comparing (s.tick t) l v → State.Comparing (s.tick t) r (v.compareUnit k n)) (hagain : ∀ v, State.Comparing (s.tick t) r v → v.compareUnit k n = v) :
    Leaves (.reconcile t) s { s.tick t with health := { s.health with comparedAt := some (s.tick t).clk, compares := r } } := by
  have hother (q : List Compare) (hq : ∀ c ∈ q, c.isOf k n) (v : State) (hv : State.Comparing (s.tick t) q v) (y : Nat × Nat) (hy : y ∈ (s.tick t).pairUnits) (hne : y ≠ (k, n)) : v.compareUnit y.1 y.2 = v :=
    compareUnit_unlisted hv (fun c hc hcy => hne (Prod.ext (hcy.1.symm.trans (hq c hc).1) (hcy.2.symm.trans (hq c hc).2))) (hothers y hy hne)
  refine reconcile_leaves hready hspire hperiod (foldl_turns (P := State.Comparing (s.tick t) l) hmem (fun v hv y hy hne => ?_) (fun v hv => hturn v hv) (fun v hv y hy => ?_) (hl ▸ State.Comparing.begin (s.tick t)))
  · rw [hother l (fun c hc => hof c (List.mem_append_left _ hc)) v hv y hy hne]; exact hv
  · by_cases hne : y = (k, n)
    · subst hne; rw [hagain v hv]; exact hv
    · rw [hother r (fun c hc => hof c (List.mem_append_right _ hc)) v hv y hy hne]; exact hv

end

/-- Settles O42: of the units only (k, n) may disagree, and its comparison notes, reports or forgets it; a further comparison of it in the same pass changes nothing. -/
theorem supervisionCompletes : Obligations.SupervisionCompletes := by
  unfold Obligations.SupervisionCompletes
  intro t k n s hready hspire hperiod hothers
  refine ⟨fun hok hnone => ?agrees, fun hmem hbad hnone => ?notes, fun c hmem hbad hone hk hn => ⟨fun hnew hdue hcannot => ?reports, fun t0 hreported hdue hnot => ?persists⟩, fun c hmem hok hone hk hn => ?forgets⟩
  case agrees =>
    refine reconcile_leaves hready hspire hperiod (foldl_keeps (fun v hv y hy => ?_) (State.Comparing.begin (s.tick t)))
    have hoky : ((s.tick t).pair y.1 y.2).agrees ((s.tick t).pendingFor y.1 y.2) = true := by
      by_cases hy' : y = (k, n)
      · subst hy'; exact hok
      · exact hothers y hy hy'
    rw [compareUnit_unlisted hv (fun c hc => absurd (hnone ▸ hc) List.not_mem_nil) hoky]
    exact hv
  case notes =>
    have hof : Compare.isOf { kind := k, unit := n, sinceDt := (s.tick t).now, since := (s.tick t).clk } k n := ⟨rfl, rfl⟩
    exact reconcile_one hready hspire hperiod hothers hnone hmem (by simpa using hof) (fun v hv => compareUnit_notes hv hbad) fun v hv =>
      compareUnit_waits hof hbad hv rfl (Nat.lt_add_of_pos_right (by decide))
  case reports =>
    have hof : c.isOf k n := ⟨hk, hn⟩
    exact reconcile_one hready hspire hperiod hothers hone hmem (by simpa using ⟨hof, hof⟩) (fun v hv => compareUnit_reports hof hbad hv hnew hdue hcannot) fun v hv =>
      compareUnit_stays (c := { c with reportedAt := some (s.tick t).clk }) hof hbad hv rfl (.inr ⟨Nat.lt_add_of_pos_right (by decide), hcannot⟩)
  case persists =>
    have hof : c.isOf k n := ⟨hk, hn⟩
    exact reconcile_one hready hspire hperiod hothers hone hmem (by simpa using ⟨hof, hof⟩) (fun v hv => compareUnit_persists hof hbad hv hreported hdue hnot) fun v hv =>
      compareUnit_stays (c := { c with persistent := true }) hof hbad hv hreported (.inl rfl)
  case forgets =>
    have hof : c.isOf k n := ⟨hk, hn⟩
    exact reconcile_one hready hspire hperiod hothers hone hmem (by simpa using hof) (fun v hv => compareUnit_forgets hof hv hok) fun v hv =>
      compareUnit_unlisted hv (fun c hc => absurd hc List.not_mem_nil) hok

end Sys2Proof.Machine
end

section
/-! PROOF of the claim on requests that are not served (spec/11_izent.md, R317–R320, R324–R326): each check that fails ends in one response to what the message rang. -/

namespace Sys2Proof.Machine

/-! The checks that refuse (Table 11-8). -/

section
variable {s : State} {mb cmd : Nat} {m : Msg} {go : State → State}

theorem headChecks_header {o : Nat} (h : headerBad m = some o) : s.headChecks mb cmd m go = s.respondErr mb cmd m { status := stBadArg, check := 1, arg := o } := by
  unfold State.headChecks
  dsimp only
  rw [h]

theorem headChecks_crc (h : headerBad m = none) (hcrc : m.crc ≠ msgCrc cmd m) : s.headChecks mb cmd m go = s.respondErr mb cmd m { status := stBadCrc, check := 2 } := by
  unfold State.headChecks
  dsimp only
  rw [h]
  dsimp only
  rw [if_pos (by simp [hcrc])]

theorem headChecks_stale (h : headerBad m = none) (hcrc : m.crc = msgCrc cmd m) (hdata : 16 ≤ mb → m.data.map crc32c = m.dataCrc)
    (hold : (m.sequence + 4294967296 - (s.mbx mb).lastSeq) % 4294967296 < 1 ∨ 2147483647 < (m.sequence + 4294967296 - (s.mbx mb).lastSeq) % 4294967296) :
    s.headChecks mb cmd m go = s.respondErr mb cmd m { status := stStale, check := 3 } := by
  have hintact : ¬ (m.crc != msgCrc cmd m || (decide (mb ≥ 16) && m.data.map crc32c != m.dataCrc)) = true := by
    simpa [hcrc] using hdata
  unfold State.headChecks
  dsimp only
  rw [h]
  dsimp only
  rw [if_neg hintact, if_pos (by simpa using hold)]

end

/-- Checks 4 and 6 refuse after LAST_SEQ has been noted, and the session that the sender's is has been heard from (R318, R326). -/
theorem checkCall_refuses {s : State} {k : CmdKind} {mb : Nat} {m : Msg} {e : Err} (since : Time) (order : Nat) (body : Body) (h : headerBad m = none) (hcrc : m.crc = msgCrc (code k) m) (hdata : 16 ≤ mb → m.data.map crc32c = m.dataCrc)
    (hnew : 1 ≤ (m.sequence + 4294967296 - (s.mbx mb).lastSeq) % 4294967296 ∧ (m.sequence + 4294967296 - (s.mbx mb).lastSeq) % 4294967296 ≤ 2147483647) (hdenied : s.mayIssue k mb m (messagePayload m) = .error e) :
    s.checkCall k mb m since order body = ((s.setMbx mb { s.mbx mb with lastSeq := m.sequence }).heardFrom mb m).respondErr mb (code k) m e := by
  unfold State.checkCall
  rw [headChecks_pass _ _ _ _ _ h hcrc hdata hnew.1 hnew.2]
  dsimp only
  rw [show fit (m.length - 32) m.payload = messagePayload m from rfl, mayIssue_eq (s := s.setMbx mb _) s k mb m _ rfl rfl, hdenied]

/-! A message that has been read (R305–R307, R314). -/

theorem reaches_dataIntact {mb : Nat} {m : Msg} {a : State} (h : a.reaches mb m) (hnet : 16 ≤ mb) : m.data.map crc32c = m.dataCrc := by
  obtain ⟨-, ⟨hpcie, -⟩ | ⟨-, -, -, -, hdata⟩⟩ := h
  · omega
  · exact hdata

/-- A doorbell on an idle mailbox whose request can be read (R305–R307). -/
theorem ring_reads {s : State} {mb cmd : Nat} {m : Msg} {go : State → State} (hidle : (s.mbx mb).state = .idle) (hread : m.readFails = false) (hdoor : s.hostAllows 0 (s.mbx mb).request (max 32 m.length) = true) :
    s.ring mb cmd m go = go (s.setMbx mb { s.mbx mb with reqAddr := (s.mbx mb).request, rspAddr := (s.mbx mb).rspLo + (s.mbx mb).rspHi * 4294967296, command := cmd, reqTaken := true }) := by
  have hidle' : ¬ ((s.mbx mb).state != .idle) = true := by simp [hidle]
  have hreadable : ¬ (m.readFails || !s.hostAllows 0 (s.mbx mb).request (max 32 m.length)) = true := by simp [hread, hdoor]
  rw [State.ring, if_neg hidle']
  exact if_neg hreadable

/-- It is checked in the state that its arrival leaves. -/
theorem reaches_issue {mb : Nat} {m : Msg} {a : State} (h : a.reaches mb m) (k : CmdKind) (body : Body) :
    a.issue k mb m body = (a.rung k mb).checkCall k mb m a.clk (a.izent.orderCount + 1) body := by
  obtain ⟨hserves, ⟨hpcie, hidle, hread, hdoor⟩ | ⟨hnet, -, ⟨n, hconn, hrole⟩, hjob, -⟩⟩ := h
  · simp only [State.issue, State.rung, hserves, if_pos hpcie, Bool.not_true, Bool.false_eq_true, if_false]
    exact ring_reads (s := { a with izent := { a.izent with orderCount := a.izent.orderCount + 1 } }) hidle hread hdoor
  · have hlt : ¬ mb < 16 := Nat.not_lt.mpr hnet
    have hheard : ¬ n.role.isNone = true := by simpa [Option.isSome_iff_ne_none] using hrole
    unfold State.issue
    dsimp only
    rw [hserves, if_neg (by decide), if_neg hlt, hconn]
    dsimp only
    rw [if_neg hheard, if_pos (by rw [hjob]; rfl), ← hconn, State.rung]
    dsimp only
    rw [if_neg hlt]
    rfl

theorem rung_block (a : State) (k : CmdKind) (mb : Nat) : State.SameBlock a (a.rung k mb) := by
  simp only [State.rung]
  split <;> constructor <;> rfl

theorem rung_conn (a : State) (k : CmdKind) (mb : Nat) : ((a.rung k mb).mbx mb).conn = (a.mbx mb).conn := by
  simp only [State.rung]
  split <;> rw [State.mbx_setMbx] <;> rfl

theorem heardFrom_block {a b : State} (h : State.SameBlock a b) (mb : Nat) (m : Msg) : State.SameBlock (a.heardFrom mb m) (b.heardFrom mb m) := by
  have hnow : b.now = a.now := congrArg TimeState.now h.time
  have hclk : b.clk = a.clk := congrArg TimeState.clk h.time
  have hsessions : (b.heardFrom mb m).izent.sessions = (a.heardFrom mb m).izent.sessions := by simp only [State.heardFrom, h.sessions, hnow, hclk]
  exact ⟨h.time, h.prot, h.power, h.health, h.streams, h.comp, h.enc, h.lanes, h.touch, h.dram, h.images, h.planState, h.plan, h.order, h.activated, h.falling, h.activating, h.counter, h.devState, hsessions, h.idle⟩

theorem reaches_heard {k : CmdKind} {mb : Nat} {m : Msg} {a : State} (h : a.reaches mb m) : mb < 16 ∨ ((a.rung k mb).mbx mb).conn.isSome = true := by
  obtain ⟨-, ⟨hpcie, -⟩ | ⟨-, -, ⟨n, hconn, -⟩, -⟩⟩ := h
  · exact .inl hpcie
  · exact .inr (by rw [rung_conn, hconn]; rfl)

/-! A response to what has been heard. -/

theorem respond_block {s : State} {mb : Nat} (cmd : Nat) (m : Msg) (status : Nat) (p : Bytes) (h : mb < 24) (g : mb < 16 ∨ (s.mbx mb).conn.isSome = true) : State.SameBlock s (s.respond mb cmd m status p) := by
  have hstored : State.SameBlock s (s.setMbx mb { s.mbx mb with rsp := some (rspOf cmd m status p) }) := by constructor <;> rfl
  exact hstored.trans (respond_same s mb cmd m status p h g).block

/-- A row that ends in a response: it stands, LAST_SEQ and the further message stay, and the block is left alone. -/
theorem completes_response {i : Instr} {t : Time} {s v : State} {k : CmdKind} {mb : Nat} {m : Msg} {status : Nat} {p : Bytes} (hi : exec i s = .next (settle (s.tick t) (v.respond mb (code k) m status p)))
    (hl : mb < 24) (hheard : mb < 16 ∨ (v.mbx mb).conn.isSome = true) :
    Completes i s fun u => u.responds k mb m status p ∧ (u.mbx mb).lastSeq = (v.mbx mb).lastSeq ∧ (u.mbx mb).next = (v.mbx mb).next ∧ State.SameBlock v u := by
  refine ⟨_, hi, responds_settle _ (respond_rsp v mb (code k) m status p hl hheard), ?_, ?_, (respond_block _ m status p hl hheard).trans (settle_block _ _)⟩
  · rw [(settle_records _ _).lastSeq, respond_lastSeq]
  · rw [(settle_records _ _).next, respond_next]

theorem exec_reaches {k : CmdKind} {t : Time} {mb : Nat} {m : Msg} {s : State} (h : (s.tick t).reaches mb m) :
    exec (cmdInstr k t mb m) s = .next (settle (s.tick t) (((s.tick t).rung k mb).checkCall k mb m (s.tick t).clk ((s.tick t).izent.orderCount + 1) (bodyOf k))) := by
  rw [cmdInstr_exec, command, runIf_next (decide_eq_true (reaches_lt h)), reaches_issue h]

/-- Checks 1 to 3 refuse: LAST_SEQ stays. -/
theorem headRefusal_completes {k : CmdKind} {t : Time} {mb : Nat} {m : Msg} {s : State} {e : Err} (h : (s.tick t).reaches mb m)
    (he : ∀ go, ((s.tick t).rung k mb).headChecks mb (code k) m go = ((s.tick t).rung k mb).respondErr mb (code k) m e) :
    Completes (cmdInstr k t mb m) s fun u => u.responds k mb m e.status e.bytes ∧ (u.mbx mb).lastSeq = (s.mbx mb).lastSeq ∧ State.SameBlock (s.tick t) u := by
  have hi := exec_reaches (k := k) h
  rw [State.checkCall, he, State.respondErr] at hi
  obtain ⟨u, hu, hrsp, hseq, -, hblock⟩ := completes_response hi (reaches_lt h) (reaches_heard h)
  exact ⟨u, hu, hrsp, hseq.trans (rung_lastSeq _ k mb), (rung_block _ k mb).trans hblock⟩

/-- Checks 4 and 6 refuse. -/
theorem senderRefusal_completes {k : CmdKind} {t : Time} {mb : Nat} {m : Msg} {s : State} {e : Err} (h : (s.tick t).reaches mb m) (hheader : headerBad m = none) (hcrc : m.crc = msgCrc (code k) m)
    (hnew : 1 ≤ (m.sequence + 4294967296 - (s.mbx mb).lastSeq) % 4294967296 ∧ (m.sequence + 4294967296 - (s.mbx mb).lastSeq) % 4294967296 ≤ 2147483647) (hdenied : (s.tick t).mayIssue k mb m (messagePayload m) = .error e) :
    Completes (cmdInstr k t mb m) s fun u => u.responds k mb m e.status e.bytes ∧ (u.mbx mb).lastSeq = m.sequence ∧ State.SameBlock ((s.tick t).heardFrom mb m) u := by
  have hi := exec_reaches (k := k) h
  rw [checkCall_refuses _ _ _ hheader hcrc (reaches_dataIntact h) (by rw [rung_lastSeq]; exact hnew)
    (by rw [mayIssue_eq _ (s.tick t) k mb m _ (rung_sessions _ k mb) (congrArg Update.bootRom (rung_upd _ k mb))]; exact hdenied), State.respondErr] at hi
  have hseq : ∀ x, ((((s.tick t).rung k mb).setMbx mb x).heardFrom mb m).mbx mb = x := fun x => State.mbx_setMbx ((s.tick t).rung k mb) mb x
  have hheard := reaches_heard (k := k) h
  obtain ⟨u, hu, hrsp, hlast, -, hblock⟩ := completes_response hi (reaches_lt h) (by rw [hseq]; exact hheard)
  refine ⟨u, hu, hrsp, hlast.trans (by rw [hseq]), .trans ?_ hblock⟩
  exact heardFrom_block ((rung_block _ k mb).trans (by constructor <;> rfl)) mb m

/-- Settles O24: a check that fails is the only one that answers, in the state that the message's arrival leaves. -/
theorem earlyChecksAnswer : Obligations.EarlyChecksAnswer := by
  unfold Obligations.EarlyChecksAnswer
  intro k t mb m s h
  refine ⟨fun o hbad => ?header, fun hheader hcrc => ?crc, fun hheader hcrc hold => ?stale, fun e hheader hcrc hnew => senderRefusal_completes h hheader hcrc hnew⟩
  case header => exact headRefusal_completes h fun go => headChecks_header hbad
  case crc => exact headRefusal_completes h fun go => headChecks_crc hheader hcrc
  case stale => exact headRefusal_completes h fun go => headChecks_stale hheader hcrc (reaches_dataIntact h) (by rw [rung_lastSeq]; exact hold)

end Sys2Proof.Machine
end

section
/-! PROOF of the claim on commands that start later (spec/11_izent.md R314, R327, R332; spec/15_touch.md R433, R434): each runs the checks that are left and ends in its response. -/

namespace Sys2Proof.Machine

/-! HELD_COMMAND_START of a held command (R332). -/

/-- A command held for a drain, a flip or locks starts again at check 9. -/
theorem startHeld_attempts {a : State} {mb : Nat} {j : Job} (h : j.cause = some .drain ∨ j.cause = some .flip ∨ (j.cause = some .locks ∧ a.queuedBefore j = false)) :
    a.startHeld mb j = a.attempt (a.callOf mb j) (bodyOf j.kind) := by
  rcases h with hc | hc | ⟨hc, hfirst⟩
  · simp only [State.startHeld, hc]
  · simp only [State.startHeld, hc]
  · simp only [State.startHeld, hc, hfirst, Bool.false_eq_true, if_false]

theorem exec_heldCommandStart_held {t : Time} {mb : Nat} {j : Job} {s : State} (hmb : mb < 24) (hjob : (s.mbx mb).job = some j) (hon : (s.tick t).domOn 1 = true) (hshort : (s.tick t).clk < j.since + 10000000000) :
    exec (.heldCommandStart t mb) s = .next (settle (s.tick t) ((s.tick t).startHeld mb j)) := by
  have hjob' : ((s.tick t).mbx mb).job = some j := hjob
  have hlong : (s.tick t).heldLong j = false := decide_eq_false (Nat.not_le.mpr hshort)
  show execHeldCommandStart t mb s = _
  rw [execHeldCommandStart, runIf_next (decide_eq_true (by omega))]
  simp only [hjob', hon, hlong, Bool.and_false, Bool.not_true, Bool.false_eq_true, if_false]

theorem heldCommand_answers {t : Time} {mb : Nat} {j : Job} {s a b : State} {p : Bytes} (hmb : mb < 24) (hheard : mb < 16 ∨ (b.mbx mb).conn.isSome = true) (hjob : (s.mbx mb).job = some j)
    (hon : (s.tick t).domOn 1 = true) (hshort : (s.tick t).clk < j.since + 10000000000) (hfree : j.cause = some .drain ∨ j.cause = some .flip ∨ (j.cause = some .locks ∧ (s.tick t).queuedBefore j = false))
    (ha : a = (if mb < 16 && j.msg.session != 0 then { s.tick t with upd := { s.upd with requested := true } } else s.tick t))
    (hdrain : a.drains ((s.tick t).callOf mb j) = none) (hlock : locks j.kind = true → a.deviceHolder = none)
    (hvalues : j.kind = .safetyArm ∨ firstBad F.bad11 (payF j.kind (16 ≤ mb) ((s.tick t).callOf mb j).p) ((s.tick t).callOf mb j).p = none) (hbody : bodyOf j.kind ((s.tick t).callOf mb j) a = .ok b p) :
    Completes (.heldCommandStart t mb) s fun u => u.responds j.kind mb j.msg stOk p ∧ State.SameBlock b u := by
  have hi := exec_heldCommandStart_held hmb hjob hon hshort
  rw [startHeld_attempts hfree, attempt_pass _ a _ _ ha.symm hdrain hlock hvalues, hbody] at hi
  obtain ⟨u, hu, hrsp, -, -, hblock⟩ := completes_response hi hmb hheard
  exact ⟨u, hu, hrsp, hblock⟩

/-! HELD_COMMAND_START of a further message (R314). -/

theorem exec_heldCommandStart_next {t : Time} {mb : Nat} {k : CmdKind} {m : Msg} {s : State} (hmb : mb < 24) (hjob : (s.mbx mb).job = none) (hnext : (s.mbx mb).next = some (k, m)) (hserves : (s.tick t).serves mb = true) :
    exec (.heldCommandStart t mb) s = .next (settle (s.tick t) (((s.tick t).setMbx mb { s.mbx mb with next := none, command := code k }).checkCall k mb m (s.tick t).clk (s.tick t).izent.orderCount (bodyOf k))) := by
  have hjob' : ((s.tick t).mbx mb).job = none := hjob
  have hnext' : ((s.tick t).mbx mb).next = some (k, m) := hnext
  have hserved : ¬ (((s.tick t).mbx mb).job.isSome || !(s.tick t).serves mb) = true := by simp [hjob', hserves]
  show execHeldCommandStart t mb s = _
  rw [execHeldCommandStart, runIf_next (decide_eq_true (by omega)), hjob']
  dsimp only
  rw [State.startNext, hnext']
  dsimp only
  rw [if_neg hserved]
  rfl

theorem furtherMessage_badCrc {t : Time} {mb : Nat} {k : CmdKind} {m : Msg} {s : State} (hmb : mb < 24) (hheard : (s.mbx mb).conn.isSome = true) (hjob : (s.mbx mb).job = none) (hnext : (s.mbx mb).next = some (k, m))
    (hserves : (s.tick t).serves mb = true) (hheader : headerBad m = none) (hcrc : m.crc ≠ msgCrc (code k) m) : Completes (.heldCommandStart t mb) s fun u =>
      (u.mbx mb).next = none ∧ u.responds k mb m stBadCrc (({ status := stBadCrc, check := 2 } : Err).bytes) ∧ State.SameBlock (s.tick t) u := by
  have hi := exec_heldCommandStart_next hmb hjob hnext hserves
  rw [State.checkCall, headChecks_crc hheader hcrc, State.respondErr] at hi
  obtain ⟨u, hu, hrsp, -, hleft, hblock⟩ := completes_response hi hmb (.inr (by rw [State.mbx_setMbx]; exact hheard))
  exact ⟨u, hu, hleft.trans (by rw [State.mbx_setMbx]), hrsp, .trans (by constructor <;> rfl) hblock⟩

/-! LOCAL_ACTION_START (R327, R433, R434). -/

/-- The message with which the local action session acknowledges an alert (R433). -/
def ackMsg (window reason : Nat) : Msg := { flags := 0, length := 36, session := Config.localSession.toNat, payload := le 2 window ++ le 2 reason }

theorem ofLe_le_two {n : Nat} (h : n < 65536) : ofLe (le 2 n) = n := by
  simp only [le, ofLe, BitVec.toNat_ofNat]
  omega

/-- The payload's two fields, and the byte that is reserved. -/
theorem ackMsg_fields {window reason : Nat} (hw : window ≤ 1023) (hr : reason ≤ 12) :
    rd (ackMsg window reason).payload 0 2 = window ∧ rd (ackMsg window reason).payload 2 1 = reason ∧ rd (ackMsg window reason).payload 3 1 = 0 := by
  refine ⟨?_, ?_, ?_⟩
  · exact ofLe_le_two (show window < 65536 by omega)
  · show ofLe [BitVec.ofNat 8 reason] = reason
    simp only [ofLe, BitVec.toNat_ofNat]
    omega
  · show ofLe [BitVec.ofNat 8 (reason / 256)] = 0
    simp only [ofLe, BitVec.toNat_ofNat]
    omega

/-- Such a message passes checks 8 and 11 (Table 12-11). -/
theorem ackMsg_valid {window reason : Nat} (hw : window ≤ 1023) (hr1 : 1 ≤ reason) (hr : reason ≤ 12) (net : Bool) :
    firstBad F.bad8 (payF .alertAck net (ackMsg window reason).payload) (ackMsg window reason).payload = none ∧
    firstBad F.bad11 (payF .alertAck net (ackMsg window reason).payload) (ackMsg window reason).payload = none := by
  obtain ⟨hwindow, hreason, hspare⟩ := ackMsg_fields hw hr
  have hlisted : reason = 1 ∨ reason = 2 ∨ reason = 3 ∨ reason = 4 ∨ reason = 5 ∨ reason = 6 ∨ reason = 7 ∨ reason = 8 ∨ reason = 9 ∨ reason = 10 ∨ reason = 11 ∨ reason = 12 := by omega
  constructor
  · simp [firstBad, payF, F.bad8, hreason, hspare, hlisted]
  · simp [firstBad, payF, F.bad11, hwindow, hw]

/-- The state in which the local action session runs its next command. -/
def State.takesLocal (s : State) (a : LocalAct) (rest : List LocalAct) : State :=
  ({ s with touch := { s.touch with queue := rest, running := some a }, izent := { s.izent with orderCount := s.izent.orderCount + 1 } }).setMbx 24 { s.mbx 24 with command := code .alertAck }

/-- Its ALERT_ACK passes every check: nothing drains for it, and it takes no lock. -/
theorem ackCall_answers {v : State} {a : LocalAct} (hwindow : a.arg ≤ 1023) (hr1 : 1 ≤ a.reason) (hr : a.reason ≤ 12) (hspire : v.spireA = true) (hready : v.izent.devState = .ready) (since : Time) (now order : Nat) :
    ∃ (b : State) (p : Bytes), v.admitCall { kind := .alertAck, mb := 24, role := 1, msg := ackMsg a.arg a.reason, p := (ackMsg a.arg a.reason).payload, since := since, rung := now, order := order } bodyAlertAck =
      b.respond 24 (code .alertAck) (ackMsg a.arg a.reason) stOk p ∧ b.touch = v.touch ∧ b.comp = v.comp := by
  simp only [State.spireA, Bool.and_eq_true, Bool.not_eq_true', Option.isNone_iff_eq_none] at hspire
  obtain ⟨⟨⟨-, hrecovering⟩, hhalted⟩, hswitch⟩ := hspire
  obtain ⟨hform, hvalues⟩ := ackMsg_valid hwindow hr1 hr true
  refine ⟨?_, ?_, ?_, ?_, ?_⟩
  rotate_left 2
  · rw [admitCall_pass _ _ _ (.inr ⟨hrecovering, hhalted, hswitch⟩) (.inl hready) rfl rfl (Nat.zero_lt_succ 7) rfl hform,
      attempt_pass v v _ _ rfl rfl (fun h => by cases h) (.inr hvalues)]
    rfl
  · exact State.record_touch _ _ _
  · exact State.record_comp _ _ _

theorem exec_localActionStart_ack {t : Time} {a : LocalAct} {rest : List LocalAct} {s : State} (hqueue : s.touch.queue = a :: rest) (hfree : s.touch.running = none) (haction : a.action = 2)
    (hspire : (s.tick t).spireA = true) : exec (.localActionStart t) s = .next (settle (s.tick t) (((s.tick t).takesLocal a rest).admitCall
      { kind := .alertAck, mb := 24, role := 1, msg := ackMsg a.arg a.reason, p := (ackMsg a.arg a.reason).payload, since := (s.tick t).clk, rung := (s.tick t).now, order := (s.tick t).izent.orderCount + 1 } bodyAlertAck)) := by
  have hqueue' : (s.tick t).touch.queue = a :: rest := hqueue
  have hserved : ¬ ((s.tick t).touch.running.isSome || !(s.tick t).spireA) = true := by rw [hspire, show (s.tick t).touch.running = none from hfree]; decide
  have hmsg : localMsg a = (.alertAck, ackMsg a.arg a.reason) := by
    rw [localMsg]
    dsimp only
    rw [if_neg (by omega)]
    rfl
  show execLocalActionStart t s = _
  unfold execLocalActionStart run
  dsimp only
  rw [hqueue']
  dsimp only
  rw [if_neg hserved, hmsg]
  rfl

/-- The response on mailbox 24 ends the local action (R434). -/
theorem respond_local (s : State) (cmd : Nat) (m : Msg) (status : Nat) (p : Bytes) :
    (s.respond 24 cmd m status p).touch = { s.touch with running := none } ∧ (s.respond 24 cmd m status p).comp = s.comp := by
  have ended (v : State) (hv : v.touch = s.touch ∧ v.comp = s.comp) : (v.localEnded status p).touch = { s.touch with running := none } ∧ (v.localEnded status p).comp = s.comp := by
    obtain ⟨htouch, hcomp⟩ := hv
    unfold State.localEnded
    split
    case h_1 hnone => exact ⟨by rw [← htouch, ← hnone], hcomp⟩
    case h_2 r hr =>
      unfold State.recordLocal
      rw [State.record_touch, State.record_comp]
      exact ⟨by rw [htouch], hcomp⟩
  exact ended _ ⟨rfl, rfl⟩

theorem respond_local_rsp (s : State) (cmd : Nat) (m : Msg) (status : Nat) (p : Bytes) : ((s.respond 24 cmd m status p).mbx 24).rsp = some (rspOf cmd m status p) := by
  obtain ⟨y, hy, hr⟩ := respond_own s 24 cmd m status p
  rw [hr]
  exact hy.rsp

theorem localAck_answers {t : Time} {a : LocalAct} {rest : List LocalAct} {s : State} (hqueue : s.touch.queue = a :: rest) (hfree : s.touch.running = none) (haction : a.action = 2) (hwindow : a.arg ≤ 1023)
    (hr1 : 1 ≤ a.reason) (hr : a.reason ≤ 12) (hspire : (s.tick t).spireA = true) (hready : s.izent.devState = .ready) : Completes (.localActionStart t) s fun u =>
      u.touch.queue = rest ∧ u.touch.running = none ∧ (∃ r, (u.mbx 24).rsp = some r ∧ r.command = 0x0411 ∧ r.status = stOk ∧ r.session = Config.localSession.toNat) ∧ u.comp = s.comp := by
  have hi := exec_localActionStart_ack hqueue hfree haction hspire
  obtain ⟨b, p, hcall, htouch, hcomp⟩ := ackCall_answers (v := (s.tick t).takesLocal a rest) hwindow hr1 hr hspire hready (s.tick t).clk (s.tick t).now ((s.tick t).izent.orderCount + 1)
  rw [hcall] at hi
  obtain ⟨hended, hshown⟩ := respond_local b (code .alertAck) (ackMsg a.arg a.reason) stOk p
  refine ⟨_, hi, ?_, ?_, ⟨_, (settle_records _ _).rsp 24 |>.trans (respond_local_rsp _ _ _ _ _), rfl, rfl, rfl⟩, ?_⟩
  · rw [settle_touch, hended, htouch]; rfl
  · rw [settle_touch, hended]
  · rw [settle_comp, hshown, hcomp]; rfl

/-- Settles O36: what held each of them back has gone, so its own part runs in the state that the instant brings. -/
theorem heldCommandsStart : Obligations.HeldCommandsStart := by
  unfold Obligations.HeldCommandsStart
  refine ⟨?held, ?further, ?locally⟩
  case held => exact fun t mb j s a b p hmb hheard hjob hon hshort hfree ha hdrain hlock hvalues hbody => heldCommand_answers hmb hheard hjob hon hshort hfree ha hdrain hlock hvalues hbody
  case further => exact fun t mb k m s _ hmb hheard hjob hnext hserves hheader hcrc => furtherMessage_badCrc hmb hheard hjob hnext hserves hheader hcrc
  case locally => exact fun t a rest s hqueue hfree haction hwindow hr1 hr hspire hready => localAck_answers hqueue hfree haction hwindow hr1 hr hspire hready

end Sys2Proof.Machine
end

section
/-! PROOF of the claim on network connections (spec/11_izent.md R313, R314, R326; spec/16_protection.md R453, R457, R458): each row writes the connection last, and settling a step opens and closes none. -/

namespace Sys2Proof.Machine

/-! Ending commands and sessions (R326, R335): the sessions, and which mailboxes are connected. -/

/-- The same sessions, and the same mailboxes connected. -/
structure State.SameSenders (a b : State) : Prop where
  sessions : b.izent.sessions = a.izent.sessions
  heard : ∀ n, (b.mbx n).conn.isSome = (a.mbx n).conn.isSome

theorem State.SameSenders.refl (a : State) : State.SameSenders a a := ⟨rfl, fun _ => rfl⟩

theorem State.SameSenders.trans {a b c : State} (h : State.SameSenders a b) (k : State.SameSenders b c) : State.SameSenders a c :=
  ⟨k.sessions.trans h.sessions, fun n => (k.heard n).trans (h.heard n)⟩

theorem State.SameUnits.senders {a b : State} (h : State.SameUnits a b) : State.SameSenders a b := ⟨h.sessions, h.heard⟩

theorem State.SameSenders.of_eq {a b : State} (h : b.izent = a.izent) : State.SameSenders a b := ⟨by rw [h], fun n => by rw [State.mbx, h]; rfl⟩

theorem State.SameSenders.ite {s a b : State} {c : Prop} [Decidable c] (h : State.SameSenders s a) (k : State.SameSenders s b) : State.SameSenders s (if c then a else b) := by
  split
  · exact h
  · exact k

theorem State.localEnded_senders (s : State) (status : Nat) (p : Bytes) : State.SameSenders s (s.localEnded status p) := by
  unfold State.localEnded
  split
  · exact .refl s
  · exact .trans (.of_eq (b := { s with touch := { s.touch with running := none } }) rfl) (State.record_same _ _ _).senders

theorem State.setMbx_senders (s : State) {mb : Nat} {x : Mailbox} (h : x.conn.isSome = (s.mbx mb).conn.isSome) : State.SameSenders s (s.setMbx mb x) :=
  ⟨rfl, fun n => State.setMbx_keeps (fun y => y.conn.isSome) s mb n x h⟩

/-- A response on any mailbox, whether it is discarded or not (R314). -/
theorem respond_senders (s : State) (mb cmd : Nat) (m : Msg) (status : Nat) (p : Bytes) : State.SameSenders s (s.respond mb cmd m status p) := by
  unfold State.respond
  dsimp only
  by_cases hm : mb < 16
  · rw [if_pos hm]
    have hdenied : State.SameUnits s (if m.writeFails = true then s else s.hostDenied 1 (s.mbx mb).rspAddr (rspOf cmd m status p).length) :=
      .ite (.refl s) (s.hostDenied_same _ _ _)
    have hstored {x : Mailbox} (hx : x.conn = (s.mbx mb).conn) := hdenied.senders.trans (State.setMbx_senders _ (mb := mb) (x := x) (by rw [hx, hdenied.heard]))
    refine .ite (.trans ?_ (State.raise_same _ _).senders) ?_ <;>
      exact .ite (.trans (hstored (by rfl)) (State.hostWrite_same _ _ _).senders) (hstored (by rfl))
  · rw [if_neg hm]
    exact .ite (.trans (s.setMbx_senders (by rfl)) (State.localEnded_senders _ _ _)) (s.setMbx_senders (by rfl))

theorem State.undoSwitch_senders (s : State) (j : Job) : State.SameSenders s (s.undoSwitch j) := by
  unfold State.undoSwitch
  dsimp only
  split
  · refine .trans ?_ (State.record_same _ _ _).senders
    exact .of_eq rfl
  · exact .refl s

theorem State.abortAt_senders (s : State) (mb : Nat) : State.SameSenders s (s.abortAt mb).1 := by
  unfold State.abortAt
  cases (s.mbx mb).job with
  | none => exact .refl s
  | some j =>
    dsimp only
    split
    · exact (s.undoSwitch_senders j).trans (respond_senders _ _ _ _ _ _)
    · exact .refl s

theorem State.lockDebug_senders (s : State) : State.SameSenders s s.lockDebug := by
  unfold State.lockDebug
  split
  · exact .trans (.of_eq (b := { s with prot := { s.prot with unlockedAt := none } }) rfl) (State.record_same _ _ _).senders
  · exact .refl s

/-- The arm and debug, which a session that closes takes with it, are neither sessions nor connections (R326). -/
theorem closeSession_senders {s : State} {id : Nat} {x : Session} (cause : Nat) (h : s.izent.sessions.find? (fun x => x.id == id) = some x) :
    State.SameSenders { (s.abortAt x.mailbox).1 with izent := { (s.abortAt x.mailbox).1.izent with sessions := (s.abortAt x.mailbox).1.izent.sessions.filter fun y => y.id != id } } (s.closeSession id cause) := by
  unfold State.closeSession
  rw [h]
  dsimp only
  have hdisarmed (v : State) : State.SameSenders v (match v.comp.arm with | some a => if a.session = id then { v with comp := { v.comp with arm := none } } else v | none => v) := by
    split
    · exact .ite (.of_eq rfl) (.refl v)
    · exact .refl v
  exact .trans (.ite (.trans (hdisarmed _) (State.lockDebug_senders _)) (hdisarmed _)) (State.record_same _ _ _).senders

theorem closeSession_heard (s : State) (id cause n : Nat) : ((s.closeSession id cause).mbx n).conn.isSome = (s.mbx n).conn.isSome := by
  cases h : s.izent.sessions.find? (fun x => x.id == id) with
  | none => rw [State.closeSession, h]
  | some x => exact ((closeSession_senders cause h).heard n).trans ((s.abortAt_senders x.mailbox).heard n)

/-- The session leaves the list, whatever command its mailbox still holds. -/
theorem closeSession_sessions {s : State} {x : Session} (cause : Nat) (h : x ∈ s.izent.sessions) : (s.closeSession x.id cause).izent.sessions = s.izent.sessions.filter fun y => y.id != x.id := by
  obtain ⟨y, hy⟩ : ∃ y, s.izent.sessions.find? (fun y => y.id == x.id) = some y := Option.isSome_iff_exists.mp (List.find?_isSome.mpr ⟨x, h, beq_self_eq_true x.id⟩)
  rw [(closeSession_senders cause hy).sessions]
  exact congrArg (List.filter _) (s.abortAt_senders y.mailbox).sessions

/-! Connections. -/

theorem settle_heard (a b : State) (n : Nat) : ((settle a b).mbx n).conn.isSome = (b.mbx n).conn.isSome := by
  rw [settle_eq, State.mbx, setHealth_mbx, settleCount_izent, drive_izent]
  exact (settled_same a b).heard n

/-- A connection that closes takes its further message and its response with it (R314). -/
theorem completes_dropConn {i : Instr} {t : Time} {s v : State} {mb cause : Nat} (hi : exec i s = .next (settle (s.tick t) (v.dropConn mb cause))) :
    Completes i s fun u => (u.mbx mb).conn = none ∧ (u.mbx mb).next = none ∧ (u.mbx mb).rsp = none := by
  have hclosed : ∃ x : Mailbox, (v.dropConn mb cause).mbx mb = { x with conn := none, next := none, challenge := none, rsp := none } := ⟨_, State.mbx_setMbx _ _ _⟩
  obtain ⟨x, hx⟩ := hclosed
  refine ⟨_, hi, ?_, ?_, ?_⟩
  · rw [← Option.not_isSome_iff_eq_none, settle_heard, hx]; exact Bool.false_ne_true
  · rw [(settle_records _ _).next, hx]
  · rw [(settle_records _ _).rsp, hx]

/-- A row that writes one mailbox, and leaves the block and what was sent alone. -/
theorem completes_setMbx {i : Instr} {t : Time} {s a : State} {n : Nat} {x : Mailbox} (hi : exec i s = .next (settle (s.tick t) (a.setMbx n x))) (hcomp : a.comp = s.comp) (hdev : a.izent.devState = s.izent.devState)
    (hring : a.out.ringDenied = none) : Completes i s fun u => u.mbx n = x ∧ (∀ k, k ≠ n → u.mbx k = a.mbx k) ∧ State.SameBlock a u := by
  have hquiet (k : Nat) : (settle (s.tick t) (a.setMbx n x)).mbx k = (a.setMbx n x).mbx k := settle_quiet_mbx (State.safeCauses_of_same (a := s.tick t) (b := a.setMbx n x) hcomp hdev) hring k
  refine ⟨_, hi, (hquiet n).trans (State.mbx_setMbx a n x), fun k hk => (hquiet k).trans (State.mbx_setMbx_other a x hk), .trans ?_ (settle_block _ _)⟩
  constructor <;> rfl

/-- MGMT_TCP_CONNECT on the first free mailbox. -/
theorem connect_completes {t : Time} {address : Bytes} {i : Nat} {s : State} (hfree : (List.range 8).find? (fun i => (s.mbx (16 + i)).conn.isNone && (s.mbx (16 + i)).job.isNone) = some i)
    (hlistens : (s.tick t).listens = true) (hentropy : s.prot.entropyOk = true) (hopen : (s.tick t).blocked (addressWho address) = false) : Completes (.mgmtTcpConnect t address) s fun u =>
      u.mbx (16 + i) = { conn := some { address := address, since := (s.tick t).clk } } ∧ (∀ n, n ≠ 16 + i → u.mbx n = s.mbx n) ∧ State.SameBlock (s.tick t) u := by
  have hfree' : (List.range 8).find? (fun i => ((s.tick t).mbx (16 + i)).conn.isNone && ((s.tick t).mbx (16 + i)).job.isNone) = some i := hfree
  have hadmitted : ((s.tick t).listens && (s.tick t).prot.entropyOk && !(s.tick t).blocked (addressWho address)) = true := by
    rw [hlistens, hopen, show (s.tick t).prot.entropyOk = true from hentropy]; decide
  have hi : exec (.mgmtTcpConnect t address) s = .next (settle (s.tick t) ((s.tick t).setMbx (16 + i) { conn := some { address := address, since := (s.tick t).clk } })) := by
    show execMgmtTcpConnect t address s = _
    unfold execMgmtTcpConnect
    rw [run_next, hfree']
    dsimp only
    rw [if_pos hadmitted]
  exact completes_setMbx hi rfl rfl rfl

/-! TLS_HANDSHAKE (R313, R457). -/

/-- Drawing random bytes changes the generator and the free values alone (R452). -/
theorem random_eq (s : State) (n : Nat) : ∃ c d, (s.random n).2 = { s with freeCtr := c, prot := { s.prot with drbg := d } } := by
  unfold State.random
  dsimp only
  split
  · exact ⟨_, _, rfl⟩
  · exact ⟨_, _, rfl⟩

theorem judgeTls_random (s : State) (n : Nat) (chain : List Bytes) (client : TlsClient) (d : Nat) : (s.random n).2.judgeTls chain client d = s.judgeTls chain client d := by
  obtain ⟨c, g, h⟩ := random_eq s n
  rw [h]
  rfl

/-- What a handshake that has been judged leaves: the connection with its credential's role, or a failure and no connection (R457, R458). -/
def State.shake (s : State) (mb : Nat) (n : Conn) (client : TlsClient) : Nat ⊕ (Credential × Bytes) → State
  | .inr (x, master) => s.setMbx mb { s.mbx mb with conn := some { n with role := some x.role, cred := x.id, key := x.key, secrets := trafficSecrets master client.upToServer } }
  | .inl cause => ((s.recordLimited evTlsFailed (addressWho n.address) [(16, ofLe (fit 16 n.address)), p1 cause]).authFail (addressWho n.address)).dropConn mb 2

section
variable {t : Time} {mb : Nat} {chain : List Bytes} {client : TlsClient} {n : Conn} {s : State}

/-- A handshake in time, from an address that is not blocked, is judged after its random bytes have been drawn. -/
theorem exec_tlsHandshake (hlow : 16 ≤ mb) (hmb : mb < 24) (hconn : (s.mbx mb).conn = some n) (hrole : n.role = none) (hentropy : s.prot.entropyOk = true)
    (hclk : (s.tick t).clk ≤ n.since + 2000000000) (hopen : (s.tick t).blocked (addressWho n.address) = false) :
    exec (.tlsHandshake t mb chain client) s = .next (settle (s.tick t) (((s.tick t).random 48).2.shake mb n client ((s.tick t).judgeTls chain client (ofBe ((s.tick t).random 48).1 % (curveN - 1) + 1)))) := by
  have hconn' : ((s.tick t).mbx mb).conn = some n := hconn
  have hanonymous : ¬ n.role.isSome = true := by rw [hrole]; decide
  have hadmitted : ¬ (!(s.tick t).prot.entropyOk || decide (n.since + 2000 * ms < (s.tick t).clk) || (s.tick t).blocked (addressWho n.address)) = true := by
    have htime : ¬ n.since + 2000 * ms < (s.tick t).clk := Nat.not_lt.mpr hclk
    rw [show (s.tick t).prot.entropyOk = true from hentropy, hopen, decide_eq_false htime]; decide
  show execTlsHandshake t mb chain client s = _
  unfold execTlsHandshake
  rw [runIf_next (by simp [hlow, hmb]), hconn']
  dsimp only
  rw [if_neg hanonymous, if_neg hadmitted, judgeTls_random]
  rfl

theorem judgeTls_chain {d cause : Nat} (hoffers : client.offers = true) (hshare : (pointOf client.share).isSome = true) (hchain : chainFault (s.prot.store.anchors.map (·.2)) (s.tick t).utcNow chain = some cause) :
    (s.tick t).judgeTls chain client d = .inl cause := by
  have hchain' : chainFault ((s.tick t).prot.store.anchors.map (·.2)) (s.tick t).utcNow chain = some cause := hchain
  have hformed : ¬ (!client.offers || (pointOf client.share).isNone) = true := by simp [hoffers, Option.isSome_iff_ne_none.mp hshare]
  rw [State.judgeTls, if_neg hformed, hchain']

theorem judgeTls_accepts {d : Nat} {leaf : Cert} {cred : Credential} {master : Bytes} (hoffers : client.offers = true) (hshare : (pointOf client.share).isSome = true)
    (hchain : chainFault (s.prot.store.anchors.map (·.2)) (s.tick t).utcNow chain = none) (hleaf : chain.head?.bind certOf = some leaf) (hcred : s.prot.store.creds.find? (fun x => x.key == leaf.key) = some cred)
    (hmaster : tlsMaster client d cred.key = some master) : (s.tick t).judgeTls chain client d = .inr (cred, master) := by
  have hchain' : chainFault ((s.tick t).prot.store.anchors.map (·.2)) (s.tick t).utcNow chain = none := hchain
  have hcred' : (s.tick t).prot.store.creds.find? (fun x => x.key == leaf.key) = some cred := hcred
  have hformed : ¬ (!client.offers || (pointOf client.share).isNone) = true := by simp [hoffers, Option.isSome_iff_ne_none.mp hshare]
  rw [State.judgeTls, if_neg hformed, hchain']
  dsimp only
  rw [hleaf, Option.bind_some, hcred']
  dsimp only
  rw [hmaster]

end

/-- Settles O34: each row ends in the write of its connection, or in the list of sessions without the one that closes. -/
theorem connectionEventsComplete : Obligations.ConnectionEventsComplete := by
  unfold Obligations.ConnectionEventsComplete
  refine ⟨?connect, ?handshake, ?timeout, ?loss, ?idle⟩
  case connect => exact fun t address i s hfree hlistens hentropy hopen => connect_completes hfree hlistens hentropy hopen
  case handshake =>
    intro t mb d chain client n s a hlow hmb hconn hrole hentropy hclk hopen hd ha
    have hi := exec_tlsHandshake (chain := chain) (client := client) hlow hmb hconn hrole hentropy hclk hopen
    rw [← hd, ← ha] at hi
    constructor
    · intro leaf cred master hoffers hshare hchain hleaf hcred hmaster
      rw [judgeTls_accepts hoffers hshare hchain hleaf hcred hmaster, State.shake] at hi
      obtain ⟨c, g, hdrawn⟩ := random_eq (s.tick t) 48
      rw [← ha] at hdrawn
      obtain ⟨u, hu, hown, -, hblock⟩ := completes_setMbx hi (by rw [hdrawn]; rfl) (by rw [hdrawn]; rfl) (by rw [hdrawn]; rfl)
      exact ⟨u, hu, by rw [hown], hblock⟩
    · intro cause hoffers hshare hchain
      rw [judgeTls_chain hoffers hshare hchain, State.shake] at hi
      obtain ⟨u, hu, hclosed, -, -⟩ := completes_dropConn hi
      exact ⟨u, hu, hclosed⟩
  case timeout =>
    intro t mb n s hlow hmb hconn hrole hlate
    have hconn' : ((s.tick t).mbx mb).conn = some n := hconn
    have hdue : (n.role.isNone && decide (n.since + 2000 * ms ≤ (s.tick t).clk)) = true := by
      rw [hrole, show decide (n.since + 2000 * ms ≤ (s.tick t).clk) = true from decide_eq_true hlate]; decide
    have hi : exec (.mgmtHandshakeTimeout t mb) s = .next (settle (s.tick t) ((s.tick t).dropConn mb 2)) := by
      show execMgmtHandshakeTimeout t mb s = _
      unfold execMgmtHandshakeTimeout
      rw [runIf_next (by simp [hlow, hmb]), hconn']
      dsimp only
      rw [if_pos hdue]
    obtain ⟨u, hu, hclosed, hnext, -⟩ := completes_dropConn hi
    exact ⟨u, hu, hclosed, hnext⟩
  case loss =>
    intro t mb n s hlow hmb hconn
    have hopen : ((s.tick t).mbx mb).conn.isSome = true := Option.isSome_of_eq_some hconn
    have hi : exec (.mgmtConnectionLoss t mb) s = .next (settle (s.tick t) ((s.tick t).dropConn mb 2)) := by
      show execMgmtConnectionLoss t mb s = _
      unfold execMgmtConnectionLoss
      rw [runIf_next (by simp [hlow, hmb]), if_pos hopen]
    exact completes_dropConn hi
  case idle =>
    intro t mb x s hmb hsession _ hidle
    have hidle' : x.lastAt + (s.tick t).izent.idle * sec ≤ (s.tick t).clk := hidle
    have hi : exec (.sessionIdleExpiry t mb) s = .next (settle (s.tick t) ((s.tick t).closeSession x.id 3)) := by
      show execSessionIdleExpiry t mb s = _
      unfold execSessionIdleExpiry
      rw [runIf_next (by simp [hmb]), hsession]
      dsimp only
      rw [if_pos hidle']
    refine ⟨_, hi, ?_⟩
    dsimp only
    rw [settle_sessions, closeSession_sessions 3 (List.mem_of_find?_eq_some hsession)]
    rfl

end Sys2Proof.Machine
end

section
/-! PROOF of the claim on SESSION_OPEN and SESSION_CLOSE (spec/11_izent.md R324, R326; spec/12_commands.md R365; spec/16_protection.md R455): each answer is one branch of its own part, whose next state differs in the interface alone. -/

namespace Sys2Proof.Machine

/-! Opening a session. -/

/-- The state once a session of a role and a credential stands on a mailbox (R324). -/
def State.withSession (a : State) (mb role cred : Nat) : State :=
  { a with izent := { a.izent with sessions := a.izent.sessions ++ [{ id := a.newSessionId, role := role, mailbox := mb, opened := a.now, lastRequest := a.now, lastAt := a.clk, cred := cred }] } }

theorem openSession_block (a : State) (mb role cred : Nat) : State.SameBlock (a.withSession mb role cred) (a.openSession mb role cred).1 := by
  unfold State.openSession
  dsimp only
  refine .trans ?_ (State.record_same _ _ _).block
  constructor <;> rfl

theorem openSession_heard (a : State) (mb role cred n : Nat) : ((a.openSession mb role cred).1.mbx n).conn.isSome = (a.mbx n).conn.isSome := record_heard _ _ _ n

theorem useChallenge_heard (a : State) (mb n : Nat) : ((a.useChallenge mb).mbx n).conn.isSome = (a.mbx n).conn.isSome := State.setMbx_keeps (fun y => y.conn.isSome) a mb n _ rfl

theorem issueChallenge_heard (a : State) (mb : Nat) (debug : Bool) (n : Nat) : ((a.issueChallenge mb debug).1.mbx n).conn.isSome = (a.mbx n).conn.isSome := by
  obtain ⟨c, d, hdrawn⟩ := random_eq a 48
  unfold State.issueChallenge
  dsimp only
  rw [hdrawn]
  exact State.setMbx_keeps (fun y => y.conn.isSome) _ mb n _ rfl

/-- The answer to a session that opens carries no challenge (Table 12-21). -/
theorem openAnswer_session (id role : Nat) : openAnswer id role 0 [] = le 4 id ++ le 1 role ++ zeros 59 := by
  have hrest : zeros 3 ++ le 4 0 ++ zeros 4 ++ fit 48 [] = zeros 59 := by decide
  rw [← hrest, openAnswer]
  simp only [List.append_assoc]

/-- SESSION_OPEN on a network mailbox: the certificate's credential still has the role that is asked for (R324, R457). -/
def openCertified (c : Call) (s : State) : Res :=
  match (s.mbx c.mb).conn with
  | some n =>
    if n.role = some (rd c.p 1 1) && s.prot.store.creds.any fun x => x.id == n.cred && x.role == rd c.p 1 1 && x.key == n.key then
      .ok (s.openSession c.mb (rd c.p 1 1) n.cred).1 (openAnswer (s.openSession c.mb (rd c.p 1 1) n.cred).2 (rd c.p 1 1) 0 [])
    else .err (s.authFail c.mb) { status := stDenied }
  | none => .err s { status := stDenied }

section
variable {c : Call} {a : State}

/-- What every SESSION_OPEN has passed before its path counts (R324, R458). -/
theorem bodySessionOpen_admits (hform : sessionOpenBad c = none) (hopen : a.blocked c.mb = false) (hnone : a.session? c.mb = none) (hdebug : rd c.p 1 1 = 5 → ∀ x ∈ a.izent.sessions, x.role ≠ 5) :
    bodySessionOpen c a =
      if c.net then openCertified c a
      else if rd c.p 0 1 = 0 then
        if !a.prot.entropyOk then .err a { status := stDenied } else .ok (a.issueChallenge c.mb false).1 (openAnswer 0 (rd c.p 1 1) (a.issueChallenge c.mb false).2.id (a.issueChallenge c.mb false).2.nonce)
      else openSigned c a := by
  have hfree : ¬ ((a.session? c.mb).isSome || (decide (rd c.p 1 1 = 5) && a.izent.sessions.any fun x => x.role == 5)) = true := by
    simpa [hnone] using hdebug
  unfold bodySessionOpen
  dsimp only
  rw [hform]
  dsimp only
  rw [if_neg (by rw [hopen]; decide), if_neg hfree]
  rfl

theorem bodySessionOpen_challenge (hnet : c.net = false) (hform : sessionOpenBad c = none) (hopen : a.blocked c.mb = false) (hnone : a.session? c.mb = none) (hdebug : rd c.p 1 1 = 5 → ∀ x ∈ a.izent.sessions, x.role ≠ 5)
    (hphase : rd c.p 0 1 = 0) (hentropy : a.prot.entropyOk = true) :
    bodySessionOpen c a = .ok (a.issueChallenge c.mb false).1 (zeros 4 ++ le 1 (rd c.p 1 1) ++ zeros 3 ++ le 4 a.newNonceId ++ zeros 4 ++ fit 48 (a.random 48).1) := by
  rw [bodySessionOpen_admits hform hopen hnone hdebug, if_neg (by rw [hnet]; decide), if_pos hphase, if_neg (by rw [hentropy]; decide)]
  rfl

theorem bodySessionOpen_signs (hnet : c.net = false) (hform : sessionOpenBad c = none) (hopen : a.blocked c.mb = false) (hnone : a.session? c.mb = none) (hdebug : rd c.p 1 1 = 5 → ∀ x ∈ a.izent.sessions, x.role ≠ 5)
    (hphase : rd c.p 0 1 = 1) : bodySessionOpen c a = openSigned c a := by
  rw [bodySessionOpen_admits hform hopen hnone hdebug, if_neg (by rw [hnet]; decide), if_neg (by omega)]

/-- A challenge's answer that the credential has signed (R365). -/
theorem openSigned_signed {cred : Credential} (hcred : rd c.p 4 4 ≠ commissioning) (htime : a.challengeOk c.mb (rd c.p 8 4) false = some true) (hfind : a.prot.store.creds.find? (fun x => x.id == rd c.p 4 4) = some cred)
    (hrole : cred.role = rd c.p 1 1) (hsig : signatureOk cred.key (a.challengeText c.mb (rd c.p 1 1) (rd c.p 4 4)) (sub c.p 16 96) = true) :
    openSigned c a = .ok ((a.useChallenge c.mb).openSession c.mb (rd c.p 1 1) (rd c.p 4 4)).1 (le 4 a.newSessionId ++ le 1 (rd c.p 1 1) ++ zeros 59) := by
  have hfind' : (a.useChallenge c.mb).prot.store.creds.find? (fun x => x.id == rd c.p 4 4) = some cred := hfind
  unfold openSigned
  dsimp only
  rw [if_neg (by simp [hcred]), htime]
  dsimp only
  rw [hfind']
  dsimp only
  rw [if_pos (by simp [hrole, hsig]), openAnswer_session]
  rfl

/-- Before the unit has been commissioned (R455). -/
theorem openSigned_commissioning (hcred : rd c.p 4 4 = commissioning) (hrole : rd c.p 1 1 = 4) (hnew : a.commissioned = false) (hzero : (sub c.p 16 96).all (· == 0) = true) :
    openSigned c a = .ok (a.openSession c.mb 4 commissioning).1 (le 4 a.newSessionId ++ [4] ++ zeros 59) := by
  unfold openSigned
  dsimp only
  rw [if_pos (by rw [hcred, hrole, hnew, hzero]; decide), openAnswer_session, hcred, hrole]
  rfl

/-- On a connection that has shown a certificate (R457). -/
theorem bodySessionOpen_network {n : Conn} (hnet : c.net = true) (hform : sessionOpenBad c = none) (hopen : a.blocked c.mb = false) (hnone : a.session? c.mb = none) (hdebug : rd c.p 1 1 = 5 → ∀ x ∈ a.izent.sessions, x.role ≠ 5)
    (hconn : (a.mbx c.mb).conn = some n) (hrole : n.role = some (rd c.p 1 1)) (hcred : a.prot.store.creds.any (fun x => x.id == n.cred && x.role == rd c.p 1 1 && x.key == n.key) = true) :
    bodySessionOpen c a = .ok (a.openSession c.mb (rd c.p 1 1) n.cred).1 (le 4 a.newSessionId ++ le 1 (rd c.p 1 1) ++ zeros 59) := by
  rw [bodySessionOpen_admits hform hopen hnone hdebug, if_pos hnet, openCertified, hconn]
  dsimp only
  rw [if_pos (by rw [hcred, hrole]; simp), openAnswer_session]
  rfl

theorem bodySessionClose_closes {id : Nat} (hid : id = if rd c.p 0 4 = 0 then c.msg.session else rd c.p 0 4) (hmay : id = c.msg.session ∨ (c.role = 4 ∧ id ≠ Config.localSession.toNat)) :
    bodySessionClose c a = .ok (a.closeSession id 0) [] := by
  have hallowed : ¬ (id != c.msg.session && (c.role != 4 || id == Config.localSession.toNat)) = true := by
    rcases hmay with h | ⟨hrole, hlocal⟩
    · simp [h]
    · simp [hrole, hlocal]
  unfold bodySessionClose
  dsimp only
  rw [← hid, if_neg hallowed]

end

theorem useChallenge_block (a : State) (mb role cred : Nat) : State.SameBlock (a.withSession mb role cred) ((a.useChallenge mb).withSession mb role cred) := by constructor <;> rfl

/-- Settles O18: each path ends in its branch, and what it leaves beside the session is the interface's own. -/
theorem sessionCommandsAnswer : Obligations.SessionCommandsAnswer := by
  unfold Obligations.SessionCommandsAnswer
  refine ⟨?challenge, fun cred => ?signed, ?commissioning, fun n => ?network, fun id => ?close⟩
  case challenge =>
    refine answers_same (left := fun c a => (a.issueChallenge c.mb false).1) ?_ ?_ ?_
    · exact fun c a ⟨hnet, hform, hopen, hnone, hdebug, hphase, hentropy⟩ => bodySessionOpen_challenge hnet hform hopen hnone hdebug hphase hentropy
    · exact fun c a n _ => issueChallenge_heard a _ _ n
    · intro c a _
      constructor <;> rfl
  case signed =>
    refine answers_same (left := fun c a => ((a.useChallenge c.mb).openSession c.mb (rd c.p 1 1) (rd c.p 4 4)).1) ?_ ?_ ?_
    · exact fun c a ⟨hnet, hform, hopen, hnone, hdebug, hphase, hcred, htime, hfind, hrole, hsig⟩ => (bodySessionOpen_signs hnet hform hopen hnone hdebug hphase).trans (openSigned_signed hcred htime hfind hrole hsig)
    · exact fun c a n _ => (openSession_heard _ _ _ _ n).trans (useChallenge_heard a _ n)
    · exact fun c a _ => (useChallenge_block a _ _ _).trans (openSession_block _ _ _ _)
  case commissioning =>
    refine answers_same (left := fun c a => (a.openSession c.mb 4 commissioning).1) ?_ ?_ ?_
    · exact fun c a ⟨hnet, hform, hopen, hnone, hphase, hrole, hcred, hnew, hzero⟩ => (bodySessionOpen_signs hnet hform hopen hnone (fun h => by omega) hphase).trans (openSigned_commissioning hcred hrole hnew hzero)
    · exact fun c a n _ => openSession_heard _ _ _ _ n
    · exact fun c a _ => openSession_block _ _ _ _
  case network =>
    refine answers_same (left := fun c a => (a.openSession c.mb (rd c.p 1 1) n.cred).1) ?_ ?_ ?_
    · exact fun c a ⟨hnet, hform, hopen, hnone, hdebug, hconn, hrole, hcred⟩ => bodySessionOpen_network hnet hform hopen hnone hdebug hconn hrole hcred
    · exact fun c a k _ => openSession_heard _ _ _ _ k
    · exact fun c a _ => openSession_block _ _ _ _
  case close => exact answers (fun c a ⟨hid, hmay⟩ => bodySessionClose_closes hid hmay) fun c a n _ => closeSession_heard a id 0 n

end Sys2Proof.Machine
end

section
/-! PROOF of what the recorder commands leave in the journals (spec/12_commands.md R370; spec/20_recorder.md R532–R537): a flush cuts the buffer into pages that the ring keeps, and a clear is itself recorded. -/

namespace Sys2Proof.Machine

/-! A command that answers with more than its response. -/

/-- Such a command's claim follows from the state that its own part left: the journals have grown from it, and the other mailboxes hold its jobs and its responses. -/
theorem answersWith_left {k : CmdKind} {pre : Call → State → Prop} {payload : Call → State → Bytes} {next left : Call → State → State} {also : Call → State → State → Prop}
    (hb : ∀ c a, pre c a → bodyOf k c a = .ok (left c a) (payload c a)) (hc : ∀ c a n, pre c a → ((left c a).mbx n).conn.isSome = (a.mbx n).conn.isSome) (hs : ∀ c a, pre c a → State.SameBlock (next c a) (left c a))
    (ha : ∀ c a u, pre c a → (left c a).recorder.Grows u.recorder → (∀ n, n ≠ c.mb → (u.mbx n).job = ((left c a).mbx n).job ∧ (u.mbx n).rsp = ((left c a).mbx n).rsp) → also c a u) : AnswersWith k pre payload next also := by
  intro t mb m role s h hp
  have hl := reaches_lt h.arrives
  have hi : exec (cmdInstr k t mb m) s = .next (settle (s.tick t) ((left ((s.tick t).callAt k mb m role) ((s.tick t).atBody k mb m)).respond mb (code k) m stOk (payload ((s.tick t).callAt k mb m role) ((s.tick t).atBody k mb m)))) := by
    rw [cmdInstr_exec, command, runIf_next (decide_eq_true hl), accepted_issue h, hb _ _ hp]
    rfl
  have hheard := (atBody_heard (k := k) h.arrives).imp id (fun x => (hc _ _ mb hp).trans x)
  have hother {n : Nat} (hn : n ≠ mb) := respond_other (left ((s.tick t).callAt k mb m role) ((s.tick t).atBody k mb m)) mb (code k) m stOk (payload ((s.tick t).callAt k mb m role) ((s.tick t).atBody k mb m)) hn
  refine ⟨_, hi, responds_settle _ (respond_rsp _ mb (code k) m stOk _ hl hheard), ((hs _ _ hp).trans (respond_block _ m stOk _ hl hheard)).trans (settle_block _ _), ha _ _ _ hp ?_ fun n hn => ⟨?_, ?_⟩⟩
  · exact (respond_grows _ _ _ _ _ _).trans (settle_records _ _).journals
  · rw [(settle_records _ _).job, hother hn]
  · rw [(settle_records _ _).rsp, hother hn]

/-! Values of a record (R531). -/

theorem padTo_of_aligned {n : Nat} {bs : Bytes} (h : bs.length % n = 0) : padTo n bs = bs := by
  simp [padTo, h, zeros]

theorem leS_natCast {n v : Nat} (h : v < 256 ^ n) : leS n (v : Int) = le n v := by
  rw [leS, ← Int.natCast_emod, Int.toNat_natCast, Nat.mod_eq_of_lt h]

theorem length_le_four (v : Nat) : (le 4 v).length = 4 := rfl

theorem padTo_count (v : Nat) : padTo 4 (le 4 v) = le 4 v := padTo_of_aligned (by rw [length_le_four])

theorem padTo_counts (v w : Nat) : padTo 4 (le 4 v ++ le 4 w) = le 4 v ++ le 4 w := padTo_of_aligned (by rw [List.length_append, length_le_four, length_le_four])

theorem sat_four_lt (v : Nat) : sat 4 v < 256 ^ 4 := by
  unfold sat
  omega

/-- Two counts stand side by side. -/
theorem payload_counts (v w : Nat) : payload [p4 v, p4 w] [] = le 4 (sat 4 v) ++ le 4 (sat 4 w) := by
  simp only [payload, pvPlace, p4, leS_natCast (sat_four_lt _)]
  rw [padTo_of_aligned (bs := []) rfl, List.nil_append, padTo_count]

/-! RECORDER_CLEAR (R537). -/

theorem clear_records {c : Call} {a u : State}
    (hu : (({ a with recorder := { a.recorder with clearedTo := a.recorder.seqOp } } : State).record evJournalCleared [p4 c.msg.session, p4 a.recorder.seqOp]).recorder.Grows u.recorder) :
    u.recorder.clearedTo = a.recorder.seqOp ∧ u.recorder.nand = a.recorder.nand ∧
    (a.recorder.buf ++ [{ ty := 0x8C01, time := a.now, seq := nextSeq a.recorder.seqAudit, payload := le 4 (sat 4 c.msg.session) ++ le 4 (sat 4 a.recorder.seqOp) }]) <+: u.recorder.buf := by
  have hadded := (State.recordRaw_added (s := { a with recorder := { a.recorder with clearedTo := a.recorder.seqOp } }) (ty := evJournalCleared) (time := a.now) (bs := payload [p4 c.msg.session, p4 a.recorder.seqOp] []) (.inl (by decide))).trans hu
  rw [payload_counts, padTo_counts] at hadded
  exact ⟨hadded.clearedTo, hadded.nand, hadded.buf⟩

/-- What the journal shows begins after CLEARED_TO. -/
theorem journal_cleared {u : State} (h : u.recorder.clearedTo ≠ 0) : ∀ e ∈ u.journal false, e.seq ≠ u.recorder.clearedTo ∧ (e.seq + 4294967296 - u.recorder.clearedTo) % 4294967296 < 2147483648 := by
  intro e he
  unfold State.journal at he
  dsimp only at he
  rw [if_neg (by simp [h]), List.mem_filter] at he
  simpa using he.2

/-! RECORDER_FLUSH (R532–R534). -/

theorem fitting_prefix (room : Nat) (es : List Entry) : fitting room es <+: es := by
  induction es generalizing room with
  | nil => exact List.prefix_refl _
  | cons e es ih =>
    unfold fitting
    split
    · exact (List.prefix_cons_inj e).mpr (ih _)
    · exact List.nil_prefix

theorem fitting_cons {room : Nat} {e : Entry} (h : e.size ≤ room) (es : List Entry) : fitting room (e :: es) = e :: fitting (room - e.size) es := if_pos h

section
variable (audit : Bool) (now : Nat)

theorem pagesOf_audit (n : Nat) (es : List Entry) : ∀ p ∈ pagesOf audit now n es, p.audit = audit := by
  induction n generalizing es with
  | zero => intro p hp; cases hp
  | succ n ih =>
    intro p hp
    unfold pagesOf at hp
    split at hp
    · cases hp
    · rcases List.mem_cons.mp hp with rfl | hp
      · rfl
      · exact ih _ p hp

theorem pagesOf_length (n : Nat) (es : List Entry) : (pagesOf audit now n es).length ≤ n := by
  induction n generalizing es with
  | zero => exact Nat.le_refl _
  | succ n ih =>
    unfold pagesOf
    split
    · exact Nat.zero_le _
    · exact Nat.succ_le_succ (ih _)

/-- Records of which each fits a page all come to stand in one. -/
theorem pagesOf_holds {n : Nat} {es : List Entry} (hfit : ∀ e ∈ es, e.size ≤ 4072) (hn : es.length ≤ n) : ∀ e ∈ es, ∃ p ∈ pagesOf audit now n es, e ∈ p.recs := by
  induction n generalizing es with
  | zero =>
    intro e he
    rw [List.eq_nil_of_length_eq_zero (Nat.le_zero.mp hn)] at he
    cases he
  | succ n ih =>
    intro e he
    obtain ⟨x, xs, rfl⟩ := List.exists_cons_of_ne_nil (List.ne_nil_of_mem he)
    have hfirst := fitting_cons (hfit x List.mem_cons_self) xs
    have hsplit := List.prefix_iff_eq_append.mp (fitting_prefix 4072 (x :: xs))
    unfold pagesOf
    rw [hfirst] at hsplit ⊢
    dsimp only
    rw [← hsplit, List.mem_append] at he
    rcases he with he | he
    · exact ⟨_, List.mem_cons_self, he⟩
    · have hshort : ((x :: xs).drop (x :: fitting (4072 - x.size) xs).length).length ≤ n := by
        rw [List.length_drop, List.length_cons, List.length_cons]
        rw [List.length_cons] at hn
        omega
      obtain ⟨p, hp, hin⟩ := ih (fun y hy => hfit y (List.mem_of_mem_drop hy)) hshort e he
      exact ⟨p, List.mem_cons_of_mem _ hp, hin⟩

end

/-- The last pages of a journal that keeps as many are kept. -/
theorem mem_drop_append {α : Type} {p : α} {l k : List α} {limit : Nat} (h : p ∈ k) (hk : k.length ≤ limit) : p ∈ (l ++ k).drop ((l ++ k).length - limit) := by
  rw [List.drop_append_of_le_length (by rw [List.length_append]; omega)]
  exact List.mem_append_right _ h

/-- The pages of a journal that its share of the ring keeps (R534). -/
def keptPages (audit : Bool) (ps : List Page) : List Page := (ps.filter fun p => p.audit == audit).drop ((ps.filter fun p => p.audit == audit).length - pageLimit audit)

/-- The pages that a flush of `n` records writes for a journal (R533). -/
def State.newPages (s : State) (n : Nat) (audit : Bool) : List Page :=
  pagesOf audit s.now ((s.recorder.buf.take n).filter fun e => e.audit == audit).length ((s.recorder.buf.take n).filter fun e => e.audit == audit)

/-- The ring and the buffer after a flush of `n` records, nothing reported. -/
def State.flushed (s : State) (n : Nat) : State :=
  { s with recorder := { s.recorder with
      buf := s.recorder.buf.drop n
      nand := keptPages false (s.recorder.nand ++ s.newPages n false ++ s.newPages n true) ++ keptPages true (s.recorder.nand ++ s.newPages n false ++ s.newPages n true)
      flushing := none, lastFlush := s.clk, dropped := 0 } }

theorem flushRing_eq (s : State) (n : Nat) : s.flushRing n = if s.recorder.dropped = 0 then s.flushed n else (s.flushed n).record evRecordsLost [p1 0, p4 s.recorder.dropped] := rfl

theorem flushRing_grows (s : State) (n : Nat) : (s.flushed n).recorder.Grows (s.flushRing n).recorder := by
  rw [flushRing_eq]
  split
  · exact .refl _
  · exact (State.record_records _ _ _).journals

theorem flushRing_same (s : State) (n : Nat) : State.SameUnits s (s.flushRing n) := by
  have hflushed : State.SameUnits s (s.flushed n) := by constructor <;> intros <;> rfl
  rw [flushRing_eq]
  exact .ite hflushed (hflushed.trans (State.record_same _ _ _))

/-- The new pages of either journal are its last. -/
theorem newPages_last (s : State) (n : Nat) (audit : Bool) :
    ∃ l, (s.recorder.nand ++ s.newPages n false ++ s.newPages n true).filter (fun p => p.audit == audit) = l ++ s.newPages n audit := by
  have hown (b : Bool) : (s.newPages n b).filter (fun p => p.audit == b) = s.newPages n b :=
    List.filter_eq_self.mpr fun p hp => beq_iff_eq.mpr (pagesOf_audit _ _ _ _ p hp)
  have hforeign : (s.newPages n true).filter (fun p => p.audit == false) = [] :=
    List.filter_eq_nil_iff.mpr fun p hp => by rw [pagesOf_audit _ _ _ _ p hp]; decide
  cases audit with
  | false => exact ⟨_, by rw [List.filter_append, List.filter_append, hown false, hforeign, List.append_nil]⟩
  | true => exact ⟨_, by rw [List.filter_append, hown true]⟩

theorem pageLimit_ge (audit : Bool) : 15872 ≤ pageLimit audit := by cases audit <;> decide

/-- Every record of the buffer stands in the ring once it has been flushed (R533). -/
theorem flushed_inRing {s : State} (hfit : ∀ e ∈ s.recorder.buf, e.size ≤ 4072) (hcount : s.recorder.buf.length ≤ 15872) : (s.flushed s.recorder.buf.length).inRing s.recorder.buf := by
  intro e he
  have hjournal : e ∈ (s.recorder.buf.take s.recorder.buf.length).filter fun x => x.audit == e.audit := by
    rw [List.take_length]
    exact List.mem_filter.mpr ⟨he, beq_self_eq_true _⟩
  obtain ⟨p, hp, hin⟩ := pagesOf_holds e.audit s.now (fun x hx => hfit x (List.mem_of_mem_take (List.mem_filter.mp hx).1)) (Nat.le_refl _) e hjournal
  have hshort : (s.newPages s.recorder.buf.length e.audit).length ≤ pageLimit e.audit := by
    refine Nat.le_trans (pagesOf_length _ _ _ _) (Nat.le_trans ?_ (pageLimit_ge _))
    rw [List.take_length]
    exact Nat.le_trans (List.length_filter_le _ _) hcount
  have hkept : p ∈ keptPages e.audit (s.recorder.nand ++ s.newPages s.recorder.buf.length false ++ s.newPages s.recorder.buf.length true) := by
    obtain ⟨l, hl⟩ := newPages_last s s.recorder.buf.length e.audit
    rw [keptPages, hl]
    exact mem_drop_append hp hshort
  refine ⟨p, ?_, pagesOf_audit _ _ _ _ p hp, hin⟩
  cases haudit : e.audit with
  | false => exact List.mem_append_left _ (haudit ▸ hkept)
  | true => exact List.mem_append_right _ (haudit ▸ hkept)

/-- What was dropped is reported by a record in the emptied buffer (R532). -/
theorem flushRing_reports {s : State} (h : s.recorder.dropped ≠ 0) : ∃ e ∈ (s.flushRing s.recorder.buf.length).recorder.buf, e.ty = 0x1401 ∧ e.time = s.now ∧ e.seq = nextSeq s.recorder.seqOp := by
  have hempty : (s.flushed s.recorder.buf.length).recorder.buf = [] := List.drop_length
  have hlost : (padTo 4 (payload [p1 0, p4 s.recorder.dropped] [])).length = 8 := by simp [payload, pvPlace, padTo, p1, p4, leS, le, zeros]
  have hroom : (s.flushed s.recorder.buf.length).recorder.used + 16 + (padTo 4 (payload [p1 0, p4 s.recorder.dropped] [])).length ≤ 245760 := by
    rw [Recorder.used, hempty, hlost]
    decide
  have hadded := State.recordRaw_added (s := s.flushed s.recorder.buf.length) (ty := evRecordsLost) (time := s.now) (.inr hroom)
  rw [flushRing_eq, if_neg h]
  exact ⟨_, hadded.buf.subset (List.mem_append_right _ (List.mem_singleton.mpr rfl)), rfl, rfl, rfl⟩

end Sys2Proof.Machine
end

section
/-! PROOF of the claim on the recorder commands, SYSTEM_RESTART, ABORT and SCAN_SUBMIT (spec/11_izent.md R316, R334–R337; spec/12_commands.md R348, R369, R370; spec/18_resilience.md R498; spec/20_recorder.md R533, R537): ABORT ends one mailbox's command at a time, and what it does to one it does to no other. -/

namespace Sys2Proof.Machine

/-! ABORT, one mailbox (R335). -/

theorem code_abort {k : CmdKind} (h : k ≠ .abort) : code k ≠ 0x01FF := by
  revert h
  cases k <;> decide

/-- ABORT ends this command: it is held, or switches a domain (R335). -/
def Job.ends (j : Job) : Bool := j.cause.isSome || j.kind = .domainSet

/-- The mailbox holds no command, and the response of one that ABORT has ended (R335). -/
def State.aborted (s : State) (n : Nat) (j : Job) : Prop :=
  (s.mbx n).job = none ∧ s.responds j.kind n j.msg stAborted (({ status := stAborted, check := 0 } : Err).bytes)

section
variable {s : State} {n : Nat} {j : Job}

theorem abortAt_idle (h : (s.mbx n).job = none) : s.abortAt n = (s, 0) := by rw [State.abortAt, h]

theorem abortAt_late (h : (s.mbx n).job = some j) (hlate : j.ends = false) : s.abortAt n = (s, 2) := by
  rw [State.abortAt, h]
  exact if_neg (by rw [← Job.ends, hlate]; decide)

theorem abortAt_ending (h : (s.mbx n).job = some j) (hend : j.ends = true) :
    s.abortAt n = ((s.undoSwitch j).respondErr n (code j.kind) j.msg { status := stAborted, check := 0 }, 1) := by
  rw [State.abortAt, h]
  exact if_pos hend

theorem undoSwitch_records (s : State) (j : Job) : State.Records s (s.undoSwitch j) := by
  unfold State.undoSwitch
  dsimp only
  split
  · refine .trans ?_ (State.record_records _ _ _)
    exact .of_eq rfl (.refl _)
  · exact .refl s

theorem abortAt_other {m : Nat} (s : State) (h : n ≠ m) : ((s.abortAt m).1.mbx n).job = (s.mbx n).job ∧ ((s.abortAt m).1.mbx n).rsp = (s.mbx n).rsp := by
  cases hj : (s.mbx m).job with
  | none => rw [abortAt_idle hj]; exact ⟨rfl, rfl⟩
  | some i =>
    cases hend : i.ends with
    | false => rw [abortAt_late hj hend]; exact ⟨rfl, rfl⟩
    | true =>
      rw [abortAt_ending hj hend, State.respondErr]
      dsimp only
      rw [respond_other _ _ _ _ _ _ h]
      exact ⟨(undoSwitch_records s i).job n, (undoSwitch_records s i).rsp n⟩

/-- The command that ABORT ends answers ST_ABORTED where there is someone to hear it (R314). -/
theorem abortAt_ends (h : (s.mbx n).job = some j) (hend : j.ends = true) (hkind : j.kind ≠ .abort) (hheard : n < 16 ∨ n = 24 ∨ (s.mbx n).conn.isSome = true) : (s.abortAt n).1.aborted n j := by
  rw [abortAt_ending h hend]
  obtain ⟨y, hy, hown⟩ := respond_own (s.undoSwitch j) n (code j.kind) j.msg stAborted (({ status := stAborted, check := 0 } : Err).bytes)
  have hlistens : (decide (n < 16) || decide (n = 24) || ((s.undoSwitch j).mbx n).conn.isSome) = true := by
    rw [(s.undoSwitch_senders j).heard n]
    simpa [or_assoc] using hheard
  have hleaves : endsJob (code j.kind) ((s.undoSwitch j).mbx n) = true := by simp [endsJob, code_abort hkind]
  constructor
  · rw [State.respondErr, hown, hy.job, if_pos hleaves]
  · rw [State.responds, State.respondErr, hown, hy.rsp, if_pos hlistens]
    rfl

end

/-! ABORT, every mailbox that it names (R334, R336). -/

/-- What ABORT does to one of the mailboxes that it names. -/
def State.abortOne (c : Call) (s : State) (n : Nat) : State := if s.mayAbort c n then (s.abortAt n).1 else s

theorem abortAll_state (s : State) (c : Call) (l : List Nat) : (s.abortAll c l).1 = l.foldl (State.abortOne c) s := by
  unfold State.abortAll
  refine (List.foldl_hom (Prod.fst : State × Nat × Nat × Nat → State) fun r n => ?_).symm
  obtain ⟨v, a, d, x⟩ := r
  dsimp only [State.abortOne]
  cases v.mayAbort c n with
  | false => rfl
  | true =>
    obtain ⟨w, i⟩ := v.abortAt n
    match i with
    | 0 => rfl
    | 1 => rfl
    | 2 => rfl
    | _ + 3 => rfl

theorem abortOne_senders (c : Call) (s : State) (n : Nat) : State.SameSenders s (s.abortOne c n) := by
  unfold State.abortOne
  exact .ite (s.abortAt_senders n) (.refl s)

theorem abortAll_senders (s : State) (c : Call) (l : List Nat) : State.SameSenders s (s.abortAll c l).1 := by
  rw [abortAll_state]
  induction l generalizing s with
  | nil => exact .refl s
  | cons n l ih => exact (abortOne_senders c s n).trans (ih _)

/-- Who may abort is told by the sessions (R336). -/
theorem mayAbort_of_senders {a b : State} (h : State.SameSenders a b) (c : Call) (n : Nat) : b.mayAbort c n = a.mayAbort c n := by
  unfold State.mayAbort State.session?
  rw [h.sessions]

theorem abortOne_other {n m : Nat} (c : Call) (s : State) (h : n ≠ m) : ((s.abortOne c m).mbx n).job = (s.mbx n).job ∧ ((s.abortOne c m).mbx n).rsp = (s.mbx n).rsp := by
  unfold State.abortOne
  split
  · exact abortAt_other s h
  · exact ⟨rfl, rfl⟩

section
variable {c : Call} {n : Nat} {j : Job}

/-- A command past its commit point, or another's, stays. -/
theorem abortAll_keeps {s : State} (l : List Nat) (h : (s.mbx n).job = some j) (hstays : s.mayAbort c n = false ∨ j.ends = false) : ((s.abortAll c l).1.mbx n).job = some j := by
  rw [abortAll_state]
  induction l generalizing s with
  | nil => exact h
  | cons m l ih =>
    refine ih ?_ (by rw [mayAbort_of_senders (abortOne_senders c s m)]; exact hstays)
    by_cases hm : n = m
    · subst hm
      unfold State.abortOne
      split
      case isTrue hmay => rw [abortAt_late h (hstays.resolve_left (by rw [hmay]; decide))]; exact h
      case isFalse => exact h
    · rw [(abortOne_other c s hm).1, h]

/-- What has been ended stays so. -/
theorem aborted_foldl {s : State} (l : List Nat) (h : s.aborted n j) : (l.foldl (State.abortOne c) s).aborted n j := by
  induction l generalizing s with
  | nil => exact h
  | cons m l ih =>
    refine ih ?_
    by_cases hm : n = m
    · subst hm
      unfold State.abortOne
      rw [abortAt_idle h.1, ite_self]
      exact h
    · obtain ⟨hjob, hrsp⟩ := abortOne_other c s hm
      exact ⟨hjob.trans h.1, hrsp.trans h.2⟩

/-- A command that ABORT names, may end and can end is ended. -/
theorem abortAll_ends {s : State} {l : List Nat} (hn : n ∈ l) (h : (s.mbx n).job = some j) (hmay : s.mayAbort c n = true) (hend : j.ends = true) (hkind : j.kind ≠ .abort)
    (hheard : n < 16 ∨ n = 24 ∨ (s.mbx n).conn.isSome = true) : (s.abortAll c l).1.aborted n j := by
  rw [abortAll_state]
  induction l generalizing s with
  | nil => cases hn
  | cons m l ih =>
    have hsame := abortOne_senders c s m
    by_cases hm : n = m
    · subst hm
      refine aborted_foldl l ?_
      rw [State.abortOne, if_pos hmay]
      exact abortAt_ends h hend hkind hheard
    · exact ih ((List.mem_cons.mp hn).resolve_left hm) (by rw [(abortOne_other c s hm).1, h]) (by rw [mayAbort_of_senders hsame, hmay]) (by rw [hsame.heard]; exact hheard)

end

/-! The commands' own parts. -/

section
variable {c : Call} {a : State}

theorem bodyAbort_counts (hunit : rd c.p 2 2 ≤ if rd c.p 0 1 = 0 then 24 else if rd c.p 0 1 = 1 then 0 else if rd c.p 0 1 = 2 then 15 else if rd c.p 0 1 = 3 then 1023 else if rd c.p 0 1 = 4 then 255 else 31)
    (hsession : rd c.p 0 1 = 1 ∨ rd c.p 4 4 = 0) : bodyAbort c a =
      let r := a.abortAll c (a.abortTargets (rd c.p 0 1) (rd c.p 2 2) (rd c.p 4 4))
      .ok r.1 (le 2 r.2.1 ++ le 2 r.2.2.1 ++ le 2 r.2.2.2 ++ zeros 2) := by
  unfold bodyAbort
  dsimp only
  rw [if_neg (Nat.not_lt.mpr hunit), if_neg (by rcases hsession with h | h <;> simp [h])]

theorem bodySystemRestart_next (hflips : ∀ g < 4, (a.grpC g).next = none) (hplan : a.upd.planState ≠ .running) : bodySystemRestart c a = .ok { a with power := { a.power with restart := some (rd c.p 0 1, a.clk + 1000000) } } [] := by
  have hnone : (List.range 4).filter (fun g => (a.grpC g).next.isSome) = [] :=
    List.filter_eq_nil_iff.mpr fun g hg => by rw [hflips g (List.mem_range.mp hg)]; decide
  unfold bodySystemRestart
  dsimp only
  rw [hnone, if_neg (by decide), if_neg hplan]
  rfl

theorem startScan_jobs (s : State) : s.startScan.health.jobs = s.health.jobs := by
  cases h : s.health.jobs with
  | nil => simp only [State.startScan, h]
  | cons j rest =>
    simp only [State.startScan, h]
    split
    · exact h
    · rfl

theorem startScan_izent (s : State) : s.startScan.izent = s.izent := by
  unfold State.startScan
  dsimp only
  split
  · rfl
  · split <;> rfl

theorem bodyScanSubmit_queues {j : ScanJob} (haddr : rd c.p 8 8 < 2 ^ 35) (hroom : a.health.jobs.length < 16) (hj : j = { id := rd c.p 0 2, start := rd c.p 8 8, length := rd c.p 4 4, submitted := a.health.submissions }) :
    bodyScanSubmit c a =
      .ok ({ a with health := { a.health with jobs := a.health.jobs ++ [j], submissions := a.health.submissions + 1, results := Map.set a.health.results j.id { submitted := j.submitted, state := 1 } } } : State).startScan (le 1 (a.health.jobs.length + 1) ++ zeros 3) := by
  unfold bodyScanSubmit
  dsimp only
  rw [if_neg (Nat.not_le.mpr haddr), if_neg (Nat.not_le.mpr hroom), startScan_jobs, List.length_append, hj]
  rfl

theorem bodyRecorderSubscribe_sets (hnet : c.net = true) (hrole : bit (rd c.p 0 1) 1 = true → c.role = 4) :
    bodyRecorderSubscribe c a = .ok { a with izent := { a.izent with sessions := a.izent.sessions.map fun (x : Session) => if x.mailbox == c.mb then { x with journals := rd c.p 0 1 } else x } } [] := by
  unfold bodyRecorderSubscribe
  dsimp only
  rw [if_neg (by rw [hnet]; decide), if_neg (by simpa using hrole)]

theorem bodyRecorderClear_clears (h : rd c.p 0 1 = 0) :
    bodyRecorderClear c a = .ok (({ a with recorder := { a.recorder with clearedTo := a.recorder.seqOp } } : State).record evJournalCleared [p4 c.msg.session, p4 a.recorder.seqOp]) (le 4 a.recorder.seqOp) := by
  unfold bodyRecorderClear
  rw [if_neg (by omega)]

end

theorem recorderClear_same (a : State) (ty : Nat) (v : List (Nat × Int)) : State.SameUnits a (({ a with recorder := { a.recorder with clearedTo := a.recorder.seqOp } } : State).record ty v) := by
  refine .trans ?_ (State.record_same _ _ _)
  constructor <;> intros <;> rfl

/-- Settles O21: each command's own part, and of ABORT its fold over the mailboxes, whose step ends one command and leaves the others. -/
theorem recorderAndScanCommandsAnswer : Obligations.RecorderAndScanCommandsAnswer := by
  unfold Obligations.RecorderAndScanCommandsAnswer
  refine ⟨?clear, ?flush, ?subscribe, ?restart, fun j => ?scan, ?abort⟩
  case clear =>
    refine answersWith_left (fun c a h => bodyRecorderClear_clears h) (fun c a n _ => (recorderClear_same a _ _).heard n) (fun c a _ => (recorderClear_same a _ _).block) fun c a u _ hgrows _ => ?_
    obtain ⟨hcleared, hnand, hbuf⟩ := clear_records hgrows
    exact ⟨hcleared, hnand, hbuf, fun hne => hcleared ▸ journal_cleared (hcleared ▸ hne)⟩
  case flush =>
    refine answersWith_left (left := fun _ a => a.flushRing a.recorder.buf.length) (fun _ _ _ => rfl) (fun c a n _ => (flushRing_same a _).heard n) (fun c a _ => (flushRing_same a _).block) fun c a u _ hgrows _ => ?_
    have hring := (flushRing_grows a a.recorder.buf.length).trans hgrows
    refine ⟨hring.lastFlush, hgrows.nand, fun hfit hcount e he => ?_, fun hlost => ?_⟩
    · rw [hring.nand]
      exact flushed_inRing hfit hcount e he
    · obtain ⟨e, he, htype⟩ := flushRing_reports hlost
      exact ⟨e, hgrows.buf.subset he, htype⟩
  case subscribe => exact answers (fun c a ⟨hnet, hrole⟩ => bodyRecorderSubscribe_sets hnet hrole) fun _ _ _ _ => rfl
  case restart => exact answers (fun c a ⟨hflips, hplan⟩ => bodySystemRestart_next hflips hplan) fun _ _ _ _ => rfl
  case scan => exact answers (fun c a ⟨haddr, hroom, hj⟩ => bodyScanSubmit_queues haddr hroom hj) fun c a n _ => by rw [State.mbx, startScan_izent]; rfl
  case abort =>
    refine answersWith_left (fun c a ⟨hunit, hsession⟩ => bodyAbort_counts ?_ hsession) (fun c a n _ => (abortAll_senders a c _).heard n) (fun c a _ => .refl _) fun c a u _ _ hothers n j hn hown hjob hkind hheard => ?_
    · generalize rd c.p 0 1 = kind at hunit ⊢
      match kind with
      | 0 | 1 | 2 | 3 | 4 => exact hunit
      | _ + 5 => exact hunit
    · obtain ⟨hleft, hrsp⟩ := hothers n hown
      have hends : j.ends = true ↔ j.cause.isSome = true ∨ j.kind = .domainSet := by simp [Job.ends]
      refine ⟨fun hmay hend => ?_, fun hstays => ?_⟩
      · obtain ⟨hgone, hanswer⟩ := abortAll_ends hn hjob hmay (hends.mpr hend) hkind hheard
        exact ⟨hrsp.trans hanswer, hleft.trans hgone⟩
      · exact hleft.trans (abortAll_keeps _ hjob (hstays.imp_right fun ⟨hcause, hswitch⟩ => by simp [Job.ends, hcause, hswitch]))

end Sys2Proof.Machine
end

section
/-! PROOFS of the claims on DEV_HEALTH_EVENTS and on the queue (spec/11_izent.md, Table 11-2; log 1): every row ends in settling its effect, and settling notes what its effect changed. -/

namespace Sys2Proof.Machine

/-! What settling a step sets in DEV_HEALTH_EVENTS (Table 11-2). -/

theorem setHealth_healthEvents (s : State) (state flags safe : Bool) : (s.setHealth state flags safe).izent.healthEvents =
    bitsOf [bit s.izent.healthEvents 0 || state, bit s.izent.healthEvents 1 || flags, bit s.izent.healthEvents 2 || safe] := by
  simp only [State.setHealth]
  split <;> split <;> rfl

theorem settle_healthEvents (a b : State) : (settle a b).izent.healthEvents =
    bitsOf [bit (settled a b).izent.healthEvents 0 || a.izent.devState != (settled a b).izent.devState, bit (settled a b).izent.healthEvents 1 || a.flagBits != (settled a b).flagBits,
      bit (settled a b).izent.healthEvents 2 || (a.safeCauses != 0) != (b.safeCauses != 0)] := by
  rw [settle_eq, setHealth_healthEvents, settleCount_izent, drive_izent]

theorem bitsOf_three_lt (x y z : Bool) : bitsOf [x, y, z] < 8 := by
  cases x <;> cases y <;> cases z <;> decide

theorem settle_healthEvents_lt (a b : State) : (settle a b).izent.healthEvents < 8 := settle_healthEvents a b ▸ bitsOf_three_lt _ _ _

/-! The flags of a state depend on its units alone. -/

theorem State.flagBits_of_units {a b : State} (hcomp : b.comp = a.comp) (hunset : b.time.unset = a.time.unset) (hhealth : b.health = a.health) (hpower : b.power = a.power) (hlanes : b.lanes = a.lanes)
    (henc : b.enc = a.enc) (htouch : b.touch = a.touch) (hdram : b.dram = a.dram) (hplan : b.upd.planState = a.upd.planState) : b.flagBits = a.flagBits := by
  simp only [State.flagBits, State.anyAtLimit, hcomp, hunset, hhealth, hpower, hlanes, henc, htouch, hdram, hplan]

theorem tick_flagBits (s : State) (t : Time) : (s.tick t).flagBits = s.flagBits := State.flagBits_of_units rfl rfl rfl rfl rfl rfl rfl rfl rfl

theorem settle_flagBits (a b : State) : (settle a b).flagBits = (settled a b).flagBits := by
  have h := settled_same a b
  exact State.flagBits_of_units (by rw [settle_comp, h.comp]) (by rw [settle_time, h.time]) (by rw [settle_health, h.health]) (by rw [settle_power, h.power]) (by rw [settle_lanes, h.lanes])
    (by rw [settle_enc, h.enc]) (by rw [settle_touch, h.touch]) (by rw [settle_dram, h.dram]) (by rw [settle_planState, h.upd])

theorem settle_safeCauses (a b : State) : (settle a b).safeCauses = b.safeCauses := State.safeCauses_of_same (settle_comp a b) (settle_devState a b)

/-- Settles O3: every row settles an effect on the state at its instant, and time alone changes none of the three. -/
theorem healthEventsFollow : Obligations.HealthEventsFollow := by
  unfold Obligations.HealthEventsFollow
  intro i s u hexec
  obtain ⟨t, b, rfl⟩ := exec_settles hexec
  rw [settle_healthEvents, settle_devState, settle_flagBits]
  refine ⟨fun hstate => ?_, fun hflags => ?_, fun hsafe => ?_⟩
  · rw [← (settled_same (s.tick t) b).devState] at hstate
    rw [bit_bitsOf_zero, State.tick_izent, bne_iff_ne.mpr hstate.symm, Bool.or_true]
  · rw [bit_bitsOf_succ, bit_bitsOf_zero, tick_flagBits, bne_iff_ne.mpr hflags.symm, Bool.or_true]
  · have htick : (s.tick t).safeCauses = s.safeCauses := State.safeCauses_of_same rfl rfl
    rw [State.safeFault, State.safeFault, settle_safeCauses] at hsafe
    rw [bit_bitsOf_succ, bit_bitsOf_succ, bit_bitsOf_zero, htick, bne_iff_ne.mpr hsafe.symm, Bool.or_true]

/-! The queue (log 1). -/

/-- Settles O1: both clauses are the definition of a step, read off the queue. -/
theorem stepRunsFront : Obligations.StepRunsFront := by
  unfold Obligations.StepRunsFront
  refine ⟨fun c rest s hqueue => ?_, fun s hempty => ?_⟩
  · rw [step, hqueue]
  · rw [step, hempty]

/-- Settles O4: an empty queue keeps the register, and a row settles its effect, which writes three bits. -/
theorem healthEventsReserved : Obligations.HealthEventsReserved := by
  unfold Obligations.HealthEventsReserved
  intro s u hs hstep
  match hqueue : s.pending with
  | [] =>
    rw [stepRunsFront.2 s hqueue] at hstep
    cases hstep
    exact hs
  | c :: rest =>
    rw [stepRunsFront.1 c rest s hqueue] at hstep
    obtain ⟨t, b, rfl⟩ := exec_settles hstep
    exact settle_healthEvents_lt _ b

end Sys2Proof.Machine
end

section
/-! PROOFS of the claims on reads (spec/12_commands.md R344, R354, R356, R357; spec/14_lanes.md R417; spec/16_protection.md R438; spec/18_resilience.md R499): each read's own part answers the records it names and changes no unit. -/

namespace Sys2Proof.Machine

/-! LIST and PAIRS reads (R344). -/

/-- SEL names a unit of the list, and at least one unit is asked for. -/
theorem selected_ok {p : Bytes} {units : List Nat} (size head : Nat) (hunit : ∃ x ∈ units, rd p 0 2 ≤ x) (hcount : rd p 2 2 ≠ 0) : ∃ l next, selected p units size head = .ok (l, next) := by
  have hany : (units.any fun x => decide (rd p 0 2 ≤ x)) = true := by simpa using hunit
  unfold selected
  simp only [hany, Bool.not_true, Bool.false_eq_true, if_false, if_neg hcount]
  exact ⟨_, _, rfl⟩

theorem listForm_selected {p : Bytes} {units : List Nat} {size head next : Nat} {l : List Nat} (h : selected p units size head = .ok (l, next)) (f : Nat → Bytes) :
    listForm p units size head f = .ok (le 2 l.length ++ le 2 size ++ le 2 next ++ [0, 0] ++ l.flatMap fun i => fit size (f i)) := by
  rw [listForm, h]

section
variable {k : CmdKind} {c : Call} {a : State} {r : ListRead} {l units : List Nat} {next n size : Nat} {f : Nat → Bytes}

/-- The own part of a LIST read, given that the claim's list is its list. -/
theorem bodyOf_list (hbody : bodyOf k c a = listRes (a.useFrees n) c units size f) (hlist : listRead a k = some { units, size, record := f }) (hr : listRead a k = some r)
    (hsel : selected c.p r.units r.size r.before.length = .ok (l, next)) : bodyOf k c a = .ok (a.useFrees n) (r.payload l next) := by
  obtain rfl := Option.some.inj (hlist.symm.trans hr)
  have hselected : selected c.p units size 0 = .ok (l, next) := hsel
  rw [hbody, listRes, listForm_selected hselected]
  rfl

/-- The own part of a PAIRS read, whose list follows `before`. -/
theorem bodyOf_pairs {kind head : Nat} {before : Bytes} (hbody : bodyOf k c a = pairsRes (a.useFrees n) c kind units size head before f) (hhead : before.length = head)
    (hlist : listRead a k = some { units, size := 16 + size, before, record := fun u => a.pairBytes kind u ++ fit size (f u) }) (hr : listRead a k = some r) (hsel : selected c.p r.units r.size r.before.length = .ok (l, next)) :
    bodyOf k c a = .ok (a.useFrees n) (r.payload l next) := by
  obtain rfl := Option.some.inj (hlist.symm.trans hr)
  subst hhead
  have hselected : selected c.p units (16 + size) before.length = .ok (l, next) := hsel
  rw [hbody, pairsRes, listForm_selected hselected]
  rfl

/-- A LIST or PAIRS read answers the selected records, and takes free values at most. -/
theorem bodyOf_listRead (hr : listRead a k = some r) (hsel : selected c.p r.units r.size r.before.length = .ok (l, next)) : ∃ n, bodyOf k c a = .ok (a.useFrees n) (r.payload l next) := by
  cases k
  case streamStatus | decodeStatus | sourceStatus | lanternStatus | headStatus | encodeStatus | domainStatus | timeStatus => exact ⟨0, bodyOf_pairs rfl rfl rfl hr hsel⟩
  case windowStatus => exact ⟨1024, bodyOf_pairs (n := 1024) (kind := kWin) (units := List.range 1024) (size := 32) (head := 0) (before := []) (f := a.windowStatus) rfl rfl rfl hr hsel⟩
  case headTimingGet | portAddressGet | laneRead | sessionList => exact ⟨0, bodyOf_list rfl rfl hr hsel⟩
  case touchRead => exact ⟨64, bodyOf_list rfl rfl hr hsel⟩
  all_goals exact nomatch hr

end

theorem useFrees_block (a : State) (n : Nat) : State.SameBlock a (a.useFrees n) := by constructor <;> rfl

/-- Settles O7: SEL names units, so that the own part of the read answers their records. -/
theorem listReadsAnswer : Obligations.ListReadsAnswer := by
  unfold Obligations.ListReadsAnswer
  intro k r t mb m role s haccepted hread hunit hcount
  obtain ⟨l, next, hsel⟩ := selected_ok r.size r.before.length hunit hcount
  obtain ⟨n, hbody⟩ := bodyOf_listRead (c := (s.tick t).callAt k mb m role) hread hsel
  obtain ⟨u, hexec, hrsp, hblock⟩ := accepted_block haccepted hbody rfl
  exact ⟨u, (cmdInstr_exec ..).trans hexec, (useFrees_block _ n).trans hblock, l, next, hsel, hrsp⟩

/-! Reads of one record. -/

/-- A read whose own part answers its record without a condition. -/
theorem reads {k : CmdKind} {payload : Call → State → Bytes} (h : ∀ c a, bodyOf k c a = .ok a (payload c a)) : Reads k payload := answers (fun c a _ => h c a) fun _ _ _ _ => rfl

theorem bodyDoorRulesGet_ok {c : Call} {a : State} (h : doorExists (rd c.p 0 1) = true) :
    bodyDoorRulesGet c a = .ok a (le 1 (rd c.p 0 1) ++ le 1 (a.rulesOf (rd c.p 0 1)).length ++ zeros 2 ++ (a.rulesOf (rd c.p 0 1)).flatMap regionBytes ++ le 4 a.prot.epoch) := by
  simp [bodyDoorRulesGet, h]

/-- Settles O8: each own part is the answer of its record; HEALTH_READ measures first, and DOOR_RULES_GET needs a door. -/
theorem recordReadsAnswer : Obligations.RecordReadsAnswer := by
  unfold Obligations.RecordReadsAnswer
  refine ⟨reads fun _ _ => rfl, reads fun _ _ => rfl, reads fun _ _ => rfl, reads fun _ _ => rfl, reads fun _ _ => rfl, reads fun _ _ => rfl, reads fun _ _ => rfl, reads fun _ _ => rfl, reads fun _ _ => rfl,
    reads fun _ _ => rfl, reads fun _ _ => rfl, ?health, ?rules⟩
  case health => exact answers (fun _ _ _ => rfl) fun _ _ _ _ => rfl
  case rules => exact answers (fun _ _ h => bodyDoorRulesGet_ok h) fun _ _ _ _ => rfl

/-- Settles O9: the selection is the statement's premise, and the own part reads the copy that SEL names of each window. -/
theorem windowGetAnswers : Obligations.WindowGetAnswers := by
  unfold Obligations.WindowGetAnswers
  intro l next
  refine answers ?body ?conn
  case body =>
    intro c a h
    show bodyWindowGet c a = _
    unfold bodyWindowGet
    generalize rd c.p 0 1 = copy
    match copy with
    | 0 | 1 | _ + 2 =>
      dsimp only
      rw [listForm_selected h]
      rfl
  case conn => exact fun _ _ _ _ => rfl

end Sys2Proof.Machine
end

section
/-! PROOFS of the claims on touch keys, and on the port and touch settings (spec/12_commands.md R360–R363; spec/14_lanes.md R415–R419; spec/15_touch.md R422–R433): what each does to the electrode that it names, and that no other electrode and no connection changes. -/

namespace Sys2Proof.Machine

/-! Electrodes and groups of a state. -/

theorem State.el_of_touch {a b : State} (h : b.touch = a.touch) (k : Nat) : b.el k = a.el k := by simp only [State.el, h]

theorem State.grp_of_touch {a b : State} (h : b.touch = a.touch) (g : Nat) : b.grp g = a.grp g := by simp only [State.grp, h]

theorem State.el_setEl_other (s : State) {k j : Nat} (x : Electrode) (h : j ≠ k) : (s.setEl k x).el j = s.el j := Map.get_set_other _ _ _ h

@[simp] theorem State.grp_setEl (s : State) (k g : Nat) (x : Electrode) : (s.setEl k x).grp g = s.grp g := rfl

@[simp] theorem State.el_setGrp (s : State) (g k : Nat) (x : KeyGroup) : (s.setGrp g x).el k = s.el k := rfl

@[simp] theorem State.tick_el (s : State) (t : Time) (k : Nat) : (s.tick t).el k = s.el k := rfl

@[simp] theorem State.tick_grp (s : State) (t : Time) (g : Nat) : (s.tick t).grp g = s.grp g := rfl

theorem State.setEl_setEl (s : State) (k : Nat) (x y : Electrode) : (s.setEl k x).setEl k y = s.setEl k y := by
  simp only [State.setEl, Map.set_set]

/-- Settling a step leaves the touch keys as its effect left them. -/
theorem completes_touch {i : Instr} {t : Time} {s v : State} {P : State → Prop} (hi : exec i s = .next (settle (s.tick t) v)) (h : ∀ u : State, u.touch = v.touch → P u) : Completes i s P :=
  ⟨_, hi, h _ (settle_touch _ _)⟩

/-- What leaves the units alone leaves the connections alone. -/
theorem State.SameUnits.conns {a b : State} (h : State.SameUnits a b) : State.SameConns a b := ⟨h.heard⟩

/-! Releases (R363, R424, R426, R431, R432). -/

/-- The record of electrode `k` once its key is released to the state `st`. -/
def Electrode.letGo (e : Electrode) (st : KeyState) : Electrode := { e with state := st, run := 0, quietSince := none, negSince := none, maxOnDue := false }

theorem State.releaseKey_same (s : State) (k flags : Nat) (st : KeyState) :
    State.SameUnits ((s.setEl k ((s.el k).letGo st)).setGrp (s.el k).cfg.group { s.grp (s.el k).cfg.group with key := none, candidate := none }) (s.releaseKey k flags st) :=
  .ite (State.record_same _ _ _) (.refl _)

theorem State.releaseKey_sameConns (s : State) (k flags : Nat) (st : KeyState) : State.SameConns s (s.releaseKey k flags st) := .trans .of_izent (s.releaseKey_same k flags st).conns

theorem State.releaseKey_el (s : State) (k flags : Nat) (st : KeyState) : (s.releaseKey k flags st).el k = (s.el k).letGo st := by
  rw [State.el_of_touch (s.releaseKey_same k flags st).touch, State.el_setGrp, State.el_setEl]

theorem State.releaseKey_el_other (s : State) {k j : Nat} (flags : Nat) (st : KeyState) (h : j ≠ k) : (s.releaseKey k flags st).el j = s.el j := by
  rw [State.el_of_touch (s.releaseKey_same k flags st).touch, State.el_setGrp, s.el_setEl_other _ h]

theorem State.clearProximity_sameConns (s : State) (k : Nat) : State.SameConns s (s.clearProximity k) :=
  .ite (.trans .of_izent (State.recordLimited_same _ _ _ _).conns) (.refl s)

theorem State.clearProximity_el (s : State) (k : Nat) : (s.clearProximity k).el k = { s.el k with proximity := false } := by
  unfold State.clearProximity
  split
  · rw [State.el_of_touch (State.recordLimited_touch _ _ _ _), State.el_setEl]
  · next h => rw [← Bool.eq_false_iff.mpr h]

theorem State.clearProximity_el_other (s : State) {k j : Nat} (h : j ≠ k) : (s.clearProximity k).el j = s.el j := by
  unfold State.clearProximity
  split
  · rw [State.el_of_touch (State.recordLimited_touch _ _ _ _), s.el_setEl_other _ h]
  · rfl

theorem State.reconfigured_sameConns (s : State) (k : Nat) : State.SameConns s (s.reconfigured k) := by
  unfold State.reconfigured
  extract_lets r e freed
  have hfreed : State.SameConns r freed := .ite (r.releaseKey_sameConns k 2 .released) (.refl r)
  exact (s.clearProximity_sameConns k).trans (.ite .of_izent (hfreed.trans .of_izent))

theorem State.applyKey_sameConns (s : State) (c : KeyCfg) : State.SameConns s (s.applyKey c) := by
  unfold State.applyKey
  extract_lets k r e freed
  have hfreed : State.SameConns r freed := .ite (.record .of_izent _ _) (.refl r)
  exact ((s.reconfigured_sameConns k).trans hfreed).trans .of_izent

/-! The settings' own parts. -/

theorem State.applyPrbs_sameConns (s : State) (k pattern mode inject : Nat) : State.SameConns s (s.applyPrbs k pattern mode inject) := by
  unfold State.applyPrbs
  exact .trans .of_izent (State.laneRefresh_sameConns _ k)

section
variable {c : Call} {a : State}

theorem bodyLanePrbsSet_ok (hrate : (a.lane (rd c.p 0 1)).cfg.rate ≠ 0) (hfree : a.portUsed (rd c.p 0 1) = false) :
    bodyLanePrbsSet c a = .ok (a.applyPrbs (rd c.p 0 1) (rd c.p 1 1) (rd c.p 2 1) (rd c.p 3 1)) [] := by
  simp [bodyLanePrbsSet, hrate, hfree]

theorem bodyTouchKeySet_ok (h : keysBad keyX 4 [] (keyEntries c.p) = none) : bodyTouchKeySet c a = .ok ((keyEntries c.p).foldl (fun s b => s.applyKey (keyOf b)) a) [] := by
  rw [bodyTouchKeySet, h]

theorem bodyLocalActionSet_ok (h : keysBad actionX 4 [] (keyEntries c.p) = none) :
    bodyLocalActionSet c a = .ok { a with touch := { a.touch with actions := (keyEntries c.p).foldl (fun m b => Map.set m (rd b 0 1) (actionOf b)) a.touch.actions } } [] := by
  rw [bodyLocalActionSet, h]

theorem bodyLaneModuleRead_ok {bytes : Bytes} (hpages : moduleReadBad c.p = none) (hpresent : (a.lane (rd c.p 0 1)).present = true) (hread : c.msg.module = some bytes) :
    bodyLaneModuleRead c a = .ok a (fit (rd c.p 3 1) bytes) := by
  rw [bodyLaneModuleRead, hpages, if_pos hpresent, hread]

end

/-- Settles O12: each own part answers where its fields pass, and what it applies keeps every connection. -/
theorem portAndTouchSettingsAnswer : Obligations.PortAndTouchSettingsAnswer := by
  unfold Obligations.PortAndTouchSettingsAnswer
  refine ⟨?address, ?prbs, ?keys, ?mode, ?actions, ?rebaseline, fun bytes => ?module⟩
  case address => exact answers (fun _ _ _ => rfl) fun _ _ _ _ => rfl
  case prbs => exact answers (fun c a ⟨hrate, hfree⟩ => bodyLanePrbsSet_ok hrate hfree) fun c a n _ => (a.applyPrbs_sameConns _ _ _ _).heard n
  case keys => exact answers (fun c a h => bodyTouchKeySet_ok h) fun c a n _ => fold_heard (fun s b => (s.applyKey_sameConns (keyOf b)).heard n) _ a
  case mode => exact answers (fun _ _ _ => rfl) fun _ _ _ _ => rfl
  case actions => exact answers (fun c a h => bodyLocalActionSet_ok h) fun _ _ _ _ => rfl
  case rebaseline => exact answers (fun _ _ _ => rfl) fun c a n _ => fold_heard (f := fun s k => s.setEl k { s.el k with rebase := true }) (fun _ _ => rfl) _ a
  case module => exact answers (fun c a ⟨hpages, hpresent, hread⟩ => bodyLaneModuleRead_ok hpages hpresent hread) fun _ _ _ _ => rfl

/-! The first 16 scan frames (R422). -/

/-- An electrode after one of the first 16 scan frames, of which `n` have ended before. -/
def Electrode.started (e : Electrode) (n cm : Nat) : Electrode :=
  { e with cm := cm, sum := e.sum + cm, baseline := if e.used && n = 15 then (e.sum + cm) / 16 else e.baseline }

theorem State.scanElectrode_starting {s : State} {k : Nat} (cm : Nat) (hframes : s.touch.frames < 16) (hrebase : (s.el k).rebase = false) :
    s.scanElectrode k cm = s.setEl k ((s.el k).started s.touch.frames cm) := by
  unfold State.scanElectrode
  extract_lets _ measured kept e sum
  have hkept : kept = measured := if_neg (by rw [State.el_setEl, hrebase]; exact Bool.false_ne_true)
  have he : e = { s.el k with cm := cm } := by rw [show e = measured.el k from congrArg (fun v => State.el v k) hkept, State.el_setEl]
  have hsum : sum = (s.el k).sum + cm := by rw [show sum = e.sum + cm from rfl, he]
  rw [if_pos (by rw [hkept]; exact hframes), hkept, he, hsum]
  exact s.setEl_setEl k _ _

/-- The electrodes of `l` have ended their part of such a frame, and the rest of `a` stands. -/
structure State.Starting (cm : List Nat) (l : List Nat) (a v : State) : Prop where
  ended : ∀ k ∈ l, v.el k = (a.el k).started a.touch.frames (cm.getD k 0)
  others : ∀ k, k ∉ l → v.el k = a.el k
  groups : v.touch.grp = a.touch.grp
  frames : v.touch.frames = a.touch.frames
  time : v.time = a.time

theorem State.Starting.step {cm l : List Nat} {a v : State} (h : State.Starting cm l a v) {k : Nat} (hk : k ∉ l) (hframes : a.touch.frames < 16) (hrebase : (a.el k).rebase = false) :
    State.Starting cm (l ++ [k]) a (v.scanElectrode k (cm.getD k 0)) := by
  have hel := h.others k hk
  rw [State.scanElectrode_starting _ (h.frames ▸ hframes) (hel ▸ hrebase), hel, h.frames]
  refine ⟨fun j hj => ?_, fun j hj => ?_, h.groups, h.frames, h.time⟩
  · by_cases hjk : j = k
    · rw [hjk, State.el_setEl]
    · rw [v.el_setEl_other _ hjk]
      exact h.ended j ((List.mem_append.mp hj).resolve_right fun hj => hjk (List.mem_singleton.mp hj))
  · obtain ⟨hjl, hjk⟩ := not_or.mp (fun hj' => hj (List.mem_append.mpr hj'))
    rw [v.el_setEl_other _ fun hjk' => hjk (List.mem_singleton.mpr hjk')]
    exact h.others j hjl

/-- Induction on a list from its last element, as a fold consumes it. -/
theorem snoc_induction {α : Type} {motive : List α → Prop} (nil : motive []) (append_singleton : ∀ l x, motive l → motive (l ++ [x])) (l : List α) : motive l := by
  have hreverse (r : List α) : motive r.reverse := by
    induction r with
    | nil => exact nil
    | cons x r ih =>
      rw [List.reverse_cons]
      exact append_singleton _ x ih
  rw [← List.reverse_reverse l]
  exact hreverse _

/-- All electrodes of a list without repeats. -/
theorem State.Starting.all {cm : List Nat} {a : State} (hframes : a.touch.frames < 16) {l : List Nat} (hl : l.Nodup) (hrebase : ∀ k ∈ l, (a.el k).rebase = false) :
    State.Starting cm l a (l.foldl (fun s k => s.scanElectrode k (cm.getD k 0)) a) := by
  induction l using snoc_induction with
  | nil => exact ⟨fun _ h => absurd h List.not_mem_nil, fun _ _ => rfl, rfl, rfl, rfl⟩
  | append_singleton l k ih =>
    rw [List.foldl_append]
    have hnew : k ∉ l := fun hk => (List.nodup_append.mp hl).2.2 k hk k (List.mem_singleton_self k) rfl
    exact (ih (List.nodup_append.mp hl).1 fun j hj => hrebase j (List.mem_append_left _ hj)).step hnew hframes (hrebase k (List.mem_append_right _ (List.mem_singleton_self k)))

/-- A group without a new mode (R424). -/
theorem State.applyMode_none {s : State} {g : Nat} (h : (s.grp g).nextMode = none) : s.applyMode g = s := by rw [State.applyMode, h]

theorem touchScanFrame_starts {t : Time} {cm : List Nat} {s : State} (hon : (s.tick t).domOn 3 = true) (hgood : (s.image 6).good = true) (hactive : (s.tick t).activating 6 = false)
    (hruns : s.prot.halted.contains 28 = false) (hdue : (s.tick t).scanDue = true) (hmodes : ∀ g < 16, (s.grp g).nextMode = none) (hrebase : ∀ k < 64, (s.el k).rebase = false) (hframes : s.touch.frames < 16) :
    Completes (.touchScanFrame t cm) s fun u => u.touch.frames = s.touch.frames + 1 ∧ u.touch.scannedAt = (s.tick t).clk ∧
      ∀ k < 64, (u.el k).cm = cm.getD k 0 ∧ (u.el k).state = (s.el k).state ∧ (u.el k).sum = (s.el k).sum + cm.getD k 0 ∧
        (u.el k).baseline = (if (s.el k).used = true ∧ s.touch.frames = 15 then ((s.el k).sum + cm.getD k 0) / 16 else (s.el k).baseline) := by
  have hscan : State.Starting cm (List.range 64) (s.tick t) _ := .all (a := s.tick t) hframes List.nodup_range fun k hk => hrebase k (List.mem_range.mp hk)
  generalize hv : (List.range 64).foldl (fun s k => s.scanElectrode k (cm.getD k 0)) (s.tick t) = v at hscan
  have happlied : (List.range 16).foldl (fun s g => s.applyMode g) v = v := by
    refine foldl_keeps (P := fun w => w = v) (fun w hw g hg => ?_) rfl
    have hgrp : w.grp g = s.grp g := by rw [hw]; exact congrArg (fun m => Map.get {} m g) hscan.groups
    rw [State.applyMode_none (hgrp ▸ hmodes g (List.mem_range.mp hg)), hw]
  have hexec : exec (.touchScanFrame t cm) s = .next (settle (s.tick t) { v with touch := { v.touch with frames := min 16 (v.touch.frames + 1), scannedAt := v.clk } }) := by
    show execTouchScanFrame t cm s = _
    have hready : (!(s.tick t).domOn 3 || !((s.tick t).image 6).good || (s.tick t).activating 6 || (s.tick t).prot.halted.contains 28 || !(s.tick t).scanDue) = false := by
      rw [show ((s.tick t).image 6).good = true from hgood, hon, hactive, State.tick_prot, hruns, hdue]
      rfl
    have hearly : ¬ (s.tick t).touch.frames ≥ 16 := Nat.not_le.mpr hframes
    rw [execTouchScanFrame, run_next]
    simp only [hready, hearly, Bool.false_eq_true, if_false, hv, happlied]
  refine completes_touch hexec fun u hu => ⟨?_, ?_, fun k hk => ?_⟩
  · rw [hu]
    show min 16 (v.touch.frames + 1) = _
    rw [hscan.frames]
    exact Nat.min_eq_right hframes
  · rw [hu]
    exact congrArg TimeState.clk hscan.time
  · have hel : u.el k = (s.el k).started s.touch.frames (cm.getD k 0) := by
      rw [State.el, hu]
      exact hscan.ended k (List.mem_range.mpr hk)
    simp [hel, Electrode.started]

/-! The timers of keys and electrodes (R429, R431, R432). -/

section
variable {t : Time} {k : Nat} {s : State} (hk : k < 64)
include hk

theorem exec_keyMaxOnExpiry (htouched : (s.el k).state = .touched) (hdue : (s.el k).touchedAt + (s.el k).maxOn * 1000000000 ≤ (s.tick t).clk) :
    exec (.keyMaxOnExpiry t k) s = .next (settle (s.tick t) (if (s.el k).run = 0 then (s.tick t).stuckKey k else (s.tick t).setEl k { s.el k with maxOnDue := true })) := by
  show execKeyMaxOnExpiry t k s = _
  have hexpired : (decide ((s.el k).state = .touched) && decide ((s.el k).touchedAt + (s.el k).maxOn * sec ≤ (s.tick t).clk)) = true := by
    rw [Bool.and_eq_true, decide_eq_true_eq, decide_eq_true_eq]
    exact ⟨htouched, hdue⟩
  rw [execKeyMaxOnExpiry, runIf_next (decide_eq_true hk)]
  dsimp only [State.tick_el]
  rw [if_pos hexpired]

theorem keyMaxOnExpiry_waits (htouched : (s.el k).state = .touched) (hdue : (s.el k).touchedAt + (s.el k).maxOn * 1000000000 ≤ (s.tick t).clk) (hrun : (s.el k).run ≠ 0) :
    Leaves (.keyMaxOnExpiry t k) s ((s.tick t).setEl k { s.el k with maxOnDue := true }) := by
  have hexec := exec_keyMaxOnExpiry hk htouched hdue
  rw [if_neg hrun] at hexec
  exact leaves_settled hexec (.refl _)

theorem keyMaxOnExpiry_masks (htouched : (s.el k).state = .touched) (hdue : (s.el k).touchedAt + (s.el k).maxOn * 1000000000 ≤ (s.tick t).clk) (hrun : (s.el k).run = 0) :
    Completes (.keyMaxOnExpiry t k) s fun u => (u.el k).state = .masked ∧ (u.grp (s.el k).cfg.group).key = none ∧ ∀ j, j ≠ k → u.el j = s.el j := by
  have hexec := exec_keyMaxOnExpiry hk htouched hdue
  rw [if_pos hrun] at hexec
  refine completes_touch hexec fun u hu => ?_
  have hreleased : u.touch = ((s.tick t).releaseKey k 1 .masked).touch := hu.trans (State.record_touch _ _ _)
  refine ⟨?_, ?_, fun j hj => ?_⟩
  · rw [State.el_of_touch hreleased, State.releaseKey_el]
    rfl
  · rw [State.grp_of_touch (hreleased.trans ((s.tick t).releaseKey_same k 1 .masked).touch), State.tick_el, State.grp_setGrp]
  · rw [State.el_of_touch hreleased, State.releaseKey_el_other _ _ _ hj, State.tick_el]

theorem keyUnmaskTimer_releases {t0 : Time} (hmasked : (s.el k).state = .masked) (hquiet : (s.el k).quietSince = some t0) (hdue : t0 + 200000000 ≤ (s.tick t).clk) :
    Leaves (.keyUnmaskTimer t k) s ((s.tick t).setEl k { s.el k with state := .released, baseline := (s.el k).cm, quietSince := none }) := by
  have hexec : exec (.keyUnmaskTimer t k) s = .next (settle (s.tick t)
      ((((s.tick t).setEl k { s.el k with state := .released, baseline := (s.el k).cm, quietSince := none }).record evKeyUnmasked [p2 k]).record evTouchRebaselined [p2 k, p1 2])) := by
    show execKeyUnmaskTimer t k s = _
    rw [execKeyUnmaskTimer, runIf_next (decide_eq_true hk)]
    simp only [State.tick_el, hmasked, hquiet]
    rw [if_pos (show t0 + 200 * ms ≤ (s.tick t).clk from hdue)]
  exact leaves_settled hexec ((State.record_same _ _ _).trans (State.record_same _ _ _)).block

theorem negativeDeltaTimer_rebaselines {t0 : Time} (hreleased : (s.el k).state = .released) (hneg : (s.el k).negSince = some t0) (hdue : t0 + 200000000 ≤ (s.tick t).clk) :
    Leaves (.negativeDeltaTimer t k) s ((s.tick t).setEl k { s.el k with baseline := (s.el k).cm, negSince := none }) := by
  have hexec : exec (.negativeDeltaTimer t k) s = .next (settle (s.tick t) (((s.tick t).setEl k { s.el k with baseline := (s.el k).cm, negSince := none }).record evTouchRebaselined [p2 k, p1 0])) := by
    show execNegativeDeltaTimer t k s = _
    rw [execNegativeDeltaTimer, runIf_next (decide_eq_true hk)]
    simp only [State.tick_el, hreleased, hneg]
    rw [if_pos (show t0 + 200 * ms ≤ (s.tick t).clk from hdue)]
  exact leaves_settled hexec (State.record_same _ _ _).block

/-- The state of an electrode's key, released if it was touched, and PROXIMITY cleared (R431). -/
def State.inactive (s : State) (k : Nat) : State := (if (s.el k).state = .touched then s.releaseKey k 0 .released else s).clearProximity k

omit hk in
theorem State.inactive_el_other {j : Nat} (s : State) (h : j ≠ k) : (s.inactive k).el j = s.el j := by
  rw [State.inactive, State.clearProximity_el_other _ h]
  split
  · exact s.releaseKey_el_other _ _ h
  · rfl

theorem exec_electrodeFaultTimer {t0 : Time} (hrange : (s.el k).rangeSince = some t0) (hdue : t0 + 1000000000 ≤ (s.tick t).clk) :
    exec (.electrodeFaultTimer t k) s = .next (settle (s.tick t)
      (if (s.el k).fault then ((s.tick t).setEl k { s.el k with fault := false, baseline := (s.el k).cm, rangeSince := none }).record evTouchElectrodeFault [p2 k, p1 1]
       else (((s.tick t).inactive k).setEl k { ((s.tick t).inactive k).el k with fault := true, state := .released, rangeSince := none }).record evTouchElectrodeFault [p2 k, p1 0])) := by
  show execElectrodeFaultTimer t k s = _
  rw [execElectrodeFaultTimer, runIf_next (decide_eq_true hk)]
  simp only [State.tick_el, hrange]
  rw [if_neg (Nat.not_lt.mpr (show t0 + 1000 * ms ≤ (s.tick t).clk from hdue))]
  rfl

theorem electrodeFaultTimer_recovers {t0 : Time} (hrange : (s.el k).rangeSince = some t0) (hdue : t0 + 1000000000 ≤ (s.tick t).clk) (hfault : (s.el k).fault = true) :
    Leaves (.electrodeFaultTimer t k) s ((s.tick t).setEl k { s.el k with fault := false, baseline := (s.el k).cm, rangeSince := none }) := by
  have hexec := exec_electrodeFaultTimer hk hrange hdue
  rw [if_pos hfault] at hexec
  exact leaves_settled hexec (State.record_same _ _ _).block

theorem electrodeFaultTimer_fails {t0 : Time} (hrange : (s.el k).rangeSince = some t0) (hdue : t0 + 1000000000 ≤ (s.tick t).clk) (hfault : (s.el k).fault = false) :
    Completes (.electrodeFaultTimer t k) s fun u => (u.el k).fault = true ∧ (u.el k).state = .released ∧ (u.el k).proximity = false ∧ ∀ j, j ≠ k → u.el j = s.el j := by
  have hexec := exec_electrodeFaultTimer hk hrange hdue
  rw [if_neg (Bool.eq_false_iff.mp hfault)] at hexec
  refine completes_touch hexec fun u hu => ?_
  rw [State.record_touch] at hu
  have hel := (State.el_of_touch hu k).trans (State.el_setEl _ k _)
  refine ⟨by rw [hel], by rw [hel], ?_, fun j hj => ?_⟩
  · rw [hel]
    show (((s.tick t).inactive k).el k).proximity = false
    rw [State.inactive, State.clearProximity_el]
  · rw [State.el_of_touch hu, State.el_setEl_other _ _ hj, State.inactive_el_other _ hj, State.tick_el]

end

/-- Settles O30: one of the first 16 scan frames, then the timers of a key and of an electrode. -/
theorem touchEventsComplete : Obligations.TouchEventsComplete := by
  unfold Obligations.TouchEventsComplete
  refine ⟨fun t cm s hon hgood hactive hruns hdue hmodes hrebase hframes => touchScanFrame_starts hon hgood hactive hruns hdue hmodes hrebase hframes, fun t k s hk => ?_⟩
  exact ⟨keyMaxOnExpiry_waits hk, keyMaxOnExpiry_masks hk, fun t0 => keyUnmaskTimer_releases hk, fun t0 => negativeDeltaTimer_rebaselines hk, fun t0 => electrodeFaultTimer_recovers hk,
    fun t0 => electrodeFaultTimer_fails hk⟩

end Sys2Proof.Machine
end

section
/-! PROOFS of the claim on the voltage loops and the power cap (spec/18_resilience.md R484, R485, R487): what a sample does to the loop of one domain, and that it samples every domain that is on. -/

namespace Sys2Proof.Machine

/-! What parts of a step leave of the power system and of what NAND, DRAM and time hold. -/

/-- `b` is `a` but for its domains, and for the units of composition, streams, encoding, lanes, touch keys, mailboxes and the recorder. -/
structure State.SameButDomains (a b : State) : Prop where
  time : b.time = a.time
  prot : b.prot = a.prot
  health : b.health = a.health
  upd : b.upd = a.upd
  dram : b.dram = a.dram
  pending : b.pending = a.pending
  devState : b.izent.devState = a.izent.devState
  sessions : b.izent.sessions = a.izent.sessions
  rest : b.power = { a.power with domains := b.power.domains }

/-- The domains stay too. -/
structure State.SameCore (a b : State) : Prop extends State.SameButDomains a b where
  dom : ∀ j, b.dom j = a.dom j

theorem State.dom_of_power {a b : State} (h : b.power = a.power) (d : Nat) : b.dom d = a.dom d := by simp only [State.dom, h]

theorem State.dom_setDom_other (s : State) {d j : Nat} (x : Domain) (h : j ≠ d) : (s.setDom d x).dom j = s.dom j := Map.get_set_other _ _ _ h

@[simp] theorem State.tick_dom (s : State) (t : Time) (d : Nat) : (s.tick t).dom d = s.dom d := rfl

namespace State.SameButDomains
variable {a b c : State}

theorem trans (h : State.SameButDomains a b) (k : State.SameButDomains b c) : State.SameButDomains a c where
  time := k.time.trans h.time
  prot := k.prot.trans h.prot
  health := k.health.trans h.health
  upd := k.upd.trans h.upd
  dram := k.dram.trans h.dram
  pending := k.pending.trans h.pending
  devState := k.devState.trans h.devState
  sessions := k.sessions.trans h.sessions
  rest := k.rest.trans (by rw [h.rest])

theorem refl (a : State) : State.SameButDomains a a := by constructor <;> rfl

theorem clk (h : State.SameButDomains a b) : b.clk = a.clk := by rw [State.clk, h.time]; rfl

theorem pfAt (h : State.SameButDomains a b) : b.power.pfAt = a.power.pfAt := by rw [h.rest]

theorem setDom (s : State) (d : Nat) (x : Domain) : State.SameButDomains s (s.setDom d x) := by constructor <;> rfl

theorem fold {α : Type} {f : State → α → State} (h : ∀ s x, State.SameButDomains s (f s x)) (l : List α) (s : State) : State.SameButDomains s (l.foldl f s) :=
  foldl_keeps (P := State.SameButDomains s) (fun b hb x _ => hb.trans (h b x)) (.refl s)

end State.SameButDomains

namespace State.SameCore
variable {a b c : State}

theorem refl (a : State) : State.SameCore a a := ⟨.refl a, fun _ => rfl⟩

theorem trans (h : State.SameCore a b) (k : State.SameCore b c) : State.SameCore a c := ⟨h.toSameButDomains.trans k.toSameButDomains, fun j => (k.dom j).trans (h.dom j)⟩

theorem ite {s : State} {p : Prop} [Decidable p] (h : State.SameCore s a) (k : State.SameCore s b) : State.SameCore s (if p then a else b) := by
  split
  · exact h
  · exact k

theorem fold {α : Type} {f : State → α → State} (h : ∀ s x, State.SameCore s (f s x)) (l : List α) (s : State) : State.SameCore s (l.foldl f s) :=
  foldl_keeps (P := State.SameCore s) (fun b hb x _ => hb.trans (h b x)) (.refl s)

/-- Recording after a change that leaves the core alone. -/
theorem record (h : State.SameCore a b) (ty : Nat) (v : List (Nat × Int)) : State.SameCore a (b.record ty v) := by
  obtain ⟨htime, hprot, hpower, hhealth, hupd, _, _, _, _, _, hdram, _, hpending, hdev, hsessions, _, _, _, _⟩ := b.record_same ty v
  exact h.trans { time := htime, prot := hprot, health := hhealth, upd := hupd, dram := hdram, pending := hpending, devState := hdev, sessions := hsessions, rest := by rw [hpower], dom := State.dom_of_power hpower }

/-- A change outside the core. -/
theorem of_eq (htime : b.time = a.time := by rfl) (hprot : b.prot = a.prot := by rfl) (hpower : b.power = a.power := by rfl) (hhealth : b.health = a.health := by rfl) (hupd : b.upd = a.upd := by rfl)
    (hdram : b.dram = a.dram := by rfl) (hpending : b.pending = a.pending := by rfl) (hizent : b.izent = a.izent := by rfl) : State.SameCore a b where
  time := htime
  prot := hprot
  health := hhealth
  upd := hupd
  dram := hdram
  pending := hpending
  devState := by rw [hizent]
  sessions := by rw [hizent]
  rest := by rw [hpower]
  dom := State.dom_of_power hpower

/-- A domain that is set to what it is stays. -/
theorem setDom_self (s : State) (d : Nat) : State.SameCore (s.setDom d (s.dom d)) s where
  toSameButDomains := by constructor <;> rfl
  dom j := by
    by_cases hj : j = d
    · rw [hj, State.dom_setDom]
    · rw [State.dom_setDom_other _ _ hj]

theorem setDom_setDom (s : State) (d : Nat) (x y : Domain) : State.SameCore (s.setDom d y) ((s.setDom d x).setDom d y) := by
  rw [show (s.setDom d x).setDom d y = s.setDom d y by simp only [State.setDom, Map.set_set]]
  exact .refl _

theorem setDom (h : State.SameCore a b) (d : Nat) (x : Domain) : State.SameCore (a.setDom d x) (b.setDom d x) where
  time := h.time
  prot := h.prot
  health := h.health
  upd := h.upd
  dram := h.dram
  pending := h.pending
  devState := h.devState
  sessions := h.sessions
  rest := by rw [State.setDom, State.setDom, h.rest]
  dom j := by
    by_cases hj : j = d
    · rw [hj, State.dom_setDom, State.dom_setDom]
    · rw [State.dom_setDom_other _ _ hj, State.dom_setDom_other _ _ hj, h.dom]

end State.SameCore

/-- Whether a domain is on is in the core. -/
theorem State.SameButDomains.domOn {a b : State} (h : State.SameButDomains a b) {d : Nat} (hd : (b.dom d).state = (a.dom d).state) : b.domOn d = a.domOn d := by
  simp only [State.domOn, State.pastFail, h.time, h.pfAt, hd]

/-! One loop (R484, R485). -/

/-- A loop steps at most every 10 ms. -/
def Domain.stepDue (x : Domain) (clk : Time) : Bool := match x.steppedAt with
  | some at_ => decide (at_ + 10 * ms ≤ clk)
  | none => true

/-- A domain after a sample of its pace ratio `r`, with the range `lo` to `hi` of its voltage. -/
def Domain.paced (x : Domain) (clk : Time) (lo hi r : Nat) : Domain :=
  if x.stepDue clk ∧ r < 1030 then
    if x.mv < hi then { x with pace := sat 2 r, mv := min hi (x.mv + 5), steppedAt := some clk, belowSince := if min hi (x.mv + 5) < hi then x.belowSince else none }
    else { x with pace := sat 2 r, atLimit := true, belowSince := if x.atLimit then x.belowSince else none }
  else if x.stepDue clk ∧ r > 1080 ∧ lo < x.mv then
    { x with pace := sat 2 r, mv := max lo (x.mv - 5), steppedAt := some clk, belowSince := if x.mv = hi then some clk else x.belowSince }
  else { x with pace := sat 2 r }

/-- A domain whose loop releases its bound where it may. -/
def Domain.released (x : Domain) (clk : Time) : Domain := match x.belowSince with
  | some at_ => if x.atLimit ∧ at_ + 1000 * ms ≤ clk then { x with atLimit := false } else x
  | none => x

theorem State.pace_core (s : State) (d r : Nat) : State.SameCore (s.setDom d ((s.dom d).paced s.clk (vRange d).1 (vRange d).2 r)) (s.pace d r) := by
  unfold State.pace Domain.paced
  obtain ⟨lo, hi⟩ := vRange d
  change State.SameCore _ (if ((s.dom d).stepDue s.clk && decide (r < 1030)) = true then _ else if ((s.dom d).stepDue s.clk && decide (r > 1080) && decide (lo < (s.dom d).mv)) = true then _ else _)
  simp only [Bool.and_eq_true, decide_eq_true_eq, and_assoc]
  by_cases hup : (s.dom d).stepDue s.clk = true ∧ r < 1030
  · simp only [if_pos hup]
    by_cases hmv : (s.dom d).mv < hi
    · simp only [if_pos hmv]
      exact .refl _
    · simp only [if_neg hmv]
      cases hlimit : (s.dom d).atLimit
      · exact .record (.refl _) _ _
      · simp only [if_true]
        rw [← hlimit]
        exact .refl _
  · simp only [if_neg hup]
    split <;> exact .refl _

theorem State.releaseBound_core (s : State) (d : Nat) : State.SameCore (s.setDom d ((s.dom d).released s.clk)) (s.releaseBound d) := by
  unfold State.releaseBound Domain.released
  dsimp only
  cases (s.dom d).belowSince with
  | none => exact .setDom_self s d
  | some at_ =>
    dsimp only
    simp only [Bool.and_eq_true, decide_eq_true_eq]
    by_cases hdue : (s.dom d).atLimit = true ∧ at_ + 1000 * ms ≤ s.clk
    · simp only [if_pos hdue]
      exact .record (.refl _) _ _
    · simp only [if_neg hdue]
      exact .setDom_self s d

/-- One sample of a domain and the release of its bound. -/
theorem State.paceLoop_core (s : State) (d r : Nat) :
    State.SameCore (s.setDom d (((s.dom d).paced s.clk (vRange d).1 (vRange d).2 r).released s.clk)) ((s.pace d r).releaseBound d) := by
  have hpace := s.pace_core d r
  have hrelease := (s.pace d r).releaseBound_core d
  rw [hpace.dom, State.dom_setDom, hpace.clk] at hrelease
  exact ((State.SameCore.setDom_setDom _ _ _ _).trans (hpace.setDom d _)).trans hrelease

section
variable {x : Domain} {clk : Time} {lo hi r : Nat}

theorem Domain.stepDue_of (h : ∀ y, x.steppedAt = some y → y + 10000000 ≤ clk) : x.stepDue clk = true := by
  unfold Domain.stepDue
  split
  · exact decide_eq_true (h _ ‹_›)
  · rfl

theorem Domain.stepDue_eq_false {y : Time} (h : x.steppedAt = some y) (hclk : clk < y + 10000000) : x.stepDue clk = false := by
  simp only [Domain.stepDue, h]
  exact decide_eq_false (Nat.not_le.mpr hclk)

/-- The release of the bound changes AT_LIMIT alone. -/
theorem Domain.released_loop (x : Domain) (clk : Time) :
    (x.released clk).pace = x.pace ∧ (x.released clk).mv = x.mv ∧ (x.released clk).steppedAt = x.steppedAt ∧ (x.released clk).state = x.state := by
  unfold Domain.released
  split
  · split <;> exact ⟨rfl, rfl, rfl, rfl⟩
  · exact ⟨rfl, rfl, rfl, rfl⟩

theorem Domain.paced_pace : (x.paced clk lo hi r).pace = sat 2 r := by
  unfold Domain.paced
  split
  · split <;> rfl
  · split <;> rfl

/-- Too early for a step, or within 1 030 to 1 080: the sample alone. -/
theorem Domain.paced_holds (h : (∃ y, x.steppedAt = some y ∧ clk < y + 10000000) ∨ (1030 ≤ r ∧ r ≤ 1080)) : x.paced clk lo hi r = { x with pace := sat 2 r } := by
  unfold Domain.paced
  rcases h with ⟨y, hy, hclk⟩ | ⟨hlow, hhigh⟩
  · simp [Domain.stepDue_eq_false hy hclk]
  · rw [if_neg fun h => Nat.not_lt.mpr hlow h.2, if_neg fun h => Nat.not_lt.mpr hhigh h.2.1]

theorem Domain.paced_up (hdue : x.stepDue clk = true) (hr : r < 1030) (hmv : x.mv < hi) : (x.paced clk lo hi r).mv = min hi (x.mv + 5) ∧ (x.paced clk lo hi r).steppedAt = some clk := by
  rw [Domain.paced, if_pos ⟨hdue, hr⟩, if_pos hmv]
  exact ⟨rfl, rfl⟩

theorem Domain.paced_atMax (hdue : x.stepDue clk = true) (hr : r < 1030) (hmv : hi ≤ x.mv) (hbelow : x.belowSince = none) :
    (x.paced clk lo hi r).mv = x.mv ∧ (x.paced clk lo hi r).atLimit = true ∧ (x.paced clk lo hi r).belowSince = none := by
  rw [Domain.paced, if_pos ⟨hdue, hr⟩, if_neg (Nat.not_lt.mpr hmv)]
  exact ⟨rfl, rfl, by rw [hbelow, ite_self]⟩

theorem Domain.paced_down (hdue : x.stepDue clk = true) (hr : 1080 < r) (hmv : lo < x.mv) : (x.paced clk lo hi r).mv = max lo (x.mv - 5) ∧ (x.paced clk lo hi r).steppedAt = some clk := by
  rw [Domain.paced, if_neg fun h => by omega, if_pos ⟨hdue, hr, hmv⟩]
  exact ⟨rfl, rfl⟩

theorem Domain.released_none (h : x.belowSince = none) : x.released clk = x := by rw [Domain.released, h]

theorem Domain.released_due {y : Time} (h : x.belowSince = some y) (hclk : y + 1000000000 ≤ clk) : (x.released clk).atLimit = false := by
  rw [Domain.released, h]
  dsimp only
  split
  · rfl
  · rename_i hno
    exact Bool.eq_false_iff.mpr fun hlimit => hno ⟨hlimit, hclk⟩

end

/-! The sample of all domains. -/

/-- The part of a sample for one domain. -/
def State.sampleDomain (monitors : List (List Nat)) (s : State) (d : Nat) : State := match monitors.getD (d - 1) [] with
  | r :: rs => if s.domOn d then (s.pace d (rs.foldl min r)).releaseBound d else s
  | [] => s

/-- What a sample makes of one domain. -/
def State.sampledDomain (monitors : List (List Nat)) (s : State) (d : Nat) : Domain := match monitors.getD (d - 1) [] with
  | r :: rs => if s.domOn d then ((s.dom d).paced s.clk (vRange d).1 (vRange d).2 (rs.foldl min r)).released s.clk else s.dom d
  | [] => s.dom d

theorem State.sampleDomain_core (monitors : List (List Nat)) (s : State) (d : Nat) : State.SameCore (s.setDom d (s.sampledDomain monitors d)) (s.sampleDomain monitors d) := by
  unfold State.sampleDomain State.sampledDomain
  split
  · split
    · exact s.paceLoop_core d _
    · exact .setDom_self s d
  · exact .setDom_self s d

/-- A state in which the domains of `l` have been sampled. -/
structure State.Sampling (monitors : List (List Nat)) (l : List Nat) (a v : State) : Prop where
  core : State.SameButDomains a v
  sampled : ∀ d ∈ l, v.dom d = a.sampledDomain monitors d
  others : ∀ d, d ∉ l → v.dom d = a.dom d

theorem State.Sampling.all (monitors : List (List Nat)) (a : State) {l : List Nat} (hl : l.Nodup) : State.Sampling monitors l a (l.foldl (State.sampleDomain monitors) a) := by
  induction l using snoc_induction with
  | nil => exact ⟨.refl a, fun _ h => absurd h List.not_mem_nil, fun _ _ => rfl⟩
  | append_singleton l k ih =>
    rw [List.foldl_append]
    have hkl : k ∉ l := fun h => (List.nodup_append.mp hl).2.2 k h k (List.mem_singleton_self k) rfl
    have hs := ih (List.nodup_append.mp hl).1
    generalize l.foldl (State.sampleDomain monitors) a = v at hs
    have hstep := v.sampleDomain_core monitors k
    have hk : v.sampledDomain monitors k = a.sampledDomain monitors k := by
      have hdom := hs.others k hkl
      simp only [State.sampledDomain, hs.core.domOn (congrArg Domain.state hdom), hdom, hs.core.clk]
    rw [hk] at hstep
    refine ⟨(hs.core.trans (.setDom v k _)).trans hstep.toSameButDomains, fun d hd => ?_, fun d hd => ?_⟩
    · by_cases hdk : d = k
      · rw [hdk]
        exact (hstep.dom k).trans (State.dom_setDom _ _ _)
      · exact (hstep.dom d).trans ((State.dom_setDom_other _ _ hdk).trans (hs.sampled d ((List.mem_append.mp hd).resolve_right fun h => hdk (List.mem_singleton.mp h))))
    · obtain ⟨hdl, hdk⟩ := not_or.mp (mt List.mem_append.mpr hd)
      exact (hstep.dom d).trans ((State.dom_setDom_other _ _ fun h => hdk (List.mem_singleton.mpr h)).trans (hs.others d hdl))

/-- The domains that have pace monitors. -/
def pacedDomains : List Nat := (List.range 13).map (· + 1)

theorem mem_pacedDomains {d : Nat} (hd : 1 ≤ d) (hd' : d < 14) : d ∈ pacedDomains := List.mem_map.mpr ⟨d - 1, List.mem_range.mpr (by omega), by omega⟩

theorem exec_paceSample {t : Time} {monitors : List (List Nat)} {s : State} (hon : (s.tick t).domOn 3 = true) (hactive : (s.tick t).activating 0 = false) (hhalted : s.prot.halted.contains 26 = false)
    (hperiod : ∀ x, s.health.sampledAt = some x → x + 1000000 ≤ (s.tick t).clk) :
    exec (.paceSample t monitors) s = .next (settle (s.tick t) (pacedDomains.foldl (State.sampleDomain monitors) { s.tick t with health := { s.health with sampledAt := some (s.tick t).clk } })) := by
  show execPaceSample t monitors s = _
  have hdue : (s.tick t).periodDue (s.tick t).health.sampledAt ms = true := State.periodDue_of hperiod
  have hgo : (!(s.tick t).domOn 3 || (s.tick t).activating 0 || (s.tick t).prot.halted.contains 26 || !(s.tick t).periodDue (s.tick t).health.sampledAt ms) = false := by
    rw [hon, hactive, hdue, show (s.tick t).prot.halted.contains 26 = false from hhalted]
    rfl
  rw [execPaceSample, run_next]
  simp only [hgo, Bool.false_eq_true, if_false]
  rfl

section
variable {t : Time} {monitors : List (List Nat)} {s : State}

theorem paceSample_samples (hon : (s.tick t).domOn 3 = true) (hactive : (s.tick t).activating 0 = false) (hhalted : s.prot.halted.contains 26 = false)
    (hperiod : ∀ x, s.health.sampledAt = some x → x + 1000000 ≤ (s.tick t).clk) :
    Completes (.paceSample t monitors) s fun u => u.health.sampledAt = some (s.tick t).clk ∧ (∀ d, (s.tick t).domOn d = false → u.dom d = s.dom d) ∧
      ∀ d, 1 ≤ d → d < 14 → u.dom d = (s.tick t).sampledDomain monitors d := by
  have hsampled := State.Sampling.all monitors { s.tick t with health := { s.health with sampledAt := some (s.tick t).clk } } (l := pacedDomains) (by decide)
  refine ⟨_, exec_paceSample hon hactive hhalted hperiod, ?_, fun d hd => ?_, fun d hd hd' => ?_⟩
  · rw [settle_health, hsampled.core.health]
  · rw [State.dom_of_power (settle_power _ _)]
    by_cases hmem : d ∈ pacedDomains
    · rw [hsampled.sampled d hmem]
      unfold State.sampledDomain
      split
      · exact if_neg (Bool.eq_false_iff.mp hd)
      · rfl
    · exact hsampled.others d hmem
  · exact (State.dom_of_power (settle_power _ _) d).trans (hsampled.sampled d (mem_pacedDomains hd hd'))

theorem State.sampledDomain_on {a : State} {d first : Nat} {rest : List Nat} (hon : a.domOn d = true) (h : monitors[d - 1]? = some (first :: rest)) :
    a.sampledDomain monitors d = ((a.dom d).paced a.clk (vRange d).1 (vRange d).2 (rest.foldl min first)).released a.clk := by
  rw [State.sampledDomain, List.getD_eq_getElem?_getD, h]
  exact if_pos hon

/-- The power system once the input power `mw` is measured above the cap (R487). -/
def Power.aboveCap (p : Power) (mw : Nat) (clk : Time) : Power :=
  { p with inputMw := mw, overSince := some (p.overSince.getD clk), underSince := none, capAtLimit := p.capAtLimit || decide (p.overSince.getD clk + 1000000000 ≤ clk) }

/-- Within the cap. -/
def Power.withinCap (p : Power) (mw : Nat) (clk : Time) : Power :=
  { p with inputMw := mw, overSince := none, underSince := some (p.underSince.getD clk), capAtLimit := p.capAtLimit && decide (clk < p.underSince.getD clk + 1000000000) }

theorem powerOverCap_above {mw : Nat} (hon : (s.tick t).domOn 3 = true) (hmw : s.power.capMw < mw) :
    Leaves (.powerOverCap t mw) s { s.tick t with power := s.power.aboveCap mw (s.tick t).clk } := by
  have hexec : exec (.powerOverCap t mw) s = .next (settle (s.tick t)
      (if (decide (s.power.overSince.getD (s.tick t).clk + 1000 * ms ≤ (s.tick t).clk) && !s.power.capAtLimit) = true
       then ({ s.tick t with power := { s.power with inputMw := mw, overSince := some (s.power.overSince.getD (s.tick t).clk), underSince := none, capAtLimit := true } }).record evPowerOverCap []
       else { s.tick t with power := { s.power with inputMw := mw, overSince := some (s.power.overSince.getD (s.tick t).clk), underSince := none, capAtLimit := s.power.capAtLimit } })) := by
    show execPowerOverCap t mw s = _
    rw [execPowerOverCap, run_next]
    have hpower : (s.tick t).power = s.power := rfl
    simp only [hon, hpower, decide_eq_true hmw, Bool.not_true, Bool.false_eq_true, if_false, Bool.not_false]
    cases s.power.overSince <;> simp only [Option.getD, Bool.not_false, if_true, Bool.and_true]
  refine leaves_settled hexec ?_
  unfold Power.aboveCap
  rw [show 1000 * ms = 1000000000 from rfl]
  cases hlimit : s.power.capAtLimit <;> cases hdue : decide (s.power.overSince.getD (s.tick t).clk + 1000000000 ≤ (s.tick t).clk)
  · exact .refl _
  · exact (State.record_same _ _ _).block
  · exact .refl _
  · exact .refl _

theorem powerOverCap_within {mw : Nat} (hon : (s.tick t).domOn 3 = true) (hmw : mw ≤ s.power.capMw) :
    Leaves (.powerOverCap t mw) s { s.tick t with power := s.power.withinCap mw (s.tick t).clk } := by
  refine leaves_settled (t := t) (v := { s.tick t with power := s.power.withinCap mw (s.tick t).clk }) ?_ (.refl _)
  show execPowerOverCap t mw s = _
  rw [execPowerOverCap, run_next]
  have hpower : (s.tick t).power = s.power := rfl
  have hnotLate (x : Time) : (!decide (x + 1000 * ms ≤ (s.tick t).clk)) = decide ((s.tick t).clk < x + 1000000000) := by
    show (!decide (x + 1000000000 ≤ (s.tick t).clk)) = _
    simp only [← decide_not, Nat.not_le]
  simp only [hon, hpower, decide_eq_false (Nat.not_lt.mpr hmw), Bool.not_true, Bool.false_eq_true, if_false, Bool.not_false, if_true, Bool.false_and, Power.withinCap]
  cases s.power.underSince <;> simp only [hnotLate, Option.getD]

end

/-- Settles O43: a sample takes every domain that is on through its loop, and the power cap follows the measured input. -/
theorem adaptiveLoopsComplete : Obligations.AdaptiveLoopsComplete := by
  unfold Obligations.AdaptiveLoopsComplete
  refine ⟨fun t monitors s hon hactive hhalted hperiod => ?_, fun t mw s hon => ⟨powerOverCap_above hon, powerOverCap_within hon⟩⟩
  obtain ⟨u, hu, hat, hoff, hsampled⟩ := paceSample_samples (monitors := monitors) hon hactive hhalted hperiod
  refine ⟨u, hu, hat, hoff, fun d first rest r hd hd' hdon hmon hr => ?_⟩
  rw [hsampled d hd hd', State.sampledDomain_on hdon hmon, ← hr, State.tick_dom]
  obtain ⟨hpace, hmv, hstepped, -⟩ := Domain.released_loop ((s.dom d).paced (s.tick t).clk (vRange d).1 (vRange d).2 r) (s.tick t).clk
  refine ⟨hpace.trans Domain.paced_pace, fun hold => ?_, fun hdue => ⟨fun hlow hmax => ?_, fun hlow hmax hbelow => ?_, fun hhigh hmin => ?_⟩, fun x hbelow hx hlow hhigh => ?_⟩
  · rw [hmv, hstepped, Domain.paced_holds hold]
    exact ⟨rfl, rfl⟩
  · rw [hmv, hstepped]
    exact Domain.paced_up (Domain.stepDue_of hdue) hlow hmax
  · obtain ⟨hmax', hlimit, hnone⟩ := Domain.paced_atMax (lo := (vRange d).1) (Domain.stepDue_of hdue) hlow hmax hbelow
    rw [Domain.released_none hnone]
    exact ⟨hmax', hlimit⟩
  · rw [hmv, hstepped]
    exact Domain.paced_down (Domain.stepDue_of hdue) hhigh hmin
  · rw [Domain.paced_holds (.inr ⟨hlow, hhigh⟩)]
    exact Domain.released_due hbelow hx

end Sys2Proof.Machine
end

section
/-! SUPPORT of the claims on power domains and starts (spec/17_power.md R472–R476): the units of a domain that stop or start leave the core alone. -/

namespace Sys2Proof.Machine

set_option Elab.async false

theorem State.SameUnits.core {a b : State} (h : State.SameUnits a b) : State.SameCore a b where
  time := h.time
  prot := h.prot
  health := h.health
  upd := h.upd
  dram := h.dram
  pending := h.pending
  devState := h.devState
  sessions := h.sessions
  rest := by rw [h.power]
  dom := State.dom_of_power h.power

/-! Generators and format changes (R208–R220). -/

theorem State.genTo_core (s : State) (g : Nat) (st : SyncState) : State.SameCore s (s.genTo g st) := by
  unfold State.genTo
  dsimp only
  exact .ite (.refl s) (.record .of_eq _ _)

theorem State.setGen_core (s : State) (g : Nat) (x : Gen) : State.SameCore s (s.setGen g x) := .of_eq

theorem State.jump_core (s : State) (g : Nat) (r : TimingRec) : State.SameCore s (s.jump g r) := by
  unfold State.jump
  dsimp only
  split
  · exact (s.setGen_core g _).trans (.fold (fun s h => .ite .of_eq (.refl s)) _ _)
  · exact .refl s

/-- How a steered generator ends its frame: it jumps, or takes its next t_f. -/
theorem State.steerEnd_core {s v : State} {g : Nat} {r : TimingRec} {y : Gen} {p : Prop} [Decidable p] (hv : State.SameCore s v) : State.SameCore s (if p then v.jump g r else v.setGen g y) :=
  .ite (hv.trans (v.jump_core g r)) (hv.trans (v.setGen_core g _))

theorem State.steer_core (s : State) (g : Nat) (r : TimingRec) : State.SameCore s (s.steer g r) := by
  unfold State.steer
  dsimp only
  cases (s.gen g).state
  · exact State.steerEnd_core (.refl s)
  · exact State.steerEnd_core (.ite (s.genTo_core _ _) (.refl s))
  · exact State.steerEnd_core (.ite (s.genTo_core _ _) (s.setGen_core _ _))
  · exact State.steerEnd_core (.ite (s.setGen_core _ _) (.refl s))

theorem State.groupEnd_core (s : State) (g : Nat) : State.SameCore s (s.groupEnd g) := by
  unfold State.groupEnd
  dsimp only
  split
  · exact .ite (s.steer_core g _) (.refl s)
  · exact s.setGen_core g _

theorem State.loseAlignment_core (s : State) (h : Nat) (r : TimingRec) : State.SameCore s (s.loseAlignment h r) := by
  unfold State.loseAlignment
  dsimp only
  exact .ite (.refl s) (.record .of_eq _ _)

theorem State.leaderStops_core (s : State) (h : Nat) (out : List Nat) : State.SameCore s (s.leaderStops h out) := by
  unfold State.leaderStops
  split
  · refine .ite (.refl s) (.fold (fun s k => ?_) _ s)
    split
    · exact .ite (s.loseAlignment_core _ _) (.refl s)
    · exact .refl s
  · exact .refl s

theorem State.endOldFormat_core (s : State) (h : Nat) : State.SameCore s (s.endOldFormat h) := by
  unfold State.endOldFormat
  dsimp only
  split
  · exact .refl s
  · exact .ite (.refl s) ((s.leaderStops_core _ _).trans .of_eq)

theorem State.restartGroup_core (s : State) (f : FormatSet) (tr at_ g : Nat) : State.SameCore s (s.restartGroup f tr at_ g) := by
  unfold State.restartGroup
  dsimp only
  split
  · exact .of_eq
  · exact .ite (.refl s) (((s.setGen_core g _).trans (State.genTo_core _ g _)).trans (State.setGen_core _ g _))

theorem State.reassign_core (s : State) (g : Nat) : State.SameCore s (s.reassign g) := by
  unfold State.reassign
  dsimp only
  exact .trans .of_eq (.fold (fun s e => .ite (.refl s) .of_eq) _ _)

theorem State.regroup_core (s : State) (g : Nat) : State.SameCore s (s.regroup g) := by
  unfold State.regroup
  dsimp only
  exact .trans (.ite (.refl s) .of_eq) (State.reassign_core _ g)

theorem State.restartFormats_core (s : State) : State.SameCore s s.restartFormats := by
  unfold State.restartFormats
  refine .fold (fun s f => ?_) _ s
  extract_lets hs tr at_ headed grouped live
  have hheaded : State.SameCore s headed := .fold (fun s q => .of_eq) f.recs s
  have hgrouped : State.SameCore headed grouped := .fold (fun s g => (s.restartGroup_core f tr at_ g).trans (State.regroup_core _ g)) f.groups headed
  exact .ite (.refl s) ((hheaded.trans hgrouped).trans .of_eq)

theorem State.startFormat_core (s : State) (recs : List TimingRec) : State.SameCore s (s.startFormat recs) := by
  unfold State.startFormat
  dsimp only
  refine .trans (.trans .of_eq (.fold (fun s q => ?_) recs _)) (State.restartFormats_core _)
  exact .ite (.refl s) (s.endOldFormat_core _)

/-! Lanes, streams and holds (R97, R407, R555). -/

theorem State.laneTo_core (s : State) (k : Nat) (st : LaneState) (cause : Nat) : State.SameCore s (s.laneTo k st cause) := by
  unfold State.laneTo State.laneDeparts
  extract_lets l deps flaps quiet departed told up
  have htold : State.SameCore s told := .ite .of_eq (.record .of_eq _ _)
  exact .ite (.refl s) (.ite (.ite (htold.record _ _) htold) (.ite (.ite .of_eq (.record .of_eq _ _)) .of_eq))

theorem State.lanesRefresh_core (s : State) : State.SameCore s s.lanesRefresh := by
  refine .fold (fun s k => ?_) _ s
  unfold State.laneRefresh
  dsimp only
  exact .ite ((s.laneTo_core k _ _).trans .of_eq) (.ite (s.laneTo_core k _ _) (.refl s))

theorem State.membership_core (s : State) (x : Ctx) (r : Report) : State.SameCore s (s.membership x r) := by
  unfold State.membership
  refine .ite (.refl s) (.fold (fun s p => .ite ?_ (.refl s)) _ s)
  unfold State.report State.transmit
  dsimp only
  exact .ite .of_eq (.refl s)

theorem State.streamOn_core (s : State) : State.SameCore s s.streamOn := by
  unfold State.streamOn
  refine .trans .of_eq (.fold (fun s e => ?_) _ _)
  dsimp only
  exact .ite (.trans .of_eq (State.membership_core _ _ _)) (.refl s)

theorem State.setHolds_core (s : State) (hs : List Hold) : State.SameCore s (s.setHolds hs) := by
  unfold State.setHolds
  extract_lets cs comp kept marked
  have hmarked : State.SameCore s marked := .trans .of_eq (.fold (fun s c => .ite (.refl s) .of_eq) cs kept)
  exact hmarked.trans .of_eq

/-! Units of a domain (R474, R476). -/

theorem State.encOff_core (s : State) : State.SameCore s s.encOff :=
  .fold (fun s _ => .ite (.refl s) (.ite .of_eq .of_eq)) _ s

theorem State.headsOff_core (s : State) (hs : List Nat) : State.SameCore s (s.headsOff hs) := by
  unfold State.headsOff
  extract_lets gs stopped
  have hstopped : State.SameCore s stopped := .fold (fun s h => .of_eq) hs s
  exact (hstopped.trans (State.restartFormats_core _)).trans (.fold (fun s g => s.groupEnd_core g) gs _)

theorem State.lanternOff_core (s : State) : State.SameCore s s.lanternOff := by
  unfold State.lanternOff
  extract_lets bound comp cleared released
  have hreleased : State.SameCore s released := .trans .of_eq (State.setHolds_core _ _)
  exact .ite (.record (hreleased.trans .of_eq) _ _) hreleased

theorem State.unitsOff_core (s : State) (d : Nat) : State.SameCore s (s.unitsOff d) := by
  unfold State.unitsOff
  split
  · exact s.lanesRefresh_core
  · exact s.lanesRefresh_core
  · exact .of_eq
  · exact .of_eq
  · exact .of_eq
  · exact s.encOff_core
  · exact .of_eq
  · exact s.lanternOff_core
  · exact .of_eq
  · exact s.headsOff_core _
  · exact s.headsOff_core _
  · exact .refl s

theorem State.moveCtx_core (s : State) (c engine : Nat) : State.SameCore s (s.moveCtx c engine) := .of_eq

theorem State.leaveEngine_core (s : State) (e : Nat) (spare : Option Nat) : State.SameCore s (s.leaveEngine e spare) := by
  unfold State.leaveEngine
  extract_lets streams idle place moved
  have hmoved : State.SameCore s moved := by
    refine .trans (b := idle) .of_eq (.fold (fun s x => ?_) _ idle)
    extract_lets n moved
    exact .ite (.record (State.moveCtx_core _ _ _) _ _) (State.moveCtx_core _ _ _)
  exact hmoved.trans (.fold (fun s r => .of_eq) _ moved)

theorem State.towerOn_core (s : State) (d : Nat) : State.SameCore s (s.towerOn d) :=
  .fold (fun s _ => .ite (State.moveCtx_core _ _ _) (.refl s)) _ s

/-- The engines and scalers chosen for service are part of what repair knows. -/
theorem State.chooseUnits_core (s : State) (d : Nat) : ∃ h, State.SameCore { s with health := h } (s.chooseUnits d) := by
  unfold State.chooseUnits
  split
  · exact ⟨_, .fold (fun s x => s.leaveEngine_core _ _) _ _⟩
  · split
    · exact ⟨_, .refl _⟩
    · exact ⟨s.health, .refl s⟩

/-- The heads of a PD_DISP domain take their power-up state (R223, R473, R557). -/
def State.headsOn (s : State) (d : Nat) (ready : Bool) : State :=
  let s := (dispHeads d).foldl (fun s h => s.setHead h (s.head h).poweredUp) s
  let recs := (dispHeads d).filterMap fun h => (s.head h).stored.filter TimingRec.enabled
  if !ready || recs.isEmpty then s
  else
    let s := recs.foldl (fun s r => s.setHead r.head { s.head r.head with startDue := !(s.head r.head).included }) s
    s.startFormat recs

theorem State.headsOn_core (s : State) (d : Nat) (ready : Bool) : State.SameCore s (s.headsOn d ready) := by
  unfold State.headsOn
  extract_lets powered recs due
  have hpowered : State.SameCore s powered := .fold (fun s h => .of_eq) _ s
  have hdue : State.SameCore powered due := .fold (fun s r => .of_eq) recs powered
  exact .ite hpowered ((hpowered.trans hdue).trans (State.startFormat_core _ _))

theorem State.unitsOn_core (s : State) (d : Nat) (ready : Bool) : ∃ h, State.SameCore { s with health := h } (s.unitsOn d ready) := by
  obtain ⟨h, hchosen⟩ := s.chooseUnits_core d
  refine ⟨h, hchosen.trans ?_⟩
  unfold State.unitsOn
  generalize s.chooseUnits d = c
  dsimp only
  split
  · exact .trans (.fold (fun s i => .of_eq) _ c) (State.lanesRefresh_core _)
  · exact .trans (.fold (fun s i => .of_eq) _ c) (State.lanesRefresh_core _)
  · exact c.streamOn_core
  · exact c.towerOn_core _
  · exact c.towerOn_core _
  · exact .of_eq
  · exact c.headsOn_core 12 ready
  · exact c.headsOn_core 13 ready
  · exact .refl c

/-! Responses and the end of a switch-on (R470, R473). -/

theorem State.localEnded_core (s : State) (status : Nat) (p : Bytes) : State.SameCore s (s.localEnded status p) := by
  unfold State.localEnded
  split
  · exact .refl s
  · exact .record .of_eq _ _

theorem State.setMbx_core (s : State) (mb : Nat) (x : Mailbox) : State.SameCore s (s.setMbx mb x) := by
  constructor
  · constructor <;> rfl
  · exact fun _ => rfl

theorem respond_core (s : State) (mb cmd : Nat) (m : Msg) (status : Nat) (p : Bytes) : State.SameCore s (s.respond mb cmd m status p) := by
  unfold State.respond
  dsimp only
  by_cases hm : mb < 16
  · rw [if_pos hm]
    have hdenied : State.SameCore s (if m.writeFails = true then s else s.hostDenied 1 (s.mbx mb).rspAddr (rspOf cmd m status p).length) :=
      .ite (.refl s) (s.hostDenied_same _ _ _).core
    have hstored {x : Mailbox} := hdenied.trans (State.setMbx_core _ mb x)
    refine .ite (.trans ?_ (State.raise_same _ _).core) ?_ <;> exact .ite (hstored.trans (State.hostWrite_same _ _ _).core) hstored
  · rw [if_neg hm]
    exact .ite ((s.setMbx_core mb _).trans (State.localEnded_core _ _ _)) (s.setMbx_core mb _)

theorem State.endSwitch_core (s : State) (b : Option (Nat × Job)) (ok : Bool) : State.SameCore s (s.endSwitch b ok) := by
  unfold State.endSwitch
  split
  · exact .ite (respond_core _ _ _ _ _ _) (respond_core _ _ _ _ _ _)
  · exact .refl s

end Sys2Proof.Machine
end

section
/-! PROOFS of the claim on power domains (spec/17_power.md R472–R476, R481; spec/18_resilience.md R489): the state that a domain enters, and what a reset leaves. -/

namespace Sys2Proof.Machine

theorem State.SameButDomains.forceCold {a b : State} (h : State.SameButDomains a b) : b.power.forceCold = a.power.forceCold := by rw [h.rest]

theorem State.SameButDomains.startFailures {a b : State} (h : State.SameButDomains a b) : b.power.startFailures = a.power.startFailures := by rw [h.rest]

/-! One domain (R472–R476). -/

/-- `b` is `a` with domain `d` in state `st`, and units outside the core changed. -/
structure State.Switches (d : Nat) (st : DomState) (a b : State) : Prop extends State.SameButDomains a b where
  own : (b.dom d).state = st
  others : ∀ j, j ≠ d → b.dom j = a.dom j
  mv : st = .off → (a.dom d).state ≠ .off → (b.dom d).mv = 0

theorem State.Switches.of_core {a b c : State} {d : Nat} {st : DomState} (h : State.Switches d st a b) (k : State.SameCore b c) : State.Switches d st a c where
  toSameButDomains := h.toSameButDomains.trans k.toSameButDomains
  own := by rw [k.dom, h.own]
  others j hj := (k.dom j).trans (h.others j hj)
  mv hst hd := by rw [k.dom, h.mv hst hd]

theorem State.Switches.setDom (s : State) {d : Nat} {x : Domain} (hmv : x.state = .off → x.mv = 0) : State.Switches d x.state s (s.setDom d x) where
  toSameButDomains := .setDom s d x
  own := by rw [State.dom_setDom]
  others j hj := s.dom_setDom_other x hj
  mv hst _ := by rw [State.dom_setDom, hmv hst]

theorem State.domTo_switches (s : State) (d : Nat) (st : DomState) : State.Switches d st s (s.domTo d st) := by
  unfold State.domTo
  extract_lets x starts y w
  by_cases hst : x.state = st
  · rw [if_pos hst]
    exact ⟨.refl s, hst, fun _ _ => rfl, fun hoff hon => absurd (hst.trans hoff) hon⟩
  · rw [if_neg hst]
    have hset : State.Switches d st s (s.setDom d y) := .setDom s (x := y) fun hoff => if_pos hoff
    have hw : State.SameCore s w := .ite .of_eq (.refl s)
    exact hset.of_core ((hw.setDom d y).record _ _)

theorem State.cutDomain_switches (s : State) (d : Nat) : State.Switches d .off s (s.cutDomain d) := by
  unfold State.cutDomain
  by_cases hoff : (s.dom d).state = .off
  · rw [if_pos hoff]
    exact ⟨.refl s, hoff, fun _ _ => rfl, fun _ hon => absurd hoff hon⟩
  · rw [if_neg hoff]
    exact ((s.domTo_switches d .off).of_core (State.unitsOff_core _ d)).of_core (State.endSwitch_core _ _ _)

/-- A domain that is on: it is, and no other domain changes. -/
theorem State.domainOn_dom (s : State) (d : Nat) : ((s.domainOn d).dom d).state = .on ∧ ∀ j, j ≠ d → (s.domainOn d).dom j = s.dom j := by
  obtain ⟨h, hunits⟩ := (s.domTo d .on).unitsOn_core d (s.izent.devState == .ready)
  have hall := hunits.trans (State.endSwitch_core _ (s.switcher d) true)
  have hto := s.domTo_switches d .on
  exact ⟨by rw [State.domainOn, hall.dom]; exact hto.own, fun j hj => (hall.dom j).trans (hto.others j hj)⟩

theorem State.repaired_core (s : State) (l : List (Nat × Nat)) : State.SameCore s (s.repaired l) := .fold (fun s _ => .record (.refl s) _ _) l s

/-- SRAM repairs and units that cannot be repaired leave every domain. -/
def State.selfTested (s : State) (d : Nat) (repairs : List (Nat × Nat)) (bad : List Nat) : State :=
  if d = 7 || d = 8 then (s.repaired repairs).failUnits (bad.filter (towerEngines d).contains) [] else if d = 10 then (s.repaired repairs).failUnits [] bad else s.repaired repairs

theorem State.selfTested_dom (s : State) (d : Nat) (repairs : List (Nat × Nat)) (bad : List Nat) (j : Nat) : (s.selfTested d repairs bad).dom j = s.dom j := by
  unfold State.selfTested
  split
  · exact (s.repaired_core repairs).dom j
  · split <;> exact (s.repaired_core repairs).dom j

section
variable {t : Time} {d : Nat} {s : State} (hd : d < 14)
include hd

theorem exec_domainOffComplete (hstate : (s.dom d).state = .shuttingDown) (hctx : d = 6 → ∀ e ∈ s.streams.ctx, e.2.state ≠ .draining) (hchan : d = 9 → ∀ e ∈ s.enc.chan, e.2.state = .draining → e.2.coding = none) :
    exec (.domainOffComplete t d) s = .next (settle (s.tick t) (((s.tick t).domTo d .off).unitsOff d)) := by
  have hdrains : ((d == 6 && (s.tick t).streams.ctx.any fun e => e.2.state == .draining) || (d == 9 && (s.tick t).enc.chan.any fun e => e.2.state == .draining && e.2.coding.isSome)) = false := by
    rw [Bool.or_eq_false_iff, Bool.and_eq_false_imp, Bool.and_eq_false_imp]
    refine ⟨fun h6 => List.any_eq_false.mpr fun e he => ?_, fun h9 => List.any_eq_false.mpr fun e he => ?_⟩
    · rw [beq_iff_eq]
      exact hctx (beq_iff_eq.mp h6) e he
    · rw [Bool.and_eq_true, beq_iff_eq]
      rintro ⟨hdraining, hcoding⟩
      rw [hchan (beq_iff_eq.mp h9) e he hdraining] at hcoding
      exact Bool.false_ne_true hcoding
  show execDomainOffComplete t d s = _
  rw [execDomainOffComplete, runIf_next (decide_eq_true hd)]
  simp only [State.tick_dom, hstate, hdrains, bne_self_eq_false, Bool.false_or, Bool.false_eq_true, if_false]

theorem domainOffComplete_off (hstate : (s.dom d).state = .shuttingDown) (hctx : d = 6 → ∀ e ∈ s.streams.ctx, e.2.state ≠ .draining) (hchan : d = 9 → ∀ e ∈ s.enc.chan, e.2.state = .draining → e.2.coding = none) :
    Completes (.domainOffComplete t d) s fun u => (u.dom d).state = .off ∧ (u.dom d).mv = 0 ∧ ∀ j, j ≠ d → u.dom j = s.dom j := by
  have hoff := ((s.tick t).domTo_switches d .off).of_core (State.unitsOff_core _ d)
  refine ⟨_, exec_domainOffComplete hd hstate hctx hchan, ?_⟩
  simp only [State.dom_of_power (settle_power _ _)]
  exact ⟨hoff.own, hoff.mv rfl (by rw [State.tick_dom, hstate]; decide), hoff.others⟩

theorem exec_domainOnComplete {repairs : List (Nat × Nat)} {bad : List Nat} {ok : Bool} (hstate : (s.dom d).state = .switchingOn) :
    exec (.domainOnComplete t d repairs bad ok) s =
      .next (settle (s.tick t) (if ok then ((s.tick t).selfTested d repairs bad).domainOn d else ((s.tick t).selfTested d repairs bad).bistFault d)) := by
  show execDomainOnComplete t d repairs bad ok s = _
  rw [execDomainOnComplete, runIf_next (decide_eq_true hd)]
  simp only [State.tick_dom, hstate, bne_self_eq_false, Bool.false_eq_true, if_false]
  rfl

theorem domainOnComplete_on {repairs : List (Nat × Nat)} {bad : List Nat} (hstate : (s.dom d).state = .switchingOn) :
    Completes (.domainOnComplete t d repairs bad true) s fun u => (u.dom d).state = .on ∧ ∀ j, j ≠ d → u.dom j = s.dom j := by
  obtain ⟨hon, hother⟩ := ((s.tick t).selfTested d repairs bad).domainOn_dom d
  refine ⟨_, exec_domainOnComplete hd hstate, ?_⟩
  simp only [State.dom_of_power (settle_power _ _), if_true]
  exact ⟨hon, fun j hj => (hother j hj).trans (State.selfTested_dom _ _ _ _ _)⟩

theorem domainOnComplete_fails {repairs : List (Nat × Nat)} {bad : List Nat} (hstate : (s.dom d).state = .switchingOn) :
    Completes (.domainOnComplete t d repairs bad false) s fun u => (u.dom d).state = .off ∧ ∀ j, j ≠ d → u.dom j = s.dom j := by
  have hcut := (((s.tick t).selfTested d repairs bad).cutDomain_switches d).of_core (.record (.refl _) evDomainFault [p2 d, p1 3])
  refine ⟨_, exec_domainOnComplete hd hstate, ?_⟩
  simp only [State.dom_of_power (settle_power _ _), Bool.false_eq_true, if_false]
  exact ⟨hcut.own, fun j hj => (hcut.others j hj).trans (State.selfTested_dom _ _ _ _ _)⟩

omit hd in
/-- The command that switches the domain on is a DOMAIN_SET. -/
theorem State.switcher_kind {mb : Nat} {j : Job} (h : s.switcher d = some (mb, j)) : j.kind = .domainSet := by
  obtain ⟨e, -, he⟩ := List.exists_of_findSome?_eq_some h
  split at he
  · split at he
    · rename_i hj
      simp only [Option.some.injEq, Prod.mk.injEq] at he
      rw [← he.2]
      simp only [Bool.and_eq_true, decide_eq_true_eq] at hj
      exact hj.1.1
    · exact nomatch he
  · exact nomatch he

omit hd in
theorem State.switcher_selfTested (s : State) : (s.selfTested d [] []).switcher d = s.switcher d := by
  unfold State.selfTested
  split
  · rfl
  · split <;> rfl

theorem domainOnComplete_answers {mb : Nat} {j : Job} (hstate : (s.dom d).state = .switchingOn) (hswitcher : s.switcher d = some (mb, j)) (hmb : mb < 16) :
    Completes (.domainOnComplete t d [] [] true) s fun u => u.responds j.kind mb j.msg stOk [] ∧ (u.mbx mb).job = none := by
  have hby : ((s.tick t).selfTested d [] []).switcher d = some (mb, j) := (State.switcher_selfTested _).trans hswitcher
  have hexec := exec_domainOnComplete (t := t) (repairs := []) (bad := []) (ok := true) hd hstate
  rw [if_pos rfl, State.domainOn, hby] at hexec
  generalize (((s.tick t).selfTested d [] []).domTo d .on).unitsOn d (((s.tick t).selfTested d [] []).izent.devState == .ready) = v at hexec
  refine ⟨_, hexec, responds_settle _ (respond_rsp v mb (code j.kind) j.msg stOk [] (by omega) (.inl hmb)), ?_⟩
  obtain ⟨y, hy, hown⟩ := respond_own (s := v) (mb := mb) (cmd := code j.kind) (m := j.msg) (status := stOk) (p := [])
  have hends : endsJob (code j.kind) (v.mbx mb) = true := by rw [State.switcher_kind hswitcher]; rfl
  have hjob : ((v.respond mb (code j.kind) j.msg stOk []).mbx mb).job = none := by rw [hown]; exact hy.job.trans (if_pos hends)
  rw [(settle_records _ _).mail mb]
  exact hjob

end

/-! Faults and resets (R476, R481). -/

theorem State.failStages_none {s : State} (h : s.power.pfAt = none) : s.failStages = s := by rw [State.failStages, h]; rfl

theorem exec_domainFault {t : Time} {d cause : Nat} {s : State} (hd : d < 14) (hd0 : d ≠ 0) (hpf : s.power.pfAt = none) (hon : (s.dom d).state ≠ .off) :
    exec (.domainFault t d cause) s = .next (settle (s.tick t) (if d < 4 then ((s.tick t).record evDomainFault [p2 d, p1 cause]).resetTo 5 true
      else ((domDependents d).reverse.foldl (fun s e => s.cutDomain e) ((s.tick t).record evDomainFault [p2 d, p1 cause])).cutDomain d)) := by
  show execDomainFault t d cause s = _
  rw [execDomainFault, runIf_next (decide_eq_true hd)]
  dsimp only
  rw [State.failStages_none (s := s.tick t) hpf, if_neg (show ¬((s.tick t).dom d).state = .off from hon), if_neg hd0]

/-- Domains that are switched off one by one are off, and no other changes. -/
theorem State.cutDomains (l : List Nat) (s : State) :
    (∀ e ∈ l, ((l.foldl (fun s e => s.cutDomain e) s).dom e).state = .off) ∧ ∀ j, j ∉ l → (l.foldl (fun s e => s.cutDomain e) s).dom j = s.dom j := by
  refine ⟨foldl_establishes (P := fun (b : State) e => (b.dom e).state = .off) s (fun b e _ => (b.cutDomain_switches e).own) fun b y e _ hy => ?_, fun j hj => ?_⟩
  · by_cases hye : y = e
    · rw [hye]
      exact (b.cutDomain_switches e).own
    · rw [(b.cutDomain_switches e).others y hye]
      exact hy
  · exact foldl_keeps (P := fun (b : State) => b.dom j = s.dom j) (fun b hb e he => ((b.cutDomain_switches e).others j fun h => hj (h ▸ he)).trans hb) rfl

theorem domainFault_cuts {t : Time} {d cause : Nat} {s : State} (hd4 : 4 ≤ d) (hd : d < 14) (hpf : s.power.pfAt = none) (hon : (s.dom d).state ≠ .off) :
    Completes (.domainFault t d cause) s fun u => (u.dom d).state = .off ∧ (∀ e ∈ domDependents d, (u.dom e).state = .off) ∧ ∀ j, j ≠ d → j ∉ domDependents d → u.dom j = s.dom j := by
  have hexec := exec_domainFault (t := t) (cause := cause) hd (by omega) hpf hon
  rw [if_neg (by omega)] at hexec
  obtain ⟨hoff, hkept⟩ := State.cutDomains (domDependents d).reverse ((s.tick t).record evDomainFault [p2 d, p1 cause])
  generalize (domDependents d).reverse.foldl (fun s e => s.cutDomain e) ((s.tick t).record evDomainFault [p2 d, p1 cause]) = v at hexec hoff hkept
  have hcut := v.cutDomain_switches d
  refine ⟨_, hexec, ?_⟩
  simp only [State.dom_of_power (settle_power _ _)]
  refine ⟨hcut.own, fun e he => ?_, fun j hj hjd => ?_⟩
  · by_cases hed : e = d
    · rw [hed]
      exact hcut.own
    · rw [hcut.others e hed]
      exact hoff e (List.mem_reverse.mpr he)
  · rw [hcut.others j hj, hkept j (mt List.mem_reverse.mp hjd)]
    exact State.dom_of_power (State.record_power _ _ _) j

theorem State.allOff_core (s : State) : State.SameButDomains s s.allOff := .fold (fun s d => (s.cutDomain_switches d).toSameButDomains) _ s

theorem State.lockDebug_core (s : State) : State.SameCore { s with prot := { s.prot with unlockedAt := none } } s.lockDebug := by
  cases h : s.prot.unlockedAt with
  | none =>
    rw [State.lockDebug, if_neg (by rw [h]; decide), ← h]
    exact .refl s
  | some x => exact (State.lockDebug_same h).core

theorem State.timeFalls_core (s : State) : State.SameCore s s.timeFalls := by
  unfold State.timeFalls
  extract_lets held
  have hheld : State.SameCore s held := .ite (.refl s) (.record (.refl s) _ _)
  exact .ite (hheld.record _ _) hheld

theorem Map.get_indexed {α : Type} (d : α) (f : Nat → α) {l : List Nat} {k : Nat} (h : k ∈ l) : Map.get d (l.map fun i => (i, f i)) k = f k := by
  induction l with
  | nil => cases h
  | cons i l ih =>
    by_cases hi : i = k
    · subst hi
      exact if_pos rfl
    · exact (if_neg hi).trans (ih ((List.mem_cons.mp h).resolve_left (Ne.symm hi)))

/-- The domains that a reset leaves: PD_AON as `aon` says, every other off. -/
theorem State.cleared_dom (s : State) (aon : Bool) {j : Nat} (hj : 1 ≤ j) (hj' : j < 14) : ((s.cleared aon).dom j).state = .off := by
  have hdom : (s.cleared aon).dom j = { state := if j = 0 && aon then .on else .off, intended := (s.dom j).intended, since := s.clk } :=
    Map.get_indexed _ (fun d => ({ state := if d = 0 && aon then .on else .off, intended := (s.dom d).intended, since := s.clk } : Domain)) (List.mem_range.mpr hj')
  rw [hdom, decide_eq_false (by omega : ¬j = 0)]
  rfl

theorem State.cleared_devState (s : State) (aon : Bool) : (s.cleared aon).izent.devState = .boot := rfl

theorem State.cleared_recovering (s : State) (aon : Bool) : (s.cleared aon).health.recovering = [] := rfl

theorem State.cleared_startFailures (s : State) (aon : Bool) : (s.cleared aon).power.startFailures = s.power.startFailures := rfl

/-- A reset of `s` for a cause, which keeps PD_AON, has led to `u` (R481). -/
structure State.IsReset (cause : Nat) (cold : Bool) (s u : State) : Prop where
  devState : u.izent.devState = .boot
  cause : u.power.resetCause = some (cause, s.now)
  forceCold : u.power.forceCold = (s.power.forceCold || cold)
  startFailures : u.power.startFailures = s.power.startFailures
  recovering : u.health.recovering = []
  off : ∀ j, 1 ≤ j → j < 14 → (u.dom j).state = .off

/-- The state that a reset clears: debug has locked, device time fell, no command is answered, the domains are off (R448, R481). -/
def State.beforeClear (s : State) : State := { s.lockDebug.timeFalls with izent := { s.lockDebug.timeFalls.izent with mbx := [] } }.allOff

/-- A cleared state notes what reset it, and starts if a feed is there. -/
def State.startsAgain (c : State) (cause now : Nat) (cold : Bool) : State := { c with power := { c.power with resetCause := some (cause, now), forceCold := cold } }.beginStart

theorem State.resetNow_eq (s : State) (cause : Nat) (cold : Bool) : s.resetNow cause cold = (s.beforeClear.cleared true).startsAgain cause s.beforeClear.now (s.beforeClear.power.forceCold || cold) := by
  simp only [State.resetNow, State.startsAgain, State.beforeClear]

theorem State.beforeClear_keeps (s : State) : s.beforeClear.now = s.now ∧ s.beforeClear.power.forceCold = s.power.forceCold ∧ s.beforeClear.power.startFailures = s.power.startFailures := by
  have hfallen : State.SameCore { s with prot := { s.prot with unlockedAt := none } } s.lockDebug.timeFalls := s.lockDebug_core.trans (State.timeFalls_core _)
  unfold State.beforeClear
  generalize s.lockDebug.timeFalls = v at hfallen
  have hoff := State.allOff_core { v with izent := { v.izent with mbx := [] } }
  have htime := hoff.time
  have hrest := hoff.rest
  generalize State.allOff _ = w at htime hrest ⊢
  refine ⟨?_, ?_, ?_⟩
  · rw [State.now, htime]
    exact congrArg TimeState.now hfallen.time
  · rw [hrest]
    exact hfallen.forceCold
  · rw [hrest]
    exact hfallen.startFailures

theorem State.startsAgain_keeps (c : State) (cause now : Nat) (cold : Bool) : (c.startsAgain cause now cold).izent = c.izent ∧ (c.startsAgain cause now cold).health = c.health ∧
    (∀ j, (c.startsAgain cause now cold).dom j = c.dom j) ∧ (c.startsAgain cause now cold).power.resetCause = some (cause, now) ∧ (c.startsAgain cause now cold).power.forceCold = cold ∧
    (c.startsAgain cause now cold).power.startFailures = c.power.startFailures := by
  unfold State.startsAgain State.beginStart
  split <;> exact ⟨rfl, rfl, fun _ => rfl, rfl, rfl, rfl⟩

theorem State.resetNow_isReset (s : State) (cause : Nat) (cold : Bool) : State.IsReset cause cold s (s.resetNow cause cold) := by
  rw [State.resetNow_eq]
  obtain ⟨hnow, hcold, hfailures⟩ := s.beforeClear_keeps
  obtain ⟨kizent, khealth, kdom, kcause, kcold, kfailures⟩ := (s.beforeClear.cleared true).startsAgain_keeps cause s.beforeClear.now (s.beforeClear.power.forceCold || cold)
  refine ⟨by rw [kizent, State.cleared_devState], by rw [kcause, hnow], by rw [kcold, hcold], by rw [kfailures, State.cleared_startFailures, hfailures], by rw [khealth, State.cleared_recovering], fun j hj hj' => ?_⟩
  rw [kdom]
  exact State.cleared_dom _ true hj hj'

theorem State.IsReset.settle {cause : Nat} {cold : Bool} {s u : State} (h : State.IsReset cause cold s u) (a : State) : State.IsReset cause cold s (settle a u) where
  devState := (settle_devState a u).trans h.devState
  cause := by rw [settle_power]; exact h.cause
  forceCold := by rw [settle_power]; exact h.forceCold
  startFailures := by rw [settle_power]; exact h.startFailures
  recovering := by rw [settle_health]; exact h.recovering
  off j hj hj' := by rw [State.dom_of_power (settle_power a u)]; exact h.off j hj hj'

theorem State.resetTo_isReset {s : State} (hpf : s.power.pfAt = none) (cause : Nat) (cold : Bool) : State.IsReset cause cold s (s.resetTo cause cold) := by
  rw [State.resetTo, if_neg (by rw [hpf]; decide)]
  exact s.resetNow_isReset cause cold

theorem domainFault_resets {t : Time} {d cause : Nat} {s : State} (hd1 : 1 ≤ d) (hd : d < 4) (hpf : s.power.pfAt = none) (hon : (s.dom d).state ≠ .off) :
    Completes (.domainFault t d cause) s fun u => u.izent.devState = .boot ∧ u.power.resetCause = some (5, (s.tick t).now) ∧ u.power.forceCold = true ∧ ∀ j, 1 ≤ j → j < 14 → (u.dom j).state = .off := by
  have hexec := exec_domainFault (t := t) (cause := cause) (by omega) (by omega) hpf hon
  rw [if_pos hd] at hexec
  have hcore : State.SameCore (s.tick t) ((s.tick t).record evDomainFault [p2 d, p1 cause]) := .record (.refl _) _ _
  have hreset := (State.resetTo_isReset (hcore.pfAt.trans hpf) 5 true).settle (s.tick t)
  refine ⟨_, hexec, hreset.devState, ?_, by rw [hreset.forceCold, Bool.or_true], hreset.off⟩
  rw [hreset.cause]
  exact congrArg (fun n => some (5, n)) (congrArg TimeState.now hcore.time)

/-- Settles O39: a domain's switching off and on, and the two kinds of fault. -/
theorem domainEventsComplete : Obligations.DomainEventsComplete := by
  unfold Obligations.DomainEventsComplete
  exact ⟨fun t d s hd => domainOffComplete_off hd, fun t d repairs bad s hd hstate => ⟨domainOnComplete_on hd hstate, domainOnComplete_fails hd hstate⟩,
    fun t d mb j s hd => domainOnComplete_answers hd, fun t d cause s => domainFault_cuts, fun t d cause s => domainFault_resets⟩

end Sys2Proof.Machine
end

section
/-! PROOFS of the claim on the start-up (spec/17_power.md R463, R477–R480): a step that ends in time is noted, one that fails or is late is followed by a cold start or FAULT. -/

namespace Sys2Proof.Machine

theorem powerRun_next {t : Time} {s : State} (hpf : s.power.pfAt = none) (f : State → State) : powerRun t s f = .next (settle (s.tick t) (f (s.tick t))) := by
  rw [powerRun, run_next, State.failStages_none (s := s.tick t) hpf]

/-- What the start-up does with a step that ends in time (R478). -/
def State.stepEnds (s : State) (o : StartObs) : State :=
  if s.power.stage + 1 = 1 then
    match s.firstFeed with
    | none => s.powerFail
    | some f => { s.startLoad f o.temp with power := { (s.startLoad f o.temp).power with stage := 1, stageAt := (s.startLoad f o.temp).clk } }
  else if (s.startStep (s.power.stage + 1) o).upd.bootRom || decide (s.power.stage + 1 ≥ 9) then s.startStep (s.power.stage + 1) o
  else { s.startStep (s.power.stage + 1) o with power := { (s.startStep (s.power.stage + 1) o).power with stage := s.power.stage + 1, stageAt := (s.startStep (s.power.stage + 1) o).clk } }

section
variable {t t0 : Time} {o : StartObs} {s : State} (hpf : s.power.pfAt = none) (hstart : s.power.startedAt = some t0)
include hpf hstart

theorem exec_startUp_fails (hok : o.ok = false) : exec (.startUp t o) s = .next (settle (s.tick t) ((s.tick t).startFailed (s.power.stage + 1))) := by
  have hstarted : (s.tick t).power.startedAt.isNone = false := by rw [show (s.tick t).power = s.power from rfl, hstart]; rfl
  show execStartUp t o s = _
  rw [execStartUp, powerRun_next hpf]
  simp only [hstarted, hok, Bool.not_false, Bool.true_or, Bool.false_eq_true, if_false, if_true]
  rfl

theorem exec_startUp_ends (hok : o.ok = true) (hbound : (s.tick t).clk ≤ s.power.stageAt + stepBound (s.power.stage + 1) s.power.warm * 1000000) :
    exec (.startUp t o) s = .next (settle (s.tick t) ((s.tick t).stepEnds o)) := by
  have hstarted : (s.tick t).power.startedAt.isNone = false := by rw [show (s.tick t).power = s.power from rfl, hstart]; rfl
  have hintime : decide ((s.tick t).power.stageAt + stepBound ((s.tick t).power.stage + 1) (s.tick t).power.warm * ms < (s.tick t).clk) = false := decide_eq_false (Nat.not_lt.mpr hbound)
  show execStartUp t o s = _
  rw [execStartUp, powerRun_next hpf]
  simp only [hstarted, hok, hintime, Bool.not_true, Bool.false_and, Bool.false_or, Bool.false_eq_true, if_false]
  rfl

end

/-! Step 1 (R463, R477). -/

theorem State.startsWarm_of {a b : State} (hdram : b.dram = a.dram) (hkept : b.power.aonKept = a.power.aonKept) (hcold : b.power.forceCold = a.power.forceCold) (temp : Int) : b.startsWarm temp = a.startsWarm temp := by
  have hchannel (c : Nat) : b.channel c = a.channel c := by rw [State.channel, State.channel, hdram]
  rw [State.startsWarm, State.startsWarm, hkept, hcold, hdram]
  simp only [hchannel]

theorem State.startLoad_power (s : State) (f : Nat) (temp : Int) : (s.startLoad f temp).power.holder = some (s.power.holder.getD f) ∧ ((s.startLoad f temp).dom 0).state = .on ∧ (s.startLoad f temp).power.warm = s.startsWarm temp := by
  unfold State.startLoad
  extract_lets h timed powered warm power time
  have htimed : timed.power = s.power ∧ timed.dram = s.dram := by
    simp only [timed]
    split <;> exact ⟨rfl, rfl⟩
  have hpowered : State.SameButDomains timed powered ∧ (powered.dom 0).state = .on := by
    simp only [powered]
    split
    · exact ⟨.refl timed, ‹_›⟩
    · exact ⟨(timed.domTo_switches 0 .on).toSameButDomains, (timed.domTo_switches 0 .on).own⟩
  obtain ⟨hpower, hdram⟩ := htimed
  obtain ⟨hsame, hon⟩ := hpowered
  refine ⟨rfl, hon, State.startsWarm_of (hsame.dram.trans hdram) ?_ (hsame.forceCold.trans (congrArg Power.forceCold hpower)) temp⟩
  rw [hsame.rest, hpower]

theorem startUp_loads {t t0 : Time} {o : StartObs} {f : Nat} {s : State} (hpf : s.power.pfAt = none) (hstart : s.power.startedAt = some t0) (hstage : s.power.stage = 0) (hok : o.ok = true)
    (hbound : (s.tick t).clk ≤ s.power.stageAt + 5000000) (hfeed : (s.tick t).firstFeed = some f) :
    Completes (.startUp t o) s fun u => u.power.stage = 1 ∧ u.power.holder = some (s.power.holder.getD f) ∧ (u.dom 0).state = .on ∧ u.power.warm = (s.tick t).startsWarm o.temp := by
  have hexec := exec_startUp_ends (t := t) hpf hstart hok (by simpa [hstage, stepBound] using hbound)
  have hfirst : (s.tick t).stepEnds o = { (s.tick t).startLoad f o.temp with power := { ((s.tick t).startLoad f o.temp).power with stage := 1, stageAt := ((s.tick t).startLoad f o.temp).clk } } := by
    rw [State.stepEnds, if_pos (by rw [show (s.tick t).power.stage = 0 from hstage]), hfeed]
  obtain ⟨hholder, hon, hwarm⟩ := (s.tick t).startLoad_power f o.temp
  rw [hfirst] at hexec
  refine ⟨_, hexec, ?_⟩
  simp only [State.dom_of_power (settle_power _ _), settle_power]
  exact ⟨trivial, hholder, hon, hwarm⟩

/-! Steps 2 to 9 (R478, R525). -/

theorem stepEnds_later {s : State} {o : StartObs} (hstage : s.power.stage ≠ 0) (hrom : (s.startStep (s.power.stage + 1) o).upd.bootRom = false) (hlast : s.power.stage + 1 < 9) :
    (s.stepEnds o).power.stage = s.power.stage + 1 := by
  rw [State.stepEnds, if_neg (by omega), if_neg (by simp only [hrom, Bool.false_or, decide_eq_true_eq]; omega)]

theorem stepEnds_last {s : State} {o : StartObs} (hstage : s.power.stage = 8) : s.stepEnds o = s.startEnds := by
  rw [State.stepEnds, if_neg (by omega), decide_eq_true (show s.power.stage + 1 ≥ 9 by omega), Bool.or_true, if_pos rfl, hstage]
  rfl

theorem startUp_notes {t t0 : Time} {o : StartObs} {n : Nat} {s : State} (hpf : s.power.pfAt = none) (hstart : s.power.startedAt = some t0) (hstage : s.power.stage + 1 = n) (hn : 2 ≤ n) (hn' : n ≤ 8) (hok : o.ok = true)
    (hbound : (s.tick t).clk ≤ s.power.stageAt + stepBound n s.power.warm * 1000000) (hrom : ((s.tick t).startStep n o).upd.bootRom = false) : Completes (.startUp t o) s fun u => u.power.stage = n := by
  subst hstage
  refine ⟨_, exec_startUp_ends hpf hstart hok hbound, ?_⟩
  show (settle _ _).power.stage = _
  rw [settle_power]
  exact stepEnds_later (s := s.tick t) (show s.power.stage ≠ 0 by omega) hrom (show s.power.stage + 1 < 9 by omega)

theorem State.planAtReady_keeps (s : State) : s.planAtReady.power = s.power ∧ s.planAtReady.izent = s.izent := by
  unfold State.planAtReady
  split
  · exact ⟨rfl, rfl⟩
  · dsimp only
    split <;> exact ⟨rfl, rfl⟩

theorem startUp_ready {t t0 : Time} {o : StartObs} {s : State} (hpf : s.power.pfAt = none) (hstart : s.power.startedAt = some t0) (hstage : s.power.stage = 8) (hok : o.ok = true)
    (hbound : (s.tick t).clk ≤ s.power.stageAt + 100000000) (hgood : ∀ i < 8, (s.image i).good = true) :
    Completes (.startUp t o) s fun u => u.izent.devState = .ready ∧ u.power.startedAt = none ∧ u.power.startFailures = 0 ∧ u.power.readyAt = (s.tick t).clk := by
  have hexec := exec_startUp_ends (t := t) hpf hstart hok (by simpa [hstage, stepBound] using hbound)
  rw [stepEnds_last (s := s.tick t) hstage] at hexec
  refine ⟨_, hexec, ?_⟩
  simp only [settle_devState, settle_power]
  unfold State.startEnds
  extract_lets took power ended izent ready
  have hall : ((List.range 8).all fun i => (ended.image i).good) = true := List.all_eq_true.mpr fun i hi => hgood i (List.mem_range.mp hi)
  rw [if_pos hall]
  obtain ⟨hpower, hizent⟩ := (ready.record evStartComplete [p1 (if ready.power.warm = true then 1 else 0), p4 took]).planAtReady_keeps
  rw [hpower, hizent, State.record_power, State.record_devState]
  exact ⟨show ready.izent.devState = .ready from rfl, show ready.power.startedAt = none from rfl, show ready.power.startFailures = 0 from rfl, show ready.power.readyAt = (s.tick t).clk from rfl⟩

/-! Failures (R480). -/

/-- The state in which a failed step is counted. -/
def State.stepFailed (s : State) (n : Nat) : State :=
  { s.record evStartFailed [p1 n] with power := { (s.record evStartFailed [p1 n]).power with startFailures := (s.record evStartFailed [p1 n]).power.startFailures + 1 } }

theorem State.startFailed_again {s : State} (n : Nat) (hpf : s.power.pfAt = none) (hfailures : s.power.startFailures = 0) :
    (s.startFailed n).izent.devState = .boot ∧ (s.startFailed n).power.startFailures = 1 ∧ (s.startFailed n).power.forceCold = true ∧ (s.startFailed n).power.resetCause = some (6, s.now) := by
  have hcount : (s.record evStartFailed [p1 n]).power.startFailures = 0 := by rw [State.record_power, hfailures]
  have hagain : s.startFailed n = (s.stepFailed n).resetTo 6 true := by
    rw [State.startFailed]
    dsimp only
    rw [if_neg (by rw [hcount]; decide)]
    rfl
  have hreset := State.resetTo_isReset (s := s.stepFailed n) (by rw [State.stepFailed, State.record_power]; exact hpf) 6 true
  have htime : (s.stepFailed n).time = s.time := by rw [State.stepFailed, State.record_time]
  rw [hagain, hreset.devState, hreset.cause, hreset.forceCold, hreset.startFailures, Bool.or_true, State.now, htime]
  exact ⟨rfl, congrArg (· + 1) hcount, rfl, rfl⟩

theorem State.startFailed_last {s : State} (n : Nat) (hfailures : 1 ≤ s.power.startFailures) : (s.startFailed n).izent.devState = .fault ∧ (s.startFailed n).power.startedAt = none := by
  rw [State.startFailed]
  dsimp only
  rw [if_pos (by rw [State.record_power]; omega)]
  exact ⟨rfl, rfl⟩

theorem exec_startStepTimeout {t t0 : Time} {stage : Nat} {s : State} (hpf : s.power.pfAt = none) (hstart : s.power.startedAt = some t0) (hstage : s.power.stage + 1 = stage)
    (hlate : s.power.stageAt + stepBound stage s.power.warm * 1000000 < (s.tick t).clk) : exec (.startStepTimeout t stage) s = .next (settle (s.tick t) ((s.tick t).startFailed stage)) := by
  have hstarted : (s.tick t).power.startedAt.isSome = true := by rw [show (s.tick t).power = s.power from rfl, hstart]; rfl
  have hdue : decide ((s.tick t).power.stage + 1 = stage) = true := decide_eq_true hstage
  have hpast : decide ((s.tick t).power.stageAt + stepBound stage (s.tick t).power.warm * ms < (s.tick t).clk) = true := decide_eq_true hlate
  show execStartStepTimeout t stage s = _
  rw [execStartStepTimeout, powerRun_next hpf]
  simp only [hstarted, hdue, hpast, Bool.and_self, if_true]

/-- Settles O41: the first step, a later step, the last step; and a step that fails or is late, once and again. -/
theorem startUpCompletes : Obligations.StartUpCompletes := by
  unfold Obligations.StartUpCompletes
  refine ⟨fun t t0 o f s => startUp_loads, fun t t0 o n s => startUp_notes, fun t t0 o s => startUp_ready, fun t t0 o s hpf hstart hok hfailures => ?_, fun t t0 o s hpf hstart hok hfailures => ?_,
    fun t t0 stage s hpf hstart hstage hlate hfailures => ?_⟩
  · refine ⟨_, exec_startUp_fails hpf hstart hok, ?_⟩
    simp only [settle_devState, settle_power]
    exact (s.tick t).startFailed_again _ hpf hfailures
  · refine ⟨_, exec_startUp_fails hpf hstart hok, ?_⟩
    simp only [settle_devState, settle_power]
    exact (s.tick t).startFailed_last _ hfailures
  · refine ⟨_, exec_startStepTimeout hpf hstart hstage hlate, ?_⟩
    simp only [settle_devState, settle_power]
    obtain ⟨hdev, hcount, hcold, -⟩ := (s.tick t).startFailed_again stage hpf hfailures
    exact ⟨hdev, hcount, hcold⟩

end Sys2Proof.Machine
end

section
/-! PROOFS of the claim on feeds, the front-ends and the keep-alive supply (spec/17_power.md R462–R469, R478, R481). -/

namespace Sys2Proof.Machine

theorem State.feed_of_power {a b : State} (h : b.power = a.power) (f : Nat) : b.feed f = a.feed f := by simp only [State.feed, h]

theorem State.feed_setFeed_other (s : State) {f j : Nat} (x : Feed) (h : j ≠ f) : (s.setFeed f x).feed j = s.feed j := Map.get_set_other _ _ _ h

/-- `b` is `a` with other feeds, and with what has been recorded. -/
structure State.SameButFeeds (a b : State) : Prop where
  time : b.time = a.time
  upd : b.upd = a.upd
  devState : b.izent.devState = a.izent.devState
  rest : b.power = { a.power with feeds := b.power.feeds }

namespace State.SameButFeeds
variable {a b c : State}

theorem trans (h : State.SameButFeeds a b) (k : State.SameButFeeds b c) : State.SameButFeeds a c where
  time := k.time.trans h.time
  upd := k.upd.trans h.upd
  devState := k.devState.trans h.devState
  rest := k.rest.trans (by rw [h.rest])

theorem setFeed (s : State) (f : Nat) (x : Feed) : State.SameButFeeds s (s.setFeed f x) := by constructor <;> rfl

theorem of_units (h : State.SameUnits a b) : State.SameButFeeds a b := ⟨h.time, h.upd, h.devState, by rw [h.power]⟩

theorem clk (h : State.SameButFeeds a b) : b.clk = a.clk := by rw [State.clk, h.time]; rfl

theorem dom (h : State.SameButFeeds a b) (d : Nat) : b.dom d = a.dom d := by rw [State.dom, h.rest]; rfl

theorem pfAt (h : State.SameButFeeds a b) : b.power.pfAt = a.power.pfAt := by rw [h.rest]

theorem holder (h : State.SameButFeeds a b) : b.power.holder = a.power.holder := by rw [h.rest]

theorem startedAt (h : State.SameButFeeds a b) : b.power.startedAt = a.power.startedAt := by rw [h.rest]

theorem handovers (h : State.SameButFeeds a b) : b.power.handovers = a.power.handovers := by rw [h.rest]

end State.SameButFeeds

/-! One feed (R462). -/

/-- A feed whose qualification period has ended by `at_`. -/
def Feed.qualifies (x : Feed) (at_ : Time) : Prop := x.cond = .present ∧ ∃ t, x.inRange = some t ∧ t + 100 * ms ≤ at_

theorem State.qualify_same {s : State} {f : Nat} {at_ : Time} (h : (s.feed f).qualifies at_) : State.SameUnits (s.setFeed f { s.feed f with cond := .qualified, fault := false }) (s.qualify f at_) := by
  obtain ⟨hcond, t, ht, hdue⟩ := h
  unfold State.qualify
  simp only [ht]
  rw [decide_eq_true hcond, decide_eq_true hdue, Bool.and_self, if_pos rfl]
  exact State.record_same _ _ _

theorem State.qualify_none {s : State} {f : Nat} {at_ : Time} (h : (s.feed f).cond ≠ .present) : s.qualify f at_ = s := by
  unfold State.qualify
  dsimp only
  split
  · rw [decide_eq_false h, Bool.false_and, if_neg Bool.false_ne_true]
  · rfl

theorem State.qualify_others (s : State) (f : Nat) (at_ : Time) : State.SameButFeeds s (s.qualify f at_) ∧ ∀ j, j ≠ f → (s.qualify f at_).feed j = s.feed j := by
  have hkeep : State.SameButFeeds s s := ⟨rfl, rfl, rfl, rfl⟩
  unfold State.qualify
  dsimp only
  split
  · split
    · refine ⟨.trans (.setFeed s f _) (.of_units (State.record_same _ _ _)), fun j hj => ?_⟩
      rw [State.feed_of_power (State.record_power _ _ _), State.feed_setFeed_other _ _ hj]
    · exact ⟨hkeep, fun _ _ => rfl⟩
  · exact ⟨hkeep, fun _ _ => rfl⟩

/-- Both feeds have had their qualification period looked at. -/
def State.qualifyBoth (s : State) : State := (s.qualify 0 s.clk).qualify 1 s.clk

theorem State.qualifyBoth_others (s : State) : State.SameButFeeds s s.qualifyBoth := (s.qualify_others 0 _).1.trans (State.qualify_others _ 1 _).1

theorem State.qualifyBoth_feed {s : State} {f : Nat} (hf : f < 2) (h : (s.feed f).qualifies s.clk) : s.qualifyBoth.feed f = { s.feed f with cond := .qualified, fault := false } := by
  have hother := (s.qualify_others 0 s.clk).2
  unfold State.qualifyBoth
  obtain rfl | rfl : f = 0 ∨ f = 1 := by omega
  · rw [(State.qualify_others _ 1 _).2 0 (by decide), State.feed_of_power (State.qualify_same h).power, State.feed_setFeed]
  · have hfeed := hother 1 (by decide)
    have hq : ((s.qualify 0 s.clk).feed 1).qualifies s.clk := by rw [hfeed]; exact h
    rw [State.feed_of_power (State.qualify_same hq).power, State.feed_setFeed, hfeed]

theorem State.beginStart_feed (s : State) (f : Nat) : s.beginStart.feed f = s.feed f := by
  unfold State.beginStart
  split <;> rfl

theorem State.beginStart_starts {s : State} {f : Nat} (hf : f < 2) (hok : s.feedOk f = true) (hnone : s.power.startedAt = none) : s.beginStart.power.startedAt = some s.clk ∧ s.beginStart.power.stage = 0 := by
  have hany : (s.feedOk 0 || s.feedOk 1) = true := by
    obtain rfl | rfl : f = 0 ∨ f = 1 := by omega
    · rw [hok, Bool.true_or]
    · rw [hok, Bool.or_true]
  rw [State.beginStart, if_pos (by rw [hany, hnone]; rfl)]
  exact ⟨rfl, rfl⟩

/-- Every domain but PD_AON is off. -/
def State.onlyAon (s : State) : Bool := (List.range 13).all fun d => (s.dom (d + 1)).state == .off

section
variable {t t0 : Time} {f : Nat} {s : State} (hf : f < 2) (hpf : s.power.pfAt = none) (hcond : (s.feed f).cond = .present) (hrange : (s.feed f).inRange = some t0) (hdue : t0 + 100000000 ≤ (s.tick t).clk)
include hpf

theorem exec_feedQualifyTimer : exec (.feedQualifyTimer t) s = .next (settle (s.tick t)
    (if ((s.tick t).qualifyBoth.power.pfAt.isNone && (s.tick t).qualifyBoth.onlyAon) = true then
      (if ((s.tick t).qualifyBoth.izent.devState = .boot && !(s.tick t).qualifyBoth.upd.bootRom) = true then (s.tick t).qualifyBoth.beginStart else (s.tick t).qualifyBoth) else (s.tick t).qualifyBoth)) := by
  show execFeedQualifyTimer t s = _
  rw [execFeedQualifyTimer, powerRun_next hpf]
  dsimp only
  rw [← State.qualifyBoth]
  generalize (s.tick t).qualifyBoth = v
  rfl

include hf hcond hrange hdue

theorem feedQualifyTimer_qualifies : Completes (.feedQualifyTimer t) s fun u => (u.feed f).cond = .qualified ∧ (u.feed f).fault = false := by
  have hfeed := State.qualifyBoth_feed (s := s.tick t) hf ⟨hcond, t0, hrange, hdue⟩
  refine ⟨_, exec_feedQualifyTimer hpf, ?_⟩
  simp only [State.feed_of_power (settle_power _ _)]
  split
  · split
    · rw [State.beginStart_feed, hfeed]
      exact ⟨rfl, rfl⟩
    · rw [hfeed]
      exact ⟨rfl, rfl⟩
  · rw [hfeed]
    exact ⟨rfl, rfl⟩

theorem feedQualifyTimer_starts (hoff : ∀ d, 1 ≤ d → d < 14 → (s.dom d).state = .off) (hboot : s.izent.devState = .boot) (hrom : s.upd.bootRom = false) (hnone : s.power.startedAt = none) :
    Completes (.feedQualifyTimer t) s fun u => u.power.startedAt = some (s.tick t).clk ∧ u.power.stage = 0 := by
  have hfeed := State.qualifyBoth_feed (s := s.tick t) hf ⟨hcond, t0, hrange, hdue⟩
  have hsame := (s.tick t).qualifyBoth_others
  have hexec := exec_feedQualifyTimer (t := t) hpf
  generalize (s.tick t).qualifyBoth = v at hfeed hsame hexec
  have haon : v.onlyAon = true := List.all_eq_true.mpr fun d hd => by
    rw [hsame.dom, beq_iff_eq]
    exact hoff (d + 1) (by omega) (by have := List.mem_range.mp hd; omega)
  have hgo : (decide (v.izent.devState = .boot) && !v.upd.bootRom) = true := by rw [hsame.devState, hsame.upd, Bool.and_eq_true]; exact ⟨decide_eq_true hboot, by rw [Bool.not_eq_true']; exact hrom⟩
  rw [if_pos (by rw [haon, hsame.pfAt, show (s.tick t).power.pfAt = none from hpf]; rfl), if_pos hgo] at hexec
  have hok : v.feedOk f = true := by rw [State.feedOk, hfeed]; rfl
  refine ⟨_, hexec, ?_⟩
  simp only [settle_power, ← hsame.clk]
  exact State.beginStart_starts hf hok (hsame.startedAt.trans hnone)

end

/-! The voltage of both feeds (R462, R464–R467). -/

theorem State.feedTo_others (s : State) (f mv elapsed : Nat) : State.SameButFeeds s (s.feedTo f mv elapsed) ∧ ∀ j, j ≠ f → (s.feedTo f mv elapsed).feed j = s.feed j := by
  have hset (x : Feed) : State.SameButFeeds s (s.setFeed f x) ∧ ∀ j, j ≠ f → (s.setFeed f x).feed j = s.feed j := ⟨.setFeed s f x, fun j hj => s.feed_setFeed_other x hj⟩
  unfold State.feedTo
  extract_lets x outside good y
  split
  · obtain ⟨hsame, hother⟩ := hset { y with cond := .lost, inRange := none }
    exact ⟨hsame.trans (.of_units (State.record_same _ _ _)), fun j hj => (State.feed_of_power (State.record_power _ _ _) j).trans (hother j hj)⟩
  · split
    · exact hset _
    · exact hset _

/-- A voltage at which a feed is lost. -/
def feedOutside (mv : Nat) : Prop := mv < 7500 ∨ 21000 < mv

theorem State.feedTo_lost {s : State} {f mv elapsed : Nat} (hmv : feedOutside mv) (helapsed : 200 ≤ elapsed) : ((s.feedTo f mv elapsed).feed f).cond = .lost := by
  unfold State.feedTo
  extract_lets x outside good y
  have houtside : outside = true := by
    simp only [outside, Bool.or_eq_true, decide_eq_true_eq]
    exact hmv
  by_cases hlost : y.cond = .lost
  · rw [houtside, hlost]
    simp only [Bool.not_true, Bool.false_and, bne_self_eq_false, Bool.and_false, Bool.false_eq_true, if_false, State.feed_setFeed]
    exact hlost
  · rw [if_pos (by rw [houtside, decide_eq_true helapsed, Bool.and_self, Bool.true_and]; exact bne_iff_ne.mpr hlost), State.feed_of_power (State.record_power _ _ _), State.feed_setFeed]

theorem State.feedTo_within {s : State} {f mv elapsed : Nat} (hlow : 8000 ≤ mv) (hhigh : mv ≤ 20000) (hcond : (s.feed f).cond ≠ .lost) :
    ((s.feedTo f mv elapsed).feed f).cond = (s.feed f).cond ∧ ((s.feedTo f mv elapsed).feed f).fault = (s.feed f).fault := by
  unfold State.feedTo
  extract_lets x outside good y
  have houtside : outside = false := by
    simp only [outside, Bool.or_eq_false_iff, decide_eq_false_iff_not]
    omega
  have hy : ¬y.cond = .lost := hcond
  rw [houtside]
  simp only [Bool.false_and, Bool.false_eq_true, if_false, Bool.not_false, Bool.true_and, decide_eq_true_eq, if_neg hy, State.feed_setFeed]
  exact ⟨rfl, rfl⟩

/-- Both feeds take their voltages. -/
def State.feedsTo (s : State) (a b elapsed : Nat) : State := (s.feedTo 0 a elapsed).feedTo 1 b elapsed

theorem State.feedsTo_others (s : State) (a b elapsed : Nat) : State.SameButFeeds s (s.feedsTo a b elapsed) := (s.feedTo_others 0 a elapsed).1.trans (State.feedTo_others _ 1 b elapsed).1

/-- Each feed takes its own voltage, whatever the other does. -/
theorem State.feedsTo_feed (s : State) {h : Nat} (hh : h < 2) (x y elapsed : Nat) : ∃ v w : State, v.feed h = s.feed h ∧ w.feed (1 - h) = s.feed (1 - h) ∧
    (s.feedsTo (if h = 0 then x else y) (if h = 0 then y else x) elapsed).feed h = (v.feedTo h x elapsed).feed h ∧
    (s.feedsTo (if h = 0 then x else y) (if h = 0 then y else x) elapsed).feed (1 - h) = (w.feedTo (1 - h) y elapsed).feed (1 - h) := by
  obtain rfl | rfl : h = 0 ∨ h = 1 := by omega
  · exact ⟨s, s.feedTo 0 x elapsed, rfl, (s.feedTo_others 0 x elapsed).2 1 (by decide), (State.feedTo_others _ 1 y elapsed).2 0 (by decide), rfl⟩
  · exact ⟨s.feedTo 0 y elapsed, s, (s.feedTo_others 0 y elapsed).2 1 (by decide), rfl, rfl, (State.feedTo_others _ 1 x elapsed).2 0 (by decide)⟩

section
variable {t : Time} {h : Nat} {s : State} (hh : h < 2) (hpf : s.power.pfAt = none) (hholder : s.power.holder = some h)
include hpf hholder

theorem exec_feedVoltageChange {a b elapsed : Nat} (hlost : (((s.tick t).feedsTo a b elapsed).feed h).cond = .lost) (hstandby : (((s.tick t).feedsTo a b elapsed).feed (1 - h)).cond ≠ .present) :
    exec (.feedVoltageChange t a b elapsed) s = .next (settle (s.tick t) (((s.tick t).feedsTo a b elapsed).mustStop h 0)) := by
  show execFeedVoltageChange t a b elapsed s = _
  rw [execFeedVoltageChange, powerRun_next hpf]
  dsimp only
  rw [← State.feedsTo]
  have hheld : ((s.tick t).feedsTo a b elapsed).power.holder = some h := ((s.tick t).feedsTo_others a b elapsed).holder.trans hholder
  generalize (s.tick t).feedsTo a b elapsed = v at hlost hstandby hheld
  rw [hheld]
  dsimp only
  rw [hlost, if_neg (by decide), State.qualify_none hstandby]

omit hpf hholder in
theorem State.handover_power (s : State) (next cause : Nat) : (s.handover next cause).power =
    { s.power with holder := some next, ilk := next == 1, copies := 0, missed := 0, handovers := (s.power.handovers + 1) % 4294967296 } := State.record_power _ _ _

include hh

theorem feedVoltageChange_handsOver {lost held elapsed : Nat} (hlost : feedOutside lost) (helapsed : 200 ≤ elapsed) (hcond : (s.feed (1 - h)).cond = .qualified) (hfault : (s.feed (1 - h)).fault = false)
    (hlow : 8000 ≤ held) (hhigh : held ≤ 20000) :
    Completes (.feedVoltageChange t (if h = 0 then lost else held) (if h = 0 then held else lost) elapsed) s fun u => u.power.holder = some (1 - h) ∧ u.power.ilk = (1 - h == 1) ∧
      u.power.handovers = (s.power.handovers + 1) % 4294967296 ∧ (u.feed h).cond = .lost ∧ u.power.pfAt = none ∧ u.izent.devState = s.izent.devState := by
  obtain ⟨v, w, hv, hw, hlostTo, hheldTo⟩ := (s.tick t).feedsTo_feed hh lost held elapsed
  have hgone := hlostTo ▸ State.feedTo_lost (s := v) (f := h) hlost helapsed
  have hw' : (w.feed (1 - h)).cond = .qualified := by rw [hw]; exact hcond
  obtain ⟨hstays, hsound⟩ := State.feedTo_within (s := w) (f := 1 - h) (elapsed := elapsed) hlow hhigh (by rw [hw']; decide)
  rw [← hheldTo, hw'] at hstays
  rw [← hheldTo, hw] at hsound
  have hexec := exec_feedVoltageChange (t := t) hpf hholder hgone (by rw [hstays]; decide)
  have hsame := (s.tick t).feedsTo_others (if h = 0 then lost else held) (if h = 0 then held else lost) elapsed
  generalize (s.tick t).feedsTo (if h = 0 then lost else held) (if h = 0 then held else lost) elapsed = x at hgone hstays hsound hexec hsame
  have hok : x.feedOk (1 - h) = true := by rw [State.feedOk, hstays, hsound]; exact hfault ▸ rfl
  rw [State.mustStop, if_pos hok] at hexec
  refine ⟨_, hexec, ?_⟩
  simp only [settle_power, settle_devState, State.feed_of_power (settle_power _ _), State.handover_power]
  refine ⟨trivial, trivial, ?_, ?_, hsame.pfAt.trans hpf, ?_⟩
  · rw [hsame.handovers]
    rfl
  · rw [State.feed, State.handover_power]
    exact hgone
  · rw [State.handover, State.record_devState]
    exact hsame.devState

omit hh hpf hholder in
theorem State.undoSwitch_core (s : State) (j : Job) : State.SameButDomains s (s.undoSwitch j) := by
  unfold State.undoSwitch
  dsimp only
  split
  · exact .trans (.setDom s _ _) (State.SameCore.record (.refl _) _ _).toSameButDomains
  · exact .refl s

omit hh hpf hholder in
theorem State.abortRunning_core (s : State) : State.SameButDomains s s.abortRunning := by
  unfold State.abortRunning
  refine .fold (fun s e => ?_) _ s
  split
  · split
    · exact (s.undoSwitch_core _).trans (respond_core _ _ _ _ _ _).toSameButDomains
    · exact .refl s
  · exact .refl s

omit hh hpf hholder in
/-- Just after the warning nothing of the power-fail sequence is due yet. -/
theorem State.failStages_early {s : State} (h : s.power.pfAt = some s.clk) : s.failStages = s := by
  have hlate (n : Nat) (hn : 0 < n) : s.pastFail n = false := by
    rw [State.pastFail, h]
    exact decide_eq_false (Nat.not_le.mpr (Nat.lt_add_of_pos_right hn))
  rw [State.failStages, h]
  simp only [Option.isNone_some, hlate (50 * us) (by decide), hlate (3 * ms) (by decide), Bool.false_eq_true, if_false]

omit hh hpf hholder in
theorem State.powerFail_warns {s : State} (hpf : s.power.pfAt = none) : s.powerFail.power.holder = none ∧ s.powerFail.power.pfWarn = true ∧ s.powerFail.power.pfAt = some s.clk ∧ s.powerFail.izent.devState = .powerFail := by
  rw [State.powerFail, if_neg (by rw [hpf]; decide)]
  dsimp only
  have hwarned := (State.abortRunning_core { s with power := { s.power with holder := none, pfWarn := true, pfAt := some s.clk, startedAt := none }, izent := { s.izent with devState := .powerFail } }).trans
    (State.SameCore.record (.refl _) evPowerFailWarning []).toSameButDomains
  generalize State.record _ evPowerFailWarning [] = v at hwarned
  rw [State.failStages_early (by rw [hwarned.pfAt, hwarned.clk]; rfl), hwarned.rest, hwarned.devState]
  exact ⟨rfl, rfl, rfl, rfl⟩

theorem feedVoltageChange_warns {lost gone elapsed : Nat} (hlost : feedOutside lost) (helapsed : 200 ≤ elapsed) (hgone : feedOutside gone) :
    Completes (.feedVoltageChange t (if h = 0 then lost else gone) (if h = 0 then gone else lost) elapsed) s fun u => u.power.holder = none ∧ u.power.pfWarn = true ∧ u.power.pfAt = some (s.tick t).clk ∧ u.izent.devState = .powerFail := by
  obtain ⟨v, w, -, -, hlostTo, hgoneTo⟩ := (s.tick t).feedsTo_feed hh lost gone elapsed
  have hheld := hlostTo ▸ State.feedTo_lost (s := v) (f := h) hlost helapsed
  have hother := hgoneTo ▸ State.feedTo_lost (s := w) (f := 1 - h) hgone helapsed
  have hexec := exec_feedVoltageChange (t := t) hpf hholder hheld (by rw [hother]; decide)
  have hsame := (s.tick t).feedsTo_others (if h = 0 then lost else gone) (if h = 0 then gone else lost) elapsed
  generalize (s.tick t).feedsTo (if h = 0 then lost else gone) (if h = 0 then gone else lost) elapsed = x at hheld hother hexec hsame
  have hok : ¬x.feedOk (1 - h) = true := by rw [State.feedOk, hother]; exact Bool.false_ne_true
  rw [State.mustStop, if_neg hok] at hexec
  refine ⟨_, hexec, ?_⟩
  simp only [settle_power, settle_devState, ← hsame.clk]
  exact State.powerFail_warns (hsame.pfAt.trans hpf)

theorem frontEndFault_handsOver {cause : Nat} (hcond : (s.feed (1 - h)).cond = .qualified) (hfault : (s.feed (1 - h)).fault = false) :
    Completes (.frontEndFault t cause) s fun u => u.power.holder = some (1 - h) ∧ (u.feed h).fault = true ∧ u.power.handovers = (s.power.handovers + 1) % 4294967296 := by
  have hstandby : ((s.tick t).setFeed h { s.feed h with fault := true }).feed (1 - h) = s.feed (1 - h) := State.feed_setFeed_other _ _ (by omega)
  have hok : ((s.tick t).setFeed h { s.feed h with fault := true }).feedOk (1 - h) = true := by rw [State.feedOk, hstandby, hcond, hfault]; rfl
  have hexec : exec (.frontEndFault t cause) s = .next (settle (s.tick t) (((s.tick t).setFeed h { s.feed h with fault := true }).handover (1 - h) cause)) := by
    show execFrontEndFault t cause s = _
    rw [execFrontEndFault, powerRun_next hpf]
    dsimp only
    rw [show (s.tick t).power.holder = some h from hholder]
    dsimp only
    rw [show (s.tick t).feed h = s.feed h from rfl, State.mustStop, if_pos hok]
  refine ⟨_, hexec, ?_⟩
  simp only [settle_power, State.feed_of_power (settle_power _ _), State.handover_power]
  refine ⟨trivial, ?_, rfl⟩
  rw [State.feed, State.handover_power]
  exact congrArg Feed.fault (State.feed_setFeed (s.tick t) h { s.feed h with fault := true })

end

/-! Copies between the front-ends, and the keep-alive supply (R465, R468). -/

section
variable {t : Time} {h : Nat} {s : State} (hpf : s.power.pfAt = none)
include hpf

theorem switchingCycleEnd_copies (hholder : s.power.holder = some h) :
    Leaves (.switchingCycleEnd t true) s { s.tick t with power := { s.power with copies := min 4 (s.power.copies + 1), missed := 0, linkFault := s.power.linkFault && decide (s.power.copies + 1 < 4) } } := by
  have hheld : s.power.holder.isNone = false := by rw [hholder]; rfl
  have hfull : decide (min 4 (s.power.copies + 1) < 4) = decide (s.power.copies + 1 < 4) := decide_eq_decide.mpr (by omega)
  have hexec : exec (.switchingCycleEnd t true) s = .next (settle (s.tick t) (if (s.power.linkFault && decide (min 4 (s.power.copies + 1) = 4)) = true
      then ({ s.tick t with power := { s.power with copies := min 4 (s.power.copies + 1), missed := 0, linkFault := s.power.linkFault && decide (s.power.copies + 1 < 4) } }).record evFeedLinkFault [p1 1]
      else { s.tick t with power := { s.power with copies := min 4 (s.power.copies + 1), missed := 0, linkFault := s.power.linkFault && decide (s.power.copies + 1 < 4) } })) := by
    show execSwitchingCycleEnd t true s = _
    rw [execSwitchingCycleEnd, powerRun_next hpf]
    simp only [hheld, Bool.false_eq_true, if_false, if_true, show (s.tick t).power = s.power from rfl, hfull]
  refine leaves_settled hexec ?_
  split
  · exact (State.record_same _ _ _).block
  · exact .refl _

theorem switchingCycleEnd_misses (hholder : s.power.holder = some h) :
    Leaves (.switchingCycleEnd t false) s { s.tick t with power := { s.power with copies := 0, missed := min 4 (s.power.missed + 1), linkFault := s.power.linkFault || decide (4 ≤ s.power.missed + 1) } } := by
  have hheld : s.power.holder.isNone = false := by rw [hholder]; rfl
  have hfull : decide (min 4 (s.power.missed + 1) = 4) = decide (4 ≤ s.power.missed + 1) := decide_eq_decide.mpr (by omega)
  have hexec : exec (.switchingCycleEnd t false) s = .next (settle (s.tick t) (if (!s.power.linkFault && decide (4 ≤ s.power.missed + 1)) = true
      then ({ s.tick t with power := { s.power with copies := 0, missed := min 4 (s.power.missed + 1), linkFault := s.power.linkFault || decide (4 ≤ s.power.missed + 1) } }).record evFeedLinkFault [p1 0]
      else { s.tick t with power := { s.power with copies := 0, missed := min 4 (s.power.missed + 1), linkFault := s.power.linkFault || decide (4 ≤ s.power.missed + 1) } })) := by
    show execSwitchingCycleEnd t false s = _
    rw [execSwitchingCycleEnd, powerRun_next hpf]
    simp only [hheld, Bool.false_eq_true, if_false, show (s.tick t).power = s.power from rfl, hfull]
  refine leaves_settled hexec ?_
  split
  · exact (State.record_same _ _ _).block
  · exact .refl _

theorem kaChange_present {x : Time} {mv : Nat} (habsent : s.power.kaPresent = false) (hlow : 2700 ≤ mv) (hhigh : mv ≤ 5500) (hsince : s.power.kaSince = some x) (hdue : x + 10000000 ≤ (s.tick t).clk) (hon : (s.dom 0).state = .on) :
    Leaves (.kaChange t mv) s { s.tick t with power := { s.power with kaMv := mv, kaPresent := true } } := by
  have hexec : exec (.kaChange t mv) s = .next (settle (s.tick t) (({ s.tick t with power := { s.power with kaMv := mv, kaSince := some x, kaPresent := true } }).record evKaChange [p1 1])) := by
    show execKaChange t mv s = _
    rw [execKaChange, powerRun_next hpf]
    have hpower : (s.tick t).power = s.power := rfl
    have hdue' : decide (x + 10 * ms ≤ (s.tick t).clk) = true := decide_eq_true hdue
    simp only [hpower, decide_eq_true hlow, decide_eq_true hhigh, hsince, habsent, Bool.and_self, Bool.not_false, if_true]
    rw [Bool.true_and, if_pos, if_pos]
    · exact hon
    · exact hdue'
  refine leaves_settled hexec ?_
  rw [← hsince]
  exact (State.record_same _ _ _).block

/-- Without KA within its range, and below 2.5 V, the supply is absent. -/
theorem exec_kaChange_absent {mv : Nat} (hpresent : s.power.kaPresent = true) (hmv : mv < 2500) :
    exec (.kaChange t mv) s = .next (settle (s.tick t) (if s.power.holder.isNone then ({ s.tick t with power := { s.power with kaMv := mv, kaSince := none, kaPresent := false } } : State).aonLost
      else ({ s.tick t with power := { s.power with kaMv := mv, kaSince := none, kaPresent := false } } : State).record evKaChange [p1 0])) := by
  show execKaChange t mv s = _
  rw [execKaChange, powerRun_next hpf]
  have hpower : (s.tick t).power = s.power := rfl
  have hlow : decide (2700 ≤ mv) = false := decide_eq_false (by omega)
  simp only [hpower, hlow, hpresent, hpf, decide_eq_true hmv, Bool.false_and, Bool.false_eq_true, if_false, Bool.and_self, if_true, Option.isNone_none, Bool.and_true]

theorem kaChange_absent {mv : Nat} (hpresent : s.power.kaPresent = true) (hmv : mv < 2500) (hholder : s.power.holder = some h) :
    Leaves (.kaChange t mv) s { s.tick t with power := { s.power with kaMv := mv, kaSince := none, kaPresent := false } } := by
  have hexec := exec_kaChange_absent (t := t) hpf hpresent hmv
  rw [if_neg (by rw [hholder]; exact Bool.false_ne_true)] at hexec
  exact leaves_settled hexec (State.record_same _ _ _).block

end

/-! PD_AON loses power (R468, R481). -/

theorem Map.get_mapV_keeps {α β : Type} {f : Nat → α → α} (g : α → β) (hf : ∀ i x, g (f i x) = g x) (d : α) (m : Map α) (k : Nat) : g (Map.get d (Map.mapV f m) k) = g (Map.get d m k) := by
  induction m with
  | nil => rfl
  | cons e m ih =>
    obtain ⟨j, x⟩ := e
    by_cases hj : j = k
    · simp only [Map.mapV, List.map_cons, Map.get, if_pos hj, hf]
    · simp only [Map.mapV, List.map_cons, Map.get, if_neg hj]
      exact ih

/-- An image whose activation a reset cuts short. -/
def Image.atReset (x : Image) : Image := if x.state = 2 then { x with state := if x.staged.isSome then 1 else 3 } else x

theorem Image.atReset_keeps (x : Image) : x.atReset.running = x.running ∧ x.atReset.staged = x.staged ∧ x.atReset.fallback = x.fallback := by
  unfold Image.atReset
  split <;> exact ⟨rfl, rfl, rfl⟩

theorem State.aonLost_images (s : State) : s.aonLost.upd.images = Map.mapV (fun _ x => x.atReset) s.upd.images := rfl

/-- What NAND and OTP hold stays through a reset. -/
theorem State.aonLost_image (s : State) (i : Nat) : (s.aonLost.image i).running = (s.image i).running ∧ (s.aonLost.image i).staged = (s.image i).staged ∧ (s.aonLost.image i).fallback = (s.image i).fallback := by
  rw [State.image, State.aonLost_images]
  exact ⟨Map.get_mapV_keeps Image.running (fun _ x => x.atReset_keeps.1) _ _ _, Map.get_mapV_keeps Image.staged (fun _ x => x.atReset_keeps.2.1) _ _ _,
    Map.get_mapV_keeps Image.fallback (fun _ x => x.atReset_keeps.2.2) _ _ _⟩

theorem kaChange_loses {t : Time} {mv : Nat} {s : State} (hpf : s.power.pfAt = none) (hpresent : s.power.kaPresent = true) (hmv : mv < 2500) (hholder : s.power.holder = none) : Completes (.kaChange t mv) s fun u =>
    (u.dom 0).state = .off ∧ u.power.kaPresent = false ∧ u.izent.devState = .boot ∧ u.izent.sessions = [] ∧ u.prot.store = s.prot.store ∧
    (∀ i, (u.image i).running = (s.image i).running ∧ (u.image i).staged = (s.image i).staged ∧ (u.image i).fallback = (s.image i).fallback) ∧ u.comp.stored = s.comp.stored ∧ u.dram.mem = [] := by
  have hexec := exec_kaChange_absent (t := t) hpf hpresent hmv
  rw [if_pos (by rw [hholder]; rfl)] at hexec
  refine ⟨_, hexec, ?_⟩
  have himage (a b : State) (i : Nat) : (settle a b).image i = b.image i := by rw [State.image, State.image, settle_images]
  simp only [State.dom_of_power (settle_power _ _), settle_power, settle_devState, settle_sessions, settle_prot, settle_comp, settle_dram, himage]
  refine ⟨rfl, rfl, rfl, rfl, rfl, fun i => State.aonLost_image _ i, rfl, rfl⟩

/-- Settles O38: the feeds, then the copies between the front-ends, then the keep-alive supply. -/
theorem feedEventsComplete : Obligations.FeedEventsComplete := by
  unfold Obligations.FeedEventsComplete
  exact ⟨fun t t0 f s => feedQualifyTimer_qualifies, fun t t0 f s => feedQualifyTimer_starts,
    fun t h lost held elapsed s hh hpf hholder _ hlost helapsed => feedVoltageChange_handsOver hh hpf hholder hlost helapsed,
    fun t h lost gone elapsed s hh hpf hholder _ hlost helapsed _ => feedVoltageChange_warns hh hpf hholder hlost helapsed,
    fun t h cause s hh hpf hholder => frontEndFault_handsOver hh hpf hholder, fun t h s hpf hholder => ⟨switchingCycleEnd_copies hpf hholder, switchingCycleEnd_misses hpf hholder⟩,
    fun t x mv s hpf => kaChange_present hpf, fun t mv h s hpf => kaChange_absent hpf, fun t mv s => kaChange_loses⟩

end Sys2Proof.Machine
end

section
/-! PROOFS of the claim on lockstep recovery and reloads (spec/18_resilience.md R494, R495; spec/19_update.md R522). -/

namespace Sys2Proof.Machine

/-! Recovery of a Spire pair (R494, R522). -/

/-- The recoveries of a pair that count: those of the last 600 s. -/
def State.pastRecoveries (s : State) (pair : Nat) : List (Nat × Time) := s.health.recoveries.filter fun x => x.1 == pair && s.clk ≤ x.2 + 600 * sec

/-- A pair is in recovery, and the recovery counts from now. -/
def State.inRecovery (s : State) (pair : Nat) : State :=
  { s with health := { s.health with recovering := s.health.recovering ++ [pair], recoveries := (s.health.recoveries.filter fun x => s.clk ≤ x.2 + 600 * sec) ++ [(pair, s.clk)] } }

/-- The mismatch is recorded before anything else. -/
def State.mismatched (s : State) (pair cause : Nat) : State := s.record evSpireLockstep [p2 pair, p1 cause]

theorem State.mismatched_same (s : State) (pair cause : Nat) : State.SameUnits s (s.mismatched pair cause) := s.record_same _ _

theorem State.mismatched_records (s : State) (pair cause : Nat) : State.Records s (s.mismatched pair cause) := s.record_records _ _

theorem State.inRecovery_records (s : State) (pair : Nat) : State.Records s (s.inRecovery pair) := .of_eq rfl (.refl _)

theorem State.SameUnits.inRecovery {a b : State} (h : State.SameUnits a b) (pair : Nat) : State.SameUnits (a.inRecovery pair) (b.inRecovery pair) where
  time := h.time
  prot := h.prot
  power := h.power
  health := by
    have hclk : b.clk = a.clk := by rw [State.clk, h.time]; rfl
    simp only [State.inRecovery, h.health, hclk]
  upd := h.upd
  streams := h.streams
  comp := h.comp
  enc := h.enc
  lanes := h.lanes
  touch := h.touch
  dram := h.dram
  freeCtr := h.freeCtr
  pending := h.pending
  devState := h.devState
  sessions := h.sessions
  idle := h.idle
  alive := h.alive
  rsp := h.rsp
  heard := h.heard

/-- A pair is in recovery, and that of Spire A has ended the commands in progress or held (R494). -/
def State.cutShort (s : State) (pair : Nat) : State := if pair = 0 then (s.inRecovery pair).lockstepAbort else s.inRecovery pair

/-- A running plan falls back at a recovery (R522). -/
def State.recovers (s : State) (pair : Nat) : State := if (s.cutShort pair).upd.planState = .running && (s.cutShort pair).upd.falling.isNone then (s.cutShort pair).fallBack 2 else s.cutShort pair

theorem State.recovers_idle {s : State} {pair : Nat} (h : (s.cutShort pair).upd.planState ≠ .running) : s.recovers pair = s.cutShort pair := by
  rw [State.recovers, decide_eq_false h, Bool.false_and, if_neg Bool.false_ne_true]

theorem State.recoverPair_recovers {s : State} {pair cause : Nat} (hfree : s.health.recovering.contains pair = false) (hfew : (s.pastRecoveries pair).length < 2) :
    s.recoverPair pair cause = (s.mismatched pair cause).recovers pair := by
  have hnone : (s.health.recovering.contains pair || decide ((s.pastRecoveries pair).length ≥ 2)) = false := by
    rw [hfree, Bool.false_or]
    exact decide_eq_false (Nat.not_le.mpr hfew)
  have hhealth : (s.mismatched pair cause).health = s.health := (s.mismatched_same pair cause).health
  unfold State.recoverPair
  dsimp only
  rw [← State.pastRecoveries, hnone, if_neg Bool.false_ne_true, ← State.mismatched, ← hhealth]
  rfl

theorem State.recoverPair_resets {s : State} {pair cause : Nat} (h : s.health.recovering.contains pair = true ∨ 2 ≤ (s.pastRecoveries pair).length) : s.recoverPair pair cause = (s.mismatched pair cause).resetTo 7 false := by
  have hmany : (s.health.recovering.contains pair || decide ((s.pastRecoveries pair).length ≥ 2)) = true := by
    rw [Bool.or_eq_true, decide_eq_true_eq]
    exact h
  unfold State.recoverPair
  dsimp only
  rw [← State.pastRecoveries, if_pos hmany]
  rfl

theorem exec_spireLockstep {t : Time} {pair cause : Nat} {s : State} (hpair : pair < 2) (hon : (s.tick t).domOn 1 = true) : exec (.spireLockstep t pair cause) s = .next (settle (s.tick t) ((s.tick t).recoverPair pair cause)) := by
  show execSpireLockstep t pair cause s = _
  rw [execSpireLockstep, runIf_next (decide_eq_true hpair), if_pos hon]

theorem spireLockstep_recoversB {t : Time} {cause : Nat} {s : State} (hon : (s.tick t).domOn 1 = true) (hplan : s.upd.planState ≠ .running) (hfree : s.health.recovering.contains 1 = false)
    (hfew : ((s.tick t).pastRecoveries 1).length < 2) : Leaves (.spireLockstep t 1 cause) s ((s.tick t).inRecovery 1) := by
  have hexec := exec_spireLockstep (cause := cause) (by decide : 1 < 2) hon
  have hsame := (s.tick t).mismatched_same 1 cause
  have hcut : ((s.tick t).mismatched 1 cause).cutShort 1 = ((s.tick t).mismatched 1 cause).inRecovery 1 := if_neg (by decide)
  rw [State.recoverPair_recovers (s := s.tick t) hfree hfew, State.recovers_idle (by rw [hcut, (hsame.inRecovery 1).upd]; exact hplan), hcut] at hexec
  exact leaves_settled hexec (hsame.inRecovery 1).block

theorem spireLockstep_resets {t : Time} {pair cause : Nat} {s : State} (hpair : pair < 2) (hpf : s.power.pfAt = none) (hon : (s.tick t).domOn 1 = true)
    (h : s.health.recovering.contains pair = true ∨ 2 ≤ ((s.tick t).pastRecoveries pair).length) :
    Completes (.spireLockstep t pair cause) s fun u => u.izent.devState = .boot ∧ u.power.resetCause = some (7, (s.tick t).now) ∧ u.health.recovering = [] := by
  have hexec := exec_spireLockstep (cause := cause) hpair hon
  rw [State.recoverPair_resets h] at hexec
  have hsame := (s.tick t).mismatched_same pair cause
  have hreset := (State.resetTo_isReset (s := (s.tick t).mismatched pair cause) ((congrArg Power.pfAt hsame.power).trans hpf) 7 false).settle (s.tick t)
  refine ⟨_, hexec, hreset.devState, ?_, hreset.recovering⟩
  rw [hreset.cause]
  exact congrArg (fun n => some (7, n)) (congrArg TimeState.now hsame.time)

/-! The commands that a recovery of Spire A ends (R494). -/

/-- The response to a command that a recovery ends. -/
def abortedRsp (j : Job) : Rsp := rspOf (code j.kind) j.msg stAborted (({ status := stAborted, check := 0 } : Err).bytes)

/-- The command of mailbox `mb` alone is in progress, or has been answered. -/
structure State.Aborting (mb : Nat) (j : Job) (answered : Prop) (a v : State) : Prop where
  core : State.SameButDomains a v
  own : (v.mbx mb).job = some j ∨ (v.mbx mb).job = none
  others : ∀ k, k ≠ mb → (v.mbx k).job = none
  answered : (v.mbx mb).rsp = some (abortedRsp j) ∨ ¬answered ∧ (v.mbx mb).job = some j

/-- What a recovery does with one mailbox. -/
def State.abortJob (s : State) (n : Nat) : State := match (s.mbx n).job with
  | some j => if j.cause.isSome then s.endHeld n stAborted else (s.undoSwitch j).respondErr n (code j.kind) j.msg { status := stAborted, check := 0 }
  | none => s

theorem State.lockstepAbort_eq (s : State) : s.lockstepAbort = s.izent.mbx.foldl (fun s e => s.abortJob e.1) s := rfl

section
variable {mb : Nat} {j : Job} {a v : State}

theorem State.abortJob_running (h : (v.mbx mb).job = some j) (hcause : j.cause = none) : v.abortJob mb = (v.undoSwitch j).respondErr mb (code j.kind) j.msg { status := stAborted, check := 0 } := by
  rw [State.abortJob, h]
  exact if_neg (by rw [hcause]; decide)

theorem State.abortJob_idle {n : Nat} (h : (v.mbx n).job = none) : v.abortJob n = v := by rw [State.abortJob, h]

/-- The command is answered, whether its mailbox is met for the first time or again. -/
theorem State.Aborting.turn {p : Prop} (hmb : mb < 16) (hcause : j.cause = none) (h : State.Aborting mb j p a v) : State.Aborting mb j True a (v.abortJob mb) := by
  rcases h.own with hjob | hjob
  · rw [State.abortJob_running hjob hcause, State.respondErr]
    obtain ⟨y, hy, hown⟩ := respond_own (v.undoSwitch j) mb (code j.kind) j.msg stAborted (({ status := stAborted, check := 0 } : Err).bytes)
    refine ⟨h.core.trans ((v.undoSwitch_core j).trans (respond_core _ _ _ _ _ _).toSameButDomains), ?_, fun k hk => ?_, .inl (respond_rsp _ mb _ _ _ _ (by omega) (.inl hmb))⟩
    · rw [hown]
      dsimp only
      rw [hy.job, (undoSwitch_records v j).job mb, hjob]
      split
      · exact .inr rfl
      · exact .inl rfl
    · rw [respond_other _ _ _ _ _ _ hk]
      exact ((undoSwitch_records v j).job k).trans (h.others k hk)
  · rw [State.abortJob_idle hjob]
    refine ⟨h.core, h.own, h.others, .inl (h.answered.resolve_right fun hno => ?_)⟩
    rw [hjob] at hno
    exact nomatch hno.2

theorem State.Aborting.step {p : Prop} (hmb : mb < 16) (hcause : j.cause = none) (h : State.Aborting mb j p a v) (n : Nat) : State.Aborting mb j p a (v.abortJob n) := by
  by_cases hn : n = mb
  · subst hn
    have hturn := h.turn hmb hcause
    exact ⟨hturn.core, hturn.own, hturn.others, .inl (hturn.answered.resolve_right fun hno => hno.1 trivial)⟩
  · rw [State.abortJob_idle (h.others n hn)]
    exact h

end

/-- A mailbox that holds a command is listed. -/
theorem Map.mem_of_get_ne {α : Type} {d : α} {m : Map α} {k : Nat} (h : Map.get d m k ≠ d) : ∃ e ∈ m, e.1 = k := by
  induction m with
  | nil => exact absurd rfl h
  | cons e m ih =>
    obtain ⟨i, x⟩ := e
    by_cases hi : i = k
    · exact ⟨(i, x), List.mem_cons_self .., hi⟩
    · obtain ⟨e, he, hk⟩ := ih (by rwa [Map.get, if_neg hi] at h)
      exact ⟨e, List.mem_cons_of_mem _ he, hk⟩

theorem State.lockstepAbort_answers {mb : Nat} {j : Job} {a : State} (hmb : mb < 16) (hjob : (a.mbx mb).job = some j) (hcause : j.cause = none) (hothers : ∀ k, k ≠ mb → (a.mbx k).job = none) :
    State.Aborting mb j True a a.lockstepAbort := by
  obtain ⟨e, he, hkey⟩ : ∃ e ∈ a.izent.mbx, e.1 = mb := Map.mem_of_get_ne (d := {}) (k := mb) fun h => by
    rw [State.mbx, h] at hjob
    exact nomatch hjob
  rw [State.lockstepAbort_eq]
  refine foldl_turns (P := State.Aborting mb j False a) (Q := State.Aborting mb j True a) (x := e) he (fun b hb y _ _ => hb.step hmb hcause y.1) (fun b hb => ?_) (fun b hb y _ => hb.step hmb hcause y.1) ?_
  · rw [hkey]
    exact hb.turn hmb hcause
  · exact ⟨.refl a, .inl hjob, hothers, .inr ⟨not_false, hjob⟩⟩

theorem spireLockstep_recoversA {t : Time} {cause mb : Nat} {j : Job} {s : State} (hon : (s.tick t).domOn 1 = true) (hplan : s.upd.planState ≠ .running) (hfree : s.health.recovering.contains 0 = false)
    (hfew : ((s.tick t).pastRecoveries 0).length < 2) (hmb : mb < 16) (hjob : (s.mbx mb).job = some j) (hcause : j.cause = none) (hothers : ∀ k, k ≠ mb → (s.mbx k).job = none) :
    Completes (.spireLockstep t 0 cause) s fun u => u.health.recovering = s.health.recovering ++ [0] ∧ u.responds j.kind mb j.msg stAborted (({ status := stAborted, check := 0 } : Err).bytes) := by
  have hexec := exec_spireLockstep (cause := cause) (by decide : 0 < 2) hon
  have hsame := ((s.tick t).mismatched_same 0 cause).inRecovery 0
  have hrecords : State.Records (s.tick t) (((s.tick t).mismatched 0 cause).inRecovery 0) := ((s.tick t).mismatched_records 0 cause).trans (State.inRecovery_records _ 0)
  have hcut : ((s.tick t).mismatched 0 cause).cutShort 0 = (((s.tick t).mismatched 0 cause).inRecovery 0).lockstepAbort := if_pos rfl
  rw [State.recoverPair_recovers (s := s.tick t) hfree hfew] at hexec
  generalize ((s.tick t).mismatched 0 cause).inRecovery 0 = v at hsame hrecords hcut
  have haborted := State.lockstepAbort_answers (a := v) hmb ((hrecords.job mb).trans hjob) hcause fun k hk => (hrecords.job k).trans (hothers k hk)
  rw [State.recovers_idle (by rw [hcut, haborted.core.upd, hsame.upd]; exact hplan), hcut] at hexec
  refine ⟨_, hexec, ?_, responds_settle _ (haborted.answered.resolve_right fun hno => hno.1 trivial)⟩
  rw [settle_health, haborted.core.health, hsame.health]
  rfl

/-! The end of a recovery, and reloads (R494, R495). -/

theorem spireRecoveryDone_ends {t : Time} {pair : Nat} {s : State} (hpair : pair < 2) :
    Leaves (.spireRecoveryDone t pair) s { s.tick t with health := { s.health with recovering := s.health.recovering.filter (· != pair) } } := by
  refine leaves_settled (t := t) (v := { s.tick t with health := { s.health with recovering := s.health.recovering.filter (· != pair) } }) ?_ (.refl _)
  show execSpireRecoveryDone t pair s = _
  rw [execSpireRecoveryDone, runIf_next (decide_eq_true hpair)]
  rfl

section
variable {t : Time} {e : Nat} {s : State} (he : e < 4) (hon : (s.tick t).domOn 3 = true)
include he hon

theorem exec_houseEngineReload : exec (.houseEngineReload t e) s = .next (settle (s.tick t) ((s.tick t).abandonOp e)) := by
  show execHouseEngineReload t e s = _
  rw [execHouseEngineReload, runIf_next (decide_eq_true he), if_pos hon]

omit he hon in
/-- Whether engine `e` has abandoned three operations within 60 s depends on those before. -/
theorem State.abandonOp_eq (v : State) : v.abandonOp e =
    if 2 ≤ (v.health.abandoned.filter fun x => v.clk < x.2 + 60 * sec && x.1 == e).length then ({ v with health := { v.health with abandoned := v.health.abandoned.filter fun x => v.clk < x.2 + 60 * sec && x.1 != e } }).record evUnitReloaded [p2 e]
    else { v with health := { v.health with abandoned := (v.health.abandoned.filter fun x => v.clk < x.2 + 60 * sec) ++ [(e, v.clk)] } } := by
  have hcount : (((v.health.abandoned.filter fun x => v.clk < x.2 + 60 * sec) ++ [(e, v.clk)]).filter fun x => x.1 == e).length = (v.health.abandoned.filter fun x => v.clk < x.2 + 60 * sec && x.1 == e).length + 1 := by
    simp [List.filter_filter, Bool.and_comm]
  have hrest : (((v.health.abandoned.filter fun x => v.clk < x.2 + 60 * sec) ++ [(e, v.clk)]).filter fun x => x.1 != e) = v.health.abandoned.filter fun x => v.clk < x.2 + 60 * sec && x.1 != e := by
    simp [List.filter_filter, Bool.and_comm]
  unfold State.abandonOp
  simp only [hcount, hrest, ge_iff_le, Nat.reduceLeDiff]

theorem houseEngineReload_counts (hfew : (s.health.abandoned.filter fun x => (s.tick t).clk < x.2 + 60 * sec && x.1 == e).length < 2) :
    Leaves (.houseEngineReload t e) s { s.tick t with health := { s.health with abandoned := (s.health.abandoned.filter fun x => (s.tick t).clk < x.2 + 60 * sec) ++ [(e, (s.tick t).clk)] } } := by
  have hcounted := ((s.tick t).abandonOp_eq (e := e)).trans (if_neg (Nat.not_le.mpr hfew))
  exact leaves_settled (hcounted ▸ exec_houseEngineReload he hon) (.refl _)

theorem houseEngineReload_reloads (hmany : 2 ≤ (s.health.abandoned.filter fun x => (s.tick t).clk < x.2 + 60 * sec && x.1 == e).length) :
    Leaves (.houseEngineReload t e) s { s.tick t with health := { s.health with abandoned := s.health.abandoned.filter fun x => (s.tick t).clk < x.2 + 60 * sec && x.1 != e } } := by
  have hreloaded := ((s.tick t).abandonOp_eq (e := e)).trans (if_pos hmany)
  exact leaves_settled (hreloaded ▸ exec_houseEngineReload he hon) (State.record_same _ _ _).block

end

/-- Settles O45: a recovery of either pair, one that resets, the end of a recovery, and an operation that a house engine abandons. -/
theorem lockstepAndReloadComplete : Obligations.LockstepAndReloadComplete := by
  unfold Obligations.LockstepAndReloadComplete
  exact ⟨fun t cause s => spireLockstep_recoversB, fun t cause mb j s => spireLockstep_recoversA, fun t pair cause s => spireLockstep_resets, fun t pair s => spireRecoveryDone_ends,
    fun t e s he hon => ⟨houseEngineReload_counts he hon, houseEngineReload_reloads he hon⟩⟩

end Sys2Proof.Machine
end

section
/-! PROOFS of the claim on the address hash (spec/13_memory.md R376–R379): each channel bit and each bank bit is one bit of A[15:8], turned over by bits above them. -/

namespace Sys2Proof.Machine

/-! Address bits. -/

theorem bit_eq_testBit (x i : Nat) : bit x i = x.testBit i := by
  rw [Nat.testBit_eq_decide_div_mod_eq]
  rfl

/-- A bit from 16 up is one of A[34:16]. -/
theorem bit_above (a : Nat) {i : Nat} (hi : 16 ≤ i) : bit a i = bit (a / 65536) (i - 16) := by
  rw [bit_eq_testBit, bit_eq_testBit, show 65536 = 2 ^ 16 from rfl, Nat.testBit_div_two_pow]
  congr 1
  omega

theorem xorBits_from (a : Nat) (is : List Nat) (x : Bool) : is.foldl (fun (y : Bool) i => y != bit a i) x = (x != xorBits a is) := by
  induction is generalizing x with
  | nil => simp [xorBits]
  | cons i is ih => rw [xorBits, List.foldl_cons, List.foldl_cons, ih, ih, Bool.false_bne, Bool.bne_assoc]

theorem xorBits_cons (a i : Nat) (is : List Nat) : xorBits a (i :: is) = (bit a i != xorBits a is) := by
  rw [xorBits, List.foldl_cons, xorBits_from, Bool.false_bne]

theorem xorBits_congr {a b : Nat} {is : List Nat} (h : ∀ i ∈ is, bit a i = bit b i) : xorBits a is = xorBits b is := by
  induction is with
  | nil => rfl
  | cons i is ih =>
    obtain ⟨hi, his⟩ := List.forall_mem_cons.mp h
    rw [xorBits_cons, xorBits_cons, hi, ih his]

theorem xorBits_perm (a : Nat) {is js : List Nat} (h : is.Perm js) : xorBits a is = xorBits a js := by
  induction h with
  | nil => rfl
  | cons i _ ih => rw [xorBits_cons, xorBits_cons, ih]
  | swap i j is => rw [xorBits_cons, xorBits_cons, xorBits_cons, xorBits_cons, ← Bool.bne_assoc, ← Bool.bne_assoc, bne_comm (a := bit a j)]
  | trans _ _ ih ih' => exact ih.trans ih'

/-! The bits of a hash line. -/

/-- Address bits whose XOR is a channel or bank bit: bit `j`, and others from 16 up. -/
def IsLine (is : List Nat) (j : Nat) : Prop := ∃ rest, is.Perm (j :: rest) ∧ ∀ i ∈ rest, 16 ≤ i

/-- A line is its own bit, turned over by a function of A[34:16]. -/
theorem IsLine.xorBits {is : List Nat} {j : Nat} (h : IsLine is j) : ∃ g : Nat → Bool, ∀ a, xorBits a is = (bit a j != g (a / 65536)) := by
  obtain ⟨rest, hperm, hrest⟩ := h
  refine ⟨fun x => Machine.xorBits (x * 65536) rest, fun a => ?_⟩
  rw [xorBits_perm a hperm, xorBits_cons]
  congr 1
  refine xorBits_congr fun i hi => ?_
  rw [bit_above _ (hrest i hi), bit_above _ (hrest i hi), Nat.mul_div_cancel _ (by decide)]

theorem IsLine.low {is : List Nat} {j : Nat} (h : IsLine is j) {i : Nat} (hi : i ∈ is) : i = j ∨ 16 ≤ i := by
  obtain ⟨rest, hperm, hrest⟩ := h
  exact (List.mem_cons.mp (hperm.mem_iff.mp hi)).imp_right (hrest i)

/-- A custom mask that R378 accepts. -/
theorem maskBits_isLine {k m : Nat} (hk : k < 8) (h : maskOk k m = true) : IsLine (maskBits m) (8 + k) := by
  simp only [maskOk, Bool.and_eq_true, decide_eq_true_eq] at h
  obtain ⟨⟨hm, hlow⟩, hown⟩ := h
  have hbyte {i : Nat} (hi : i < 8) : bit m (8 + i) = decide (k = i) := by
    rw [bit_eq_testBit, Nat.add_comm, ← Nat.testBit_div_two_pow, ← Nat.testBit_two_pow, ← hown, show 256 = 2 ^ 8 from rfl, Nat.testBit_mod_two_pow, decide_eq_true hi, Bool.true_and]
  have hzero {i : Nat} (hi : i < 8) : bit m i = false := by
    have hmod : (m % 2 ^ 8).testBit i = false := by rw [show 2 ^ 8 = 256 from rfl, hlow, Nat.zero_testBit]
    rw [Nat.testBit_mod_two_pow, decide_eq_true hi, Bool.true_and] at hmod
    rw [bit_eq_testBit, hmod]
  have hmem : 8 + k ∈ maskBits m := List.mem_filter.mpr ⟨List.mem_range.mpr (by omega), by rw [hbyte hk, decide_eq_true rfl]⟩
  have hnodup : (maskBits m).Nodup := List.nodup_range.filter _
  refine ⟨(maskBits m).erase (8 + k), List.perm_cons_erase hmem, fun i hi => ?_⟩
  obtain ⟨hne, hin⟩ := hnodup.mem_erase_iff.mp hi
  have hbit := (List.mem_filter.mp hin).2
  refine Nat.le_of_not_lt fun hsmall => ?_
  by_cases h8 : i < 8
  · rw [hzero h8] at hbit
    exact Bool.false_ne_true hbit
  · obtain ⟨j, rfl⟩ := Nat.exists_eq_add_of_le (Nat.not_lt.mp h8)
    rw [hbyte (by omega), decide_eq_true_eq] at hbit
    exact hne (by rw [hbit])

theorem channelBits_isLine (profile k : Nat) : IsLine (channelBits profile k) (8 + k) := by
  unfold channelBits
  split
  · exact ⟨[19 + k, 27 + k], .refl _, by simp; omega⟩
  · exact ⟨[19 + k, 23 + k, 27 + k, 31 + k], .refl _, by simp; omega⟩
  · exact ⟨[], .refl _, by simp⟩

theorem bankBits_isLine (profile k : Nat) : IsLine (bankBits profile k) (12 + k) := by
  unfold bankBits
  split
  · exact ⟨[23 + k, 31 + k], .refl _, by simp; omega⟩
  · exact ⟨[19 + k, 23 + k, 27 + k, 31 + k], .refl _, by simp; omega⟩
  · exact ⟨[], .refl _, by simp⟩

/-- The address bits of channel bit `k`. -/
def HashProfile.channelLine (p : HashProfile) (k : Nat) : List Nat := if p.profile = 4 then maskBits (p.masks.getD k 0) else channelBits p.profile k

/-- The address bits of bank bit `k`. -/
def HashProfile.bankLine (p : HashProfile) (k : Nat) : List Nat := if p.profile = 4 then maskBits (p.masks.getD (4 + k) 0) else bankBits p.profile k

theorem HashProfile.channel_eq (p : HashProfile) (a : Nat) : p.channel a = bitsOf ((List.range 4).map fun k => xorBits a (p.channelLine k)) := rfl

theorem HashProfile.bank_eq (p : HashProfile) (a : Nat) : p.bank a = bitsOf ((List.range 4).map fun k => xorBits a (p.bankLine k)) := rfl

theorem bit_bitsOf_map (f : Nat → Bool) {k : Nat} (hk : k < 4) : bit (bitsOf ((List.range 4).map f)) k = f k := by
  show bit (bitsOf [f 0, f 1, f 2, f 3]) k = f k
  obtain rfl | rfl | rfl | rfl : k = 0 ∨ k = 1 ∨ k = 2 ∨ k = 3 := by omega
  all_goals simp

section
variable {p : HashProfile} (hp : p.profile < 4 ∨ p.profile = 4 ∧ ∀ k < 8, maskOk k (p.masks.getD k 0) = true)
include hp

theorem HashProfile.channelLine_isLine {k : Nat} (hk : k < 4) : IsLine (p.channelLine k) (8 + k) := by
  unfold HashProfile.channelLine
  split
  · exact maskBits_isLine (by omega) (((hp.resolve_left (by omega)).2) k (by omega))
  · exact channelBits_isLine _ _

theorem HashProfile.bankLine_isLine {k : Nat} (hk : k < 4) : IsLine (p.bankLine k) (12 + k) := by
  unfold HashProfile.bankLine
  split
  · have hline := maskBits_isLine (by omega) (((hp.resolve_left (by omega)).2) (4 + k) (by omega))
    rwa [show 8 + (4 + k) = 12 + k by omega] at hline
  · exact bankBits_isLine _ _

/-- Equal channels, equal banks and equal bits from 16 up make A[15:8] equal. -/
theorem HashProfile.middle_eq {a b : Nat} (hchannel : p.channel a = p.channel b) (hbank : p.bank a = p.bank b) (habove : a / 65536 = b / 65536) {k : Nat} (hk : k < 4) :
    bit a (8 + k) = bit b (8 + k) ∧ bit a (12 + k) = bit b (12 + k) := by
  obtain ⟨g, hg⟩ := (HashProfile.channelLine_isLine hp hk).xorBits
  obtain ⟨g', hg'⟩ := (HashProfile.bankLine_isLine hp hk).xorBits
  have hc := congrArg (fun n => bit n k) hchannel
  have hb := congrArg (fun n => bit n k) hbank
  simp only [HashProfile.channel_eq, HashProfile.bank_eq, bit_bitsOf_map _ hk, hg, hg', habove] at hc hb
  exact ⟨Bool.bne_left_inj.mp hc, Bool.bne_left_inj.mp hb⟩

omit hp in
/-- A row of the device is A[34:19]. -/
theorem dramRow_eq {a : Nat} (ha : a < 2 ^ 35) : dramRow a = a / 524288 := Nat.mod_eq_of_lt (by omega)

theorem HashProfile.oneToOne {a b : Nat} (ha : a < 2 ^ 35) (hb : b < 2 ^ 35) (hchannel : p.channel a = p.channel b) (hbank : p.bank a = p.bank b) (hrow : dramRow a = dramRow b)
    (hcolumn : a / 65536 % 8 = b / 65536 % 8) (hbyte : a % 256 = b % 256) : a = b := by
  have habove : a / 65536 = b / 65536 := by
    rw [dramRow_eq ha, dramRow_eq hb, show 524288 = 65536 * 8 from rfl, ← Nat.div_div_eq_div_mul, ← Nat.div_div_eq_div_mul] at hrow
    omega
  refine Nat.eq_of_testBit_eq fun i => ?_
  rw [← bit_eq_testBit, ← bit_eq_testBit]
  by_cases h8 : i < 8
  · have hlow := congrArg (fun n => n.testBit i) hbyte
    simp only [show 256 = 2 ^ 8 from rfl, Nat.testBit_mod_two_pow, decide_eq_true h8, Bool.true_and] at hlow
    rw [bit_eq_testBit, bit_eq_testBit, hlow]
  · by_cases h16 : i < 16
    · by_cases h12 : i < 12
      · obtain ⟨k, rfl⟩ := Nat.exists_eq_add_of_le (Nat.not_lt.mp h8)
        exact (HashProfile.middle_eq hp hchannel hbank habove (by omega)).1
      · obtain ⟨k, rfl⟩ := Nat.exists_eq_add_of_le (Nat.not_lt.mp h12)
        exact (HashProfile.middle_eq hp hchannel hbank habove (by omega)).2
    · rw [bit_above a (Nat.not_lt.mp h16), bit_above b (Nat.not_lt.mp h16), habove]

/-! A block of 4 KiB. -/

omit hp in
/-- The flags that make a number below 16. -/
theorem bitsOf_eq_iff : ∀ b0 b1 b2 b3 : Bool, ∀ n < 16, bitsOf [b0, b1, b2, b3] = n ↔ b0 = bit n 0 ∧ b1 = bit n 1 ∧ b2 = bit n 2 ∧ b3 = bit n 3 := by decide

omit hp in
/-- Four flags, each turned over by another, are a number where that number turned over is the flags. -/
theorem bitsOf_turned {c y : Nat} (hc : c < 16) (hy : y < 16) (g : Nat → Bool) :
    bitsOf ((List.range 4).map fun k => (bit y k != g k)) = c ↔ y = bitsOf ((List.range 4).map fun k => (bit c k != g k)) := by
  have hturn (u v w : Bool) : (u != v) = w ↔ (w != v) = u := by cases u <;> cases v <;> cases w <;> decide
  show bitsOf [bit y 0 != g 0, bit y 1 != g 1, bit y 2 != g 2, bit y 3 != g 3] = c ↔ y = bitsOf [bit c 0 != g 0, bit c 1 != g 1, bit c 2 != g 2, bit c 3 != g 3]
  rw [bitsOf_eq_iff _ _ _ _ _ hc, eq_comm (a := y), bitsOf_eq_iff _ _ _ _ _ hy]
  simp only [hturn _ _ (bit c _)]

omit hp in
theorem bitsOf_lt (f : Nat → Bool) : bitsOf ((List.range 4).map f) < 16 := by
  show bitsOf [f 0, f 1, f 2, f 3] < 16
  cases f 0 <;> cases f 1 <;> cases f 2 <;> cases f 3 <;> decide

omit hp in
/-- The bits of an address of the block `x` from 12 up are those of `x`. -/
theorem bit_block (x : Nat) {o i : Nat} (ho : o < 4096) (hi : 12 ≤ i) : bit (4096 * x + o) i = bit (4096 * x) i := by
  obtain ⟨k, rfl⟩ := Nat.exists_eq_add_of_le hi
  have hdiv (a : Nat) : bit a (12 + k) = bit (a / 4096) k := by rw [bit_eq_testBit, bit_eq_testBit, show 4096 = 2 ^ 12 from rfl, Nat.testBit_div_two_pow, Nat.add_comm]
  rw [hdiv, hdiv]
  congr 1
  omega

theorem HashProfile.block_parts (x : Nat) {c : Nat} (hc : c < 16) : ∃ part < 16, ∀ o < 4096, p.channel (4096 * x + o) = c ↔ o / 256 = part := by
  have hlines : ∀ k : Nat, ∃ g : Nat → Bool, k < 4 → ∀ a, xorBits a (p.channelLine k) = (bit a (8 + k) != g (a / 65536)) := fun k => by
    by_cases hk : k < 4
    · obtain ⟨g, hg⟩ := (HashProfile.channelLine_isLine hp hk).xorBits
      exact ⟨g, fun _ => hg⟩
    · exact ⟨fun _ => false, fun h => absurd h hk⟩
  obtain ⟨g, hg⟩ := Classical.skolem.mp hlines
  refine ⟨_, bitsOf_lt fun k => (bit c k != g k (x / 16)), fun o ho => ?_⟩
  rw [← bitsOf_turned hc (by omega), HashProfile.channel_eq]
  refine iff_of_eq (congrArg (· = _) (congrArg bitsOf (List.map_congr_left fun k hk => ?_)))
  have hk' := List.mem_range.mp hk
  rw [hg k hk', show (4096 * x + o) / 65536 = x / 16 by omega]
  congr 1
  have hdiv : (4096 * x + o) / 256 = 2 ^ 4 * x + o / 256 := by omega
  rw [bit_eq_testBit, bit_eq_testBit, Nat.add_comm 8 k, ← Nat.testBit_div_two_pow, show 2 ^ 8 = 256 from rfl, hdiv, Nat.testBit_two_pow_mul_add _ (by omega), if_pos hk']

theorem HashProfile.block_bank (x : Nat) {o : Nat} (ho : o < 4096) : p.bank (4096 * x + o) = p.bank (4096 * x) := by
  rw [HashProfile.bank_eq, HashProfile.bank_eq]
  refine congrArg bitsOf (List.map_congr_left fun k hk => xorBits_congr fun i hi => bit_block x ho ?_)
  have hlow := (HashProfile.bankLine_isLine hp (List.mem_range.mp hk)).low hi
  omega

end

/-- Settles O58: the map is one-to-one, spreads a block of 4 KiB over the channels, and keeps a row of a bank within 512 KiB. -/
theorem addressMapIsOneToOne : Obligations.AddressMapIsOneToOne := by
  unfold Obligations.AddressMapIsOneToOne
  refine fun p hp => ⟨fun a b ha hb => HashProfile.oneToOne hp ha hb, fun x _ => ⟨fun c hc => HashProfile.block_parts hp x hc, fun o ho => ⟨HashProfile.block_bank hp x ho, ?_⟩⟩, fun a b ha hb _ _ hrow => ?_⟩
  · rw [dramRow, dramRow]
    omega
  · rwa [dramRow_eq ha, dramRow_eq hb] at hrow

end Sys2Proof.Machine
end

section
/-! PROOF of the claim on background events (spec/18_resilience.md R498, R499; spec/20_recorder.md R532, R533, R534, R554): the end of the only scan job, the flushes of the recorder, and the record that closes what a rate limit suppressed. -/

namespace Sys2Proof.Machine

/-! What recording does to the recorder's rate limits (R554). -/

theorem State.ringChanged_recorder (s : State) : s.ringChanged.recorder = s.recorder := by
  unfold State.ringChanged
  dsimp only
  split
  · split <;> rfl
  · split <;> rfl

theorem State.ringPut_recorder (s : State) (pad bs : Bytes) (n : Nat) : (s.ringPut pad bs n).recorder = s.recorder := by
  unfold State.ringPut
  dsimp only
  rw [State.ringChanged_recorder]
  split <;> rfl

theorem State.ringWrite_recorder (s : State) (e : Entry) : (s.ringWrite e).recorder = s.recorder := by
  simp only [State.ringWrite, apply_ite State.recorder, State.ringPut_recorder, State.ringFault, State.raise_recorder, ite_self]

theorem State.deliverTo_recorder (s : State) (e : Entry) (x : Session) : (s.deliverTo e x).recorder = s.recorder := by
  unfold State.deliverTo
  dsimp only
  cases (s.mbx x.mailbox).conn with
  | none => rfl
  | some c => simp only [apply_ite State.recorder, State.setMbx_recorder, ite_self]

theorem State.deliver_recorder (s : State) (e : Entry) : (s.deliver e).recorder = s.recorder :=
  foldl_keeps (P := fun b => b.recorder = s.recorder) (fun b hb x _ => (State.deliverTo_recorder b e x).trans hb) rfl

/-- Recording limits no rate of its own. -/
theorem State.recordRaw_rate (s : State) (ty time : Nat) (bs : Bytes) : (s.recordRaw ty time bs).recorder.rate = s.recorder.rate := by
  unfold State.recordRaw
  dsimp only
  split
  · rfl
  · rw [State.deliver_recorder, State.ringWrite_recorder]
    split <;> split <;> rfl

/-- The entry of the rate limits for an event type and a subject (R554). -/
def Recorder.rateOf (r : Recorder) (ty subject : Nat) : Option RateEntry := r.rate.find? fun x => x.ty == ty && x.subject == subject

/-- A write of one type's entry leaves the entries of the others. -/
theorem find?_rate_other {l : List RateEntry} {e : RateEntry} {ty subject k j : Nat} (hty : ty ≠ k) (he : e.ty = k) :
    (e :: l.filter fun x => !(x.ty == k && x.subject == j)).find? (fun x => x.ty == ty && x.subject == subject) = l.find? fun x => x.ty == ty && x.subject == subject := by
  have hskip : (e.ty == ty && e.subject == subject) = false := by rw [he, beq_false_of_ne hty.symm, Bool.false_and]
  rw [List.find?_cons_of_neg (by rw [hskip]; exact Bool.false_ne_true), List.find?_filter]
  congr 1
  funext x
  by_cases hx : x.ty = ty
  · simp only [hx, beq_false_of_ne hty, Bool.false_and, Bool.not_false, true_and, Bool.decide_eq_true]
  · rw [beq_false_of_ne hx]; simp

theorem State.recordLimited_rateOf {s : State} {k j ty subject : Nat} {v : List (Nat × Int)} (hty : ty ≠ k) :
    (s.recordLimited k j v).recorder.rateOf ty subject = s.recorder.rateOf ty subject := by
  unfold State.recordLimited Recorder.rateOf
  dsimp only
  split
  · rw [State.recordRaw_rate]; exact find?_rate_other hty rfl
  · next e he =>
    have hmine : (e.ty == k && e.subject == j) = true := List.find?_some (p := fun e : RateEntry => e.ty == k && e.subject == j) he
    have hke : e.ty = k := beq_iff_eq.mp (Bool.and_eq_true_iff.mp hmine).1
    split
    · rw [State.recordRaw_rate]; exact find?_rate_other hty rfl
    · exact find?_rate_other hty hke

/-- Settling a step limits the rate of no event but DOOR_DENIED (R443). -/
theorem settle_rateOf {a b : State} {ty subject : Nat} (hty : ty ≠ evDoorDenied) : (settle a b).recorder.rateOf ty subject = b.recorder.rateOf ty subject := by
  rw [settle_eq, setHealth_recorder, settleCount_recorder, drive_recorder]
  unfold settled
  dsimp only
  generalize hc : (if ((a.safeCauses != 0) != (b.safeCauses != 0)) = true then b.record evSafeFaultChange [p2 b.safeCauses] else b) = c
  have hb : c.recorder.rateOf ty subject = b.recorder.rateOf ty subject := by
    subst hc
    split
    · exact congrArg (List.find? _) (State.recordRaw_rate b _ _ _)
    · rfl
  cases c.out.ringDenied with
  | none => exact hb
  | some x => exact (State.recordLimited_rateOf hty).trans hb

/-- A step that moves no cause of SAFE_FAULT and wrote its event ring leaves the recorder as its effect left it. -/
theorem settle_quiet_recorder {a b : State} (hsafe : b.safeCauses = a.safeCauses) (hring : b.out.ringDenied = none) : (settle a b).recorder = b.recorder := by
  rw [settle_eq, setHealth_recorder, settleCount_recorder, drive_recorder, settled_quiet hsafe hring]

/-! Scan jobs (R498, R499). -/

/-- The only scan job has ended: its result has this state and this CRC (R499). -/
def State.scanEnds (s : State) (j : ScanJob) (r : ScanResult) (state crc : Nat) : State :=
  { s with health := { s.health with jobs := [], scanBusy := false, resultAlive := (s.health.resultAlive + 1) % 4294967296
                                     results := Map.set s.health.results j.id { r with state := state, alive := (s.health.resultAlive + 1) % 4294967296, crc := crc, doneTime := s.now } } }

section
variable {t : Time} {j : ScanJob} {r : ScanResult} {s : State} (hjobs : s.health.jobs = [j]) (hbusy : s.health.scanBusy = true) (hresult : Map.get? s.health.results j.id = some r)
  (hown : r.submitted = j.submitted)
include hjobs hbusy hresult hown

/-- The only job ends well with the CRC of its range. -/
theorem scanJobDone_next {b : Bytes} (hdoors : (s.tick t).scanRefused j = false) (hdata : s.dram.bytes? j.start j.length = some b) :
    exec (.scanJobDone t false) s = .next (settle (s.tick t) ((s.tick t).scanEnds j r 3 (crc32c b))) := by
  have hexec : exec (.scanJobDone t false) s = execScanJobDone t false s := rfl
  have hidle : ((s.tick t).scanEnds j r 3 (crc32c b)).startScan = (s.tick t).scanEnds j r 3 (crc32c b) := State.startScan_idle rfl
  rw [hexec, execScanJobDone, run_next, ← hidle]
  simp only [State.tick_health, State.tick_dram, hjobs, hbusy, hdoors, hdata, hresult, if_pos hown, Bool.or_self, Bool.not_true, Bool.false_eq_true, if_false, Option.isSome_some, Bool.false_or, if_true]
  rfl

/-- Where a read was refused it ends without one. -/
theorem scanJobDone_refused : exec (.scanJobDone t true) s = .next (settle (s.tick t) ((s.tick t).scanEnds j r 4 0)) := by
  have hexec : exec (.scanJobDone t true) s = execScanJobDone t true s := rfl
  have hidle : ((s.tick t).scanEnds j r 4 0).startScan = (s.tick t).scanEnds j r 4 0 := State.startScan_idle rfl
  rw [hexec, execScanJobDone, run_next, ← hidle]
  simp only [State.tick_health, hjobs, hbusy, hresult, if_pos hown, Bool.true_or, Bool.not_true, Bool.false_eq_true, if_false, if_true]
  rfl

end

/-- What the end of the only job leaves (R499). -/
theorem completes_scanEnds {i : Instr} {t : Time} {s : State} {j : ScanJob} {r : ScanResult} {state crc : Nat} (hi : exec i s = .next (settle (s.tick t) ((s.tick t).scanEnds j r state crc))) :
    Completes i s fun u => u.health.jobs = [] ∧ u.health.scanBusy = false ∧ u.health.resultAlive = (s.health.resultAlive + 1) % 4294967296 ∧
      Map.get? u.health.results j.id = some { r with state := state, alive := (s.health.resultAlive + 1) % 4294967296, crc := crc, doneTime := (s.tick t).now } ∧ u.dram = s.dram := by
  refine ⟨_, hi, ?_⟩
  simp only [settle_health, settle_dram]
  exact ⟨rfl, rfl, rfl, Map.get?_set_same _ _ _, rfl⟩

/-! Flushes (R532, R533). -/

/-- The records that a flush of the first `n` writes stand in the ring (R533). -/
theorem flushed_inRing_take {s : State} {n : Nat} (hfit : ∀ e ∈ s.recorder.buf.take n, e.size ≤ 4072) (hcount : s.recorder.buf.length ≤ 15872) : (s.flushed n).inRing (s.recorder.buf.take n) := by
  have hall := flushed_inRing (s := { s with recorder := { s.recorder with buf := s.recorder.buf.take n } }) hfit (Nat.le_trans (List.length_take_le' _ _) hcount)
  have hpages (audit : Bool) : State.newPages { s with recorder := { s.recorder with buf := s.recorder.buf.take n } } (s.recorder.buf.take n).length audit = s.newPages n audit := by
    simp only [State.newPages, List.take_length]
    rfl
  intro e he
  obtain ⟨p, hp, hrest⟩ := hall e he
  refine ⟨p, ?_, hrest⟩
  simp only [State.flushed, hpages] at hp
  exact hp

theorem flushTimer_next {t : Time} {s : State} (hb : (s.tick t).spireB = true) (hidle : s.recorder.flushing = none) (hdue : s.recorder.lastFlush + 10000000000 ≤ (s.tick t).clk) :
    exec (.flushTimer t) s = .next (settle (s.tick t) (s.tick t).startFlush) := by
  have hexec : exec (.flushTimer t) s = execFlushTimer t s := rfl
  have hdue' : s.recorder.lastFlush + 10 * sec ≤ (s.tick t).clk := hdue
  rw [hexec, execFlushTimer, run_next]
  simp only [State.tick_recorder, hb, hidle, hdue', Option.isNone_none, decide_true, Bool.and_self, if_true]

theorem recorderFlushDone_next {t : Time} {s : State} {n : Nat} (hb : (s.tick t).spireB = true) (hbusy : s.recorder.flushing = some n) :
    exec (.recorderFlushDone t) s = .next (settle (s.tick t) ((s.tick t).flushRing n)) := by
  have hexec : exec (.recorderFlushDone t) s = execRecorderFlushDone t s := rfl
  rw [hexec, execRecorderFlushDone, run_next]
  simp only [State.tick_recorder, hb, hbusy, if_true]

/-! The closing record of a rate-limited event (R554). -/

/-- The rate limit of an event counts anew from this instant. -/
def State.rateAnew (s : State) (ty subject : Nat) : State :=
  { s with recorder := { s.recorder with rate := { ty := ty, subject := subject, lastAt := s.clk } :: s.recorder.rate.filter fun x => !(x.ty == ty && x.subject == subject) } }

theorem rateAnew_rateOf (s : State) (ty subject : Nat) : (s.rateAnew ty subject).recorder.rateOf ty subject = some { ty := ty, subject := subject, lastAt := s.clk } := by
  rw [Recorder.rateOf, State.rateAnew, List.find?_cons_of_pos (by rw [beq_self_eq_true, beq_self_eq_true, Bool.and_self])]

theorem rateLimitClose_next {t : Time} {ty subject : Nat} {e : RateEntry} {s : State} (hfound : (s.recorder.rate.find? fun x => x.ty == ty && x.subject == subject) = some e)
    (hmissed : e.suppressed ≠ 0) (hdue : e.lastAt + 1000000000 ≤ (s.tick t).clk) :
    exec (.rateLimitClose t ty subject) s = .next (settle (s.tick t) (((s.tick t).rateAnew ty subject).recordRaw ty e.time (pvPlace e.payload 4 (le 4 (sat 4 e.suppressed))))) := by
  have hexec : exec (.rateLimitClose t ty subject) s = execRateLimitClose t ty subject s := rfl
  have hearly : ¬ ((decide (e.suppressed = 0) || decide ((s.tick t).clk < e.lastAt + 1000 * ms)) = true) := by
    rw [Bool.or_eq_true, decide_eq_true_iff, decide_eq_true_iff, not_or]
    exact ⟨hmissed, Nat.not_lt.mpr hdue⟩
  rw [hexec, execRateLimitClose, run_next]
  simp only [State.tick_recorder, hfound]
  rw [if_neg hearly]
  rfl

/-- Where no entry has anything to close, nothing happens. -/
theorem rateLimitClose_idle {t : Time} {ty subject : Nat} {s : State}
    (hnone : ∀ x ∈ s.recorder.rate, x.ty = ty → x.subject = subject → x.suppressed = 0 ∨ (s.tick t).clk < x.lastAt + 1000000000) :
    exec (.rateLimitClose t ty subject) s = .next (settle (s.tick t) (s.tick t)) := by
  have hexec : exec (.rateLimitClose t ty subject) s = execRateLimitClose t ty subject s := rfl
  rw [hexec, execRateLimitClose, run_next]
  simp only [State.tick_recorder]
  split
  case h_1 e hfound =>
    have hmine : (e.ty == ty && e.subject == subject) = true := List.find?_some (p := fun x : RateEntry => x.ty == ty && x.subject == subject) hfound
    obtain ⟨hty, hsubject⟩ := Bool.and_eq_true_iff.mp hmine
    have hearly := hnone e (List.mem_of_find?_eq_some hfound) (beq_iff_eq.mp hty) (beq_iff_eq.mp hsubject)
    rw [if_pos]
    rw [Bool.or_eq_true, decide_eq_true_iff, decide_eq_true_iff]
    exact hearly
  case h_2 => rfl

/-- Settles O47: the end of the only scan job starts no other; a flush that the timer starts leaves the step quiet; a flush writes the first records of the buffer to the ring, and what is recorded after it stands behind the rest; and the step that closes a rate limit records no other event of its type. -/
theorem backgroundEventsComplete : Obligations.BackgroundEventsComplete := by
  unfold Obligations.BackgroundEventsComplete
  refine ⟨?done, ?refused, ?timer, ?flush, ?close, ?idle⟩
  case done => exact fun t j r b s hjobs hbusy hdoors hresult hown hdata => completes_scanEnds (scanJobDone_next hjobs hbusy hresult hown hdoors hdata)
  case refused => exact fun t j r s hjobs hbusy hresult hown => completes_scanEnds (scanJobDone_refused hjobs hbusy hresult hown)
  case timer =>
    intro t s hb hidle hdue
    have hrec : (settle (s.tick t) (s.tick t).startFlush).recorder = (s.tick t).startFlush.recorder := settle_quiet_recorder rfl rfl
    refine ⟨_, flushTimer_next hb hidle hdue, ?_⟩
    simp only [hrec]
    exact ⟨⟨_, rfl, Nat.le_refl _⟩, List.prefix_refl _, rfl, rfl, .trans (by constructor <;> rfl) (settle_block _ _)⟩
  case flush =>
    intro t n s hb hbusy
    have hring := (flushRing_grows (s.tick t) n).trans (settle_records (s.tick t) ((s.tick t).flushRing n)).journals
    refine ⟨_, recorderFlushDone_next hb hbusy, hring.lastFlush, (settle_records _ _).journals.nand, hring.buf, fun hfit hcount e he => ?_, (flushRing_same _ n).block.trans (settle_block _ _)⟩
    rw [hring.nand]
    exact flushed_inRing_take (s := s.tick t) hfit hcount e he
  case close =>
    intro t ty subject e bs s hfound hmissed hdue hbs hop hroom
    have hadded := State.recordRaw_added (s := (s.tick t).rateAnew ty subject) (ty := ty) (time := e.time) (bs := pvPlace e.payload 4 (le 4 (sat 4 e.suppressed))) (.inr (hbs ▸ hroom))
    have hgrows := hadded.trans (settle_records (s.tick t) _).journals
    have hty : ty ≠ evDoorDenied := by rintro rfl; exact absurd hop (by decide)
    refine ⟨_, rateLimitClose_next hfound hmissed hdue, ?_, ?_, hgrows.nand, .trans (by constructor <;> rfl) ((State.recordRaw_same _ _ _ _).block.trans (settle_block _ _))⟩
    · exact (settle_rateOf hty).trans ((congrArg (List.find? _) (State.recordRaw_rate _ _ _ _)).trans (rateAnew_rateOf _ ty subject))
    · rw [hop, ← hbs] at hgrows
      exact hgrows.buf
  case idle => exact fun t ty subject s hnone => leaves_tick (rateLimitClose_idle hnone)

end Sys2Proof.Machine
end

section
/-! PROOF of the claim on failed units (spec/18_resilience.md R488, R490, R491, R493, R496): a decoder engine or scaler that fails joins the failed units, and a spare takes its place and its work. -/

namespace Sys2Proof.Machine

/-- A unit whose record is not the initial one is listed with it. -/
theorem Map.mem_of_get {α : Type} {d : α} {m : Map α} {k : Nat} (h : Map.get d m k ≠ d) : (k, Map.get d m k) ∈ m := by
  induction m with
  | nil => exact absurd rfl h
  | cons e m ih =>
    obtain ⟨i, x⟩ := e
    rw [Map.get] at h ⊢
    split at h
    case isTrue heq => rw [if_pos heq, ← heq]; exact List.mem_cons_self
    case isFalse hne => rw [if_neg hne]; exact List.mem_cons_of_mem _ (ih h)

theorem mem_insertBy {α : Type} {key : α → Nat} {x y : α} {l : List α} : y ∈ insertBy key x l ↔ y = x ∨ y ∈ l := by
  induction l with
  | nil => rw [insertBy, List.mem_singleton]; simp
  | cons z l ih =>
    rw [insertBy]
    split
    · exact List.mem_cons
    · rw [List.mem_cons, ih, List.mem_cons]
      exact or_left_comm

/-- Sorting moves the elements of a list and nothing else. -/
theorem mem_sortBy {α : Type} {key : α → Nat} {l : List α} {y : α} : y ∈ sortBy key l ↔ y ∈ l := by
  have hfold (a : List α) : y ∈ l.foldl (fun a x => insertBy key x a) a ↔ y ∈ a ∨ y ∈ l := by
    induction l generalizing a with
    | nil => simp
    | cons x l ih => rw [List.foldl_cons, ih, mem_insertBy, List.mem_cons, or_assoc, or_left_comm]
  rw [sortBy, hfold]
  simp

/-- Units in service once `e` has left and a spare, if any, has come. -/
def replaced (units : List Nat) (e : Nat) (spare : Option Nat) : List Nat := sortBy id (units.filter (· != e) ++ spare.toList)

theorem not_mem_replaced {units : List Nat} {e : Nat} {spare : Option Nat} (h : spare ≠ some e) : e ∉ replaced units e spare := by
  simp [replaced, mem_sortBy, h]

theorem mem_replaced {units : List Nat} {e x : Nat} : x ∈ replaced units e (some x) := by
  simp [replaced, mem_sortBy]

/-! Decoder engines (R490, R491). -/

/-- The spare of a decoder engine (R490). -/
def State.spareEngine (s : State) (e : Nat) : Option Nat :=
  (towerEngines (if e < 9 then 7 else 8)).find? fun x => x != e && !s.health.engines.contains x && !s.health.failedEngines.contains x

theorem spareEngine_ne (s : State) (e : Nat) : s.spareEngine e ≠ some e := fun h => by
  have hne : (e != e && !s.health.engines.contains e && !s.health.failedEngines.contains e) = true := List.find?_some (p := fun x => x != e && !s.health.engines.contains x && !s.health.failedEngines.contains x) h
  simp at hne

theorem ctx_moveCtx (s : State) (c n : Nat) : ((s.moveCtx c n).ctx c).decoder = n := by
  unfold State.moveCtx
  dsimp only
  rw [State.ctx_setCtx]
  split <;> rfl

theorem ctx_moveCtx_keeps {s : State} {c k n : Nat} (h : (s.ctx c).decoder = n) : ((s.moveCtx k n).ctx c).decoder = n := by
  by_cases hk : c = k
  · subst hk; exact ctx_moveCtx s c n
  · have hother : (s.moveCtx k n).ctx c = s.ctx c := Map.get_set_other _ _ _ hk
    rw [hother, h]

theorem ctx_of_streams {a b : State} (h : b.streams = a.streams) (c : Nat) : b.ctx c = a.ctx c := by simp only [State.ctx, h]

theorem decoder_record_ite {b : State} {c n ty : Nat} {v : List (Nat × Int)} {p : Prop} [Decidable p] (h : (b.ctx c).decoder = n) : ((if p then b.record ty v else b).ctx c).decoder = n := by
  split
  · rw [ctx_of_streams (State.record_streams b ty v), h]
  · exact h

/-- An open context of the engine decodes on the spare (R491). -/
theorem leaveEngine_moves {s : State} {e n c : Nat} (hopen : s.ctxOpen c = true) (hcompressed : (s.ctx c).decl.compressed = true) (hmine : (s.ctx c).decoder = e) :
    ((s.leaveEngine e (some n)).ctx c).decoder = n := by
  unfold State.leaveEngine
  extract_lets streams idle place moved
  have hlisted : (c, s.ctx c) ∈ idle.streams.ctx.filter fun x => idle.ctxOpen x.1 && x.2.decl.compressed && x.2.decoder == e := by
    refine List.mem_filter.mpr ⟨Map.mem_of_get fun hd => ?_, ?_⟩
    · have hclosed : s.ctx c = {} := hd
      rw [State.ctxOpen, hclosed] at hopen
      exact absurd hopen (by decide)
    · have hidle : idle.ctxOpen c = true := hopen
      simp only [hidle, hcompressed, hmine, beq_self_eq_true, Bool.and_self]
  have hmoved : (moved.ctx c).decoder = n := by
    refine foldl_turns (P := fun _ => True) (Q := fun b : State => (b.ctx c).decoder = n) hlisted (fun _ _ _ _ _ => trivial) (fun b _ => ?_) (fun b hb y _ => ?_) trivial
    · exact decoder_record_ite (ctx_moveCtx b c n)
    · exact decoder_record_ite (ctx_moveCtx_keeps hb)
  refine foldl_keeps (P := fun b : State => (b.ctx c).decoder = n) (fun b hb _ _ => ?_) hmoved
  exact hb

/-- The engine has joined the failed ones, and its spare serves. -/
def State.engineFailed (s : State) (e : Nat) : State :=
  { s with health := { s.health with failedEngines := s.health.failedEngines ++ [e], engines := replaced s.health.engines e (s.spareEngine e) } }

/-- A serving engine that fails leaves its work to its spare, once that is recorded. -/
theorem failEngine_leaves {s : State} {e : Nat} (hserves : s.health.engines.contains e = true) (hnew : s.health.failedEngines.contains e = false) :
    ∃ w, State.SameUnits (s.engineFailed e) w ∧ s.failEngine e = w.leaveEngine e (s.spareEngine e) := by
  unfold State.failEngine
  extract_lets h d was spare noted swapped
  have hwas : was = true := hserves
  have hnoted : State.SameUnits (s.engineFailed e) noted := by
    have hfailed : noted = (s.engineFailed e).record evUnitFailed [p1 0, p2 e] := by
      simp only [noted, hwas, if_true]
      rfl
    rw [hfailed]
    exact State.record_same _ _ _
  refine ⟨swapped, ?_, ?_⟩
  · simp only [swapped]
    generalize spare = other
    cases other with
    | none => exact hnoted
    | some x => exact hnoted.trans (State.record_same _ _ _)
  · rw [if_neg (by rw [hnew]; exact Bool.false_ne_true), if_neg (by rw [hwas]; decide)]
    rfl

/-- What a serving engine that fails leaves (R490, R491). -/
theorem completes_failEngine {i : Instr} {t : Time} {e : Nat} {s v : State} (hi : exec i s = .next (settle (s.tick t) (v.failEngine e))) (hstreams : v.streams = s.streams)
    (hengines : v.health.engines = s.health.engines) (hfailed : v.health.failedEngines = s.health.failedEngines)
    (hserves : s.health.engines.contains e = true) (hnew : s.health.failedEngines.contains e = false) :
    Completes i s fun u => u.health.failedEngines = s.health.failedEngines ++ [e] ∧ e ∉ u.health.engines ∧
      ∀ x, s.spareEngine e = some x → x ∈ u.health.engines ∧ ∀ c, s.ctxOpen c = true → (s.ctx c).decl.compressed = true → (s.ctx c).decoder = e → (u.ctx c).decoder = x := by
  have hspare : v.spareEngine e = s.spareEngine e := by simp only [State.spareEngine, hengines, hfailed]
  obtain ⟨w, hw, hleaves⟩ := failEngine_leaves (hengines ▸ hserves) (hfailed ▸ hnew)
  have hhealth : (settle (s.tick t) (v.failEngine e)).health = (v.engineFailed e).health := by
    rw [settle_health, hleaves, (State.leaveEngine_core _ _ _).health, hw.health]
  have hctx (c : Nat) : w.ctx c = s.ctx c := ctx_of_streams (hw.streams.trans hstreams) c
  refine ⟨_, hi, ?_, ?_, fun x hx => ⟨?_, fun c hopen hcompressed hmine => ?_⟩⟩
  · rw [hhealth, ← hfailed]
    rfl
  · rw [hhealth]
    exact not_mem_replaced (spareEngine_ne v e)
  · rw [hhealth]
    simp only [State.engineFailed, hspare, hx]
    exact mem_replaced
  · rw [ctx_of_streams (settle_streams _ _), hleaves, hspare, hx]
    exact leaveEngine_moves (by rw [State.ctxOpen, hctx]; exact hopen) (by rw [hctx, hcompressed]) (by rw [hctx, hmine])

/-! Scalers (R490, R493). -/

/-- The spare of a scaler (R490). -/
def State.spareScaler (s : State) (n : Nat) : Option Nat :=
  (List.range 104).find? fun x => x != n && !s.health.scalers.contains x && !s.health.failedScalers.contains x

theorem spareScaler_ne (s : State) (n : Nat) : s.spareScaler n ≠ some n := fun h => by
  have hne : (n != n && !s.health.scalers.contains n && !s.health.failedScalers.contains n) = true := List.find?_some (p := fun x => x != n && !s.health.scalers.contains x && !s.health.failedScalers.contains x) h
  simp at hne

/-- The scaler has joined the failed ones, its spare serves, and its assignments will move (R490). -/
def State.scalerFailed (s : State) (n : Nat) : State :=
  { s with health := { s.health with failedScalers := s.health.failedScalers ++ [n], scalers := replaced s.health.scalers n (s.spareScaler n)
                                     swaps := if s.comp.assigns.any fun a => a.scalers.contains n then s.health.swaps ++ [(n, s.spareScaler n)] else s.health.swaps } }

theorem failScaler_same {s : State} {n : Nat} (hserves : s.health.scalers.contains n = true) (hnew : s.health.failedScalers.contains n = false) :
    State.SameUnits (s.scalerFailed n) (s.failScaler n) := by
  unfold State.failScaler
  extract_lets h was spare used noted
  have hwas : was = true := hserves
  have hnoted : State.SameUnits (s.scalerFailed n) noted := by
    have hfailed : noted = (s.scalerFailed n).record evUnitFailed [p1 1, p2 n] := by
      simp only [noted, hwas, if_true, Bool.true_and]
      rfl
    rw [hfailed]
    exact State.record_same _ _ _
  rw [if_neg (by rw [hnew]; exact Bool.false_ne_true), hwas]
  generalize spare = other
  cases other with
  | none => exact hnoted
  | some x => exact hnoted.trans (State.record_same _ _ _)

/-- What a serving scaler that fails leaves (R490). -/
theorem completes_failScaler {i : Instr} {t : Time} {n : Nat} {s v : State} (hi : exec i s = .next (settle (s.tick t) (v.failScaler n))) (hassigns : v.comp.assigns = s.comp.assigns)
    (hswaps : v.health.swaps = s.health.swaps) (hscalers : v.health.scalers = s.health.scalers) (hfailed : v.health.failedScalers = s.health.failedScalers)
    (hserves : s.health.scalers.contains n = true) (hnew : s.health.failedScalers.contains n = false) :
    Completes i s fun u => u.health.failedScalers = s.health.failedScalers ++ [n] ∧ n ∉ u.health.scalers ∧
      ∀ x, s.spareScaler n = some x → x ∈ u.health.scalers ∧ u.health.swaps = if s.comp.assigns.any fun a => a.scalers.contains n then s.health.swaps ++ [(n, some x)] else s.health.swaps := by
  have hspare : v.spareScaler n = s.spareScaler n := by simp only [State.spareScaler, hscalers, hfailed]
  have hhealth : (settle (s.tick t) (v.failScaler n)).health = (v.scalerFailed n).health := by
    rw [settle_health, (failScaler_same (hscalers ▸ hserves) (hfailed ▸ hnew)).health]
  refine ⟨_, hi, ?_, ?_, fun x hx => ⟨?_, ?_⟩⟩
  · rw [hhealth, ← hfailed]
    rfl
  · rw [hhealth]
    exact not_mem_replaced (spareScaler_ne v n)
  · rw [hhealth]
    simp only [State.scalerFailed, hspare, hx]
    exact mem_replaced
  · rw [hhealth]
    simp only [State.scalerFailed, hspare, hx, hassigns, hswaps]

/-! The events. -/

/-- An engine in service whose test is due has been tested at this instant. -/
def State.engineTestedNow (s : State) (e : Nat) : State := { s with health := { s.health with engineTested := Map.set s.health.engineTested e s.clk } }

theorem decoderSelfTest_next {t : Time} {e : Nat} {pass : Bool} {s : State} (he : e < 18) (hserves : s.health.engines.contains e = true) (hon : (s.tick t).domOn (if e < 9 then 7 else 8) = true)
    (hidle : Map.get? s.streams.working e = none) (hdue : ∀ x, Map.get? s.health.engineTested e = some x → x + 10000000000 ≤ (s.tick t).clk) :
    exec (.decoderSelfTest t e pass) s = .next (settle (s.tick t) (if pass then (s.tick t).engineTestedNow e else ((s.tick t).engineTestedNow e).failEngine e)) := by
  have hexec : exec (.decoderSelfTest t e pass) s = execDecoderSelfTest t e pass s := rfl
  have hperiod : (s.tick t).periodDue (Map.get? s.health.engineTested e) (10 * sec) = true := State.periodDue_of hdue
  rw [hexec, execDecoderSelfTest, runIf_next (decide_eq_true he)]
  simp only [State.tick_health, State.tick_streams, hserves, hon, hidle, hperiod, Option.isSome_none, Bool.not_true, Bool.or_self, Bool.false_eq_true, if_false]
  rfl

theorem decoderSelfTest_idle {t : Time} {e : Nat} {pass : Bool} {s : State} (he : e < 18) (hout : s.health.engines.contains e = false) :
    exec (.decoderSelfTest t e pass) s = .next (settle (s.tick t) (s.tick t)) := by
  have hexec : exec (.decoderSelfTest t e pass) s = execDecoderSelfTest t e pass s := rfl
  rw [hexec, execDecoderSelfTest, runIf_next (decide_eq_true he)]
  simp only [State.tick_health, hout, Bool.not_false, Bool.true_or, if_true]

/-- A scaler in service whose test is due has been tested at this instant. -/
def State.scalerTestedNow (s : State) (n : Nat) : State := { s with health := { s.health with scalerTested := Map.set s.health.scalerTested n s.clk } }

theorem scalerSelfTest_next {t : Time} {n : Nat} {pass : Bool} {s : State} (hn : n < 104) (hserves : s.health.scalers.contains n = true) (hon : (s.tick t).domOn 10 = true)
    (hidle : s.scalerIdle n = true) (hdue : ∀ x, Map.get? s.health.scalerTested n = some x → x + 1000000000 ≤ (s.tick t).clk) :
    exec (.scalerSelfTest t n pass) s = .next (settle (s.tick t) (if pass then (s.tick t).scalerTestedNow n else ((s.tick t).scalerTestedNow n).failScaler n)) := by
  have hexec : exec (.scalerSelfTest t n pass) s = execScalerSelfTest t n pass s := rfl
  have hperiod : (s.tick t).periodDue (Map.get? s.health.scalerTested n) (1000 * ms) = true := State.periodDue_of hdue
  have hidle' : (s.tick t).scalerIdle n = true := hidle
  rw [hexec, execScalerSelfTest, runIf_next (decide_eq_true hn)]
  simp only [State.tick_health, hserves, hon, hidle', hperiod, Bool.not_true, Bool.or_self, Bool.false_eq_true, if_false]
  rfl

theorem scalerSelfTest_idle {t : Time} {n : Nat} {pass : Bool} {s : State} (hn : n < 104) (hout : s.health.scalers.contains n = false) :
    exec (.scalerSelfTest t n pass) s = .next (settle (s.tick t) (s.tick t)) := by
  have hexec : exec (.scalerSelfTest t n pass) s = execScalerSelfTest t n pass s := rfl
  rw [hexec, execScalerSelfTest, runIf_next (decide_eq_true hn)]
  simp only [State.tick_health, hout, Bool.not_false, Bool.true_or, if_true]

section
variable {t : Time} {s : State} (hon : (s.tick t).domOn 3 = true) (hbg : s.health.bgSuspended = false) (hruns : s.prot.halted.contains 26 = false)
include hon hbg hruns

theorem sramScrub_engine {e : Nat} (he : e < 18) (htower : (s.tick t).domOn (if e < 9 then 7 else 8) = true) : exec (.sramScrub t (.engine e)) s = .next (settle (s.tick t) ((s.tick t).failEngine e)) := by
  have hexec : exec (.sramScrub t (.engine e)) s = execSramScrub t (.engine e) s := rfl
  rw [hexec, execSramScrub, run_next]
  simp only [State.tick_health, State.tick_prot, hon, hbg, hruns, htower, he, Bool.not_true, Bool.or_self, Bool.false_eq_true, if_false, decide_true, Bool.and_self, if_true]

theorem sramScrub_scaler {n : Nat} (hn : n < 104) (hcomp : (s.tick t).domOn 10 = true) : exec (.sramScrub t (.scaler n)) s = .next (settle (s.tick t) ((s.tick t).failScaler n)) := by
  have hexec : exec (.sramScrub t (.scaler n)) s = execSramScrub t (.scaler n) s := rfl
  rw [hexec, execSramScrub, run_next]
  simp only [State.tick_health, State.tick_prot, hon, hbg, hruns, hcomp, hn, Bool.not_true, Bool.or_self, Bool.false_eq_true, if_false, decide_true, Bool.and_self, if_true]

end

theorem sramScrub_clean (t : Time) (s : State) : exec (.sramScrub t .clean) s = .next (settle (s.tick t) (s.tick t)) := by
  have hexec : exec (.sramScrub t .clean) s = execSramScrub t .clean s := rfl
  rw [hexec, execSramScrub, run_next]
  simp only [ite_self]

theorem lanternDiagnosis_next {t : Time} {w : Nat} {failed l : List Nat} {s : State} (hw : w < 1024) (hl : (s.win w).diagnose = some l) (hon : (s.tick t).domOn 10 = true)
    (hblank : (s.head (s.activeWindow w).head).scanning = false) :
    exec (.lanternDiagnosis t w failed) s =
      .next (settle (s.tick t) ((failed.filter fun u => l.contains u && s.health.scalers.contains u).foldl State.failScaler ((s.tick t).setWin w { s.win w with diagnose := none }))) := by
  have hexec : exec (.lanternDiagnosis t w failed) s = execLanternDiagnosis t w failed s := rfl
  have hl' : ((s.tick t).win w).diagnose = some l := hl
  have hblank' : ((s.tick t).head ((s.tick t).activeWindow w).head).scanning = false := hblank
  rw [hexec, execLanternDiagnosis, runIf_next (decide_eq_true hw)]
  simp only [hl', hblank', hon, Bool.not_true, Bool.or_self, Bool.false_eq_true, if_false]
  rfl

/-- Settles O44: a self-test that passes only notes its instant; a unit that fails, by its test, by the scrubber or by a diagnosis, hands its work to the spare of its kind. -/
theorem failedUnitsComplete : Obligations.FailedUnitsComplete := by
  unfold Obligations.FailedUnitsComplete
  refine ⟨?enginePasses, ?scalerPasses, ?engineOut, ?scalerOut, ?engineFails, ?scalerFails, ?clean, ?noneFails⟩
  case enginePasses => exact fun t e s he hserves hon hidle hdue => leaves_settled (decoderSelfTest_next (pass := true) he hserves hon hidle hdue) (.refl _)
  case scalerPasses => exact fun t n s hn hserves hon hidle hdue => leaves_settled (scalerSelfTest_next (pass := true) hn hserves hon hidle hdue) (.refl _)
  case engineOut => exact fun t e pass s he hout => leaves_tick (decoderSelfTest_idle he hout)
  case scalerOut => exact fun t n pass s hn hout => leaves_tick (scalerSelfTest_idle hn hout)
  case engineFails =>
    rintro t e _ s i he rfl (⟨rfl, hidle, hdue⟩ | ⟨rfl, hhouse, hbg, hruns⟩) hserves hnew hon
    · exact completes_failEngine (decoderSelfTest_next (pass := false) he hserves hon hidle hdue) rfl rfl rfl hserves hnew
    · exact completes_failEngine (sramScrub_engine hhouse hbg hruns he hon) rfl rfl rfl hserves hnew
  case scalerFails =>
    rintro t n w l s i hn (⟨rfl, hidle, hdue⟩ | ⟨rfl, hhouse, hbg, hruns⟩ | ⟨rfl, hw, hl, hmem, hblank⟩) hserves hnew hon
    · exact completes_failScaler (scalerSelfTest_next (pass := false) hn hserves hon hidle hdue) rfl rfl rfl rfl hserves hnew
    · exact completes_failScaler (sramScrub_scaler hhouse hbg hruns hn hon) rfl rfl rfl rfl hserves hnew
    · have hone : [n].filter (fun u => l.contains u && s.health.scalers.contains u) = [n] :=
        List.filter_cons_of_pos (by rw [List.contains_iff_mem.mpr hmem, hserves, Bool.and_self])
      have hnext := lanternDiagnosis_next (failed := [n]) hw hl hon hblank
      rw [hone] at hnext
      exact completes_failScaler hnext rfl rfl rfl rfl hserves hnew
  case clean => exact fun t s => leaves_tick (sramScrub_clean t s)
  case noneFails => exact fun t w l s hw hl hon hblank => leaves_settled (lanternDiagnosis_next (failed := []) hw hl hon hblank) (.refl _)

end Sys2Proof.Machine
end

section
/-! PROOF of the claim on the update commands (spec/12_commands.md R368; spec/19_update.md R509–R513, R519, R520): each answers and moves the plan, and what a confirmation or a fallback does beyond the plan closes no connection. -/

namespace Sys2Proof.Machine

/-! What the steps of a fallback and a confirmation leave of the connections. -/

theorem State.setImage_sameConns (s : State) (i : Nat) (x : Image) : State.SameConns s (s.setImage i x) := .of_izent

theorem State.activate_sameConns (s : State) (i : Nat) : State.SameConns s (s.activate i) := by
  unfold State.activate
  exact .ite .of_izent (.ite .of_izent .of_izent)

theorem State.setBaseCfg_sameConns (s : State) (r : BaseRec) : State.SameConns s (s.setBaseCfg r) := ⟨s.setBaseCfg_heard r⟩

/-- Settings that go back to a snapshot may change the idle time of sessions, but open and close none (R523). -/
theorem State.restoreOwned_sameConns (s : State) (i : Nat) (o : Owned) : State.SameConns s (s.restoreOwned i o) := by
  unfold State.restoreOwned
  split
  · extract_lets comp prot time izent stored timings lanes bases
    have hstored : State.SameConns s stored := ⟨fun _ => rfl⟩
    have htimings : State.SameConns stored timings := .fold (fun _ _ => .of_izent) _ _
    have hlanes : State.SameConns timings lanes := .fold (fun a e => .trans (.ite (.refl a) (a.applyLane_sameConns _)) .of_izent) _ _
    have hbases : State.SameConns lanes bases := .fold (fun a e => .ite (.refl a) (a.setBaseCfg_sameConns _)) _ _
    exact hstored.trans (htimings.trans (hlanes.trans (hbases.trans (.fold (fun _ _ => .of_izent) _ _))))
  · exact .of_izent
  · exact .of_izent
  · extract_lets keys touch
    have hkeys : State.SameConns s keys := .fold (fun _ _ => .of_izent) _ _
    exact hkeys.trans .of_izent
  · exact .refl s

theorem State.setUpd_sameConns (s : State) (u : Update) : State.SameConns s { s with upd := u } := .of_izent

theorem State.planRestart_sameConns (s : State) (mode : Nat) : State.SameConns s (s.planRestart mode) := .of_izent

theorem State.fallen_sameConns (s : State) (cause : Nat) : State.SameConns s (s.fallen cause) := by
  unfold State.fallen
  extract_lets restored upd fallen
  have hrestored : State.SameConns s restored := by
    refine .fold (fun a i => ?_) _ s
    split
    · exact .trans (a.setImage_sameConns i _) (State.restoreOwned_sameConns _ i _)
    · exact .refl a
  have hfallen : State.SameConns s fallen := (hrestored.trans (restored.setUpd_sameConns _)).record evUpdateFallback [p1 cause]
  exact .ite (hfallen.trans (fallen.planRestart_sameConns 0)) hfallen

theorem State.nextImage_sameConns (s : State) : State.SameConns s s.nextImage := by
  unfold State.nextImage
  split
  · split
    · exact s.activate_sameConns _
    · exact s.fallen_sameConns _
  · split
    · exact s.activate_sameConns _
    · exact .ite .of_izent .of_izent

theorem State.dropDue_sameConns (s : State) : State.SameConns s s.dropDue := by
  unfold State.dropDue
  extract_lets drop spire
  have hspire : State.SameConns s spire := .trans (.ite (s.setImage_sameConns _ _) (.refl s)) (.ite (State.setImage_sameConns _ _ _) (.refl _))
  exact hspire.trans .of_izent

theorem State.fallBack_sameConns (s : State) (cause : Nat) : State.SameConns s (s.fallBack cause) := by
  unfold State.fallBack
  extract_lets upd fell
  have hfell : State.SameConns s fell := .of_izent
  exact .ite hfell (hfell.trans (fell.dropDue_sameConns.trans (State.nextImage_sameConns _)))

theorem State.advanceCounter_sameConns (s : State) : State.SameConns s s.advanceCounter := by
  unfold State.advanceCounter
  exact .ite (.record .of_izent _ _) (.refl s)

theorem State.confirmPlan_sameConns (s : State) (source : Nat) : State.SameConns s (s.confirmPlan source) := by
  unfold State.confirmPlan
  extract_lets upd advanced confirmed
  have hadvanced : State.SameConns s advanced := (s.setUpd_sameConns _).trans (State.advanceCounter_sameConns _)
  have hconfirmed : State.SameConns advanced confirmed := .fold (fun a i => a.setImage_sameConns i _) _ advanced
  exact (hadvanced.trans hconfirmed).record evUpdateConfirmed [p1 source]

/-! The commands' own parts. -/

/-- No plan that is RUNNING or CONFIRM_PENDING stands in the way of one that is PLANNED. -/
theorem planBusy_of_planned {a : State} (h : a.upd.planState = .planned) : a.planBusy = false := by rw [State.planBusy, h]; decide

/-- The next PLAN_ID and the plan of UPDATE_PLAN (R511, R512). -/
def State.planned (a : State) (c : Call) (new : List Container) (order : List Nat) : State :=
  { a with upd := { a.upd with
      planId := a.newPlanId, usedPlans := a.newPlanId :: a.upd.usedPlans, planState := .planned, plan := new, order := order, stagedCount := 0, activated := [], falling := none, deadline := 0, current := 255
      sources := (List.range (rd c.p 0 1)).foldl (fun m i => Map.set m (rd c.p (4 + 20 * i) 1) (c.addr (8 + 20 * i), c.cap (8 + 20 * i))) [] } }

theorem bodyUpdatePlan_ok {c : Call} {a : State} {new : List Container} {order : List Nat} (hpcie : c.net = false) (hidle : a.planBusy = false) (hgood : a.entriesBad c (rd c.p 0 1) 0 [] = none)
    (hnew : new = (List.range (rd c.p 0 1)).map fun i => containerOf (fit 512 (c.msg.data.getD i []))) (horder : a.orderFrom new (rd c.p 0 1) [] (sortBy id (new.map Container.image)) = some order) :
    bodyUpdatePlan c a = .ok (a.planned c new order).useFree (le 2 a.newPlanId ++ le 1 (rd c.p 0 1) ++ zeros 1 ++ orderBytes order ++ zeros 4) := by
  unfold bodyUpdatePlan
  simp only [hpcie, hidle, hgood, ← hnew, horder, Bool.false_eq_true, if_false]
  rfl

/-- The plan is RUNNING, and the self-test knows which heads and lanes run (R513, R521). -/
def State.planRuns (a : State) (c : Call) : State :=
  { a with upd := { a.upd with planState := .running, migration := rd c.p 2 1, confirmS := if rd c.p 4 4 = 0 then 900 else rd c.p 4 4, stagedCount := 0, activated := [], current := a.upd.order.headD 255
                               headsRunning := allHeads.filter fun h => a.headState h == 2, lanesUp := (List.range 16).filter fun k => (a.lane k).state == .up } }

theorem bodyUpdateRun_ok {c : Call} {a : State} (hpcie : c.net = false) (hplanned : a.upd.planState = .planned) (hid : rd c.p 0 2 = a.upd.planId)
    (hkeeps : rd c.p 2 1 = 1 → ∀ x ∈ a.upd.plan, x.settingsFormat = 0 ∨ x.settingsFormat = (a.image x.image).settings ∨ x.writesFrom ≤ (a.image x.image).settings)
    (htime : rd c.p 4 4 = 0 ∨ (60 ≤ rd c.p 4 4 ∧ rd c.p 4 4 ≤ 86400)) : bodyUpdateRun c a = .ok (a.planRuns c) [] := by
  have hmigrates : ¬ ((decide (rd c.p 2 1 = 1) && !a.upd.plan.all fun x => decide (x.settingsFormat = 0) || decide (x.settingsFormat = (a.image x.image).settings) || decide (x.writesFrom ≤ (a.image x.image).settings)) = true) := by
    rw [Bool.and_eq_true, decide_eq_true_eq]
    rintro ⟨hdual, hlost⟩
    have hall : (a.upd.plan.all fun x => decide (x.settingsFormat = 0) || decide (x.settingsFormat = (a.image x.image).settings) || decide (x.writesFrom ≤ (a.image x.image).settings)) = true :=
      List.all_eq_true.mpr fun x hx => by
        simp only [Bool.or_eq_true, decide_eq_true_eq, or_assoc]
        exact hkeeps hdual x hx
    rw [hall] at hlost
    cases hlost
  have hinTime : ¬ ((rd c.p 4 4 != 0 && (decide (rd c.p 4 4 < 60) || decide (rd c.p 4 4 > 86400))) = true) := by
    simp only [Bool.and_eq_true, bne_iff_ne, Bool.or_eq_true, decide_eq_true_eq]
    omega
  unfold bodyUpdateRun
  simp only [hpcie, planBusy_of_planned hplanned, hplanned, hid, bne_self_eq_false, Bool.or_self, Bool.false_eq_true, if_false]
  rw [if_neg hmigrates, if_neg hinTime]
  rfl

theorem bodyUpdateConfirm_ok {c : Call} {a : State} (hpending : a.upd.planState = .confirmPending) (hstays : a.upd.falling = none) (hid : rd c.p 0 2 = a.upd.planId) (hearly : c.rung < a.upd.deadline) :
    bodyUpdateConfirm c a = .ok (a.confirmPlan 0) [] := by
  unfold bodyUpdateConfirm
  simp only [hpending, hstays, hid, Nat.not_le.mpr hearly, bne_self_eq_false, Option.isSome_none, decide_false, Bool.or_self, Bool.false_eq_true, if_false]

theorem bodyUpdateFallback_ok {c : Call} {a : State} (hbusy : a.planBusy = true) (hstays : a.upd.falling = none) (hid : rd c.p 0 2 = a.upd.planId) : bodyUpdateFallback c a = .ok (a.fallBack 1) [] := by
  unfold bodyUpdateFallback
  simp only [hbusy, hstays, hid, bne_self_eq_false, Option.isSome_none, Bool.not_true, Bool.or_self, Bool.false_eq_true, if_false]

/-- Settles O20: under its conditions each command's own part passes its checks; a plan and its run are the plan's alone, and what ends the wait closes no connection. -/
theorem updateCommandsAnswer : Obligations.UpdateCommandsAnswer := by
  unfold Obligations.UpdateCommandsAnswer
  refine ⟨?plan, ?run, ?confirm, ?fallback⟩
  case plan =>
    exact fun new order => answers_same (left := fun c a => (a.planned c new order).useFree) (fun c a ⟨hpcie, hidle, hgood, hnew, horder⟩ => bodyUpdatePlan_ok hpcie hidle hgood hnew horder)
      (fun _ _ _ _ => rfl) fun _ _ _ => by constructor <;> rfl
  case run =>
    exact answers_same (left := fun c a => a.planRuns c) (fun c a ⟨hpcie, hplanned, hid, hkeeps, htime⟩ => bodyUpdateRun_ok hpcie hplanned hid hkeeps htime)
      (fun _ _ _ _ => rfl) fun _ _ _ => by constructor <;> rfl
  case confirm => exact answers (fun c a ⟨hpending, hstays, hid, hearly⟩ => bodyUpdateConfirm_ok hpending hstays hid hearly) fun _ a n _ => (a.confirmPlan_sameConns 0).heard n
  case fallback => exact answers (fun c a ⟨hbusy, hstays, hid⟩ => bodyUpdateFallback_ok hbusy hstays hid) fun _ a n _ => (a.fallBack_sameConns 1).heard n

end Sys2Proof.Machine
end

section
/-! PROOF of the claim on update events (spec/19_update.md R513–R521, R524): what staging, activation, fallback and confirmation do to the images and the plan. -/

namespace Sys2Proof.Machine

/-! The images and the plan. -/

theorem image_of_upd {a b : State} (h : b.upd = a.upd) (i : Nat) : b.image i = a.image i := by simp only [State.image, h]

theorem image_setImage_other (s : State) {i k : Nat} (x : Image) (h : k ≠ i) : (s.setImage i x).image k = s.image k := Map.get_set_other _ _ _ h

/-- A write that keeps what an image runs. -/
theorem running_setImage {s : State} {i : Nat} {x : Image} (h : x.running = (s.image i).running) (k : Nat) : ((s.setImage i x).image k).running = (s.image k).running := by
  by_cases hk : k = i
  · subst hk; rw [State.image_setImage, h]
  · rw [image_setImage_other s x hk]

/-- Settling a step changes nothing of an update but its self-test count (R521). -/
theorem settle_upd (a b : State) : ∃ from_ requested, (settle a b).upd = { b.upd with settledFrom := from_, requested := requested } := by
  have hsettled : (settled a b).drive.upd = b.upd := (drive_upd _).trans (settled_same a b).upd
  rw [settle_eq, setHealth_upd]
  generalize (settled a b).drive = d at hsettled ⊢
  unfold settleCount
  split
  · exact ⟨_, _, by rw [hsettled]⟩
  · exact ⟨b.upd.settledFrom, b.upd.requested, hsettled⟩

theorem completes_upd {i : Instr} {t : Time} {s v : State} {P : State → Prop} (hi : exec i s = .next (settle (s.tick t) v))
    (h : ∀ (u : State) (from_ : Time) (requested : Bool), u.upd = { v.upd with settledFrom := from_, requested := requested } → u.comp = v.comp → P u) : Completes i s P := by
  obtain ⟨from_, requested, hupd⟩ := settle_upd (s.tick t) v
  exact ⟨_, hi, h _ from_ requested hupd (settle_comp _ _)⟩

/-- The activation of an image is due, or begins (R514–R516). -/
theorem activate_upd (s : State) (i : Nat) : ∃ spire comp begun,
    (s.activate i).upd = { (s.setImage i { s.image i with state := 2 }).upd with current := i, spireDue := spire, compDue := comp, activating := begun } := by
  unfold State.activate
  extract_lets v upd
  split
  · exact ⟨_, _, _, rfl⟩
  · split
    · exact ⟨_, _, _, rfl⟩
    · exact ⟨_, _, _, rfl⟩

theorem image_activate (s : State) (i k : Nat) : (s.activate i).image k = (s.setImage i { s.image i with state := 2 }).image k := by
  obtain ⟨spire, comp, begun, h⟩ := activate_upd s i
  simp only [State.image, h]

theorem dropDue_upd (s : State) : ∃ images, s.dropDue.upd = { s.upd with images := images, spireDue := false, compDue := false } := by
  unfold State.dropDue
  extract_lets drop dropped
  have hdrop (i : Nat) (due : Bool) (v : State) : ∃ images, (drop i due v).upd = { v.upd with images := images } := by
    simp only [drop]
    split
    · exact ⟨_, rfl⟩
    · exact ⟨v.upd.images, rfl⟩
  obtain ⟨l, hl⟩ := hdrop 0 s.upd.spireDue s
  obtain ⟨m, hm⟩ := hdrop 3 s.upd.compDue (drop 0 s.upd.spireDue s)
  rw [hl] at hm
  exact ⟨m, congrArg (fun u : Update => { u with spireDue := false, compDue := false }) hm⟩

theorem running_dropDue (s : State) (k : Nat) : (s.dropDue.image k).running = (s.image k).running := by
  unfold State.dropDue
  extract_lets drop dropped
  have hdrop (i : Nat) (due : Bool) (v : State) : ((drop i due v).image k).running = (v.image k).running := by
    simp only [drop]
    split
    · exact running_setImage (x := { v.image i with state := 1 }) rfl k
    · rfl
  exact (hdrop 3 s.upd.compDue (drop 0 s.upd.spireDue s)).trans (hdrop 0 s.upd.spireDue s)

/-! Fallback (R520). -/

/-- A fallback returns the image activated last. -/
theorem fallBack_returns {s : State} {cause j : Nat} {l : List Nat} (hidle : s.upd.activating = none) (hlast : s.upd.activated = l ++ [j]) :
    s.fallBack cause = ({ s with upd := { s.upd with falling := some cause, deadline := 0 } } : State).dropDue.activate j := by
  unfold State.fallBack
  extract_lets upd fell
  obtain ⟨images, hupd⟩ := dropDue_upd fell
  have hfalling : fell.dropDue.upd.falling = some cause := by rw [hupd]
  have hnext : fell.dropDue.upd.activated.getLast? = some j := by rw [hupd]; exact hlast ▸ List.getLast?_concat
  have hready : ¬ fell.upd.activating.isSome = true := by rw [show fell.upd.activating = none from hidle]; exact Bool.false_ne_true
  rw [if_neg hready, State.nextImage, hfalling]
  simp only [hnext]
  rfl

/-- What a fallback that returns an image leaves of the plan, and of the images. -/
theorem fallBack_upd {s : State} {cause j : Nat} {l : List Nat} (hidle : s.upd.activating = none) (hlast : s.upd.activated = l ++ [j]) :
    (s.fallBack cause).upd.falling = some cause ∧ (s.fallBack cause).upd.deadline = 0 ∧ (s.fallBack cause).upd.current = j ∧ ((s.fallBack cause).image j).state = 2 ∧
      ∀ k, ((s.fallBack cause).image k).running = (s.image k).running := by
  rw [fallBack_returns hidle hlast]
  generalize hv : ({ s with upd := { s.upd with falling := some cause, deadline := 0 } } : State) = v
  have hrunning (k : Nat) : (v.image k).running = (s.image k).running := by rw [← hv]; rfl
  obtain ⟨images, hdrop⟩ := dropDue_upd v
  obtain ⟨spire, comp, begun, hupd⟩ := activate_upd v.dropDue j
  have hfields : (v.dropDue.setImage j { v.dropDue.image j with state := 2 }).upd.falling = some cause ∧ (v.dropDue.setImage j { v.dropDue.image j with state := 2 }).upd.deadline = 0 := by
    show v.dropDue.upd.falling = some cause ∧ v.dropDue.upd.deadline = 0
    rw [hdrop, ← hv]
    exact ⟨rfl, rfl⟩
  refine ⟨by rw [hupd]; exact hfields.1, by rw [hupd]; exact hfields.2, by rw [hupd], by rw [image_activate, State.image_setImage], fun k => ?_⟩
  rw [image_activate, running_setImage (x := { v.dropDue.image j with state := 2 }) rfl, running_dropDue, hrunning]

theorem completes_fallBack {i : Instr} {t : Time} {s v : State} {cause j : Nat} {l : List Nat} (hi : exec i s = .next (settle (s.tick t) (v.fallBack cause))) (hidle : v.upd.activating = none)
    (hlast : v.upd.activated = l ++ [j]) :
    Completes i s fun u => u.upd.falling = some cause ∧ u.upd.deadline = 0 ∧ u.upd.current = j ∧ (u.image j).state = 2 ∧ ∀ k, (u.image k).running = (v.image k).running := by
  refine completes_upd hi fun u _ _ hu _ => ?_
  have himage (k : Nat) : u.image k = (v.fallBack cause).image k := by simp only [State.image, hu]
  simp only [himage, hu]
  exact fallBack_upd hidle hlast

/-- Where no image has been activated, the fallback ends at once. -/
theorem fallBack_ends {s : State} {cause : Nat} (hidle : s.upd.activating = none) (hnone : s.upd.activated = []) :
    (s.fallBack cause).upd.planState = .fallenBack ∧ (s.fallBack cause).upd.falling = none := by
  unfold State.fallBack
  extract_lets upd fell
  obtain ⟨images, hupd⟩ := dropDue_upd fell
  have hfalling : fell.dropDue.upd.falling = some cause := by rw [hupd]
  have hnext : fell.dropDue.upd.activated.getLast? = none := by rw [hupd]; exact (congrArg _ hnone).trans List.getLast?_nil
  have hready : ¬ fell.upd.activating.isSome = true := by rw [show fell.upd.activating = none from hidle]; exact Bool.false_ne_true
  rw [if_neg hready, State.nextImage, hfalling]
  simp only [hnext]
  unfold State.fallen
  extract_lets restored src fallen
  have hfallen : fallen.upd = { restored.upd with planState := .fallenBack, falling := none, deadline := 0, current := 255, spireDue := false, compDue := false } := State.record_upd _ evUpdateFallback [p1 cause]
  have hplan : fallen.upd.planState = .fallenBack ∧ fallen.upd.falling = none := by rw [hfallen]; exact ⟨rfl, rfl⟩
  clear_value fallen
  split
  · exact hplan
  · exact hplan

/-! Activation (R514). -/

/-- A plan that goes on leaves the images it has activated. -/
theorem nextImage_keeps {s : State} (hstays : s.upd.falling = none) : s.nextImage.upd.activated = s.upd.activated ∧ ∀ k ∈ s.upd.activated, s.nextImage.image k = s.image k := by
  rw [State.nextImage, hstays]
  dsimp only
  cases hnext : s.upd.order.find? (fun i => !s.upd.activated.contains i) with
  | none =>
    dsimp only
    split
    · exact ⟨rfl, fun _ _ => rfl⟩
    · exact ⟨rfl, fun _ _ => rfl⟩
  | some i =>
    have hnew : (!s.upd.activated.contains i) = true := List.find?_some (p := fun i => !s.upd.activated.contains i) hnext
    obtain ⟨spire, comp, begun, hupd⟩ := activate_upd s i
    dsimp only
    refine ⟨by rw [hupd]; rfl, fun k hk => ?_⟩
    have hne : k ≠ i := by rintro rfl; rw [List.contains_iff_mem.mpr hk] at hnew; cases hnew
    rw [image_activate, image_setImage_other s _ hne]

/-- Settings that are converted leave what the image is (R523). -/
theorem migrate_upd (s : State) (i : Nat) (c : Container) : ∃ images, (s.migrate i c).upd = { s.upd with images := images } := by
  unfold State.migrate
  extract_lets x
  split
  · exact ⟨s.upd.images, rfl⟩
  · exact ⟨_, State.record_upd _ evSettingsMigrated [p2 i]⟩

theorem image_migrate (s : State) (i : Nat) (c : Container) : ∃ f o, (s.migrate i c).image i = { s.image i with settings := f, snapshot := o } := by
  unfold State.migrate
  extract_lets x
  split
  · exact ⟨(s.image i).settings, (s.image i).snapshot, rfl⟩
  · exact ⟨_, _, (image_of_upd (State.record_upd _ evSettingsMigrated [p2 i]) i).trans (State.image_setImage _ _ _)⟩

/-- An image that runs has its staged version, and its former one as the fallback. -/
theorem imageRuns_upd {s : State} {i : Nat} {c : Container} (hstaged : (s.image i).staged = some c) :
    (s.imageRuns i).upd.falling = s.upd.falling ∧ (s.imageRuns i).upd.activated = s.upd.activated ++ [i] ∧
      ((s.imageRuns i).image i).running = c ∧ ((s.imageRuns i).image i).fallback = some (s.image i).running ∧ ((s.imageRuns i).image i).state = 3 := by
  unfold State.imageRuns
  extract_lets x
  rw [show x.staged = some c from hstaged]
  dsimp only
  obtain ⟨f, o, himage⟩ := image_migrate s i c
  obtain ⟨images, hupd⟩ := migrate_upd s i c
  rw [image_of_upd (State.record_upd _ evUpdateActivated [p2 i]), State.record_upd _ evUpdateActivated [p2 i]]
  have hruns : ((s.migrate i c).setImage i { (s.migrate i c).image i with running := c, fallback := some ((s.migrate i c).image i).running, staged := none, state := 3, good := true }).image i =
      { (s.migrate i c).image i with running := c, fallback := some ((s.migrate i c).image i).running, staged := none, state := 3, good := true } := State.image_setImage _ _ _
  refine ⟨?_, ?_, (congrArg Image.running hruns), (congrArg Image.fallback hruns).trans (by rw [himage]), congrArg Image.state hruns⟩
  · show (s.migrate i c).upd.falling = _
    rw [hupd]
  · show (s.migrate i c).upd.activated ++ [i] = _
    rw [hupd]

/-- The activation that ran has ended (R514). -/
def State.activationOver (s : State) : State :=
  { s with upd := { s.upd with activating := none, spireSwitch := none, compDue := false }, comp := { s.comp with compActive := none } }

section
variable {t since : Time} {i : Nat} {s : State} (hbusy : s.upd.activating = some (i, since))
include hbusy

theorem imageRunning_next (hother : i ≠ 3) (hnew : s.upd.activated.contains i = false) (hstays : s.upd.falling = none) (ok : Bool) :
    exec (.imageRunning t ok) s = .next (settle (s.tick t) (if ok then ((s.tick t).activationOver.imageRuns i).nextImage else ((s.tick t).activationOver.setImage i { s.image i with state := 1 }).fallBack 2)) := by
  have hexec : exec (.imageRunning t ok) s = execImageRunning t ok s := rfl
  have hcause : s.upd.falling.getD 2 = 2 := by rw [hstays]; rfl
  rw [hexec, execImageRunning, run_next]
  simp only [State.tick_upd, hbusy, hnew, hcause, hother, decide_false, Bool.false_and, Bool.false_eq_true, if_false]
  rfl

theorem activationTimeout_next {b : Nat} (hnew : s.upd.activated.contains i = false) (hstays : s.upd.falling = none) (hbound : activationBound i = some b) (hdue : since + b ≤ (s.tick t).clk) :
    exec (.activationTimeout t) s = .next (settle (s.tick t) (((s.tick t).activationOver.setImage i { s.image i with state := 1 }).fallBack 2)) := by
  have hexec : exec (.activationTimeout t) s = execActivationTimeout t s := rfl
  have hdropped : (s.tick t).dropActivation = (s.tick t).activationOver.setImage i { s.image i with state := 1 } := by
    rw [State.dropActivation]
    simp only [State.tick_upd, hbusy, hnew, Bool.false_eq_true, if_false]
    rfl
  have hcause : s.upd.falling.getD 2 = 2 := by rw [hstays]; rfl
  rw [hexec, execActivationTimeout, run_next]
  simp only [State.tick_upd, hbusy, hbound, if_pos hdue, hdropped, hcause]

end

/-! Confirmation (R519, R521, R524). -/

/-- The least SECURITY_VERSION that runs. -/
def State.leastVersion (s : State) : Nat := (List.range 8).foldl (fun a i => min a (s.image i).running.securityVersion) 127

/-- The counter follows the least SECURITY_VERSION, and never falls (R524). -/
theorem advanceCounter_upd (s : State) : s.advanceCounter.upd = { s.upd with counter := max s.upd.counter s.leastVersion } := by
  unfold State.advanceCounter
  extract_lets least upd
  have hleast : least = s.leastVersion := rfl
  split
  case isTrue hmore =>
    rw [State.record_upd _ evRollbackAdvanced [p4 s.upd.counter, p4 least], ← hleast, Nat.max_eq_right (Nat.le_of_lt hmore)]
  case isFalse hless => rw [← hleast, Nat.max_eq_left (Nat.not_lt.mp hless)]

theorem setImage_upd {u : Update} {b : State} {images : Map Image} (h : b.upd = { u with images := images }) (i : Nat) (x : Image) : ∃ l, (b.setImage i x).upd = { u with images := l } :=
  ⟨_, congrArg (fun u : Update => { u with images := Map.set u.images i x }) h⟩

/-- A confirmed plan is DONE, and the counter has followed. -/
theorem confirmPlan_upd (s : State) (source : Nat) : ∃ images, (s.confirmPlan source).upd = { s.upd with planState := .done, deadline := 0, counter := max s.upd.counter s.leastVersion, images := images } := by
  unfold State.confirmPlan
  extract_lets upd advanced confirmed
  have hadvanced : advanced.upd = { s.upd with planState := .done, deadline := 0, counter := max s.upd.counter s.leastVersion } := advanceCounter_upd _
  clear_value advanced
  have hconfirmed : ∃ images, confirmed.upd = { advanced.upd with images := images } :=
    foldl_keeps (P := fun b : State => ∃ images, b.upd = { advanced.upd with images := images }) (fun b ⟨_, hb⟩ i _ => setImage_upd hb i _) ⟨advanced.upd.images, rfl⟩
  obtain ⟨images, h⟩ := hconfirmed
  exact ⟨images, by rw [State.record_upd confirmed evUpdateConfirmed [p1 source], h, hadvanced]⟩

theorem confirmDeadline_next {t : Time} {s : State} (hpending : s.upd.planState = .confirmPending) (hstays : s.upd.falling = none) (hlate : s.upd.deadline ≤ (s.tick t).now)
    (hheld : (s.tick t).confirmHeld = false) : exec (.confirmDeadline t) s = .next (settle (s.tick t) ((s.tick t).fallBack 0)) := by
  have hexec : exec (.confirmDeadline t) s = execConfirmDeadline t s := rfl
  rw [hexec, execConfirmDeadline, run_next]
  simp only [State.tick_upd, hpending, hstays, hlate, hheld, beq_self_eq_true, Option.isNone_none, decide_true, Bool.not_false, Bool.and_self, if_true]

theorem selfTestSettled_next {t : Time} {s : State} (hpending : s.upd.planState = .confirmPending) (hstays : s.upd.falling = none) (hnamed : ∀ c ∈ s.upd.plan, c.confirmCriteria ≠ 0)
    (hholds : criterionBroken (s.tick t) (s.tick t) = false) (hrequested : bit (s.tick t).criteria 6 = true → s.upd.requested = true)
    (hsettled : s.upd.settledFrom + maxL (s.upd.plan.map Container.settleS) * 1000000000 ≤ (s.tick t).clk) :
    exec (.selfTestSettled t) s = .next (settle (s.tick t) ((s.tick t).confirmPlan 1)) := by
  have hexec : exec (.selfTestSettled t) s = execSelfTestSettled t s := rfl
  have hall : (s.upd.plan.all fun c => c.confirmCriteria != 0) = true := List.all_eq_true.mpr fun c hc => bne_iff_ne.mpr (hnamed c hc)
  have hreq : (!bit (s.tick t).criteria 6 || s.upd.requested) = true := by
    cases hbit : bit (s.tick t).criteria 6 with
    | false => rfl
    | true => rw [hrequested hbit]; rfl
  have hdue : s.upd.settledFrom + maxL (s.upd.plan.map Container.settleS) * sec ≤ (s.tick t).clk := hsettled
  rw [hexec, execSelfTestSettled, run_next]
  simp only [State.tick_upd, hpending, hstays, hall, hholds, hreq, hdue, beq_self_eq_true, Option.isNone_none, decide_true, Bool.not_false, Bool.and_self, if_true]

/-! Staging (R513). -/

/-- The plan has failed (R513). -/
def State.planFailed (s : State) : State := { s with upd := { s.upd with planState := .failed, current := 255 } }

/-- The image is staged, and the next one is to be. -/
def State.imageStaged (s : State) (i : Nat) (c : Container) : State :=
  let v := s.setImage i { s.image i with staged := some c, fallback := none, state := 1 }
  { v with upd := { v.upd with stagedCount := s.upd.stagedCount + 1, current := s.upd.order.getD (s.upd.stagedCount + 1) 255 } }

/-- The container that the plan names for the image is the one that was read, and it verifies. -/
def State.plannedFor (s : State) (i : Nat) (x : ContainerRead) : Option Container :=
  if s.headerValid x.header && s.passes x.header x.blocks then s.upd.plan.find? fun c => c.image == i && c == containerOf x.header else none

theorem plannedFor_def (s : State) (i : Nat) (x : ContainerRead) :
    (if (s.headerValid x.header && s.passes x.header x.blocks) = true then s.upd.plan.find? fun c => c.image == i && c == containerOf x.header else none) = s.plannedFor i x := rfl

/-- A plan fails (R513). -/
def State.stageFails (s : State) (i cause : Nat) : State := s.planFailed.record evUpdateFailed [p2 i, p1 cause]

section
variable {t : Time} {i : Nat} {x : ContainerRead} {s : State} (hnext : s.upd.order[s.upd.stagedCount]? = some i) (hruns : s.upd.planState = .running) (hstays : s.upd.falling = none)
  (hpower : s.power.pfWarn = false)
include hnext hruns hstays hpower

theorem updateStageDone_staged {c : Container} (hreads : (s.tick t).hostAllows 0 (Map.get (0, 0) s.upd.sources i).1 (Map.get (0, 0) s.upd.sources i).2 = true) (hplanned : s.plannedFor i x = some c)
    (hmore : s.upd.stagedCount + 1 < s.upd.order.length) : exec (.updateStageDone t x true) s = .next (settle (s.tick t) ((s.tick t).imageStaged i c)) := by
  have hexec : exec (.updateStageDone t x true) s = execUpdateStageDone t x true s := rfl
  rw [hexec, execUpdateStageDone, run_next]
  rw [← State.tick_upd s t] at hnext hruns hstays hreads hmore
  rw [← State.tick_power s t] at hpower
  replace hplanned : (s.tick t).plannedFor i x = some c := hplanned
  have hstays' : (s.tick t).upd.falling.isSome = false := by rw [hstays]; rfl
  generalize s.tick t = a at *
  simp only [plannedFor_def, hnext, hruns, hstays', hpower, hreads, hplanned, bne_self_eq_false, Bool.or_self, Bool.false_eq_true, if_false, Bool.and_self, if_true]
  rw [if_pos]
  · rfl
  · exact hmore

theorem updateStageDone_unwritten {c : Container} (hreads : (s.tick t).hostAllows 0 (Map.get (0, 0) s.upd.sources i).1 (Map.get (0, 0) s.upd.sources i).2 = true) (hplanned : s.plannedFor i x = some c) :
    exec (.updateStageDone t x false) s = .next (settle (s.tick t) (((s.tick t).spoilSlot i).stageFails i 2)) := by
  have hexec : exec (.updateStageDone t x false) s = execUpdateStageDone t x false s := rfl
  rw [hexec, execUpdateStageDone, run_next]
  rw [← State.tick_upd s t] at hnext hruns hstays hreads
  rw [← State.tick_power s t] at hpower
  replace hplanned : (s.tick t).plannedFor i x = some c := hplanned
  have hstays' : (s.tick t).upd.falling.isSome = false := by rw [hstays]; rfl
  generalize s.tick t = a at *
  simp only [plannedFor_def, hnext, hruns, hstays', hpower, hreads, hplanned, bne_self_eq_false, Option.isSome_some, Option.isNone_some, Bool.or_self, Bool.and_false, Bool.not_true, Bool.false_eq_true, if_false, Bool.and_self,
    if_true]
  rfl

theorem updateStageDone_unplanned {written : Bool} (hreads : (s.tick t).hostAllows 0 (Map.get (0, 0) s.upd.sources i).1 (Map.get (0, 0) s.upd.sources i).2 = true) (hplanned : s.plannedFor i x = none) :
    exec (.updateStageDone t x written) s = .next (settle (s.tick t) ((s.tick t).stageFails i 0)) := by
  have hexec : exec (.updateStageDone t x written) s = execUpdateStageDone t x written s := rfl
  rw [hexec, execUpdateStageDone, run_next]
  rw [← State.tick_upd s t] at hnext hruns hstays hreads
  rw [← State.tick_power s t] at hpower
  replace hplanned : (s.tick t).plannedFor i x = none := hplanned
  have hstays' : (s.tick t).upd.falling.isSome = false := by rw [hstays]; rfl
  generalize s.tick t = a at *
  simp only [plannedFor_def, hnext, hruns, hstays', hpower, hreads, hplanned, ite_self, bne_self_eq_false, Option.isSome_none, Option.isNone_none, Bool.or_self, Bool.and_false, Bool.not_true, Bool.false_eq_true, if_false, if_true]
  rfl

theorem updateStageDone_unread {written : Bool} (hrefused : (s.tick t).hostAllows 0 (Map.get (0, 0) s.upd.sources i).1 (Map.get (0, 0) s.upd.sources i).2 = false) :
    exec (.updateStageDone t x written) s =
      .next (settle (s.tick t) (((s.tick t).hostDenied 0 (Map.get (0, 0) s.upd.sources i).1 (Map.get (0, 0) s.upd.sources i).2).stageFails i 1)) := by
  have hexec : exec (.updateStageDone t x written) s = execUpdateStageDone t x written s := rfl
  rw [hexec, execUpdateStageDone, run_next]
  rw [← State.tick_upd s t] at hnext hruns hstays hrefused ⊢
  rw [← State.tick_power s t] at hpower
  have hstays' : (s.tick t).upd.falling.isSome = false := by rw [hstays]; rfl
  generalize s.tick t = a at *
  simp only [plannedFor_def, hnext, hruns, hstays', hpower, hrefused, bne_self_eq_false, Bool.or_self, Bool.false_and, Bool.not_false, Bool.false_eq_true, if_false, if_true]
  rfl

end

theorem plannedFor_some {s : State} {i : Nat} {x : ContainerRead} {c : Container} (hheader : s.headerValid x.header = true) (hpasses : s.passes x.header x.blocks = true)
    (hplan : (s.upd.plan.find? fun c => c.image == i && c == containerOf x.header) = some c) : s.plannedFor i x = some c := by
  rw [State.plannedFor, hheader, hpasses, hplan]
  rfl

theorem plannedFor_none {s : State} {i : Nat} {x : ContainerRead} (h : s.headerValid x.header = false ∨ s.passes x.header x.blocks = false) : s.plannedFor i x = none := by
  rw [State.plannedFor, if_neg]
  rcases h with h | h
  · rw [h, Bool.false_and]; exact Bool.false_ne_true
  · rw [h, Bool.and_false]; exact Bool.false_ne_true

theorem image_spoilSlot (s : State) (i : Nat) : (s.spoilSlot i).image i = { s.image i with staged := none, fallback := none, state := 0 } := State.image_setImage _ _ _

theorem image_spoilSlot_other (s : State) {i k : Nat} (h : k ≠ i) : (s.spoilSlot i).image k = s.image k := image_setImage_other _ _ h

/-- What a plan that fails leaves: its state, and the images as they were left to it. -/
theorem completes_stageFails {i : Instr} {t : Time} {n cause : Nat} {s v : State} (hi : exec i s = .next (settle (s.tick t) (v.stageFails n cause))) :
    Completes i s fun u => u.upd.planState = .failed ∧ ∀ k, u.image k = v.image k := by
  have hupd : (v.stageFails n cause).upd = { v.upd with planState := .failed, current := 255 } := State.record_upd _ evUpdateFailed [p2 n, p1 cause]
  refine completes_upd hi fun u from_ requested hu _ => ?_
  rw [hupd] at hu
  exact ⟨by rw [hu], fun k => by simp only [State.image, hu]⟩

/-! The switches of Spire A and COMP (R515, R516). -/

theorem spireASwitch_next {t : Time} {s : State} (hdue : s.upd.spireDue = true) (hfree : ∀ e ∈ s.izent.mbx, ∀ j, e.2.job = some j → j.cause.isSome = true) (hlocal : s.touch.running = none) :
    exec (.spireASwitch t) s = .next (settle (s.tick t) { s.tick t with upd := { s.upd with spireDue := false, spireSwitch := some (s.tick t).clk, activating := some (0, (s.tick t).clk) } }) := by
  have hexec : exec (.spireASwitch t) s = execSpireASwitch t s := rfl
  rw [hexec, execSpireASwitch, run_next]
  simp only [State.tick_upd, State.tick_izent, State.tick_touch, hdue, hlocal, Option.isSome_none, Bool.not_true, Bool.false_or, Bool.or_false]
  rw [if_neg]
  intro hbusy
  obtain ⟨e, he, hruns⟩ := List.any_eq_true.mp hbusy
  cases hjob : e.2.job with
  | none => rw [hjob] at hruns; cases hruns
  | some j =>
    rw [hjob] at hruns
    obtain ⟨cause, hcause⟩ := Option.isSome_iff_exists.mp (hfree e he j hjob)
    dsimp only at hruns
    rw [hcause] at hruns
    cases hruns

theorem compActivation_next {t : Time} {s : State} (hdue : s.upd.compDue = true) (hidle : s.upd.activating = none) (hflips : ∀ g < 4, (s.grpC g).next = none) :
    exec (.compActivation t) s = .next (settle (s.tick t) ((List.range 4).foldl (fun s g => if (s.headsOf g).isEmpty then s.resetCoefs g else s)
      { s.tick t with upd := { s.upd with activating := some (3, (s.tick t).clk) }, comp := { s.comp with compActive := some [] } })) := by
  have hexec : exec (.compActivation t) s = execCompActivation t s := rfl
  have hquiet : ((List.range 4).any fun g => ((s.tick t).grpC g).next.isSome) = false := by
    refine List.any_eq_false.mpr fun g hg => ?_
    rw [show ((s.tick t).grpC g).next = none from hflips g (List.mem_range.mp hg)]
    exact Bool.false_ne_true
  rw [hexec, execCompActivation, run_next]
  simp only [hquiet, State.tick_upd, State.tick_comp, hdue, hidle, Option.isSome_none, Bool.not_true, Bool.or_self, Bool.false_eq_true, if_false]

/-- Settles O48: an event's effect on the plan and the images stands once the step is settled, which counts the self-test alone; the last image activated returns first, and the confirmation moves the counter to the least version that runs. -/
theorem updateEventsComplete : Obligations.UpdateEventsComplete := by
  unfold Obligations.UpdateEventsComplete
  refine ⟨?stage, ?spire, ?comp, ?activation, ?deadline, ?settled⟩
  case stage =>
    intro t i c header blocks s hnext hruns hstays hpower
    refine ⟨fun hreads hheader hpasses hplan => ⟨fun hmore => ?staged, ?unwritten⟩, fun written hbad => ?fails⟩
    case staged =>
      have hplanned := plannedFor_some (x := { header, blocks }) hheader hpasses hplan
      refine completes_upd (updateStageDone_staged hnext hruns hstays hpower hreads hplanned hmore) fun u from_ requested hu _ => ?_
      have himage (k : Nat) : u.image k = ((s.tick t).setImage i { s.image i with staged := some c, fallback := none, state := 1 }).image k := by simp only [State.image, hu]; rfl
      refine ⟨(himage i).trans (State.image_setImage _ _ _), by rw [hu]; rfl, by rw [hu]; exact hruns, fun k hk => (himage k).trans (image_setImage_other _ _ hk)⟩
    case unwritten =>
      have hplanned := plannedFor_some (x := { header, blocks }) hheader hpasses hplan
      obtain ⟨u, hexec, hfailed, himages⟩ := completes_stageFails (updateStageDone_unwritten hnext hruns hstays hpower hreads hplanned)
      exact ⟨u, hexec, hfailed, (himages i).trans (image_spoilSlot _ i), fun k hk => (himages k).trans (image_spoilSlot_other _ hk)⟩
    case fails =>
      by_cases hreads : (s.tick t).hostAllows 0 (Map.get (0, 0) s.upd.sources i).1 (Map.get (0, 0) s.upd.sources i).2 = true
      · have hinvalid : s.headerValid header = false ∨ s.passes header blocks = false := hbad.resolve_left fun hrefused => Bool.false_ne_true (hrefused.symm.trans hreads)
        have hplanned : s.plannedFor i { header, blocks } = none := plannedFor_none hinvalid
        exact completes_stageFails (v := s.tick t) (updateStageDone_unplanned hnext hruns hstays hpower hreads hplanned)
      · obtain ⟨u, hexec, hfailed, himages⟩ := completes_stageFails (updateStageDone_unread (written := written) hnext hruns hstays hpower (Bool.eq_false_iff.mpr hreads))
        exact ⟨u, hexec, hfailed, fun k => (himages k).trans (image_of_upd (State.hostDenied_same (s.tick t) 0 _ _).upd k)⟩
  case spire => exact fun t s hdue hfree hlocal => completes_upd (spireASwitch_next hdue hfree hlocal) fun u _ _ hu _ => by rw [hu]; exact ⟨rfl, rfl, rfl⟩
  case comp =>
    intro t s hdue hidle hflips
    refine completes_upd (compActivation_next hdue hidle hflips) fun u _ _ hu hcomp => ?_
    have hkept := foldl_keeps (l := List.range 4) (f := fun (s : State) g => if (s.headsOf g).isEmpty then s.resetCoefs g else s)
      (P := fun b : State => b.upd.activating = some (3, (s.tick t).clk) ∧ b.comp.compActive = some []) (fun b hb g _ => by split <;> exact hb)
      (b := { s.tick t with upd := { s.upd with activating := some (3, (s.tick t).clk) }, comp := { s.comp with compActive := some [] } }) ⟨rfl, rfl⟩
    rw [hu, hcomp]
    exact hkept
  case activation =>
    intro t since i c s hbusy hother hnew hstays
    refine ⟨fun hstaged => ?runs, fun hnone => ?ends, fun l j hlast => ?returns, fun l j b hlast hbound hdue => ?late⟩
    case runs =>
      obtain ⟨hfalling, hactivated, hrunning, hfallback, hstate⟩ := imageRuns_upd (s := (s.tick t).activationOver) (i := i) hstaged
      obtain ⟨hkept, himages⟩ := nextImage_keeps (hfalling.trans hstays)
      have himage : (((s.tick t).activationOver.imageRuns i).nextImage).image i = ((s.tick t).activationOver.imageRuns i).image i := himages i (hactivated ▸ List.mem_append_right _ (List.mem_singleton.mpr rfl))
      refine completes_upd (imageRunning_next hbusy hother hnew hstays true) fun u _ _ hu _ => ?_
      have hi : u.image i = ((s.tick t).activationOver.imageRuns i).image i := .trans (by simp only [State.image, hu]; rfl) himage
      rw [hi, hu]
      exact ⟨hrunning, hfallback, hstate, hkept.trans hactivated⟩
    case ends =>
      obtain ⟨hfallen, hover⟩ := fallBack_ends (s := (s.tick t).activationOver.setImage i { s.image i with state := 1 }) (cause := 2) rfl hnone
      refine completes_upd (imageRunning_next hbusy hother hnew hstays false) fun u _ _ hu _ => ?_
      rw [hu]
      exact ⟨hfallen, hover⟩
    case returns =>
      have hfails : exec (.imageRunning t false) s = .next (settle (s.tick t) (((s.tick t).activationOver.setImage i { s.image i with state := 1 }).fallBack 2)) := imageRunning_next hbusy hother hnew hstays false
      obtain ⟨u, hexec, hfalling, _, hcurrent, hstate, _⟩ := completes_fallBack hfails rfl hlast
      exact ⟨u, hexec, hfalling, hcurrent, hstate⟩
    case late =>
      obtain ⟨u, hexec, hfalling, _, hcurrent, hstate, hrunning⟩ := completes_fallBack (activationTimeout_next hbusy hnew hstays hbound hdue) rfl hlast
      exact ⟨u, hexec, hfalling, hcurrent, hstate, (hrunning i).trans (running_setImage (s := (s.tick t).activationOver) (x := { s.image i with state := 1 }) rfl i)⟩
  case deadline =>
    intro t l j s hpending hstays hlate hheld hidle hlast
    obtain ⟨u, hexec, hfalling, hdeadline, hcurrent, hstate, _⟩ := completes_fallBack (v := s.tick t) (confirmDeadline_next hpending hstays hlate hheld) hidle hlast
    exact ⟨u, hexec, hfalling, hdeadline, hcurrent, hstate⟩
  case settled =>
    intro t s hpending hstays hnamed hholds hrequested hsettled
    obtain ⟨images, hupd⟩ := confirmPlan_upd (s.tick t) 1
    refine completes_upd (selfTestSettled_next hpending hstays hnamed hholds hrequested hsettled) fun u _ _ hu _ => ?_
    rw [hu, hupd]
    exact ⟨rfl, rfl, rfl⟩

end Sys2Proof.Machine
end

section
/-! PROOF of the claim on protection events (spec/16_protection.md R441, R444–R447, R449, R450): the test access port, debug transfers, and the retirement of an epoch. -/

namespace Sys2Proof.Machine

/-! DRAM after a write. -/

/-- A write of consecutive bytes puts each at its address. -/
theorem memWrite_at (bs : Bytes) (a n i : Nat) (m : List Host.Cell) (hi : i < bs.length) (hin : a + (n + i) < 2 ^ 35) :
    (((bs.zipIdx n).foldl (fun m e => if a + e.2 < 2 ^ 35 then memPut m (a + e.2) e.1 else m) m).find? fun c => c.1 == a + (n + i)).map (fun c => c.2) = bs[i]? := by
  induction bs generalizing n i m with
  | nil => exact absurd hi (Nat.not_lt_zero i)
  | cons b bs ih =>
    rw [List.zipIdx_cons, List.foldl_cons]
    cases i with
    | zero =>
      rw [memWrite_other _ _ _ _ fun e he => ?_]
      · rw [if_pos (by simpa using hin)]
        exact find_memPut_same _ _ _
      · have := List.le_snd_of_mem_zipIdx he
        omega
    | succ i =>
      have hrest := ih (n + 1) i (if a + (b, n).2 < 2 ^ 35 then memPut m (a + (b, n).2) (b, n).1 else m) (Nat.lt_of_succ_lt_succ hi) (by omega)
      rw [Nat.add_right_comm n 1 i] at hrest
      exact hrest

/-- Each byte of a write within the DRAM reads as written. -/
theorem Dram.write_at (d : Dram) (a : Nat) (bs : Bytes) {i : Nat} (hi : i < bs.length) (hin : a + i < 2 ^ 35) : (d.write a bs).byte? (a + i) = bs[i]? := by
  have h := memWrite_at bs a 0 i d.mem hi (by rwa [Nat.zero_add])
  rwa [Nat.zero_add] at h

/-! The test access port (R447, R449). -/

theorem jtagInstruction_next (t : Time) (ins : JtagIns) (s : State) : exec (.jtagInstruction t ins) s = .next (settle (s.tick t) ((s.tick t).tapRun ins)) := rfl

/-- Locked, the port acts as BYPASS but for three instructions. -/
theorem tapRun_locked {a : State} {ins : JtagIns} (hlocked : a.prot.unlockedAt = none) (hid : ins ≠ .idcode) (hsample : ins ≠ .sample) :
    a.tapRun ins = { a with prot := { a.prot with tap := .bypass, tapData := none } } := by
  cases ins with
  | idcode => exact absurd rfl hid
  | sample => exact absurd rfl hsample
  | bypass => rfl
  | other => rfl
  | _ => simp only [State.tapRun, hlocked]; rfl

/-- An engine that may be halted is halted once. -/
theorem tapRun_halt {a : State} {x : Time} {e : Nat} (hopen : a.prot.unlockedAt = some x) (hmay : haltable e = true) :
    a.tapRun (.halt e) = { a with prot := { a.prot with tap := .halt e, tapData := none, halted := if a.prot.halted.contains e then a.prot.halted else e :: a.prot.halted } } := by
  simp only [State.tapRun, hopen, hmay]
  rfl

theorem tapRun_resume {a : State} {x : Time} {e : Nat} (hopen : a.prot.unlockedAt = some x) (hmay : haltable e = true) :
    a.tapRun (.resume e) = { a with prot := { a.prot with tap := .resume e, tapData := none, halted := a.prot.halted.erase e } } := by
  simp only [State.tapRun, hopen, hmay]
  rfl

theorem tapRun_extest {a : State} {x : Time} (hopen : a.prot.unlockedAt = some x) : a.tapRun .extest = ({ a with prot := { a.prot with tap := .extest, tapData := none } } : State).toFault := by
  simp only [State.tapRun, hopen]
  rfl

/-- Whether an engine is halted after it has been halted. -/
theorem mem_haltOnce {l : List Nat} {e i : Nat} : i ∈ (if l.contains e then l else e :: l) ↔ i = e ∨ i ∈ l := by
  split
  case isTrue h => exact ⟨.inr, fun hi => hi.elim (fun heq => heq ▸ List.contains_iff_mem.mp h) id⟩
  case isFalse => exact List.mem_cons

/-! Debug transfers (R449, R450). -/

theorem debugMemoryAccess_refused {t x : Time} {acc : DebugAccess} {d : Nat × Nat} {s : State} (hopen : s.prot.unlockedAt = some x)
    (hrefused : (s.tick t).debugRefused (if acc.write then 1 else 0) acc.address = some d) :
    ∃ w, State.SameUnits { s.tick t with prot := { s.prot with denied := true, debugData := if acc.write then s.prot.debugData else none } } w ∧ exec (.debugMemoryAccess t acc) s = .next (settle (s.tick t) w) := by
  have hexec : exec (.debugMemoryAccess t acc) s = execDebugMemoryAccess t acc s := rfl
  rw [hexec, execDebugMemoryAccess, run_next]
  simp only [State.tick_prot, hopen, Option.isNone_some, Bool.false_eq_true, if_false, hrefused]
  exact ⟨_, .trans (State.recordLimited_same _ evDebugDenied 0x28 _) (State.doorDenied_same _ _ _ _ _ _ _), rfl⟩

theorem debugMemoryAccess_permitted {t x : Time} {acc : DebugAccess} {s : State} (hopen : s.prot.unlockedAt = some x)
    (hdoors : (s.tick t).debugRefused (if acc.write then 1 else 0) acc.address = none) : exec (.debugMemoryAccess t acc) s = .next (settle (s.tick t) ((s.tick t).debugWord acc)) := by
  have hexec : exec (.debugMemoryAccess t acc) s = execDebugMemoryAccess t acc s := rfl
  rw [hexec, execDebugMemoryAccess, run_next]
  simp only [State.tick_prot, hopen, Option.isNone_some, Bool.false_eq_true, if_false, hdoors]

/-- A permitted write in DRAM writes its word. -/
theorem debugWord_write {a : State} {acc : DebugAccess} (hwrite : acc.write = true) (hin : acc.address < 2 ^ 35) (hon : a.domOn 2 = true) :
    a.debugWord acc = { a with dram := a.dram.write (acc.address / 4 * 4) (le 4 acc.data) } := by
  have hword : acc.address / 4 * 4 < 2 ^ 35 := Nat.lt_of_le_of_lt (Nat.div_mul_le_self _ _) hin
  unfold State.debugWord
  extract_lets word got
  rw [if_pos hwrite, if_pos hword, if_pos hon]

/-- A permitted read of a word that has been written returns it. -/
theorem debugWord_read {a : State} {acc : DebugAccess} {b : Bytes} (hread : acc.write = false) (hin : acc.address < 2 ^ 35) (hdata : a.dram.bytes? (acc.address / 4 * 4) 4 = some b) :
    a.debugWord acc = { a with prot := { a.prot with debugData := some (ofLe b) } } := by
  have hword : acc.address / 4 * 4 < 2 ^ 35 := Nat.lt_of_le_of_lt (Nat.div_mul_le_self _ _) hin
  unfold State.debugWord
  extract_lets word got
  rw [if_neg (by rw [hread]; exact Bool.false_ne_true), if_pos hword, hdata]

/-! Epochs (R444–R446). -/

/-- The old epoch has retired, and its rules are gone. -/
def State.epochRetired (s : State) : State := { s with prot := { s.prot with retiring := none, oldRules := [] } }

section
variable {t : Time} {e : Nat} {s : State} (hretiring : s.prot.retiring = some e)
include hretiring

theorem epochRetire_waits (hbusy : (s.tick t).inFlight e = true) : exec (.epochRetire t) s = .next (settle (s.tick t) (s.tick t)) := by
  have hexec : exec (.epochRetire t) s = execEpochRetire t s := rfl
  rw [hexec, execEpochRetire, run_next]
  simp only [State.tick_prot, hretiring, hbusy, if_true]

/-- The retirement is recorded for the doors of the debug master and the host link; then the command answers. -/
theorem epochRetire_next (hidle : (s.tick t).inFlight e = false) : ∃ w, State.SameUnits (s.tick t).epochRetired w ∧
    exec (.epochRetire t) s = .next (settle (s.tick t) (match (s.tick t).rulesJob with
      | some (mb, j) => w.respond mb (code j.kind) j.msg stOk (le 4 s.prot.epoch ++ le 4 (((s.tick t).clk - s.prot.installedAt) / 1000))
      | none => w)) := by
  have hexec : exec (.epochRetire t) s = execEpochRetire t s := rfl
  have hrecorded (l : List Nat) (k : Nat) : State.SameUnits (s.tick t).epochRetired
      (l.foldl (fun a d => if d = 0x28 || d = 0x47 then a.record evDoorRulesChanged [p2 d, p4 e, p4 a.prot.epoch, p4 k] else a) (s.tick t).epochRetired) :=
    .fold _ (fun a d => .ite (State.record_same a evDoorRulesChanged _) (.refl a)) l _
  have hw := hrecorded (s.prot.oldRules.map (·.1)) (((s.tick t).clk - s.prot.installedAt) / us)
  rw [hexec, execEpochRetire, run_next]
  refine ⟨_, hw, ?_⟩
  simp only [State.tick_prot, hretiring, hidle, Bool.false_eq_true, if_false]
  cases hjob : (s.tick t).rulesJob with
  | none => rfl
  | some x =>
    exact congrArg (fun k => Host.Outcome.next (settle (s.tick t) (State.respond _ x.1 (code x.2.kind) x.2.msg stOk (le 4 k ++ le 4 (((s.tick t).clk - s.prot.installedAt) / us))))) ((congrArg Protection.epoch hw.prot).trans rfl)

end

/-- Settles O37: the port and a permitted transfer do what R447 and R449 give them; the records of a refused transfer and of a retirement change no unit, and the retirement answers the command that waits for it. -/
theorem protectionEventsComplete : Obligations.ProtectionEventsComplete := by
  unfold Obligations.ProtectionEventsComplete
  refine ⟨?locked, ?idcode, ?engines, ?boundary, ?refused, ?write, ?read, ?epoch⟩
  case locked =>
    intro t ins s hlocked hid hsample
    refine leaves_settled (jtagInstruction_next t ins s) ?_
    rw [tapRun_locked (a := s.tick t) hlocked hid hsample]
    exact .refl _
  case idcode => exact fun t s => leaves_settled (jtagInstruction_next t .idcode s) (.refl _)
  case engines =>
    intro t x e s hopen hmay
    constructor
    · refine ⟨_, jtagInstruction_next t (.halt e) s, ?_⟩
      simp only [settle_prot, tapRun_halt (a := s.tick t) hopen hmay]
      exact ⟨mem_haltOnce.mpr (.inl rfl), trivial, fun i hi => mem_haltOnce.trans (or_iff_right hi)⟩
    · refine leaves_settled (jtagInstruction_next t (.resume e) s) ?_
      rw [tapRun_resume (a := s.tick t) hopen hmay]
      exact .refl _
  case boundary =>
    intro t x s hopen
    refine ⟨_, jtagInstruction_next t .extest s, ?_⟩
    simp only [settle_devState, settle_prot, tapRun_extest (a := s.tick t) hopen]
    exact ⟨rfl, rfl⟩
  case refused =>
    intro t x acc d s hopen hrefused
    obtain ⟨w, hw, hexec⟩ := debugMemoryAccess_refused hopen hrefused
    refine ⟨_, hexec, ?_⟩
    simp only [settle_prot, settle_dram, hw.prot, hw.dram]
    exact ⟨trivial, fun hread => by rw [if_neg (by rw [hread]; exact Bool.false_ne_true)], rfl⟩
  case write =>
    intro t x acc s hopen hdoors hwrite hin hon
    have hnext := debugMemoryAccess_permitted (acc := acc) hopen (by rw [if_pos hwrite]; exact hdoors)
    rw [debugWord_write (a := s.tick t) hwrite hin hon] at hnext
    refine ⟨_, hnext, ?_⟩
    simp only [settle_dram]
    refine ⟨fun a ha => Dram.write_other _ _ _ _ ha, fun i hi => Dram.write_at _ _ _ hi (by omega), fun hwf => Dram.write_wf _ _ _ hwf⟩
  case read =>
    intro t x acc b s hopen hdoors hread hin hdata
    have hnext := debugMemoryAccess_permitted (acc := acc) hopen (by rw [if_neg (by rw [hread]; exact Bool.false_ne_true)]; exact hdoors)
    rw [debugWord_read (a := s.tick t) hread hin hdata] at hnext
    refine ⟨_, hnext, ?_⟩
    simp only [settle_prot, settle_dram]
    exact ⟨trivial, rfl⟩
  case epoch =>
    intro t e s hretiring
    refine ⟨fun hbusy => leaves_tick (epochRetire_waits hretiring hbusy), fun hidle hnone => ?_, fun mb j hidle hjob hlt hheard => ?_⟩
    · obtain ⟨w, hw, hexec⟩ := epochRetire_next (t := t) hretiring hidle
      rw [hnone] at hexec
      exact leaves_settled hexec hw.block
    · obtain ⟨w, hw, hexec⟩ := epochRetire_next (t := t) hretiring hidle
      rw [hjob] at hexec
      obtain ⟨u, hu, hresponds, _, _, hblock⟩ := completes_response hexec hlt (hheard.imp id fun h => (hw.heard mb).trans h)
      have hprot : u.prot = (s.tick t).epochRetired.prot := hblock.prot.trans hw.prot
      exact ⟨u, hu, by rw [hprot]; rfl, by rw [hprot]; rfl, hresponds⟩

end Sys2Proof.Machine
end

section
/-! REFUTATION of the claim on DRAM events (spec/13_memory.md R380; spec/16_protection.md R441, R443; spec/18_resilience.md R494): a transfer of a Spire core that its door refuses strikes the pair's recovery, which resets the device, and DRAM loses what it held. -/

namespace Sys2Proof.Machine

/-! A channel with nothing queued grants nothing (R381, R385). -/

theorem pick_none (s : State) (c : Nat) (x : Channel) : s.pick c x [] = (x, none) := by
  have hcarried : x.carried.find? (requesters []).contains = none := List.find?_eq_none.mpr fun r _ => Bool.false_ne_true
  unfold State.pick
  extract_lets rs now own lot
  have hown : own = none := by
    simp only [own]
    split
    · exact if_neg Bool.false_ne_true
    · rfl
  rw [hcarried, hown]
  dsimp only
  split
  · rfl
  · rw [show rs = [] from rfl, List.any_nil, List.any_nil, Bool.and_false]
    rfl

/-- The channel takes no transfer from a queue that is empty. -/
theorem ready_none {d : Dram} {x : Channel} {blocked : List Nat} (h : x.queue = []) : d.ready x blocked = [] := by
  simp only [Dram.ready, h, firstOfBlock, List.filter_nil]

/-- What has arrived has left nothing queued, and DRAM stands as it left it. -/
theorem dramGrant_idle {t : Time} {c : Nat} {g : GrantInfo} {s v : State} (hc : c < 16) (hon : (s.tick t).domOn 2 = true) (harrived : g.arrivals.foldl (fun s a => s.arrive c a) (s.tick t) = v)
    (hqueue : (v.channel c).queue = []) (hheld : (v.channel c).held = []) : ∃ x, exec (.dramGrant t c g) s = .next (settle (s.tick t) (v.setChannel c x)) := by
  have hexec : exec (.dramGrant t c g) s = execDramGrant t c g s := rfl
  have htaken : ((v.dram.takeIn (v.channel c)).carry (slotAt v.clk)).queue = [] := by
    simp only [Channel.carry, Dram.takeIn, hheld, List.foldl_nil, hqueue]
  rw [hexec, execDramGrant, runIf_next (decide_eq_true hc), hon]
  simp only [harrived, Bool.not_true, Bool.false_eq_true, if_false, ready_none htaken, pick_none]
  exact ⟨_, rfl⟩

/-! A reset (R481). -/

/-- A reset leaves of DRAM what its clearing leaves. -/
theorem resetTo_dram {s : State} (hpower : s.power.pfAt = none) (cause : Nat) (cold : Bool) : (s.resetTo cause cold).dram = (s.beforeClear.cleared true).dram := by
  have hstarts (c : State) (now : Nat) : (c.startsAgain cause now (s.beforeClear.power.forceCold || cold)).dram = c.dram := by
    unfold State.startsAgain State.beginStart
    split <;> rfl
  rw [State.resetTo, hpower, if_neg (by decide), State.resetNow_eq]
  exact hstarts _ _

theorem cleared_mem (s : State) (aon : Bool) : (s.cleared aon).dram.mem = [] := rfl

/-- What a map gives to every unit, and its default has, every unit has. -/
theorem Map.get_mapV_of {α : Type} {f : Nat → α → α} {P : α → Prop} {d : α} (hd : P d) (hf : ∀ i x, P (f i x)) (m : Map α) (k : Nat) : P (Map.get d (Map.mapV f m) k) := by
  induction m with
  | nil => exact hd
  | cons e m ih =>
    obtain ⟨j, x⟩ := e
    by_cases hj : j = k
    · simp only [Map.mapV, List.map_cons, Map.get, if_pos hj, hf]
    · simp only [Map.mapV, List.map_cons, Map.get, if_neg hj]
      exact ih

theorem cleared_channel (s : State) (aon : Bool) (c : Nat) : ((s.cleared aon).channel c).queue = [] ∧ ((s.cleared aon).channel c).held = [] :=
  Map.get_mapV_of (f := fun _ (x : Channel) => ({ trainedAt := x.trainedAt, trainTemp := x.trainTemp } : Channel)) (P := fun x : Channel => x.queue = [] ∧ x.held = []) (d := {}) ⟨rfl, rfl⟩ (fun _ _ => ⟨rfl, rfl⟩) s.dram.channels c

/-- A transfer of a Spire core that its door refuses while the pair recovers resets the device (R443, R494). -/
theorem arrive_resets {s : State} {c : Nat} {a : Arrival} {d : Nat × Nat} (hcore : a.requester = 30) (hrefused : s.initiatorRefused 30 (levelOf a) (accessOf a) a.address = some d)
    (hrecovers : s.health.recovering.contains 0 = true) (hpower : s.power.pfAt = none) : ∃ w : State, (s.arrive c a).dram = (w.cleared true).dram := by
  have hdenied := State.doorDenied_same s d.1 30 (levelOf a) (accessOf a) d.2 s.prot.epoch
  have harrive : s.arrive c a = (s.doorDenied d.1 30 (levelOf a) (accessOf a) d.2 s.prot.epoch).recoverPair 0 2 := by
    unfold State.arrive State.refuse State.refusedAction
    simp only [hcore, hrefused]
    rfl
  generalize s.doorDenied d.1 30 (levelOf a) (accessOf a) d.2 s.prot.epoch = v at hdenied harrive
  have hresets := State.recoverPair_resets (s := v) (pair := 0) (cause := 2) (.inl (by rw [hdenied.health]; exact hrecovers))
  have hpf : (v.mismatched 0 2).power.pfAt = none := by rw [(v.mismatched_same 0 2).power, hdenied.power, hpower]
  exact ⟨_, by rw [harrive, hresets, resetTo_dram hpf]⟩

/-! The counterexample. -/

/-- Spire A recovers, and DRAM holds a byte. -/
def spireRecovering : State :=
  { State.reset with
    power := { State.reset.power with domains := [(1, { State.reset.dom 1 with state := .on }), (2, { State.reset.dom 2 with state := .on })] }
    health := { State.reset.health with recovering := [0] }
    dram := { State.reset.dram with mem := [(0, 5)] } }

/-- A read by a core of Spire A at an address that no range of the map holds. -/
def strayRead : Arrival := { requester := 30, address := 2 ^ 62, level := 1 }

/-- Refutes O59: a refused read of a Spire core, while the pair recovers, resets the device, and the byte that DRAM held is gone. -/
theorem not_dramEventsComplete : ¬ Obligations.DramEventsComplete := by
  unfold Obligations.DramEventsComplete
  rintro ⟨_, hrefused, _⟩
  have hon : (spireRecovering.tick 0).domOn 2 = true := by decide
  obtain ⟨u, hexec, hmem, _⟩ := hrefused 0 0 { arrivals := [strayRead] } strayRead spireRecovering (by decide) hon rfl rfl rfl (by decide) (by decide)
  obtain ⟨w, hdram⟩ := arrive_resets (s := spireRecovering.tick 0) (c := 0) (a := strayRead) (d := (30, 2 ^ 62)) rfl (by decide) (by decide) rfl
  have hchannel : ((spireRecovering.tick 0).arrive 0 strayRead).channel 0 = (w.cleared true).channel 0 := by simp only [State.channel, hdram]
  obtain ⟨hqueue, hheld⟩ := cleared_channel w true 0
  obtain ⟨x, hnext⟩ := dramGrant_idle (g := { arrivals := [strayRead] }) (by decide) hon rfl (hchannel ▸ hqueue) (hchannel ▸ hheld)
  rw [hnext] at hexec
  injection hexec with hu
  rw [← hu, settle_dram] at hmem
  have hcleared : ((spireRecovering.tick 0).arrive 0 strayRead).dram.mem = [(0, 5)] := hmem
  rw [hdram, cleared_mem] at hcleared
  cases hcleared

end Sys2Proof.Machine
end

section
/-! PROOF of the claim that a window under a reason shows nothing of its picture (spec/02_freshness.md R59, R63, R64): the reason that a judged window and a head show, and that composition does not read the picture of a window with a reason. -/

namespace Sys2Proof.Machine

/-! The reason of highest priority (Table 2-5). -/

theorem mem_byPriority {k : Nat} : k ∈ byPriority ↔ 1 ≤ k ∧ k ≤ 12 := by
  simp only [byPriority, List.mem_cons, List.not_mem_nil, or_false]
  omega

theorem topReason_eq_zero_iff (m : Nat) : topReason m = 0 ↔ ∀ k, 1 ≤ k → k ≤ 12 → bit m k = false := by
  unfold topReason
  cases hfound : byPriority.find? fun r => bit m r with
  | none =>
    have hnone : ∀ k, 1 ≤ k → k ≤ 12 → bit m k = false := fun k hlo hhi =>
      Bool.eq_false_iff.mpr (List.find?_eq_none.mp hfound k (mem_byPriority.mpr ⟨hlo, hhi⟩))
    exact ⟨fun _ => hnone, fun _ => rfl⟩
  | some k =>
    obtain ⟨hlo, hhi⟩ := mem_byPriority.mp (List.mem_of_find?_eq_some hfound)
    have hset : bit m k = true := List.find?_some hfound
    refine ⟨fun hzero => absurd hzero (Nat.ne_of_gt hlo), fun hclear => ?_⟩
    rw [hclear k hlo hhi] at hset
    cases hset

/-! A judged window (R37–R64). -/

/-- The picture that a window has latched for a frame: its previous one where the tag of the next cannot be read (R37, R399). -/
def State.latchedFor (s : State) (f : FrameCtx) (d : WindowDesc) : Option Picture :=
  if (s.win d.window).badTag then (s.win d.window).latched.filter fun p => p.tag.source == d.source && s.shows d.source else s.latchOf f.latch d

/-- The window's record once it has latched. -/
def State.latchedWin (s : State) (f : FrameCtx) (d : WindowDesc) : Win :=
  { s.win d.window with latched := s.latchedFor f d, badTag := false, refused := false, frame := f.frame, offAt := [] }

/-- The window's record after its checks (R49–R61). -/
def State.checkedWin (s : State) (grp : Group) (f : FrameCtx) (d : WindowDesc) : Win :=
  match s.latchedFor f d with
  | some p => (s.latchedWin f d).judge d (grp.safety.policy d.policy) f p
  | none => { s.latchedWin f d with ageUs := s.fresh.toNat % 4294967296, freezeMs := s.fresh.toNat / 4294967296, concealed := s.useFree.fresh.toNat % 65536 }

/-- The window after UNDERRUN and LANTERN, with what happened to LANTERN (R217, R243). -/
def State.supervisedWin (s : State) (grp : Group) (f : FrameCtx) (d : WindowDesc) : Win × LanternStep :=
  ((s.checkedWin grp f d).underrun (grp.safety.policy d.policy).recoverFrames).lantern (d.kind == 2) (s.comp.selftestFail || s.comp.domainLost) f.tf

/-- Whether the window's source is out of its envelope at the latch (R58). -/
def State.ooeFor (s : State) (d : WindowDesc) : Bool :=
  if d.source < 256 then (if bit (s.win d.window).active 6 then (s.ctx d.source).ooe else (s.ctx d.source).lastOoe) else false

/-- The reasons of a window for a frame (R57, R58, R501). -/
def State.reasonsFor (s : State) (grp : Group) (f : FrameCtx) (d : WindowDesc) : Nat :=
  setBit (setBit (setBit (s.supervisedWin grp f d).1.active 3 (s.latchedFor f d).isNone) 6 (s.ooeFor d)) 12 (s.supervisedWin grp f d).1.shed

/-- The record of a window that has been judged. -/
def State.judgedWin (s : State) (grp : Group) (f : FrameCtx) (d : WindowDesc) : Win :=
  { (s.supervisedWin grp f d).1 with active := s.reasonsFor grp f d, shown := topReason (s.reasonsFor grp f d) }

/-- The state once a window has been judged; of a window without a picture the record takes free values (log 5). -/
def State.judged (s : State) (grp : Group) (f : FrameCtx) (d : WindowDesc) : State :=
  (if (s.latchedFor f d).isNone then s.useFree.useFree else s).setWin d.window (s.judgedWin grp f d)

/-- A latched LANTERN counts at the window's head; it and a cleared one are recorded (R244). -/
def State.lanternTold (s : State) (d : WindowDesc) (tf : Nat) : LanternStep → State
  | .latched => (s.setHead d.head { s.head d.head with latches := sat 2 ((s.head d.head).latches + 1) }).recordAt evLanternLatched tf [p2 d.window]
  | .cleared => s.recordAt evLanternCleared tf [p2 d.window]
  | _ => s

/-- The picture is too small for the crop, which is recorded (R166). -/
def State.cropTold (s : State) (d : WindowDesc) (lat : Option Picture) : State :=
  if lat.any (cropExceeds d) then s.recordLimited evCropExceeds d.window [p2 d.window] else s

/-- SHUTTER_CHANGE follows a change of the recorded reason (R64). -/
def State.shutterTold (s : State) (d : WindowDesc) (f : FrameCtx) (old : Nat) (w : Win) : State :=
  if old != w.shown then s.recordAt evShutterChange f.tf [p2 d.window, p2 d.head, p8 f.frame, p1 old, p1 w.shown, p2 (w.active + (s.head d.head).mask), p4 w.ageUs] else s

/-- A judgement sets the window's record; the rest is told. -/
theorem State.evaluate_eq (s : State) (grp : Group) (f : FrameCtx) (d : WindowDesc) : s.evaluate grp f d =
    (((s.judged grp f d).cropTold d (s.latchedFor f d)).lanternTold d f.tf (s.supervisedWin grp f d).2).shutterTold d f (s.supervisedWin grp f d).1.shown (s.judgedWin grp f d) := rfl

theorem State.SameUnits.setHead {a b : State} (h : State.SameUnits a b) (k : Nat) (x : Head) : State.SameUnits (a.setHead k x) (b.setHead k x) :=
  { h with comp := by simp only [State.setHead, h.comp] }

theorem State.cropTold_same (s : State) (d : WindowDesc) (lat : Option Picture) : State.SameUnits s (s.cropTold d lat) := .ite (s.recordLimited_same _ _ _) (.refl s)

theorem State.shutterTold_same (s : State) (d : WindowDesc) (f : FrameCtx) (old : Nat) (w : Win) : State.SameUnits s (s.shutterTold d f old w) := .ite (s.recordAt_same _ _ _) (.refl s)

theorem State.lanternTold_same {a s : State} (h : State.SameUnits a s) (d : WindowDesc) (tf : Nat) (step : LanternStep) :
    ∃ b, (b = a ∨ b = a.setHead d.head { a.head d.head with latches := sat 2 ((a.head d.head).latches + 1) }) ∧ State.SameUnits b (s.lanternTold d tf step) := by
  have hhead : s.head d.head = a.head d.head := State.head_of_comp h.comp d.head
  cases step with
  | none => exact ⟨a, .inl rfl, h⟩
  | activated => exact ⟨a, .inl rfl, h⟩
  | latched => exact ⟨_, .inr rfl, by rw [State.lanternTold, hhead]; exact (h.setHead _ _).trans (State.recordAt_same _ _ _ _)⟩
  | cleared => exact ⟨a, .inl rfl, h.trans (s.recordAt_same _ _ _)⟩

/-- What is told of a judgement counts at most a latched LANTERN at the window's head. -/
theorem State.evaluate_same (s : State) (grp : Group) (f : FrameCtx) (d : WindowDesc) :
    ∃ b, (b = s.judged grp f d ∨ b = (s.judged grp f d).setHead d.head { s.head d.head with latches := sat 2 ((s.head d.head).latches + 1) }) ∧ State.SameUnits b (s.evaluate grp f d) := by
  obtain ⟨b, hb, hsame⟩ := State.lanternTold_same ((s.judged grp f d).cropTold_same d (s.latchedFor f d)) d f.tf (s.supervisedWin grp f d).2
  have hhead : (s.judged grp f d).head d.head = s.head d.head := by unfold State.judged; split <;> rfl
  exact ⟨b, by rwa [hhead] at hb, s.evaluate_eq grp f d ▸ hsame.trans (State.shutterTold_same _ _ _ _ _)⟩

theorem State.evaluate_win (s : State) (grp : Group) (f : FrameCtx) (d : WindowDesc) : (s.evaluate grp f d).win d.window = s.judgedWin grp f d := by
  obtain ⟨b, hb, hsame⟩ := s.evaluate_same grp f d
  have hjudged : (s.judged grp f d).win d.window = s.judgedWin grp f d := State.win_setWin _ _ _
  rw [State.win_of_comp hsame.comp]
  rcases hb with rfl | rfl
  · exact hjudged
  · exact hjudged

/-! A head at a frame boundary (R59). -/

/-- The head with its reasons at the boundary of a frame with t_f `tf`. -/
def State.reasonedHead (s : State) (h : Nat) (retime : Bool) (tf : Nat) : Head :=
  let x := s.head h
  let keep (on : Bool) (t : Option Nat) : Option Nat := if on then some (t.getD tf) else none
  { x with starting := keep (x.startDue && !x.included) x.starting, retiming := keep retime x.retiming, updating := keep (s.updates h tf) x.updating }

theorem State.headReasons_same (s : State) (h : Nat) (retime : Bool) (tf n : Nat) :
    State.SameUnits (s.setHead h { s.reasonedHead h retime tf with reason := topReason (s.reasonedHead h retime tf).mask }) (s.headReasons h retime tf n) :=
  .ite (.refl _) (State.recordAt_same _ _ _ _)

theorem State.headReasons_head (s : State) (h : Nat) (retime : Bool) (tf n : Nat) :
    (s.headReasons h retime tf n).head h = { s.reasonedHead h retime tf with reason := topReason (s.reasonedHead h retime tf).mask } := by
  rw [State.head_of_comp (s.headReasons_same h retime tf n).comp, State.head_setHead]

/-! The pixels of a head (R183, R225). -/

/-- Of a window under a reason, composition reads the reason and the age. -/
def Win.coveredAs (w v : Win) : Prop := w.shown ≠ 0 ∧ v.shown = w.shown ∧ v.ageUs = w.ageUs

/-- Composition reads no more of windows under a reason. -/
theorem composeWindow_congr {win win' : Nat → Win} (h : ∀ v, win' v = win v ∨ (win v).coveredAs (win' v)) (set : Settings) (cfg : SafetyCfg) (r : TimingRec) (hd line x y : Nat) :
    composeWindow win' set cfg r hd line x y = composeWindow win set cfg r hd line x y := by
  funext c e
  obtain ⟨d, op⟩ := e
  unfold composeWindow
  rcases h d.window with hsame | ⟨hcovered, hshown, hage⟩
  · simp only [hsame]
  · have hcovers : ((win d.window).shown != 0) = true := bne_iff_ne.mpr hcovered
    simp only [hshown, hage, hcovers, if_true]

/-- The picture of a window under a reason, or of any window on a head under one, is not read. -/
theorem State.headPixel_covered {s : State} {w h : Nat} (hcovered : (s.head h).reason ≠ 0 ∨ (s.win w).shown ≠ 0) (r : TimingRec) (x y : Nat) (p : Option Picture) :
    (s.setWin w { s.win w with latched := p }).headPixel r h x y = s.headPixel r h x y := by
  have hwindows : (s.setWin w { s.win w with latched := p }).groupWindows r.sg = s.groupWindows r.sg := rfl
  unfold State.headPixel
  rcases hcovered with hhead | hwin
  · have hreason : ((s.head h).reason != 0) = true := bne_iff_ne.mpr hhead
    simp only [show (s.setWin w { s.win w with latched := p }).head h = s.head h from rfl, hreason, if_true]
    rfl
  · have hothers : ∀ v, (s.setWin w { s.win w with latched := p }).win v = s.win v ∨ (s.win v).coveredAs ((s.setWin w { s.win w with latched := p }).win v) := by
      intro v
      by_cases hv : v = w
      · subst hv
        exact .inr (by rw [State.win_setWin]; exact ⟨hwin, rfl, rfl⟩)
      · exact .inl (s.win_setWin_other _ hv)
    simp only [composeWindow_congr hothers, hwindows]
    rfl

/-- Settles O6: a judgement records the reason that its checks leave on top, a frame boundary does so at the head, and composition shows the shutter in place of the picture. -/
theorem noContentUnderAReason : Obligations.NoContentUnderAReason := by
  unfold Obligations.NoContentUnderAReason
  refine ⟨topReason_eq_zero_iff, fun s g f d => ?_, fun s h tf n retime => ?_, fun s w h x y r p hcovered => ?_⟩
  · rw [State.evaluate_win]
    rfl
  · rw [State.headReasons_head]
    rfl
  · simp only [State.outPixel, State.headPixel_covered hcovered]

end Sys2Proof.Machine
end

section
/-! PROOF of the claim on freshness checks (spec/02_freshness.md R36, R49, R50, R56, R60, R86): what one check of a window decides, and that the other checks leave it. -/

namespace Sys2Proof.Machine

/-! One bit of a set of reasons, and the other bits. -/

theorem bit_two_pow_add_same (x i : Nat) : bit (2 ^ i + x) i = !bit x i := by
  rw [bit_eq_testBit, bit_eq_testBit, Nat.testBit_two_pow_add_eq]

/-- Where bit `i` is clear, adding its power carries into no other bit. -/
theorem bit_two_pow_add_other {x i j : Nat} (h : bit x i = false) (hj : j ≠ i) : bit (2 ^ i + x) j = bit x j := by
  rcases Nat.lt_or_gt_of_ne hj with hlow | hhigh
  · rw [bit_eq_testBit, bit_eq_testBit, Nat.testBit_two_pow_add_gt hlow]
  · obtain ⟨k, rfl⟩ := Nat.exists_eq_add_of_lt hhigh
    have heven : x / 2 ^ i % 2 ≠ 1 := by simpa [bit] using h
    have habove (y : Nat) : y / 2 ^ (i + k + 1) = y / 2 ^ i / 2 / 2 ^ k := by
      rw [Nat.div_div_eq_div_mul, Nat.div_div_eq_div_mul]
      congr 1
      ring
    have hsame : (2 ^ i + x) / 2 ^ i / 2 = x / 2 ^ i / 2 := by
      rw [Nat.add_div_left x (Nat.two_pow_pos i)]
      omega
    rw [bit, bit, habove, habove, hsame]

theorem two_pow_le_of_bit {x i : Nat} (h : bit x i = true) : 2 ^ i ≤ x := by
  by_contra hlt
  rw [bit, Nat.div_eq_of_lt (Nat.lt_of_not_le hlt)] at h
  cases h

/-- A bit that is cleared leaves what it was added to. -/
theorem bit_sub_two_pow_same {x i : Nat} (h : bit x i = true) : bit (x - 2 ^ i) i = false := by
  rw [← Nat.add_sub_of_le (two_pow_le_of_bit h), bit_two_pow_add_same] at h
  simpa using h

@[simp] theorem bit_setBit_same (x i : Nat) (b : Bool) : bit (setBit x i b) i = b := by
  unfold setBit
  cases hx : bit x i <;> cases b
  · simpa using hx
  · simpa [Nat.add_comm x] using (bit_two_pow_add_same x i).trans (by rw [hx]; rfl)
  · simpa using bit_sub_two_pow_same hx
  · simpa using hx

theorem bit_setBit_other (x : Nat) {i j : Nat} (b : Bool) (hj : j ≠ i) : bit (setBit x i b) j = bit x j := by
  unfold setBit
  cases hx : bit x i <;> cases b
  · rfl
  · simpa [Nat.add_comm x] using bit_two_pow_add_other hx hj
  · have hsum := bit_two_pow_add_other (bit_sub_two_pow_same hx) hj
    rw [Nat.add_sub_of_le (two_pow_le_of_bit hx)] at hsum
    simpa using hsum.symm
  · rfl

/-! One check (R60). -/

section
variable (w : Win) (code i recover : Nat) (fails : Bool)

theorem Win.check_active_other {k : Nat} (hk : k ≠ code) : bit (w.check code i recover fails).active k = bit w.active k := by
  unfold Win.check
  dsimp only
  split
  · exact bit_setBit_other _ _ hk
  · split
    · exact bit_setBit_other _ _ hk
    · rfl

theorem Win.check_passes_other {k : Nat} (hk : k ≠ i) : Map.get 0 (w.check code i recover fails).passes k = Map.get 0 w.passes k := by
  unfold Win.check
  dsimp only
  split
  · exact Map.get_set_other _ _ _ hk
  · split <;> exact Map.get_set_other _ _ _ hk

theorem Win.check_ageUs : (w.check code i recover fails).ageUs = w.ageUs := by
  unfold Win.check
  dsimp only
  split
  · rfl
  · split <;> rfl

end

theorem Win.check_fails (w : Win) (code i recover : Nat) : bit (w.check code i recover true).active code = true ∧ Map.get 0 (w.check code i recover true).passes i = 0 :=
  ⟨bit_setBit_same _ _ _, Map.get_set_same _ _ _ _⟩

theorem Win.check_passes (w : Win) (code i recover : Nat) : Map.get 0 (w.check code i recover false).passes i = Map.get 0 w.passes i + 1 := by
  unfold Win.check
  dsimp only
  rw [if_neg Bool.false_ne_true]
  split <;> exact Map.get_set_same _ _ _ _

/-! The checks of a latched picture (R49–R56). -/

theorem Win.heartbeat_leaves (w : Win) (d : WindowDesc) (p : Picture) : (w.heartbeat d p).active = w.active ∧ (w.heartbeat d p).passes = w.passes := by
  unfold Win.heartbeat
  dsimp only
  split
  · exact ⟨rfl, rfl⟩
  · split
    · exact ⟨rfl, rfl⟩
    · split <;> exact ⟨rfl, rfl⟩

/-- T_w of a window in a frame (R39). -/
def FrameCtx.instant (f : FrameCtx) (d : WindowDesc) : Nat := rowInstant f.tf f.lp (evalRow d f.rec_ f.heads)

/-- The window with its age, freeze time and N_c of a frame. -/
def Win.aged (w : Win) (d : WindowDesc) (f : FrameCtx) (p : Picture) : Win :=
  { w.heartbeat d p with ageUs := Machine.ageUs p.tag (f.instant d) f.u, freezeMs := sat 4 ((f.instant d - p.tag.advance) / 1000000), concealed := (concealCount d f.rec_ f.heads p.map).2 }

/-- The STALE check (R49). -/
def Win.staleCheck (w : Win) (d : WindowDesc) (pol : Policy) (f : FrameCtx) (p : Picture) : Win :=
  w.check 1 0 pol.recoverFrames (Machine.ageUs p.tag (f.instant d) f.u > pol.ageLimit)

/-- The FROZEN check: by the freeze time, or by the heartbeat (R50, R54). -/
def Win.frozenCheck (w : Win) (d : WindowDesc) (pol : Policy) (f : FrameCtx) (p : Picture) : Win :=
  w.check 2 1 pol.recoverFrames (f.instant d - p.tag.advance > pol.freezeLimit * 1000000 || (pol.hbPeriod != 0 && f.instant d - w.hbTime > pol.hbPeriod * 1000000))

/-- The CONCEALED check (R55). -/
def Win.concealedCheck (w : Win) (d : WindowDesc) (pol : Policy) (f : FrameCtx) (p : Picture) : Win :=
  w.check 4 2 pol.recoverFrames ((concealCount d f.rec_ f.heads p.map).2 ≥ 1 && 100 * (concealCount d f.rec_ f.heads p.map).2 ≥ pol.concealPct * (concealCount d f.rec_ f.heads p.map).1)

/-- The TIME check, where the policy requires trusted time (R56). -/
def Win.timeCheck (w : Win) (pol : Policy) (trusted : Bool) : Win :=
  if bit pol.control 0 then w.check 5 3 pol.recoverFrames (!trusted) else { w with active := setBit w.active 5 false, passes := Map.set w.passes 3 0 }

/-- A latched picture is judged by four checks, one after the other. -/
theorem Win.judge_eq (w : Win) (d : WindowDesc) (pol : Policy) (f : FrameCtx) (p : Picture) : w.judge d pol f p =
    ((((w.aged d f p).staleCheck d pol f p).frozenCheck d pol f p).concealedCheck d pol f p).timeCheck pol (p.tag.trusted f.trusted) := rfl

section
variable (w : Win) (d : WindowDesc) (pol : Policy) (f : FrameCtx) (p : Picture) (trusted : Bool)

/-- The TIME check is about bit 5 and its own count alone. -/
theorem Win.timeCheck_other {k i : Nat} (hk : k ≠ 5) (hi : i ≠ 3) :
    bit (w.timeCheck pol trusted).active k = bit w.active k ∧ Map.get 0 (w.timeCheck pol trusted).passes i = Map.get 0 w.passes i := by
  unfold Win.timeCheck
  split
  · exact ⟨Win.check_active_other _ _ _ _ _ hk, Win.check_passes_other _ _ _ _ _ hi⟩
  · exact ⟨bit_setBit_other _ _ hk, Map.get_set_other _ _ _ hi⟩

theorem Win.timeCheck_ageUs : (w.timeCheck pol trusted).ageUs = w.ageUs := by
  unfold Win.timeCheck
  split
  · exact Win.check_ageUs _ _ _ _ _
  · rfl

/-- The checks after that of STALE leave what it decided. -/
theorem Win.judge_stale : bit (w.judge d pol f p).active 1 = bit ((w.aged d f p).staleCheck d pol f p).active 1 ∧
    Map.get 0 (w.judge d pol f p).passes 0 = Map.get 0 ((w.aged d f p).staleCheck d pol f p).passes 0 := by
  rw [Win.judge_eq]
  obtain ⟨hactive, hpasses⟩ := Win.timeCheck_other ((((w.aged d f p).staleCheck d pol f p).frozenCheck d pol f p).concealedCheck d pol f p) pol (p.tag.trusted f.trusted)
    (k := 1) (i := 0) (by decide) (by decide)
  rw [hactive, hpasses]
  simp [Win.concealedCheck, Win.frozenCheck, Win.check_active_other, Win.check_passes_other]

/-- The checks after that of FROZEN leave what it decided. -/
theorem Win.judge_frozen : bit (w.judge d pol f p).active 2 = bit (((w.aged d f p).staleCheck d pol f p).frozenCheck d pol f p).active 2 ∧
    Map.get 0 (w.judge d pol f p).passes 1 = Map.get 0 (((w.aged d f p).staleCheck d pol f p).frozenCheck d pol f p).passes 1 := by
  rw [Win.judge_eq]
  obtain ⟨hactive, hpasses⟩ := Win.timeCheck_other ((((w.aged d f p).staleCheck d pol f p).frozenCheck d pol f p).concealedCheck d pol f p) pol (p.tag.trusted f.trusted)
    (k := 2) (i := 1) (by decide) (by decide)
  rw [hactive, hpasses]
  simp [Win.concealedCheck, Win.check_active_other, Win.check_passes_other]

theorem Win.judge_ageUs : (w.judge d pol f p).ageUs = Machine.ageUs p.tag (f.instant d) f.u := by
  rw [Win.judge_eq, Win.timeCheck_ageUs, Win.concealedCheck, Win.check_ageUs, Win.frozenCheck, Win.check_ageUs, Win.staleCheck, Win.check_ageUs]
  rfl

/-- Above AGE_LIMIT STALE fails (R49). -/
theorem Win.judge_stale_of_lt (h : pol.ageLimit < Machine.ageUs p.tag (f.instant d) f.u) :
    bit (w.judge d pol f p).active 1 = true ∧ Map.get 0 (w.judge d pol f p).passes 0 = 0 := by
  obtain ⟨hactive, hpasses⟩ := Win.judge_stale w d pol f p
  rw [hactive, hpasses, Win.staleCheck, decide_eq_true h]
  exact Win.check_fails _ _ _ _

/-- At AGE_LIMIT and below it STALE passes (R49). -/
theorem Win.judge_stale_of_le (h : Machine.ageUs p.tag (f.instant d) f.u ≤ pol.ageLimit) : Map.get 0 (w.judge d pol f p).passes 0 = Map.get 0 w.passes 0 + 1 := by
  obtain ⟨-, hpasses⟩ := Win.judge_stale w d pol f p
  rw [hpasses, Win.staleCheck, decide_eq_false (Nat.not_lt.mpr h), Win.check_passes]
  exact congrArg (Map.get 0 · 0 + 1) (w.heartbeat_leaves d p).2

/-- Above FREEZE_LIMIT FROZEN fails (R50). -/
theorem Win.judge_frozen_of_lt (h : pol.freezeLimit * 1000000 < f.instant d - p.tag.advance) :
    bit (w.judge d pol f p).active 2 = true ∧ Map.get 0 (w.judge d pol f p).passes 1 = 0 := by
  obtain ⟨hactive, hpasses⟩ := Win.judge_frozen w d pol f p
  rw [hactive, hpasses, Win.frozenCheck, decide_eq_true h, Bool.true_or]
  exact Win.check_fails _ _ _ _

/-- The trusted-time check decides TIME where it applies (R56). -/
theorem Win.judge_time_fails (hcontrol : bit pol.control 0 = true) (h : p.tag.trusted f.trusted = false) :
    bit (w.judge d pol f p).active 5 = true ∧ Map.get 0 (w.judge d pol f p).passes 3 = 0 := by
  rw [Win.judge_eq, Win.timeCheck, if_pos hcontrol, h]
  exact Win.check_fails _ _ _ _

theorem Win.judge_time_passes (hcontrol : bit pol.control 0 = true) (h : p.tag.trusted f.trusted = true) :
    Map.get 0 (w.judge d pol f p).passes 3 = Map.get 0 w.passes 3 + 1 := by
  have haged : (w.aged d f p).passes = w.passes := (w.heartbeat_leaves d p).2
  rw [Win.judge_eq, Win.timeCheck, if_pos hcontrol, h, Bool.not_true, Win.check_passes, Win.concealedCheck, Win.check_passes_other _ _ _ _ _ (by decide),
    Win.frozenCheck, Win.check_passes_other _ _ _ _ _ (by decide), Win.staleCheck, Win.check_passes_other _ _ _ _ _ (by decide), haged]

/-- Where trusted time is not required TIME ends at once (the model's choice, log 17). -/
theorem Win.judge_time_off (hcontrol : bit pol.control 0 = false) : bit (w.judge d pol f p).active 5 = false := by
  rw [Win.judge_eq, Win.timeCheck, if_neg (Bool.eq_false_iff.mp hcontrol)]
  exact bit_setBit_same _ _ _

end

theorem State.followsLocked_iff (s : State) (b : Nat) : s.followsLocked b = true ↔ s.time.state = .following b ∧ (s.base b).state = .locked := by
  simp only [State.followsLocked, Bool.and_eq_true, beq_iff_eq]

theorem State.trusted_iff (s : State) :
    s.trusted = true ↔ (s.time.state = .following 0 ∧ (s.base 0).state = .locked) ∨ (s.time.state = .following 1 ∧ (s.base 1).state = .locked) := by
  rw [State.trusted, Bool.or_eq_true, State.followsLocked_iff, State.followsLocked_iff]

theorem Tag.trusted_iff (g : Tag) (selected : Bool) : g.trusted selected = true ↔ g.cls = 0 ∧ bit g.info 2 = true ∧ selected = true := by
  rw [Tag.trusted, Bool.and_eq_true, Bool.and_eq_true, beq_iff_eq, and_assoc]

/-- Settles O5: each check's bit and count are what its own condition says, since the checks after it leave them. -/
theorem freshnessChecks : Obligations.FreshnessChecks := by
  unfold Obligations.FreshnessChecks
  refine ⟨State.trusted_iff, Tag.trusted_iff, fun w v d pol f p age hage hjudged => ?_⟩
  subst hage hjudged
  exact ⟨w.judge_ageUs d pol f p, w.judge_stale_of_lt d pol f p, w.judge_stale_of_le d pol f p, w.judge_frozen_of_lt d pol f p, w.judge_time_fails d pol f p,
    w.judge_time_passes d pol f p, w.judge_time_off d pol f p⟩

end Sys2Proof.Machine
end

section
/-! PROOF of the claim on SAFETY_ARM, SAFETY_APPLY, LANTERN_CLEAR and ALERT_ACK (spec/02_freshness.md R63, spec/08_shutter_lantern.md R233, R234, R244, R246): each command's own part, where its checks pass. -/

namespace Sys2Proof.Machine

/-- A record, and a free value taken with it, leave every unit. -/
theorem State.useFree_record_block (s : State) (ty : Nat) (v : List (Nat × Int)) : State.SameBlock s (s.useFree.record ty v) := by
  have hfree : State.SameBlock s s.useFree := by constructor <;> rfl
  exact hfree.trans (s.useFree.record_same ty v).block

/-! The commands' own parts. -/

/-- The configuration that SAFETY_APPLY puts in force, in all copies (R234). -/
def State.applySafety (a : State) (new : SafetyCfg) : State :=
  { a with comp := { a.comp with arm := none, safety := new, copyA := new, copyB := new, copyAOk := true, copyBOk := true, cfgIntact := true, restored := false } }

/-- The session's entries, held for 30 s under a new ARM_ID (R233). -/
def State.armSafety (a : State) (c : Call) : State :=
  { a with comp := { a.comp with
      arm := some { id := a.newArmId, session := c.msg.session, entries := (safetyEntries c.p).map entryOf, crc := crc32c (c.p.drop 4), expiry := a.now + 30000 * ms } } }

/-- SAFETY_ARM's own part where no other session holds the arm and every entry passes (R233). -/
theorem bodySafetyArm_ok {c : Call} {a : State} (hmine : ∀ x, a.comp.arm = some x → x.session = c.msg.session) (hentries : entriesBad c.p = none) :
    bodySafetyArm c a = .ok ((a.armSafety c).useFree.record evSafetyArmed []) (le 2 a.newArmId ++ zeros 2 ++ le 4 (crc32c (c.p.drop 4)) ++ le 8 (a.now + 30000 * ms)) := by
  have hnow : ((a.armSafety c).useFree.record evSafetyArmed []).now = a.now := congrArg TimeState.now (State.record_same _ _ _).time
  have htold : .ok ((a.armSafety c).useFree.record evSafetyArmed []) (le 2 a.newArmId ++ zeros 2 ++ le 4 (crc32c (c.p.drop 4)) ++ le 8 (((a.armSafety c).useFree.record evSafetyArmed []).now + 30000 * ms)) =
      bodySafetyArm c a := by
    unfold bodySafetyArm
    cases harm : a.comp.arm with
    | none =>
      simp only [hentries, Bool.false_eq_true, if_false]
      rfl
    | some x =>
      simp only [bne_eq_false_iff_eq.mpr (hmine x harm), hentries, Bool.false_eq_true, if_false]
      rfl
  rw [← htold, hnow]

theorem verdict_ok_of_admits {p adm : Plan} (h : admits p adm) : (p.verdict false).ok = true := by
  rw [Verdict.ok, show (p.verdict false).result = .ok adm from h]

/-- SAFETY_APPLY's own part of what its session armed in time, with the armed CRC, where admission takes it (R234). -/
theorem bodySafetyApply_ok {c : Call} {a : State} {x : Arm} {new : SafetyCfg} {adm : Plan} (harm : a.comp.arm = some x) (hmine : x.session = c.msg.session) (hintime : c.rung ≤ x.expiry)
    (hid : rd c.p 0 2 = x.id) (hcrc : rd c.p 4 4 = x.crc) (hnew : new = { x.entries.foldl SafetyCfg.entry a.comp.safety with generation := a.comp.safety.generation + 1 })
    (hadm : admits { a.plan with cfg := new } adm) :
    bodySafetyApply c a = .ok ((a.useFree.applySafety new).record evSafetyApplied [p4 x.crc]) (a.verdictOn { a.plan with cfg := new } ++ le 4 new.generation ++ zeros 4) := by
  subst hnew
  unfold bodySafetyApply
  rw [harm]
  simp only [hmine, hid, hcrc, bne_self_eq_false, Bool.false_eq_true, if_false, Nat.not_lt.mpr hintime, verdict_ok_of_admits hadm, Bool.not_true]
  rfl

/-- LANTERN_CLEAR of a window (R244). -/
theorem bodyLanternClear_window {c : Call} {a : State} (h : rd c.p 0 2 ≤ 1023) :
    bodyLanternClear c a = .ok (if (a.win (rd c.p 0 2)).lanternLatched then a.setWin (rd c.p 0 2) { a.win (rd c.p 0 2) with lanternClear := true } else a) [] := by
  unfold bodyLanternClear
  dsimp only
  rw [if_neg (by omega), if_neg (Nat.not_lt.mpr h)]

/-- LANTERN_CLEAR of the device-wide faults, once the self-test has passed (R246). -/
theorem bodyLanternClear_device {c : Call} {a : State} (hdevice : rd c.p 0 2 = 0xFFFF) (hfault : a.comp.selftestFail = true ∨ a.comp.domainLost = true) (hon : a.domOn 11 = true)
    (hpassed : a.comp.selftestPassed = true) :
    bodyLanternClear c a = .ok { a with comp := { a.comp with selftestFail := false, domainLost := false, wins := Map.mapV (fun _ (x : Win) => if x.lanternFault then { x with lanternClear := true } else x) a.comp.wins } } [] := by
  have hstands : (!a.comp.selftestFail && !a.comp.domainLost) = false := by rcases hfault with h | h <;> simp [h]
  unfold bodyLanternClear
  simp only [hdevice, hstands, hon, hpassed, if_true, Bool.not_true, Bool.or_self, Bool.false_eq_true, if_false]

/-- LANTERN_CLEAR of the device-wide faults where there is none (R246). -/
theorem bodyLanternClear_noFault {c : Call} {a : State} (hdevice : rd c.p 0 2 = 0xFFFF) (hselftest : a.comp.selftestFail = false) (hdomain : a.comp.domainLost = false) :
    bodyLanternClear c a = .ok a [] := by
  unfold bodyLanternClear
  simp only [hdevice, hselftest, hdomain, if_true, Bool.not_false, Bool.and_self]

/-- Settles O17: each command's own part passes its checks, and its record leaves what it applied. -/
theorem safetyCommandsAnswer : Obligations.SafetyCommandsAnswer := by
  unfold Obligations.SafetyCommandsAnswer
  refine ⟨answers_same (fun c a h => bodySafetyArm_ok h.1 h.2) ?armConns ?armed, fun x new adm => answers_same (left := fun _ a => (a.useFree.applySafety new).record evSafetyApplied [p4 x.crc]) ?apply ?applyConns ?applied, answers ?window ?windowConns, answers ?device ?deviceConns,
    answers ?noFault fun c a n _ => rfl, answers_same (fun c a _ => rfl) (fun c a n _ => record_heard a _ _ n) fun c a _ => (a.record_same _ _).block⟩
  case armConns => exact fun c a n _ => record_heard _ _ _ n
  case armed => exact fun c a _ => (a.armSafety c).useFree_record_block _ _
  case apply =>
    rintro c a ⟨harm, hmine, hintime, hid, hcrc, hnew, hadm⟩
    exact bodySafetyApply_ok harm hmine hintime hid hcrc hnew hadm
  case applyConns => exact fun c a n _ => record_heard _ _ _ n
  case applied => exact fun c a _ => (a.applySafety new).useFree_record_block _ _
  case window => exact fun c a h => bodyLanternClear_window h
  case windowConns =>
    intro c a n _
    dsimp only
    split <;> rfl
  case device =>
    rintro c a ⟨hdevice, hfault, hon, hpassed⟩
    exact bodyLanternClear_device hdevice hfault hon hpassed
  case deviceConns => exact fun c a n _ => rfl
  case noFault =>
    rintro c a ⟨hdevice, hselftest, hdomain⟩
    exact bodyLanternClear_noFault hdevice hselftest hdomain

end Sys2Proof.Machine
end

section
/-! PROOF of the claim on the stream, source and encode commands (spec/04_ingest.md R97, R121, R123; spec/09_encode.md R251–R253, R274): each command's own part where admission takes it, and that it opens and closes no connection. -/

namespace Sys2Proof.Machine

/-! Contexts (R97, R106). -/

theorem State.transmit_izent (s : State) (k : Nat) (bs : Bytes) : (s.transmit k bs).izent = s.izent := by
  unfold State.transmit
  dsimp only
  split <;> rfl

theorem State.membership_sameConns (s : State) (x : Ctx) (r : Report) : State.SameConns s (s.membership x r) :=
  .ite (.refl s) (.fold (fun s _ => .ite (.of_izent (s.transmit_izent _ _)) (.refl s)) _ s)

theorem State.syntaxErrors_sameConns (s : State) (c n : Nat) : State.SameConns s (s.syntaxErrors c n) :=
  .trans (b := s.setCtx c { s.ctx c with syntaxErrors := sat 4 ((s.ctx c).syntaxErrors + n) }) .of_izent (.fold (fun s _ => (s.recordLimited_same _ _ _).conns) _ _)

theorem State.openCtx_sameConns (s : State) (d : StreamRec) (ps : Bytes) (engine decoder : Nat) (pool : List Slot) (hb : Map (Nat × Nat × Nat × Nat)) :
    State.SameConns s (s.openCtx d ps engine decoder pool hb) := by
  unfold State.openCtx
  extract_lets c x joined
  have hjoined : State.SameConns s joined := .trans (.trans (b := s.setCtx c x) .of_izent (State.syntaxErrors_sameConns _ _ _)) (State.membership_sameConns _ _ _)
  exact .ite (hjoined.record _ _) hjoined

theorem State.drainCtx_sameConns (s : State) (c : Nat) : State.SameConns s (s.drainCtx c) := by
  unfold State.drainCtx
  dsimp only
  exact .ite (.trans .of_izent (State.membership_sameConns _ _ _)) (.refl s)

/-! Internal sources (R121, R123). -/

theorem State.recordTagged_same (s : State) (g : Tagged) : State.SameUnits s (s.recordTagged g) := by
  unfold State.recordTagged
  extract_lets told
  have htold : State.SameUnits s told := .ite (s.record_same _ _) (.refl s)
  exact .ite (htold.trans (told.record_same _ _)) htold

theorem State.issueSource_sameConns (s : State) (i : Nat) (p : Picture) (capture : Int) : State.SameConns s (s.issueSource i p capture) := by
  unfold State.issueSource
  extract_lets x alive slot g
  generalize hset : s.setSrc i _ = set
  have hconns : State.SameConns s set := .of_izent (hset ▸ rfl)
  exact (hconns.trans (set.recordTagged_same g).conns).trans (.of_izent rfl)

theorem State.setSource_sameConns (s : State) (d : SourceRec) (image : List (List Nat)) : State.SameConns s (s.setSource d image) := by
  unfold State.setSource
  extract_lets y health set
  have hset : State.SameConns s set := .of_izent rfl
  exact .ite (hset.trans (set.issueSource_sameConns _ _ _)) hset

/-- What admission takes after a free value, and applies. -/
theorem State.sealOpen_of {a u : State} (h : State.SameConns a.useFree u) (adm : Plan) (set : Settings) : State.SameConns a (u.sealOpen adm set) :=
  (State.SameConns.trans .of_izent h).trans (State.sealOpen_sameConns _ _ _)

/-! The commands' own parts. -/

/-- STREAM_OPEN's own part where admission gives the context an engine and a decoder (R97). -/
theorem bodyStreamOpen_ok {c : Call} {a : State} {adm : Plan} {x : CtxUse} (hfields : streamX c.p = none) (hclosed : a.ctxOpen (streamOf c.p).context = false)
    (hfree : a.comp.reopens.any (fun r => r.decl.context == (streamOf c.p).context) = false) (hadm : admits (a.planStream (streamOf c.p)) adm)
    (hplace : adm.ctx.find? (fun u => u.live && u.decl == streamOf c.p) = some x) :
    bodyStreamOpen c a = .ok ((a.useFree.openCtx (streamOf c.p) (sub c.p 100 (rd c.p 96 2)) x.engine x.decoder (List.replicate (adm.slots (streamOf c.p)) {})
      (hbAssign a.comp.committed (streamOf c.p).context [])).sealOpen adm a.comp.committed) (a.verdictOn (a.planStream (streamOf c.p))) := by
  unfold bodyStreamOpen
  simp only [hfields, hclosed, hfree, Bool.or_self, Bool.false_eq_true, if_false]
  refine (admitted_ok _ hadm).trans ?_
  simp only [hplace]
  rfl

/-- SOURCE_SET's own part where a STILL's image is the one declared and admission takes the configuration (R121, R123). -/
theorem bodySourceSet_ok {c : Call} {a : State} {adm : Plan} (hfields : sourceX (c.p.take 32) = none) (hadm : admits (a.planSource (sourceOf c.p)) adm)
    (himage : (sourceOf c.p).kind = 3 → rd c.p 40 4 = stillSize (sourceOf c.p) ∧ a.dataDenied c 32 = false ∧ crc32c (c.block 0 32) = (sourceOf c.p).stillCrc) :
    bodySourceSet c a = .ok ((a.useFree.setSource (sourceOf c.p) (if (sourceOf c.p).kind = 3 then stillPlanes (sourceOf c.p) (c.block 0 32) else [])).sealOpen adm a.comp.committed)
      (a.verdictOn (a.planSource (sourceOf c.p))) := by
  unfold bodySourceSet
  by_cases hstill : (sourceOf c.p).kind = 3
  · obtain ⟨hsize, hreadable, hcrc⟩ := himage hstill
    simp only [hfields, hstill, hsize, hreadable, hcrc, decide_true, bne_self_eq_false, Bool.and_false, Bool.false_eq_true, if_false, if_true]
    exact admitted_ok (fun s _ => s.setSource (sourceOf c.p) (stillPlanes (sourceOf c.p) (c.block 0 32))) hadm
  · simp only [hfields, hstill, decide_false, Bool.false_and, Bool.false_eq_true, if_false]
    exact admitted_ok (fun s _ => s.setSource (sourceOf c.p) []) hadm

/-- ENCODE_OPEN's own part where admission gives the channel an engine (R251, R252). -/
theorem bodyEncodeOpen_ok {c : Call} {a : State} {adm : Plan} {x : EncUse} (hfields : encodeX c.p = none) (hclosed : a.encOpen (encodeOf c.p).channel = false)
    (hadm : admits (a.planEncode (encodeOf c.p)) adm) (hplace : adm.enc.find? (fun u => u.live && u.decl == encodeOf c.p) = some x) :
    bodyEncodeOpen c a = .ok ((a.useFree.openEnc (encodeOf c.p) x.engine (adm.encLevel (encodeOf c.p)).1 (adm.encLevel (encodeOf c.p)).2).sealOpen adm a.comp.committed)
      (a.verdictOn (a.planEncode (encodeOf c.p))) := by
  unfold bodyEncodeOpen
  simp only [hfields, hclosed, Bool.false_eq_true, if_false]
  refine (admitted_ok _ hadm).trans ?_
  simp only [hplace]

/-- ENCODE_SET's own part where the new record passes and admission takes it (R253). -/
theorem bodyEncodeSet_ok {c : Call} {a : State} {adm : Plan} {d : EncodeRec} (hmask : encodeSetF.find? (fun f => !bit (rd c.p 1 1) f.1 && rd c.p f.2.1 f.2.2.1 != 0) = none)
    (hopen : a.encOpen (rd c.p 0 1) = true) (hd : d = encodeSet (a.enc? (rd c.p 0 1)).decl c.p) (hrecord : recordBad encodeF encodeX (encodeBytes d) = none)
    (hadm : admits (a.planEncodeSet (rd c.p 0 1) d) adm) :
    bodyEncodeSet c a = .ok ((a.useFree.setEnc (rd c.p 0 1) { a.enc? (rd c.p 0 1) with decl := d, level := (adm.encLevel d).1, tier := (adm.encLevel d).2 }).sealOpen adm a.comp.committed)
      (a.verdictOn (a.planEncodeSet (rd c.p 0 1) d)) := by
  unfold bodyEncodeSet
  simp only [hmask, hopen, ← hd, hrecord, Bool.not_true, Bool.false_eq_true, if_false]
  exact admitted_ok _ hadm

/-- Settles O15: each command's own part passes its checks and applies what admission took, with every connection as it was. -/
theorem streamAndEncodeCommandsAnswer : Obligations.StreamAndEncodeCommandsAnswer := by
  unfold Obligations.StreamAndEncodeCommandsAnswer
  refine ⟨fun adm x => answers ?stream ?streamConns, answers (fun c a _ => rfl) ?closeConns, fun adm => answers ?source ?sourceConns, fun adm x => answers ?encode ?encodeConns,
    fun adm d => answers ?set ?setConns, answers (fun c a _ => rfl) ?encCloseConns⟩
  case stream =>
    rintro c a ⟨hfields, hclosed, hfree, hadm, hplace⟩
    exact bodyStreamOpen_ok hfields hclosed hfree hadm hplace
  case streamConns => exact fun c a n _ => (State.sealOpen_of (State.openCtx_sameConns _ _ _ _ _ _ _) adm _).heard n
  case closeConns => exact fun c a n _ => (a.drainCtx_sameConns _).heard n
  case source =>
    rintro c a ⟨hfields, hadm, himage⟩
    exact bodySourceSet_ok hfields hadm himage
  case sourceConns => exact fun c a n _ => (State.sealOpen_of (State.setSource_sameConns _ _ _) adm _).heard n
  case encode =>
    rintro c a ⟨hfields, hclosed, hadm, hplace⟩
    exact bodyEncodeOpen_ok hfields hclosed hadm hplace
  case encodeConns => exact fun c a n _ => (State.sealOpen_of .of_izent adm _).heard n
  case set =>
    rintro c a ⟨hmask, hopen, hd, hrecord, hadm⟩
    exact bodyEncodeSet_ok hmask hopen hd hrecord hadm
  case setConns => exact fun c a n _ => (State.sealOpen_of .of_izent adm _).heard n
  case encCloseConns =>
    intro c a n _
    split <;> rfl

end Sys2Proof.Machine
end

section
/-! PROOF of the claim on patterns and stills (spec/04_ingest.md R121–R123; spec/18_resilience.md R497): what an issued picture is, and when one is issued. -/

namespace Sys2Proof.Machine

/-! Sources are part of the streams alone. -/

theorem State.src_of_streams {a b : State} (h : b.streams = a.streams) (i : Nat) : b.src i = a.src i := by simp only [State.src, h]

theorem State.src_setSrc_other (s : State) {i j : Nat} (x : Source) (h : j ≠ i) : (s.setSrc i x).src j = s.src j := Map.get_set_other _ _ _ h

/-! An issued picture (R122, R124). -/

/-- Whatever its fields, a tag names its source. -/
theorem formTag_source (source : Nat) (prev : Option Tag) (alive : Option Nat) (m : TimePair) (base flags slot now : Nat) (map : List Nat) (hb : Nat × List Nat) :
    (formTag source prev alive m base flags slot now map hb).tag.source = source := by
  unfold formTag
  dsimp only
  split
  · rfl
  · split <;> rfl

/-- An issued picture is the next of its source and waits for its tag's write; other sources and units stay. -/
theorem State.issueSource_issues (s : State) (i : Nat) (p : Picture) (capture : Int) :
    (∃ (g : Tag) (alive : Nat), g.source = 256 + i ∧
      (s.issueSource i p capture).src i = { s.src i with alive := alive, prevTag := some g, unacked := (s.src i).unacked ++ [{ p with tag := g }], count := (s.src i).count + 1 }) ∧
    (∀ j, j ≠ i → (s.issueSource i p capture).src j = s.src j) ∧ (s.issueSource i p capture).health = s.health := by
  unfold State.issueSource
  extract_lets x alive slot g
  generalize hset : s.setSrc i { x with alive := alive, prevTag := some g.tag, unacked := x.unacked ++ [{ p with tag := g.tag }], count := x.count + 1 } = set
  have htold : State.SameUnits set (set.recordTagged g) := set.recordTagged_same g
  have hsrc : ∀ j, ((set.recordTagged g).writeTag g.tag (mapBytes [])).src j = set.src j := State.src_of_streams htold.streams
  refine ⟨⟨g.tag, alive, formTag_source .., ?_⟩, fun j hj => ?_, htold.health.trans (hset ▸ rfl)⟩
  · rw [hsrc, ← hset, State.src_setSrc]
  · rw [hsrc, ← hset, State.src_setSrc_other _ _ hj]

/-! The events. -/

/-- The picture that a PATTERN is due to issue (R123). -/
def Source.patternPicture (x : Source) : Picture :=
  { tag := {}, width := x.decl.width, height := x.decl.height, depth := x.decl.bitDepth, sampling := 2, fullRange := true
    planes := planesOf x.decl.width x.decl.height (patternAt x.decl x.count) }

theorem exec_patternPicture {t : Time} {i : Nat} {s : State} (hi : i < 16) (hkind : (s.src i).decl.kind = 1) (hon : (s.tick t).domOn 6 = true) (hdue : (s.src i).dueAt (s.src i).ticks ≤ (s.tick t).now) :
    exec (.patternPicture t i) s =
      .next (settle (s.tick t) (((s.tick t).setSrc i { s.src i with ticks := (s.src i).ticks + 1 }).issueSource i (s.src i).patternPicture (s.tick t).now)) := by
  show execPatternPicture t i s = _
  have hissues : (decide (((s.tick t).src i).decl.kind = 1) && (s.tick t).domOn 6 && decide (((s.tick t).src i).dueAt ((s.tick t).src i).ticks ≤ (s.tick t).now)) = true := by
    rw [hon, decide_eq_true (show ((s.tick t).src i).decl.kind = 1 from hkind), decide_eq_true (show ((s.tick t).src i).dueAt ((s.tick t).src i).ticks ≤ (s.tick t).now from hdue)]
    rfl
  rw [execPatternPicture, runIf_next (decide_eq_true hi)]
  dsimp only
  rw [if_pos hissues]
  rfl

/-- A STILL's period passes: its verification is queued, unless the previous one has not ended (R497). -/
theorem exec_stillVerifyPeriod {t : Time} {i : Nat} {s : State} (hi : i < 16) (hkind : (s.src i).decl.kind = 3) (hon : (s.tick t).domOn 6 = true) (hscan : (s.tick t).domOn 3 = true)
    (hdue : (s.src i).dueAt ((s.src i).ticks + 1) ≤ (s.tick t).now) :
    exec (.stillVerifyPeriod t i) s = .next (settle (s.tick t) (
      if s.health.stillJobs.contains i then (s.tick t).setSrc i { s.src i with ticks := (s.src i).ticks + 1 }
      else { (s.tick t).setSrc i { s.src i with ticks := (s.src i).ticks + 1, queuedAt := some (s.tick t).now } with health := { s.health with stillJobs := s.health.stillJobs ++ [i] } })) := by
  show execStillVerifyPeriod t i s = _
  have hends : (decide (((s.tick t).src i).decl.kind = 3) && decide (((s.tick t).src i).dueAt (((s.tick t).src i).ticks + 1) ≤ (s.tick t).now)) = true := by
    rw [decide_eq_true (show ((s.tick t).src i).decl.kind = 3 from hkind), decide_eq_true (show ((s.tick t).src i).dueAt (((s.tick t).src i).ticks + 1) ≤ (s.tick t).now from hdue)]
    rfl
  rw [execStillVerifyPeriod, runIf_next (decide_eq_true hi)]
  dsimp only
  rw [if_pos hends, hon, hscan, State.tick_health]
  cases s.health.stillJobs.contains i <;> rfl

/-- The verification at the head of the queue ends (R123, R497). -/
theorem exec_stillVerifyDone {t : Time} {i : Nat} {rest : List Nat} {s : State} (crc : Nat) (hjobs : s.health.stillJobs = i :: rest) :
    exec (.stillVerifyDone t crc) s = .next (settle (s.tick t) (
      let v := { s.tick t with health := { s.health with stillJobs := rest } }.setSrc i { s.src i with queuedAt := none, verifyFailed := crc != (s.src i).decl.stillCrc }
      if crc != (s.src i).decl.stillCrc then v.record evStillCorrupt [p2 (256 + i)] else if v.domOn 6 then v.issueSource i (s.src i).still ((s.src i).queuedAt.getD 0) else v)) := by
  show execStillVerifyDone t crc s = _
  rw [execStillVerifyDone, run_next]
  dsimp only
  rw [State.tick_health, hjobs]
  rfl

/-- Settles O52: an issued picture is appended to its source's pictures under a tag that names the source. -/
theorem sourceEventsComplete : Obligations.SourceEventsComplete := by
  unfold Obligations.SourceEventsComplete
  refine ⟨fun t i s hi hkind hon hdue => ?_, fun t i s hi hkind hon hscan hdue => ⟨fun hqueued => ?_, fun hfree => ?_⟩, fun t i crc rest s hjobs => ⟨fun hwrong => ?_, fun hright hon => ?_⟩⟩
  · obtain ⟨⟨g, alive, hsource, hissued⟩, hothers, -⟩ := State.issueSource_issues ((s.tick t).setSrc i { s.src i with ticks := (s.src i).ticks + 1 }) i (s.src i).patternPicture (s.tick t).now
    rw [State.src_setSrc] at hissued
    refine ⟨_, exec_patternPicture hi hkind hon hdue, ?_⟩
    simp only [State.src_of_streams (settle_streams _ _), hissued]
    refine ⟨trivial, trivial, fun j hj => ?_, _, rfl, hsource, rfl, rfl, rfl⟩
    rw [hothers j hj, State.src_setSrc_other _ _ hj]
    rfl
  · exact leaves_settled (exec_stillVerifyPeriod hi hkind hon hscan hdue) (by rw [if_pos hqueued]; exact .refl _)
  · exact leaves_settled (exec_stillVerifyPeriod hi hkind hon hscan hdue) (by rw [if_neg (Bool.eq_false_iff.mp hfree)]; exact .refl _)
  · have hdiffers : (crc != (s.src i).decl.stillCrc) = true := bne_iff_ne.mpr hwrong
    refine leaves_settled (exec_stillVerifyDone crc hjobs) ?_
    simp only [hdiffers, if_true]
    exact (State.record_same _ _ _).block
  · have hagrees : (crc != (s.src i).decl.stillCrc) = false := bne_eq_false_iff_eq.mpr hright
    have hexec := exec_stillVerifyDone crc hjobs (t := t)
    generalize hv : ({ s.tick t with health := { s.health with stillJobs := rest } } : State).setSrc i { s.src i with queuedAt := none, verifyFailed := crc != (s.src i).decl.stillCrc } = v at hexec
    have hpowered : v.domOn 6 = true := hv ▸ hon
    obtain ⟨⟨g, alive, hsource, hissued⟩, -, hhealth⟩ := v.issueSource_issues i (s.src i).still ((s.src i).queuedAt.getD 0)
    simp only [hagrees, hpowered, Bool.false_eq_true, if_false, if_true] at hexec
    rw [show v.src i = _ from hv ▸ State.src_setSrc _ _ _, hagrees] at hissued
    refine ⟨_, hexec, ?_⟩
    simp only [settle_health, State.src_of_streams (settle_streams _ _), hhealth, hissued]
    exact ⟨hv ▸ rfl, trivial, _, rfl, hsource, rfl⟩

end Sys2Proof.Machine
end

section
/-! PROOF of the claim on the deadlines of ingest (spec/04_ingest.md R112, R113, R118): the release of an access unit and the completion of a picture, and what their tags and markers leave of the context. -/

namespace Sys2Proof.Machine

/-- Time moves no context. -/
@[simp] theorem State.tick_ctx (s : State) (t : Time) (c : Nat) : (s.tick t).ctx c = s.ctx c := rfl

/-! JUMP_HOLD_EXPIRY (R112). -/

theorem exec_jumpHoldExpiry {t t0 : Time} {h : Held} {c : Nat} {s : State} (hc : c < 256) (hjump : (s.ctx c).jump = some (h, t0)) (hdue : t0 + (s.ctx c).decl.jitterDepth * 1000 ≤ (s.tick t).clk) :
    exec (.jumpHoldExpiry t c) s = .next (settle (s.tick t) ((s.tick t).setCtx c { s.ctx c with jump := none, malformed := sat 4 ((s.ctx c).malformed + 1) })) := by
  show execJumpHoldExpiry t c s = _
  rw [execJumpHoldExpiry, runIf_next (decide_eq_true hc)]
  simp only [State.tick_ctx, hjump]
  exact congrArg (fun u => Host.Outcome.next (settle (s.tick t) u)) (if_pos hdue)

/-! Markers and tags of a context (R27, R29, R30). -/

theorem State.writeMarker_ctx (s : State) (c flag : Nat) : ∃ g b, (s.writeMarker c flag).ctx c = { s.ctx c with lastTag := some g, ooe := b } :=
  ⟨_, _, State.ctx_setCtx _ _ _⟩

theorem State.lostMarker_ctx (s : State) (c : Nat) : ∃ n g b, (s.lostMarker c).ctx c = { s.ctx c with lostMarkers := n, lastTag := some g, ooe := b } := by
  obtain ⟨g, b, hmarked⟩ := (s.setCtx c { s.ctx c with lostMarkers := sat 4 ((s.ctx c).lostMarkers + 1) }).writeMarker_ctx c 6
  exact ⟨_, g, b, hmarked.trans (by rw [State.ctx_setCtx])⟩

/-! The release of an access unit (R113). -/

theorem Stamp.earlier_le_left (x y : Stamp) : (x.earlier y).at_ ≤ x.at_ := by
  unfold Stamp.earlier
  split
  · exact Nat.le_of_lt ‹_›
  · exact Nat.le_refl _

theorem Stamp.earlier_le_right (x y : Stamp) : (x.earlier y).at_ ≤ y.at_ := by
  unfold Stamp.earlier
  split
  · exact Nat.le_refl _
  · exact Nat.not_lt.mp ‹_›

/-- The earliest arrival of packets (R113). -/
def earliest (h : Held) (u : List Held) : Stamp := u.foldl (fun a y => a.earlier y.arrival) h.arrival

theorem foldl_earlier_le (a : Stamp) (u : List Held) : (u.foldl (fun a y => a.earlier y.arrival) a).at_ ≤ a.at_ ∧ ∀ y ∈ u, (u.foldl (fun a y => a.earlier y.arrival) a).at_ ≤ y.arrival.at_ := by
  induction u generalizing a with
  | nil => exact ⟨Nat.le_refl _, fun _ hy => nomatch hy⟩
  | cons x u ih =>
    obtain ⟨hfirst, hrest⟩ := ih (a.earlier x.arrival)
    exact ⟨hfirst.trans (a.earlier_le_left _), List.forall_mem_cons.mpr ⟨hfirst.trans (a.earlier_le_right _), hrest⟩⟩

theorem earliest_le {h y : Held} {u : List Held} (hy : y ∈ u) : (earliest h u).at_ ≤ y.arrival.at_ := (foldl_earlier_le h.arrival u).2 y hy

theorem foldl_earlier_mem (a : Stamp) (u : List Held) : u.foldl (fun a y => a.earlier y.arrival) a = a ∨ ∃ y ∈ u, u.foldl (fun a y => a.earlier y.arrival) a = y.arrival := by
  induction u generalizing a with
  | nil => exact .inl rfl
  | cons x u ih =>
    rcases ih (a.earlier x.arrival) with hfirst | ⟨y, hy, hlater⟩
    · have hone : a.earlier x.arrival = a ∨ a.earlier x.arrival = x.arrival := by
        unfold Stamp.earlier
        split
        · exact .inr rfl
        · exact .inl rfl
      exact hone.imp (hfirst.trans ·) fun h => ⟨x, .head u, hfirst.trans h⟩
    · exact .inr ⟨y, .tail x hy, hlater⟩

/-- The earliest arrival is one of the packets'. -/
theorem earliest_mem (h : Held) (hs : List Held) : ∃ y ∈ h :: hs, earliest h (h :: hs) = y.arrival := by
  rcases foldl_earlier_mem h.arrival (h :: hs) with hfirst | hone
  · exact ⟨h, .head hs, hfirst⟩
  · exact hone

/-- Packets of one RTP timestamp are one access unit. -/
theorem splitUnit_one {ts : Nat} {l : List Held} (h : ∀ y ∈ l, y.pkt.ts = ts) : splitUnit l = (l, []) := by
  cases l with
  | nil => rfl
  | cons x xs =>
    have hall : ∀ y ∈ x :: xs, (y.pkt.ts == x.pkt.ts) = true := fun y hy => beq_iff_eq.mpr ((h y hy).trans (h x (.head xs)).symm)
    rw [splitUnit, List.takeWhile_eq_self_iff.mpr hall, List.dropWhile_eq_nil_iff.mpr hall]

/-- The state with one more release (R130). -/
def State.countRelease (s : State) (health : Health) : State := { s with streams := { s.streams with releases := s.streams.releases + 1 }, health := health }

/-- Where the packets of a context are one access unit, its release empties the jitter buffer and queues it (R113, R130). -/
theorem State.releaseUnit_eq {s : State} {c ts : Nat} {h : Held} {hs : List Held} (hjitter : (s.ctx c).jitter = h :: hs) (hone : ∀ y ∈ h :: hs, y.pkt.ts = ts) (hroom : (s.ctx c).queue.length < 8) :
    ∃ (x : Ctx) (gap : Bool) (health : Health), s.releaseUnit c = (if gap then (s.setCtx c x).lostMarker c else s.setCtx c x).countRelease health ∧
      x.jitter = [] ∧ x.pictures = sat 4 ((s.ctx c).pictures + 1) ∧
      ∃ au : AccessUnit, x.queue = (s.ctx c).queue ++ [au] ∧ au.rtp = h.pkt.ts ∧ au.order = s.streams.releases ∧ au.nals = nalsOf (h :: hs) none ∧ au.arrival = earliest h (h :: hs) := by
  have hsplit : splitUnit (s.ctx c).jitter = (h :: hs, []) := by rw [hjitter, splitUnit_one hone]
  have hfull : ¬ (s.ctx c).queue.length ≥ 8 := Nat.not_le.mpr hroom
  unfold State.releaseUnit
  simp only [hsplit, if_neg hfull]
  exact ⟨_, _, _, rfl, rfl, rfl, _, rfl, rfl, rfl, rfl, rfl⟩

/-- What a release leaves of the context, with or without a LOST marker for the packets before it (R115). -/
theorem State.releaseUnit_one {s : State} {c ts : Nat} {h : Held} {hs : List Held} (hjitter : (s.ctx c).jitter = h :: hs) (hone : ∀ y ∈ h :: hs, y.pkt.ts = ts) (hroom : (s.ctx c).queue.length < 8) :
    ((s.releaseUnit c).ctx c).jitter = [] ∧ ((s.releaseUnit c).ctx c).pictures = sat 4 ((s.ctx c).pictures + 1) ∧ (s.releaseUnit c).streams.releases = s.streams.releases + 1 ∧
    ∃ au, ((s.releaseUnit c).ctx c).queue = (s.ctx c).queue ++ [au] ∧ au.rtp = ts ∧ au.order = s.streams.releases ∧ au.nals = nalsOf (h :: hs) none ∧ au.arrival = earliest h (h :: hs) := by
  obtain ⟨x, gap, health, hreleased, hempty, hcounted, au, hqueued, hts, hunit⟩ := State.releaseUnit_eq hjitter hone hroom
  have hmarked : ∃ n g b, ((if gap then (s.setCtx c x).lostMarker c else s.setCtx c x).ctx c) = { x with lostMarkers := n, lastTag := g, ooe := b } := by
    cases gap with
    | false => exact ⟨_, _, _, State.ctx_setCtx _ _ _⟩
    | true =>
      obtain ⟨n, g, b, hlost⟩ := (s.setCtx c x).lostMarker_ctx c
      exact ⟨n, some g, b, hlost.trans (by rw [State.ctx_setCtx])⟩
  obtain ⟨n, g, b, hctx⟩ := hmarked
  have hleft : (s.releaseUnit c).ctx c = { x with lostMarkers := n, lastTag := g, ooe := b } := hreleased ▸ hctx
  have hreleases : (s.releaseUnit c).streams.releases = s.streams.releases + 1 := by
    rw [hreleased]
    cases gap <;> rfl
  rw [hleft]
  exact ⟨hempty, hcounted, hreleases, au, hqueued, hts.trans (hone h (.head hs)), hunit⟩

/-! ACCESS_UNIT_DEADLINE (R113). -/

section
variable {t : Time} {c ts : Nat} {s : State} (hc : c < 256) (hone : ∀ h ∈ (s.ctx c).jitter, h.pkt.ts = ts)
include hc hone

/-- Before its deadline the access unit waits; without packets there is none. -/
theorem exec_accessUnitDeadline_early (hearly : ∀ h ∈ (s.ctx c).jitter, (s.tick t).now < h.arrival.at_ + (s.ctx c).decl.jitterDepth * 1000) :
    exec (.accessUnitDeadline t c) s = .next (settle (s.tick t) (s.tick t)) := by
  show execAccessUnitDeadline t c s = _
  rw [execAccessUnitDeadline, runIf_next (decide_eq_true hc)]
  cases hjitter : (s.ctx c).jitter with
  | nil => simp only [State.tick_ctx, hjitter, splitUnit]
  | cons h hs =>
    rw [hjitter] at hone hearly
    obtain ⟨y, hy, hfirst⟩ := earliest_mem h hs
    have hwaits : ¬ (earliest h (h :: hs)).at_ + (s.ctx c).decl.jitterDepth * us ≤ (s.tick t).now := Nat.not_le.mpr (hfirst ▸ hearly y hy)
    simp only [State.tick_ctx, hjitter, splitUnit_one hone]
    exact congrArg (fun u => Host.Outcome.next (settle (s.tick t) u)) (if_neg hwaits)

/-- At its deadline it is released, and nothing is left to release after it. -/
theorem exec_accessUnitDeadline_due {h : Held} {hs : List Held} (hjitter : (s.ctx c).jitter = h :: hs) (hdue : ∃ h ∈ (s.ctx c).jitter, h.arrival.at_ + (s.ctx c).decl.jitterDepth * 1000 ≤ (s.tick t).now)
    (hroom : (s.ctx c).queue.length < 8) : exec (.accessUnitDeadline t c) s = .next (settle (s.tick t) ((s.tick t).releaseUnit c)) := by
  show execAccessUnitDeadline t c s = _
  rw [hjitter] at hone hdue
  obtain ⟨y, hy, hlate⟩ := hdue
  have hends : (earliest h (h :: hs)).at_ + (s.ctx c).decl.jitterDepth * us ≤ (s.tick t).now := (Nat.add_le_add_right (earliest_le hy) _).trans hlate
  obtain ⟨hempty, -⟩ := State.releaseUnit_one (s := s.tick t) hjitter hone hroom
  rw [execAccessUnitDeadline, runIf_next (decide_eq_true hc)]
  simp only [State.tick_ctx, hjitter, splitUnit_one hone]
  refine congrArg (fun u => Host.Outcome.next (settle (s.tick t) u)) ((if_pos hends).trans ?_)
  rw [hempty]
  rfl

end

/-! The completion of an ST 2110-20 picture (R118). -/

/-- The pictures in assembly of context `c`, their count and the sequence state are in `b` as in `a`. -/
structure State.KeepsPictures (c : Nat) (a b : State) : Prop where
  assembly : (b.ctx c).assembly = (a.ctx c).assembly
  pictures : (b.ctx c).pictures = (a.ctx c).pictures
  nextSeq : (b.ctx c).nextSeq = (a.ctx c).nextSeq
  lastRtp : (b.ctx c).lastRtp = (a.ctx c).lastRtp

section
variable {c : Nat} {a b d : State}

theorem State.KeepsPictures.of_ctx (h : b.ctx c = a.ctx c) : State.KeepsPictures c a b := by constructor <;> rw [h]

theorem State.KeepsPictures.trans (h : State.KeepsPictures c a b) (k : State.KeepsPictures c b d) : State.KeepsPictures c a d :=
  ⟨k.assembly.trans h.assembly, k.pictures.trans h.pictures, k.nextSeq.trans h.nextSeq, k.lastRtp.trans h.lastRtp⟩

/-- A change of the context's record alone, which leaves these fields. -/
theorem State.KeepsPictures.set (x : Ctx) (hassembly : x.assembly = (a.ctx c).assembly := by rfl) (hpictures : x.pictures = (a.ctx c).pictures := by rfl)
    (hnext : x.nextSeq = (a.ctx c).nextSeq := by rfl) (hlast : x.lastRtp = (a.ctx c).lastRtp := by rfl) : State.KeepsPictures c a (a.setCtx c x) := by
  constructor <;> rw [State.ctx_setCtx] <;> assumption

end

theorem State.writeMarker_keepsPictures (s : State) (c flag : Nat) : State.KeepsPictures c s (s.writeMarker c flag) := by
  obtain ⟨g, b, hmarked⟩ := s.writeMarker_ctx c flag
  constructor <;> rw [hmarked]

theorem State.lostMarker_keepsPictures (s : State) (c : Nat) : State.KeepsPictures c s (s.lostMarker c) := (State.KeepsPictures.set _).trans (State.writeMarker_keepsPictures _ c 6)

theorem State.lostMarkers_keepsPictures (c : Nat) (l : List Nat) (s : State) : State.KeepsPictures c s (l.foldl (fun s _ => s.lostMarker c) s) := by
  induction l generalizing s with
  | nil => exact .of_ctx rfl
  | cons n l ih => exact (s.lostMarker_keepsPictures c).trans (ih _)

theorem State.outOfEnvelope_keepsPictures (s : State) (c : Nat) : State.KeepsPictures c s (s.outOfEnvelope c) :=
  ((State.KeepsPictures.set _).trans (State.writeMarker_keepsPictures _ c 3)).trans (.of_ctx (ctx_of_streams (State.recordLimited_same _ _ _ _).streams c))

theorem State.issueTag_keepsPictures (s : State) (c : Nat) (p : Picture) (alive : Option Nat) (m : Mapped) (flags rtp : Nat) : State.KeepsPictures c s (s.issueTag c p alive m flags rtp) := by
  unfold State.issueTag
  extract_lets x flags g told y
  have htold : State.KeepsPictures c s told := .of_ctx (ctx_of_streams (s.recordTagged_same g).streams c)
  exact htold.trans (.set _)

/-- A tag on a record of the context that keeps these fields. -/
theorem State.tagAs_keepsPictures (s : State) (c : Nat) (x : Ctx) (hassembly : x.assembly = (s.ctx c).assembly) (hpictures : x.pictures = (s.ctx c).pictures) (hnext : x.nextSeq = (s.ctx c).nextSeq)
    (hlast : x.lastRtp = (s.ctx c).lastRtp) (p : Picture) (alive : Option Nat) (m : Mapped) (flags rtp : Nat) : State.KeepsPictures c s ((s.setCtx c x).useFree.issueTag c p alive m flags rtp) := by
  have hset : State.KeepsPictures c s (s.setCtx c x) := .set x hassembly hpictures hnext hlast
  have hfree : State.KeepsPictures c (s.setCtx c x) (s.setCtx c x).useFree := .of_ctx rfl
  exact (hset.trans hfree).trans (State.issueTag_keepsPictures _ c p alive m flags rtp)

/-- A picture that is completed leaves the assembly; one of the running sequence state moves it on (R112, R118). -/
theorem State.completeAssembly_completes (s : State) (c : Nat) (a : Assembly) :
    ((s.completeAssembly c a).ctx c).assembly = (s.ctx c).assembly.filter (fun y => !(y.rtp == a.rtp && y.old == a.old)) ∧
    ((s.completeAssembly c a).ctx c).pictures = sat 4 ((s.ctx c).pictures + 1) ∧
    (a.old = false → ((s.completeAssembly c a).ctx c).nextSeq = some (a.lastSeq + 1) ∧ ((s.completeAssembly c a).ctx c).lastRtp = some a.rtp) := by
  have hshape : ∃ x : Ctx, State.KeepsPictures c (s.setCtx c x) (s.completeAssembly c a) ∧ x.assembly = (s.ctx c).assembly.filter (fun y => !(y.rtp == a.rtp && y.old == a.old)) ∧
      x.pictures = sat 4 ((s.ctx c).pictures + 1) ∧ (a.old = false → x.nextSeq = some (a.lastSeq + 1) ∧ x.lastRtp = some a.rtp) := by
    unfold State.completeAssembly
    extract_lets x d missing
    split
    extract_lets _ y told z
    have htold : State.KeepsPictures c (s.setCtx c y) told := State.lostMarkers_keepsPictures c _ _
    refine ⟨y, ?_, ?_, ?_, ?_⟩
    · refine htold.trans ?_
      clear_value told
      split
      · exact told.outOfEnvelope_keepsPictures c
      · exact told.tagAs_keepsPictures c { told.ctx c with degraded := (told.ctx c).degraded && a.old } rfl rfl rfl rfl _ _ _ _ _
    · show Ctx.assembly (if a.old then _ else _) = _
      split <;> rfl
    · show Ctx.pictures (if a.old then _ else _) = _
      split <;> rfl
    · intro hnew
      simp only [y, hnew]
      exact ⟨rfl, rfl⟩
  obtain ⟨x, hkeeps, hassembly, hpictures, hstate⟩ := hshape
  have hx : (s.setCtx c x).ctx c = x := State.ctx_setCtx _ _ _
  rw [hkeeps.assembly, hkeeps.pictures, hkeeps.nextSeq, hkeeps.lastRtp, hx]
  exact ⟨hassembly, hpictures, hstate⟩

theorem diff32_self (a : Nat) : diff32 a a = 0 := by simp [diff32, toS]

/-- A picture alone in assembly is completed by its own deadline. -/
theorem State.completeUpTo_one {s : State} {c : Nat} {a : Assembly} (h : (s.ctx c).assembly = [a]) : s.completeUpTo c a.rtp = s.completeAssembly c a := by
  rw [State.completeUpTo, h, List.foldl_cons, List.foldl_nil, if_pos (diff32_self a.rtp).le]

/-- ST2110_PICTURE_DEADLINE of a picture alone in assembly (R118). -/
theorem exec_st2110PictureDeadline {t : Time} {c : Nat} {a : Assembly} {s : State} (hc : c < 256) (h : (s.ctx c).assembly = [a]) :
    exec (.st2110PictureDeadline t c) s = .next (settle (s.tick t) (
      if a.arrival.at_ + (s.ctx c).decl.rateDen * 1000000000 / (s.ctx c).decl.rateNum + (s.ctx c).decl.jitterDepth * 1000 ≤ (s.tick t).now then (s.tick t).completeAssembly c a else s.tick t)) := by
  show execSt2110PictureDeadline t c s = _
  rw [execSt2110PictureDeadline, runIf_next (decide_eq_true hc)]
  simp only [State.tick_ctx, h, List.filter_cons, List.filter_nil, decide_eq_true_eq, show us = 1000 from rfl]
  by_cases hdue : a.arrival.at_ + (s.ctx c).decl.rateDen * 1000000000 / (s.ctx c).decl.rateNum + (s.ctx c).decl.jitterDepth * 1000 ≤ (s.tick t).now
  · simp only [if_pos hdue]
    exact congrArg (fun u => Host.Outcome.next (settle (s.tick t) u)) (State.completeUpTo_one (s := s.tick t) h)
  · simp only [if_neg hdue]
    rfl

/-- Settles O50: before a deadline the events find nothing to do; at it they drop the packet, release the one access unit, or complete the one picture. -/
theorem ingestDeadlinesComplete : Obligations.IngestDeadlinesComplete := by
  unfold Obligations.IngestDeadlinesComplete
  refine ⟨fun t t0 h c s hc hjump hdue => leaves_settled (exec_jumpHoldExpiry hc hjump hdue) (.refl _), fun t c ts s hc hone => ⟨fun hearly => ?_, fun hdue hroom => ?_⟩,
    fun t c a s hc hassembly => ⟨fun hearly => ?_, fun hdue => ?_⟩⟩
  · exact leaves_tick (exec_accessUnitDeadline_early hc hone hearly)
  · cases hjitter : (s.ctx c).jitter with
    | nil =>
      obtain ⟨h, hmem, -⟩ := hdue
      rw [hjitter] at hmem
      cases hmem
    | cons h hs =>
      have hexec := exec_accessUnitDeadline_due hc hone hjitter hdue hroom
      rw [hjitter] at hone
      obtain ⟨hempty, hcounted, hreleases, au, hqueued, hts, horder, hnals, harrival⟩ := State.releaseUnit_one (s := s.tick t) hjitter hone hroom
      refine ⟨_, hexec, ?_⟩
      beta_reduce
      rw [ctx_of_streams (settle_streams _ _), settle_streams]
      exact ⟨hempty, hcounted, hreleases, au, hqueued, hts, horder, hnals, fun y hy => harrival ▸ earliest_le hy⟩
  · exact leaves_tick ((exec_st2110PictureDeadline hc hassembly).trans (by rw [if_neg (Nat.not_le.mpr hearly)]))
  · obtain ⟨hleft, hcounted, hstate⟩ := (s.tick t).completeAssembly_completes c a
    refine ⟨_, (exec_st2110PictureDeadline hc hassembly).trans (by rw [if_pos hdue]), ?_⟩
    beta_reduce
    rw [ctx_of_streams (settle_streams _ _)]
    refine ⟨hleft.trans ?_, hcounted, hstate⟩
    rw [State.tick_ctx, hassembly]
    simp

end Sys2Proof.Machine
end

section
/-! PROOF of the claim on received frames, PRP and membership reports (spec/04_ingest.md R97, R102–R114, R555; spec/14_lanes.md R409): frames that are sent stay sent, and sending changes lanes' transmit state alone. -/

namespace Sys2Proof.Machine

/-! What has been sent on a port stays sent. -/

/-- Every frame sent in `a` stands in `b`, in the same order. -/
def State.KeepsFrames (a b : State) : Prop := a.out.frames <+: b.out.frames

theorem State.KeepsFrames.of_eq {a b : State} (h : b.out.frames = a.out.frames := by rfl) : State.KeepsFrames a b := by
  rw [State.KeepsFrames, h]

theorem State.KeepsFrames.trans {a b c : State} (h : State.KeepsFrames a b) (k : State.KeepsFrames b c) : State.KeepsFrames a c := List.IsPrefix.trans h k

theorem State.KeepsFrames.ite {s a b : State} {c : Prop} [Decidable c] (h : State.KeepsFrames s a) (k : State.KeepsFrames s b) : State.KeepsFrames s (if c then a else b) := by
  split
  · exact h
  · exact k

theorem State.ringChanged_keepsFrames (s : State) : State.KeepsFrames s s.ringChanged := by
  unfold State.ringChanged
  exact .ite .of_eq .of_eq

theorem State.ringPut_keepsFrames (s : State) (pad bs : Bytes) (n : Nat) : State.KeepsFrames s (s.ringPut pad bs n) := by
  unfold State.ringPut
  extract_lets r padded written
  have hpadded : State.KeepsFrames s padded := .ite .of_eq .of_eq
  exact (hpadded.trans .of_eq).trans (State.ringChanged_keepsFrames _)

theorem State.ringFault_keepsFrames (s : State) (addr n : Nat) : State.KeepsFrames s (s.ringFault addr n) := .of_eq

theorem State.ringWrite_keepsFrames (s : State) (e : Entry) : State.KeepsFrames s (s.ringWrite e) := by
  unfold State.ringWrite
  dsimp only
  exact .ite .of_eq (.ite .of_eq (.ite (s.ringFault_keepsFrames _ _) (.ite (s.ringFault_keepsFrames _ _) (s.ringPut_keepsFrames _ _ _))))

theorem State.deliverTo_keepsFrames (s : State) (e : Entry) (x : Session) : State.KeepsFrames s (s.deliverTo e x) := by
  unfold State.deliverTo
  dsimp only
  split
  · exact .of_eq
  · exact .ite .of_eq (.ite .of_eq .of_eq)

theorem State.deliver_keepsFrames (s : State) (e : Entry) : State.KeepsFrames s (s.deliver e) :=
  foldl_keeps (P := State.KeepsFrames s) (fun b hb x _ => hb.trans (b.deliverTo_keepsFrames e x)) .of_eq

theorem State.recordRaw_keepsFrames (s : State) (ty time : Nat) (bs : Bytes) : State.KeepsFrames s (s.recordRaw ty time bs) := by
  unfold State.recordRaw
  dsimp only
  refine .ite .of_eq (.trans (.trans ?_ (State.ringWrite_keepsFrames _ _)) (State.deliver_keepsFrames _ _))
  exact .ite .of_eq .of_eq

theorem State.recordLimited_keepsFrames (s : State) (ty subject : Nat) (v : List (Nat × Int)) : State.KeepsFrames s (s.recordLimited ty subject v) := by
  simp only [State.recordLimited]
  split
  · exact .trans .of_eq (State.recordRaw_keepsFrames _ _ _ _)
  · exact .ite (.trans .of_eq (State.recordRaw_keepsFrames _ _ _ _)) .of_eq

theorem settled_keepsFrames (a b : State) : State.KeepsFrames b (settled a b) := by
  unfold settled
  extract_lets moved told
  have htold : State.KeepsFrames b told := .ite (b.recordRaw_keepsFrames _ _ _) .of_eq
  split
  · exact (htold.trans .of_eq).trans (State.recordLimited_keepsFrames _ _ _ _)
  · exact htold

theorem setHealth_keepsFrames (s : State) (x y z : Bool) : State.KeepsFrames s (s.setHealth x y z) := by
  refine .of_eq ?_
  simp only [State.setHealth]
  split <;> split <;> rfl

theorem drive_keepsFrames (s : State) : State.KeepsFrames s s.drive := .of_eq

theorem settle_keepsFrames (a b : State) : State.KeepsFrames b (settle a b) := by
  rw [settle_eq]
  refine (settled_keepsFrames a b).trans (.trans ?_ (setHealth_keepsFrames _ _ _ _))
  exact (drive_keepsFrames _).trans (.of_eq (by rw [settleCount_out]))

/-! Sending (R104, R106, R408). -/

theorem State.lane_setLane_other (s : State) {k j : Nat} (x : Lane) (h : j ≠ k) : (s.setLane k x).lane j = s.lane j := Map.get_set_other _ _ _ h

/-- From `a` to `b` lanes have sent frames, or nothing of the streams, of time and of the lanes' states and addresses has changed otherwise. -/
structure State.Transmits (a b : State) : Prop where
  streams : b.streams = a.streams
  time : b.time = a.time
  lanes : ∀ k, (b.lane k).state = (a.lane k).state ∧ (b.lane k).address = (a.lane k).address
  frames : State.KeepsFrames a b

theorem State.Transmits.refl (a : State) : State.Transmits a a := ⟨rfl, rfl, fun _ => ⟨rfl, rfl⟩, .of_eq⟩

theorem State.Transmits.trans {a b c : State} (h : State.Transmits a b) (k : State.Transmits b c) : State.Transmits a c :=
  ⟨k.streams.trans h.streams, k.time.trans h.time, fun n => ⟨(k.lanes n).1.trans (h.lanes n).1, (k.lanes n).2.trans (h.lanes n).2⟩, h.frames.trans k.frames⟩

theorem State.Transmits.ite {s a b : State} {c : Prop} [Decidable c] (h : State.Transmits s a) (k : State.Transmits s b) : State.Transmits s (if c then a else b) := by
  split
  · exact h
  · exact k

theorem State.record_transmits (s : State) (ty : Nat) (v : List (Nat × Int)) : State.Transmits s (s.record ty v) := by
  have hsame := s.record_same ty v
  exact ⟨hsame.streams, hsame.time, fun k => by simp only [State.lane, hsame.lanes, and_self], s.recordRaw_keepsFrames _ _ _⟩

@[simp] theorem State.send_lane (s : State) (k : Nat) (bs : Bytes) (j : Nat) : (s.send k bs).lane j = s.lane j := rfl

/-- The lane of a frame counts it and wakes (R408, R413). -/
theorem State.transmit_up {s : State} {k : Nat} (bs : Bytes) (h : (s.lane k).state = .up) :
    s.transmit k bs = (s.setLane k { s.lane k with txFrames := sat 4 ((s.lane k).txFrames + 1), lpiTx := false }).send k bs := if_pos h

theorem State.transmit_transmits (s : State) (k : Nat) (bs : Bytes) : State.Transmits s (s.transmit k bs) := by
  refine .ite ⟨rfl, rfl, fun j => ?_, List.prefix_append _ _⟩ (.refl s)
  by_cases hj : j = k
  · subst hj
    rw [State.send_lane, State.lane_setLane]
    exact ⟨rfl, rfl⟩
  · rw [State.send_lane, State.lane_setLane_other _ _ hj]
    exact ⟨rfl, rfl⟩

theorem State.transmit_lane_other (s : State) {k j : Nat} (bs : Bytes) (hj : j ≠ k) : (s.transmit k bs).lane j = s.lane j := by
  unfold State.transmit
  dsimp only
  split
  · exact State.lane_setLane_other _ _ hj
  · rfl

/-- A frame that a lane which is UP sends is among the frames sent. -/
theorem State.mem_transmit {s : State} {k : Nat} (bs : Bytes) (h : (s.lane k).state = .up) : (k, bs) ∈ (s.transmit k bs).out.frames := by
  rw [State.transmit_up bs h]
  exact List.mem_append_right _ (List.mem_singleton_self _)

/-! Frames of a port are built from its address alone (R360). -/

section
variable {a b : State} {k : Nat} (h : (b.lane k).address = (a.lane k).address)
include h

theorem Lane.ip_of_address (v6 : Bool) : (b.lane k).ip v6 = (a.lane k).ip v6 := by simp only [Lane.ip, h]

theorem Lane.owns_of_address (v6 : Bool) (ip : Bytes) : (b.lane k).owns v6 ip = (a.lane k).owns v6 ip := by simp only [Lane.owns, h]

theorem State.oldReport_of_address (vlan : Nat) (v6 : Bool) (r : Report) (group : Bytes) : b.oldReport k vlan v6 r group = a.oldReport k vlan v6 r group := by
  simp only [State.oldReport, Lane.ip_of_address h]

theorem State.newReport_of_address (vlan : Nat) (v6 ssm : Bool) (r : Report) (group src : Bytes) : b.newReport k vlan v6 ssm r group src = a.newReport k vlan v6 ssm r group src := by
  simp only [State.newReport, Lane.ip_of_address h]

theorem State.arpReply_of_address (vlan : Nat) (mac ip : Bytes) : b.arpReply k vlan mac ip = a.arpReply k vlan mac ip := by
  simp only [State.arpReply, Lane.ip_of_address h]

theorem State.answers_of_address (f : Parsed) : b.answers k f = a.answers k f := by
  simp only [State.answers, State.arpReply, State.neighbourReply, State.echoReply, Lane.owns_of_address h, Lane.ip_of_address h, h]

end

theorem settle_transmits (a b : State) : State.Transmits b (settle a b) :=
  ⟨settle_streams a b, settle_time a b, fun k => by simp only [State.lane, settle_lanes, and_self], settle_keepsFrames a b⟩

/-! Membership (R106, R107). -/

theorem State.report_transmits (s : State) (x : Ctx) (r : Report) (p : Nat) : State.Transmits s (s.report x r p) := s.transmit_transmits _ _

theorem State.report_txFrames {s : State} {p : Nat} (hup : (s.lane p).state = .up) {x : Ctx} {r : Report} : ((s.report x r p).lane p).txFrames = sat 4 ((s.lane p).txFrames + 1) := by
  rw [State.report, State.transmit_up _ hup, State.send_lane, State.lane_setLane]

theorem State.Transmits.oldQuerier {a b : State} (h : State.Transmits a b) (port : Nat) (v6 : Bool) : b.oldQuerier port v6 = a.oldQuerier port v6 := by
  unfold State.oldQuerier State.clk
  rw [h.streams, h.time]

/-- A report on a port that is UP is sent in the version of the port's querier. -/
theorem State.mem_report {a b : State} (h : State.Transmits a b) {p : Nat} (hup : (a.lane p).state = .up) (x : Ctx) (r : Report) :
    (p, if a.oldQuerier p x.v6 then a.oldReport p x.decl.vlan x.v6 r x.decl.group else a.newReport p x.decl.vlan x.v6 (bit x.decl.flags 3) r x.decl.group x.decl.source) ∈ (b.report x r p).out.frames := by
  obtain ⟨hstate, haddress⟩ := h.lanes p
  have hsent : (p, if b.oldQuerier p x.v6 then b.oldReport p x.decl.vlan x.v6 r x.decl.group else b.newReport p x.decl.vlan x.v6 (bit x.decl.flags 3) r x.decl.group x.decl.source) ∈
      (b.report x r p).out.frames := State.mem_transmit _ (hstate.trans hup)
  rwa [h.oldQuerier, State.oldReport_of_address haddress, State.newReport_of_address haddress] at hsent

/-- The contexts on a port that a query of its family concerns. -/
def State.asked (s : State) (q : IgmpQuery) : List (Nat × Ctx) :=
  s.streams.ctx.filter fun e => (e.2.state == .joining || e.2.state == .active) && e.2.multicast && bit e.2.decl.portMask q.port && e.2.v6 == (q.family == 6)

/-- The answer of one context: a join in the version of an older querier that is new, else the answer that the query asks for. -/
def State.answerQuery (q : IgmpQuery) (fresh : Bool) (s : State) (e : Nat × Ctx) : State :=
  let s := if fresh then s.record evJoinCompat [p2 e.1, p2 q.port] else s
  if fresh then s.report e.2 .join q.port
  else if q.group.isEmpty || fit 16 q.group == fit 16 e.2.decl.group then s.report e.2 .answer q.port
  else s

/-- An older querier is present on the port for a time. -/
def State.inVersion (s : State) (q : IgmpQuery) : State :=
  { s with streams := { s.streams with compat := (q.port, q.family, s.clk + oldQuerierTime) :: s.streams.compat.filter fun e => !(e.1 == q.port && e.2.1 == q.family) } }

theorem family_six (v6 : Bool) : ((if v6 then 6 else 4 : Nat) == 6) = v6 := by cases v6 <;> rfl

/-- A query of an older querier that was not there. -/
theorem exec_igmpQuery_old {t : Time} {q : IgmpQuery} {s : State} {v6 : Bool} (hport : q.port < 16) (hfamily : q.family = if v6 then 6 else 4) (hold : q.old = true)
    (hnew : (s.tick t).oldQuerier q.port v6 = false) :
    exec (.igmpQuery t q) s = .next (settle (s.tick t) ((((s.tick t).inVersion q).asked q).foldl (State.answerQuery q true) ((s.tick t).inVersion q))) := by
  have hfresh : (q.old && !(s.tick t).oldQuerier q.port (q.family == 6)) = true := by rw [hold, hfamily, family_six, hnew]; rfl
  show execIgmpQuery t q s = _
  rw [execIgmpQuery, runIf_next (decide_eq_true hport)]
  dsimp only
  rw [hfresh, if_pos hold]
  rfl

theorem exec_igmpQuery_new {t : Time} {q : IgmpQuery} {s : State} (hport : q.port < 16) (hnew : q.old = false) :
    exec (.igmpQuery t q) s = .next (settle (s.tick t) (((s.tick t).asked q).foldl (State.answerQuery q false) (s.tick t))) := by
  show execIgmpQuery t q s = _
  rw [execIgmpQuery, runIf_next (decide_eq_true hport)]
  dsimp only
  rw [hnew]
  rfl

theorem State.answerQuery_transmits (q : IgmpQuery) (fresh : Bool) (s : State) (e : Nat × Ctx) : State.Transmits s (s.answerQuery q fresh e) := by
  unfold State.answerQuery
  extract_lets told
  have htold : State.Transmits s told := .ite (s.record_transmits _ _) (.refl s)
  exact htold.trans (.ite (told.report_transmits _ _ _) (.ite (told.report_transmits _ _ _) (.refl told)))

/-- What a context that is asked sends is among the frames sent. -/
theorem State.asked_sends {q : IgmpQuery} {fresh : Bool} {a : State} {l : List (Nat × Ctx)} {e : Nat × Ctx} (he : e ∈ l) {bs : Bytes}
    (hsends : ∀ b, State.Transmits a b → (q.port, bs) ∈ (b.answerQuery q fresh e).out.frames) :
    State.Transmits a (l.foldl (State.answerQuery q fresh) a) ∧ (q.port, bs) ∈ (l.foldl (State.answerQuery q fresh) a).out.frames :=
  foldl_turns (P := State.Transmits a) (Q := fun b => State.Transmits a b ∧ (q.port, bs) ∈ b.out.frames) he (fun b hb y _ _ => hb.trans (b.answerQuery_transmits q fresh y))
    (fun b hb => ⟨hb.trans (b.answerQuery_transmits q fresh e), hsends b hb⟩)
    (fun b ⟨hb, hmem⟩ y _ => ⟨hb.trans (b.answerQuery_transmits q fresh y), (b.answerQuery_transmits q fresh y).frames.subset hmem⟩) (.refl a)

theorem State.asked_transmits (q : IgmpQuery) (fresh : Bool) (l : List (Nat × Ctx)) (a : State) : State.Transmits a (l.foldl (State.answerQuery q fresh) a) :=
  foldl_keeps (P := State.Transmits a) (fun b hb y _ => hb.trans (b.answerQuery_transmits q fresh y)) (.refl a)

/-- An open context with a group on the port, of the query's family, is asked. -/
theorem State.mem_asked {s : State} {q : IgmpQuery} {v6 : Bool} (hfamily : q.family = if v6 then 6 else 4) {e : Nat × Ctx} (he : e ∈ s.streams.ctx) (hopen : e.2.state = .joining ∨ e.2.state = .active)
    (hgroup : e.2.multicast = true) (hport : bit e.2.decl.portMask q.port = true) (hv6 : e.2.v6 = v6) : e ∈ s.asked q := by
  refine List.mem_filter.mpr ⟨he, ?_⟩
  have hstate : (e.2.state == .joining || e.2.state == .active) = true := by rcases hopen with h | h <;> rw [h] <;> rfl
  rw [hstate, hgroup, hport, hv6, hfamily, family_six]
  exact beq_self_eq_true v6

/-- While it counts as present, an older querier is there. -/
theorem State.inVersion_oldQuerier {s : State} {q : IgmpQuery} {v6 : Bool} (hfamily : q.family = if v6 then 6 else 4) : (s.inVersion q).oldQuerier q.port v6 = true := by
  have hpresent : decide (s.clk < s.clk + oldQuerierTime) = true := decide_eq_true (Nat.lt_add_of_pos_right (by decide))
  have hentry : (q.port == q.port && q.family == (if v6 then 6 else 4) && decide (s.clk < s.clk + oldQuerierTime)) = true := by
    rw [hpresent, hfamily, beq_self_eq_true, beq_self_eq_true]
    rfl
  exact List.any_eq_true.mpr ⟨_, .head _, hentry⟩

/-- A new older querier: every context on the port joins again in its version (R107). -/
theorem igmpQuery_old {t : Time} {q : IgmpQuery} {s : State} {v6 : Bool} (hport : q.port < 16) (hfamily : q.family = if v6 then 6 else 4) (hold : q.old = true) (hnew : (s.tick t).oldQuerier q.port v6 = false) :
    Completes (.igmpQuery t q) s fun u =>
      u.streams.compat = (q.port, q.family, (s.tick t).clk + 260000000000) :: s.streams.compat.filter (fun e => !(e.1 == q.port && e.2.1 == q.family)) ∧ u.oldQuerier q.port v6 = true ∧
      ∀ e ∈ s.streams.ctx, e.2.state = .joining ∨ e.2.state = .active → e.2.multicast = true → bit e.2.decl.portMask q.port = true → e.2.v6 = v6 → (s.lane q.port).state = .up →
        (q.port, s.oldReport q.port e.2.decl.vlan v6 .join e.2.decl.group) ∈ u.out.frames := by
  have hexec := exec_igmpQuery_old hport hfamily hold hnew
  generalize hv : (s.tick t).inVersion q = v at hexec
  have hpresent : v.oldQuerier q.port v6 = true := hv ▸ State.inVersion_oldQuerier hfamily
  have htransmits := State.asked_transmits q true (v.asked q) v
  refine ⟨_, hexec, ?_, ?_, fun e he hopen hgroup hmask hv6 hup => ?_⟩
  · rw [settle_streams]
    exact (congrArg Streams.compat htransmits.streams).trans (hv ▸ rfl)
  · exact ((htransmits.trans (settle_transmits _ _)).oldQuerier q.port v6).trans hpresent
  · have hasked : e ∈ v.asked q := State.mem_asked hfamily (hv ▸ he) hopen hgroup hmask hv6
    refine (settle_keepsFrames _ _).subset (State.asked_sends hasked fun b hb => ?_).2
    have hsent := State.mem_report (hb.trans (b.record_transmits evJoinCompat [p2 e.1, p2 q.port])) (p := q.port) (hv ▸ hup) e.2 .join
    have hlane : v.lane q.port = s.lane q.port := by rw [← hv]; rfl
    rw [hv6, hpresent, if_pos rfl, State.oldReport_of_address (congrArg Lane.address hlane)] at hsent
    simpa only [State.answerQuery, if_true] using hsent

/-- Without an older querier a query is answered in the newer version (R106). -/
theorem igmpQuery_new {t : Time} {q : IgmpQuery} {s : State} {v6 : Bool} (hport : q.port < 16) (hfamily : q.family = if v6 then 6 else 4) (hnew : q.old = false) (hnone : (s.tick t).oldQuerier q.port v6 = false) :
    Completes (.igmpQuery t q) s fun u => u.streams = s.streams ∧
      ∀ e ∈ s.streams.ctx, e.2.state = .joining ∨ e.2.state = .active → e.2.multicast = true → bit e.2.decl.portMask q.port = true → e.2.v6 = v6 → (s.lane q.port).state = .up →
        q.group = [] ∨ fit 16 q.group = fit 16 e.2.decl.group → (q.port, s.newReport q.port e.2.decl.vlan v6 (bit e.2.decl.flags 3) .answer e.2.decl.group e.2.decl.source) ∈ u.out.frames := by
  have hexec := exec_igmpQuery_new (t := t) (s := s) hport hnew
  have htransmits := State.asked_transmits q false ((s.tick t).asked q) (s.tick t)
  refine ⟨_, hexec, ?_, fun e he hopen hgroup hmask hv6 hup hconcerns => ?_⟩
  · rw [settle_streams]
    exact htransmits.streams
  · have hasked : e ∈ (s.tick t).asked q := State.mem_asked hfamily he hopen hgroup hmask hv6
    have hmine : (q.group.isEmpty || fit 16 q.group == fit 16 e.2.decl.group) = true := by
      rcases hconcerns with h | h
      · rw [h]
        rfl
      · rw [h, beq_self_eq_true, Bool.or_true]
    refine (settle_keepsFrames _ _).subset (State.asked_sends hasked fun b hb => ?_).2
    have hsent := State.mem_report hb (p := q.port) hup e.2 .answer
    rw [hv6, hnone, if_neg Bool.false_ne_true] at hsent
    simp only [State.answerQuery, hmine, Bool.false_eq_true, if_false, if_true]
    exact hsent

theorem State.membership_transmits (s : State) (x : Ctx) (r : Report) : State.Transmits s (s.membership x r) :=
  .ite (.refl s) (foldl_keeps (P := State.Transmits s) (fun b hb _ _ => hb.trans (.ite (b.report_transmits _ _ _) (.refl b))) (.refl s))

/-- A join report is repeated on every port of the context (R106). -/
theorem State.membership_lane {s : State} {x : Ctx} (r : Report) {p : Nat} (hp : p < 16) (hgroup : x.multicast = true) (hmask : bit x.decl.portMask p = true) (hup : (s.lane p).state = .up) :
    ((s.membership x r).lane p).txFrames = sat 4 ((s.lane p).txFrames + 1) := by
  obtain ⟨before, after, hsplit⟩ := List.append_of_mem (List.mem_range.mpr hp)
  have honce : (before ++ p :: after).Nodup := hsplit ▸ List.nodup_range
  have hlater : p ∉ after := (List.nodup_cons.mp (List.nodup_append.mp honce).2.1).1
  have hearlier : p ∉ before := fun h => (List.nodup_append.mp honce).2.2 p h p (.head _) rfl
  have hothers (l : List Nat) (hl : p ∉ l) (a : State) : (l.foldl (fun s k => if bit x.decl.portMask k then s.report x r k else s) a).lane p = a.lane p :=
    foldl_keeps (P := fun b : State => b.lane p = a.lane p) (fun b hb k hk => by
      split
      · exact (b.transmit_lane_other _ fun h : p = k => hl (h ▸ hk)).trans hb
      · exact hb) rfl
  have hmine : (!x.multicast) = false := by rw [hgroup]; rfl
  unfold State.membership
  rw [hmine, hsplit, List.foldl_append, List.foldl_cons]
  simp only [Bool.false_eq_true, if_false, hothers after hlater, hmask, if_true]
  have hreached := hothers before hearlier s
  rw [State.report_txFrames (hreached ▸ hup), hreached]

/-- The join report goes out again 1 000 ms after the first (R106). -/
theorem igmpReportRepeat_sends {t : Time} {c : Nat} {s : State} (hc : c < 256) (hopen : (s.ctx c).state = .joining ∨ (s.ctx c).state = .active) (hfirst : (s.ctx c).reported = false)
    (hdue : (s.ctx c).joinedAt + 1000000000 ≤ (s.tick t).clk) (hgroup : (s.ctx c).multicast = true) :
    Completes (.igmpReportRepeat t c) s fun u => u.ctx c = { s.ctx c with reported := true } ∧
      ∀ p < 16, bit (s.ctx c).decl.portMask p = true → (s.lane p).state = .up → (u.lane p).txFrames = sat 4 ((s.lane p).txFrames + 1) := by
  have hexec : exec (.igmpReportRepeat t c) s = .next (settle (s.tick t) (((s.tick t).setCtx c { s.ctx c with reported := true }).membership (s.ctx c) .join)) := by
    show execIgmpReportRepeat t c s = _
    have hrepeats : (((decide (((s.tick t).ctx c).state = .joining) || decide (((s.tick t).ctx c).state = .active)) && !((s.tick t).ctx c).reported) &&
        decide (((s.tick t).ctx c).joinedAt + 1000 * ms ≤ (s.tick t).clk)) = true := by
      have hlate : decide ((s.ctx c).joinedAt + 1000 * ms ≤ (s.tick t).clk) = true := decide_eq_true hdue
      rw [State.tick_ctx, hfirst, hlate]
      rcases hopen with h | h <;> rw [h] <;> rfl
    rw [execIgmpReportRepeat, runIf_next (decide_eq_true hc)]
    dsimp only
    rw [if_pos hrepeats]
    rfl
  generalize hset : (s.tick t).setCtx c { s.ctx c with reported := true } = v at hexec
  have hstreams : (v.membership (s.ctx c) .join).streams = v.streams := (v.membership_transmits _ _).streams
  refine ⟨_, hexec, ?_, fun p hp hmask hup => ?_⟩
  · rw [ctx_of_streams (settle_streams _ _), ctx_of_streams hstreams, ← hset, State.ctx_setCtx]
  · have hlane : (v.lane p) = s.lane p := hset ▸ rfl
    rw [State.lane, settle_lanes]
    exact (State.membership_lane .join hp hgroup hmask (hlane ▸ hup)).trans (by rw [hlane])

end Sys2Proof.Machine
end

section
/-! PROOF of the claim on received frames, PRP and membership reports, continued (spec/04_ingest.md R97, R102–R114, R555; spec/14_lanes.md R409): the reception of a frame, the first packet of a context, and PRP. -/

namespace Sys2Proof.Machine

theorem State.contextsOf_of_streams {a b : State} (h : b.streams = a.streams) (k : Nat) (f : Parsed) : b.contextsOf k f = a.contextsOf k f := by
  simp only [State.contextsOf, State.selected, h]

/-! FRAME_RECEIVED (R103, R409). -/

/-- A frame that is long and short enough, without an error. -/
def soundFrame (f : Frame) : Prop := f.fcsOk = true ∧ 60 ≤ f.bytes.length ∧ f.bytes.length ≤ 9596

/-- The lane counts a frame it received. -/
def State.countFrame (s : State) (k : Nat) : State := s.setLane k { s.lane k with rxFrames := sat 4 ((s.lane k).rxFrames + 1) }

theorem countFrame_address (s : State) (k : Nat) : ((s.countFrame k).lane k).address = (s.lane k).address := by
  rw [State.countFrame, State.lane_setLane]

theorem countFrame_state (s : State) (k : Nat) : ((s.countFrame k).lane k).state = (s.lane k).state := by
  rw [State.countFrame, State.lane_setLane]

theorem countFrame_rxFrames (s : State) (k : Nat) : ((s.countFrame k).lane k).rxFrames = sat 4 ((s.lane k).rxFrames + 1) := by
  rw [State.countFrame, State.lane_setLane]

theorem countFrame_txFrames (s : State) (k : Nat) : sat 4 (((s.countFrame k).lane k).txFrames + 1) = sat 4 ((s.lane k).txFrames + 1) := by
  rw [State.countFrame, State.lane_setLane]

theorem State.lane_of_lanes {a b : State} (h : b.lanes = a.lanes) (k : Nat) : b.lane k = a.lane k := by simp only [State.lane, h]

section
variable {t : Time} {f : Frame} {s : State} (hlane : f.lane < 16)
include hlane

theorem exec_frameReceived_down (hdown : (s.lane f.lane).state ≠ .up) : exec (.frameReceived t f) s = .next (settle (s.tick t) (s.tick t)) := by
  show execFrameReceived t f s = _
  have hnot : (((s.tick t).lane f.lane).state != .up) = true := bne_iff_ne.mpr hdown
  rw [execFrameReceived, runIf_next (decide_eq_true hlane)]
  dsimp only
  rw [if_pos hnot]

variable (hup : (s.lane f.lane).state = .up)
include hup

theorem exec_frameReceived_bad (hbad : f.fcsOk = false ∨ f.bytes.length < 60 ∨ 9596 < f.bytes.length) :
    exec (.frameReceived t f) s = .next (settle (s.tick t) ((s.tick t).setLane f.lane { s.lane f.lane with fcsErrors := sat 4 ((s.lane f.lane).fcsErrors + 1) })) := by
  show execFrameReceived t f s = _
  have hreceives : ¬ (((s.tick t).lane f.lane).state != .up) = true := by rw [bne_iff_ne]; exact fun h => h hup
  have hdrops : (!f.fcsOk || decide (f.bytes.length + 4 < 64) || decide (f.bytes.length + 4 > 9600)) = true := by
    simp only [Bool.or_eq_true, Bool.not_eq_true', decide_eq_true_eq]
    exact hbad.elim (fun h => .inl (.inl h)) fun h => h.elim (fun h => .inl (.inr (by omega))) fun h => .inr (by omega)
  rw [execFrameReceived, runIf_next (decide_eq_true hlane)]
  dsimp only
  rw [if_neg hreceives, if_pos hdrops]
  rfl

/-- A sound frame outside PRP, or while PD_STREAM is off, goes to its contexts at once. -/
theorem exec_frameReceived_plain (hsound : soundFrame f) (hplain : bit (s.lane f.lane).cfg.flags 0 = false ∨ (s.tick t).domOn 6 = false) :
    ∃ arrival, exec (.frameReceived t f) s = .next (settle (s.tick t) (((s.tick t).countFrame f.lane).process f.lane (parseEther f.bytes) arrival)) := by
  obtain ⟨hfcs, hlong, hshort⟩ := hsound
  have hreceives : ¬ (((s.tick t).lane f.lane).state != .up) = true := by rw [bne_iff_ne]; exact fun h => h hup
  have hkeeps : (!f.fcsOk || decide (f.bytes.length + 4 < 64) || decide (f.bytes.length + 4 > 9600)) = false := by
    rw [hfcs, decide_eq_false (by omega), decide_eq_false (by omega)]
    rfl
  have hdirect : (!bit ((s.tick t).lane f.lane).cfg.flags 0 || !((s.tick t).countFrame f.lane).domOn 6) = true := by
    rw [Bool.or_eq_true, Bool.not_eq_true', Bool.not_eq_true']
    exact hplain
  refine ⟨((s.tick t).countFrame f.lane).stampOf (((s.tick t).countFrame f.lane).rxStamp f.lane f.error).toNat, ?_⟩
  show execFrameReceived t f s = _
  rw [execFrameReceived, runIf_next (decide_eq_true hlane)]
  dsimp only
  rw [if_neg hreceives, if_neg (Bool.eq_false_iff.mp hkeeps)]
  exact congrArg (fun u => Host.Outcome.next (settle (s.tick t) u)) (if_pos hdirect)

end

/-! A frame at its contexts (R103, R104, R108). -/

/-- The contexts that get a frame: those of its filters whose stream engine works. -/
def State.served (s : State) (k : Nat) (f : Parsed) : List Nat :=
  (s.contextsOf k f).filter fun c => s.domOn 6 && !s.prot.halted.contains (2 + (s.ctx c).engine) && s.engineSwitching != some (s.ctx c).engine

section
variable {s : State} {k : Nat} {f : Parsed} {arrival : Stamp}

/-- A frame that asks for nothing of the port's and reaches no context has no effect. -/
theorem State.process_unserved (hengines : s.activating 2 = false) (hnone : s.answers k f = none) (hunserved : s.served k f = []) : s.process k f arrival = s := by
  have hmine : (s.contextsOf k f).filter (fun c => s.domOn 6 && !s.prot.halted.contains (2 + (s.ctx c).engine) && s.engineSwitching != some (s.ctx c).engine) = [] := hunserved
  unfold State.process
  simp only [hengines, Bool.false_eq_true, if_false, hnone, hmine, State.countAt, List.foldl_nil]
  split
  · rfl
  · split
    · rfl
    · split
      · rfl
      · split <;> rfl

/-- A frame that asks for the port's own address is answered (R104). -/
theorem State.process_answers {a : Bytes} (hanswer : s.answers k f = some a) : s.process k f arrival = (if s.activating 2 then s.useFree else s).transmit k a := by
  generalize hv : (if s.activating 2 then s.useFree else s) = v
  have hlane : v.lane k = s.lane k := by
    rw [← hv]
    split <;> rfl
  have hasks : v.answers k f = some a := (State.answers_of_address (congrArg Lane.address hlane) f).trans hanswer
  unfold State.process
  simp only [hv, hasks]

/-- The answer leaves on the port, counted; what the lane received stays, and so do the streams. -/
theorem State.process_answered {a : Bytes} (hup : (s.lane k).state = .up) (hanswer : s.answers k f = some a) :
    ((s.process k f arrival).lane k).rxFrames = (s.lane k).rxFrames ∧ ((s.process k f arrival).lane k).txFrames = sat 4 ((s.lane k).txFrames + 1) ∧ (s.process k f arrival).streams = s.streams ∧
    (k, a) ∈ (s.process k f arrival).out.frames := by
  rw [State.process_answers hanswer]
  generalize hv : (if s.activating 2 then s.useFree else s) = v
  have hlane : v.lane k = s.lane k := by
    rw [← hv]
    split <;> rfl
  have hstreams : v.streams = s.streams := by
    rw [← hv]
    split <;> rfl
  have hready : (v.lane k).state = .up := hlane ▸ hup
  refine ⟨?_, ?_, (v.transmit_transmits k a).streams.trans hstreams, State.mem_transmit a hready⟩
  · rw [State.transmit_up a hready, State.send_lane, State.lane_setLane, hlane]
  · rw [State.transmit_up a hready, State.send_lane, State.lane_setLane, hlane]

/-- An ARP request for the port's address on its own VLAN (R104). -/
theorem State.answers_arp (hqinq : f.qinq = false) (hvlan : f.vlan = (s.lane k).address.vlan) (harp : f.ty = 0x0806) (hhardware : rdBe f.body 0 2 = 1) (hprotocol : rdBe f.body 2 2 = 0x0800)
    (hrequest : rdBe f.body 6 2 = 1) (howns : (s.lane k).owns false (sub f.body 24 4) = true) : s.answers k f = some (s.arpReply k f.vlan (sub f.body 8 6) (sub f.body 14 4)) := by
  unfold State.answers
  simp only [hqinq, hvlan, bne_self_eq_false, Bool.or_self, Bool.false_eq_true, if_false, harp, if_true, hhardware, hprotocol, hrequest, decide_true, howns, Bool.and_self]

/-- A UDP packet goes to the contexts that get the frame. -/
theorem State.process_udp {ip : Packet} {port : Nat} {b : Bytes} (hengines : s.activating 2 = false) (hnone : s.answers k f = none) (hqinq : f.qinq = false) (hip : f.ip? = some ip) (hodd : ip.odd = false)
    (hport : ip.udpPort = some port) (hudp : ip.udp? = some b) : s.process k f arrival = (s.served k f).foldl (fun s c => s.datagram c k arrival ip.src port b) s := by
  unfold State.process
  simp only [hengines, Bool.false_eq_true, if_false, hnone, hip, hport, hqinq, hodd, Bool.or_self, hudp]
  rfl

end

/-! The first packet of a joining context (R97, R102, R108–R114). -/

/-- Policing takes tokens and nothing else, and looks at the declaration and the buckets alone (R102). -/
theorem Ctx.police_some {x y : Ctx} (hdecl : y.decl = x.decl) (hbuckets : y.buckets = x.buckets) {p bits : Nat} {now : Time} (h : (x.police p bits now).isSome = true) :
    ∃ m, y.police p bits now = some { y with buckets := m } := by
  have htokens : ∀ i, y.tokens i now = x.tokens i now := fun i => by simp only [Ctx.tokens, Ctx.bucketRate, hdecl, hbuckets]
  unfold Ctx.police at h ⊢
  simp only [htokens] at h ⊢
  split at h
  · cases h
  · rw [if_neg ‹_›]
    exact ⟨_, rfl⟩

/-- A context that has heard its locked SSRC. -/
def Ctx.heard (x : Ctx) (now : Time) : Ctx := { x with ownAt := now, other := none }

/-- A packet of the locked SSRC passes test 5 (R109). -/
theorem State.ssrcTest_own {s : State} {c ssrc : Nat} (h : (s.ctx c).ssrc = some ssrc) : s.ssrcTest c ssrc = (s.setCtx c ((s.ctx c).heard s.clk), true) := by
  unfold State.ssrcTest
  simp only [h, if_true, Ctx.heard]

/-- One packet without the marker is no complete access unit (R113). -/
theorem Ctx.unitComplete_one {x : Ctx} {h : Held} (hjitter : x.jitter = [h]) (hmarker : h.pkt.marker = false) : x.unitComplete = false := by
  have hsplit : splitUnit x.jitter = ([h], []) := by
    rw [hjitter, splitUnit_one (ts := h.pkt.ts) fun y hy => congrArg (fun z : Held => z.pkt.ts) (List.mem_singleton.mp hy)]
  simp [Ctx.unitComplete, hsplit, hmarker]

/-- A first packet is held in the jitter buffer (R112, R116). -/
theorem State.place_first {s : State} {c : Nat} {h : Held} {nal : Bytes} (hkind : (s.ctx c).decl.kind ≠ 2) (hnext : (s.ctx c).nextSeq = none) (hempty : (s.ctx c).jitter = [])
    (hpayload : h.pkt.payload = .single nal) (hmarker : h.pkt.marker = false) (hroom : cdiv h.pkt.bits 8 ≤ (s.ctx c).decl.jitterBytes) : s.place c h = s.setCtx c { s.ctx c with jitter := [h] } := by
  have hfits : ¬ (s.ctx c).heldBytes + cdiv h.pkt.bits 8 > (s.ctx c).decl.jitterBytes := by
    rw [Ctx.heldBytes, hempty]
    exact Nat.not_lt.mpr (by simpa [sumL] using hroom)
  unfold State.place
  simp only [hkind, if_false, hnext, hempty, List.any_nil, Bool.false_eq_true, hpayload, if_neg hfits, insertHeld, State.ctx_setCtx, List.length_singleton, State.releaseComplete]
  exact if_neg (Bool.eq_false_iff.mp (Ctx.unitComplete_one rfl hmarker))

/-- A context without a sequence state takes it from the packet (R112). -/
theorem State.sequence_first {s : State} {c : Nat} (arrival : Stamp) (p : RtpPacket) (hhigh : (s.ctx c).high = none) (hkind : (s.ctx c).decl.kind ≠ 2) :
    s.sequence c arrival p = (s.setCtx c { s.ctx c with high := some (65536 + p.seq) }).place c { seq := 65536 + p.seq, arrival := arrival, pkt := p } := by
  have hnarrow : ((s.ctx c).decl.kind == 2) = false := beq_eq_false_iff_ne.mpr hkind
  unfold State.sequence
  simp only [hhigh, hnarrow, RtpPacket.seqOf, Bool.false_eq_true, if_false]

/-- The context of an accepted first packet (R97, R102, R109, R146). -/
def Ctx.entered (x : Ctx) (now : Time) (arrival : Nat) (buckets : Map (Nat × Time)) : Ctx :=
  { x with ownAt := now, other := none, buckets := buckets, packets := sat 4 (x.packets + 1), lastArrival := arrival, state := .active, join := .waitEntry, waitSince := now }

/-- A context's record once it has accepted a packet. -/
def Ctx.accept (x : Ctx) (now : Time) (arrival : Nat) : Ctx :=
  let y := { x with packets := sat 4 (x.packets + 1), lastArrival := arrival }
  if y.state = .joining then { y with state := .active, join := if y.decl.kind = 2 then .idle else .waitEntry, waitSince := now } else y

theorem State.accepted_eq (s : State) (c arrival : Nat) : s.accepted c arrival = s.setCtx c ((s.ctx c).accept s.clk arrival) := rfl

/-- A joining context becomes ACTIVE with the first packet it accepts, and waits for an entry (R97, R146). -/
theorem Ctx.accept_joining {x : Ctx} (now : Time) (arrival : Nat) (hjoining : x.state = .joining) (hkind : x.decl.kind ≠ 2) :
    x.accept now arrival = { x with packets := sat 4 (x.packets + 1), lastArrival := arrival, state := .active, join := .waitEntry, waitSince := now } := by
  unfold Ctx.accept
  simp only [hjoining, if_true, hkind, if_false]

/-- A packet that a joining context accepts makes it ACTIVE (R97, R102, R108, R109). -/
theorem State.datagram_accepted {s : State} {c port : Nat} {arrival : Stamp} {src : Bytes} {dport ssrc : Nat} {b : Bytes} {r : RtpPacket} (hany : bit (s.ctx c).decl.flags 3 = false)
    (hrtp : udpBody (s.ctx c).decl dport b = .rtp r) (htype : r.payloadType = (s.ctx c).decl.payloadType) (hlocked : (s.ctx c).ssrc = some ssrc) (hown : r.ssrc = ssrc)
    (hpoliced : ((s.ctx c).police port r.bits s.clk).isSome = true) (hjoining : (s.ctx c).state = .joining) (hkind : (s.ctx c).decl.kind ≠ 2) :
    ∃ (m : Map (Nat × Time)) (v : State), s.datagram c port arrival src dport b = v.sequence c arrival r ∧ v.ctx c = (s.ctx c).entered s.clk arrival.at_ m := by
  obtain ⟨m, hm⟩ := Ctx.police_some (x := s.ctx c) (y := (s.ctx c).heard s.clk) rfl rfl hpoliced
  generalize hv : s.setCtx c ((s.ctx c).heard s.clk) = v
  have hclk : v.clk = s.clk := hv ▸ rfl
  have hctx : v.ctx c = (s.ctx c).heard s.clk := hv ▸ State.ctx_setCtx _ _ _
  have htested : s.ssrcTest c ssrc = (v, true) := hv ▸ State.ssrcTest_own hlocked
  refine ⟨m, (v.setCtx c { (s.ctx c).heard s.clk with buckets := m }).accepted c arrival.at_, ?_, ?_⟩
  · unfold State.datagram
    extract_lets x d
    have hfrom : ¬ (bit d.flags 3 && fit 16 src != fit 16 d.source) = true := by
      rw [show bit d.flags 3 = false from hany]
      exact Bool.false_ne_true
    have hbody : udpBody d dport b = .rtp r := hrtp
    have hmine : ¬ (r.payloadType != d.payloadType) = true := by
      rw [bne_iff_ne]
      exact fun h => h htype
    rw [if_neg hfrom, hbody]
    refine (if_neg hmine).trans ?_
    rw [hown, htested]
    refine (if_neg Bool.false_ne_true).trans ?_
    rw [hclk, hctx, hm]
  · have hnow : (v.setCtx c { (s.ctx c).heard s.clk with buckets := m }).clk = s.clk := hclk
    rw [State.accepted_eq, hnow, State.ctx_setCtx, State.ctx_setCtx]
    exact Ctx.accept_joining _ _ hjoining hkind

/-- The first packet of a context leaves it in the jitter buffer. -/
theorem State.sequence_holds {v : State} {c : Nat} {arrival : Stamp} {r : RtpPacket} {nal : Bytes} {x : Ctx} (hctx : v.ctx c = x) (hhigh : x.high = none) (hkind : x.decl.kind ≠ 2) (hnext : x.nextSeq = none)
    (hempty : x.jitter = []) (hpayload : r.payload = .single nal) (hmarker : r.marker = false) (hroom : cdiv r.bits 8 ≤ x.decl.jitterBytes) :
    (v.sequence c arrival r).ctx c = { x with high := some (65536 + r.seq), jitter := [{ seq := 65536 + r.seq, arrival := arrival, pkt := r }] } := by
  subst hctx
  rw [State.sequence_first arrival r hhigh hkind, State.place_first (by rwa [State.ctx_setCtx]) (by rwa [State.ctx_setCtx]) (by rwa [State.ctx_setCtx]) hpayload hmarker (by rwa [State.ctx_setCtx]),
    State.ctx_setCtx, State.ctx_setCtx]

/-- The first packet of a joining context, whose stream engine works, enters its jitter buffer (R97, R112, R113). -/
theorem State.process_first {s : State} {k c port ssrc : Nat} {f : Parsed} {arrival : Stamp} {ip : Packet} {b nal : Bytes} {r : RtpPacket} (hon : s.domOn 6 = true) (hengines : s.activating 2 = false)
    (hqinq : f.qinq = false) (hnone : s.answers k f = none) (hip : f.ip? = some ip) (hodd : ip.odd = false) (hport : ip.udpPort = some port) (hudp : ip.udp? = some b) (hctx : s.contextsOf k f = [c])
    (hruns : s.prot.halted.contains (2 + (s.ctx c).engine) = false) (hany : bit (s.ctx c).decl.flags 3 = false) (hrtp : udpBody (s.ctx c).decl port b = .rtp r)
    (htype : r.payloadType = (s.ctx c).decl.payloadType) (hlocked : (s.ctx c).ssrc = some ssrc) (hown : r.ssrc = ssrc) (hpoliced : ((s.ctx c).police k r.bits s.clk).isSome = true)
    (hjoining : (s.ctx c).state = .joining) (hkind : (s.ctx c).decl.kind ≠ 2) (hhigh : (s.ctx c).high = none) (hnext : (s.ctx c).nextSeq = none) (hempty : (s.ctx c).jitter = [])
    (hpayload : r.payload = .single nal) (hmarker : r.marker = false) (hroom : cdiv r.bits 8 ≤ (s.ctx c).decl.jitterBytes) :
    ∃ m, (s.process k f arrival).ctx c = { (s.ctx c).entered s.clk arrival.at_ m with high := some (65536 + r.seq), jitter := [{ seq := 65536 + r.seq, arrival := arrival, pkt := r }] } := by
  have hnotSwitching : s.engineSwitching = none := by rw [State.engineSwitching, hengines, if_neg Bool.false_ne_true]
  have hserved : s.served k f = [c] := by
    rw [State.served, hctx, List.filter_cons_of_pos, List.filter_nil]
    rw [hon, hruns, hnotSwitching]
    rfl
  obtain ⟨m, v, hdatagram, hentered⟩ := State.datagram_accepted (arrival := arrival) (src := ip.src) hany hrtp htype hlocked hown hpoliced hjoining hkind
  refine ⟨m, ?_⟩
  rw [State.process_udp hengines hnone hqinq hip hodd hport hudp, hserved, List.foldl_cons, List.foldl_nil, hdatagram]
  exact State.sequence_holds hentered hhigh hkind hnext hempty hpayload hmarker hroom

/-! PRP (R111). -/

theorem State.prpPair_setPrp (s : State) (k : Nat) (x : PrpPair) : (s.setPrp k x).prpPair k = x := Map.get_set_same _ _ _ _

theorem State.prpPair_of_streams {a b : State} (h : b.streams = a.streams) (k : Nat) : b.prpPair k = a.prpPair k := by simp only [State.prpPair, h]

theorem State.setPrp_ctx (s : State) (k : Nat) (x : PrpPair) (c : Nat) : (s.setPrp k x).ctx c = s.ctx c := rfl

theorem exec_prpHoldExpiry_one {t : Time} {k : Nat} {h : PrpHeld} {s : State} (hk : k < 8) (hheld : (s.prpPair k).held = [h]) :
    exec (.prpHoldExpiry t k) s = .next (settle (s.tick t) (
      if (s.prpPair k).ripe (s.tick t).clk h then ((s.tick t).setPrp k { s.prpPair k with held := [] }).prpProcess k h else s.tick t)) := by
  show execPrpHoldExpiry t k s = _
  have hone : ((s.tick t).prpPair k).held = [h] := hheld
  rw [execPrpHoldExpiry, runIf_next (decide_eq_true hk), hone, List.length_singleton, State.prpDrain, hone]
  rfl

/-- A frame that repeats the highest number of its source is a duplicate. -/
theorem PrpEntry.take_same {e : PrpEntry} {q : Nat} (now : Time) (hhigh : e.high % 65536 = q) : e.take q now = (false, { e with lastAt := now }) := by
  have hzero : (q + 65536 - e.high % 65536) % 65536 = 0 := by omega
  unfold PrpEntry.take
  simp only [hzero, if_true]

theorem State.setPrp_contextsOf (s : State) (k : Nat) (x : PrpPair) (l : Nat) (f : Parsed) : (s.setPrp k x).contextsOf l f = s.contextsOf l f := rfl

theorem Parsed.strip_srcMac (f : Parsed) : f.strip.srcMac = f.srcMac := rfl

/-- A duplicate is counted at its context and goes no further. -/
theorem State.prpProcess_duplicate {s : State} {k c q : Nat} {h : PrpHeld} {e : PrpEntry} (htrailer : (parseEther h.frame.bytes).trailer = some (q, h.frame.lane % 2 == 1))
    (hentry : ((s.prpPair k).entries.find? fun x => x.mac == ofBe (parseEther h.frame.bytes).srcMac) = some e) (hhigh : e.high % 65536 = q)
    (hctx : s.contextsOf h.frame.lane (parseEther h.frame.bytes).strip = [c]) :
    ∃ (x : PrpPair) (v : State), s.prpProcess k h = (v.setPrp k x).setCtx c { s.ctx c with prpDiscards := sat 4 ((s.ctx c).prpDiscards + 1) } ∧ x.held = (s.prpPair k).held ∧ x.done = some h.stamp := by
  have hlan : ((h.frame.lane % 2 == 1) != (h.frame.lane % 2 == 1)) = false := bne_self_eq_false _
  unfold State.prpProcess
  simp only [htrailer, hlan, Bool.false_eq_true, if_false, Parsed.strip_srcMac, State.prpPair_setPrp, hentry, PrpEntry.take_same _ hhigh, State.setPrp_contextsOf, hctx, State.countAt, List.foldl_cons, List.foldl_nil,
    State.setPrp_ctx]
  exact ⟨_, _, rfl, rfl, rfl⟩

/-- Settles O49, from what each of its events does: a frame that is dropped or answered, the first packet, a duplicate, a query. -/
theorem framesComplete : Obligations.FramesComplete := by
  unfold Obligations.FramesComplete
  refine ⟨fun t f s p hlane hp => ⟨fun hdown => leaves_tick (exec_frameReceived_down hlane hdown), fun hup hbad => leaves_settled (exec_frameReceived_bad hlane hup hbad) (.refl _), ?dropped, ?arp, ?first⟩,
    fun t k h s p hk hheld hp => ⟨?unripe, ?duplicate⟩, ?forget, fun t q s v6 hport hfamily => ⟨igmpQuery_old hport hfamily, igmpQuery_new hport hfamily⟩,
    fun t c s hc hopen hfirst hdue hgroup => igmpReportRepeat_sends hc hopen hfirst hdue hgroup⟩
  case dropped =>
    intro hup hfcs hlong hshort hengines hnone hquiet
    subst hp
    have hplain : bit (s.lane f.lane).cfg.flags 0 = false ∨ (s.tick t).domOn 6 = false := hquiet.elim .inr fun h => .inl h.1
    obtain ⟨arrival, hexec⟩ := exec_frameReceived_plain hlane hup ⟨hfcs, hlong, hshort⟩ hplain
    have hasks : ((s.tick t).countFrame f.lane).answers f.lane (parseEther f.bytes) = none :=
      (State.answers_of_address (countFrame_address _ _) _).trans hnone
    have hunserved : ((s.tick t).countFrame f.lane).served f.lane (parseEther f.bytes) = [] := by
      rcases hquiet with hoff | ⟨-, hnobody⟩
      · exact List.filter_eq_nil_iff.mpr fun c _ => by rw [show ((s.tick t).countFrame f.lane).domOn 6 = false from hoff]; exact Bool.false_ne_true
      · rw [State.served, show ((s.tick t).countFrame f.lane).contextsOf f.lane (parseEther f.bytes) = [] from hnobody]
        rfl
    rw [State.process_unserved (s := (s.tick t).countFrame f.lane) hengines hasks hunserved] at hexec
    exact leaves_settled hexec (.refl _)
  case arp =>
    intro hup hfcs hlong hshort hplain hqinq hvlan harp hhardware hprotocol hrequest howns
    subst hp
    obtain ⟨arrival, hexec⟩ := exec_frameReceived_plain (t := t) hlane hup ⟨hfcs, hlong, hshort⟩ (.inl hplain)
    have hasks := State.answers_arp hqinq hvlan harp hhardware hprotocol hrequest howns
    obtain ⟨hreceived, hsent, hstreams, hframe⟩ := State.process_answered (s := (s.tick t).countFrame f.lane) (arrival := arrival)
      (by rw [countFrame_state]; exact hup) ((State.answers_of_address (countFrame_address _ _) _).trans hasks)
    refine ⟨_, hexec, ?_⟩
    beta_reduce
    rw [State.lane_of_lanes (settle_lanes _ _), settle_streams]
    exact ⟨hreceived.trans (countFrame_rxFrames _ _), hsent.trans (countFrame_txFrames _ _), hstreams, (settle_keepsFrames _ _).subset hframe⟩
  case first =>
    intro c port ssrc ip b nal r hup hfcs hlong hshort hon hengines hplain hqinq hnone hip hodd hport hudp hctx hruns hany hrtp htype hlocked hown hpoliced hjoining hkind hhigh hnext hempty hpayload hmarker _ hroom
    subst hp
    obtain ⟨arrival, hexec⟩ := exec_frameReceived_plain (t := t) hlane hup ⟨hfcs, hlong, hshort⟩ (.inl hplain)
    have hasks : ((s.tick t).countFrame f.lane).answers f.lane (parseEther f.bytes) = none := (State.answers_of_address (countFrame_address _ _) _).trans hnone
    obtain ⟨m, hheld⟩ := State.process_first (s := (s.tick t).countFrame f.lane) (arrival := arrival) hon hengines hqinq hasks hip hodd hport hudp hctx hruns hany hrtp htype hlocked hown hpoliced hjoining hkind hhigh hnext hempty hpayload hmarker hroom
    refine ⟨_, hexec, ?_⟩
    beta_reduce
    rw [ctx_of_streams (settle_streams _ _), hheld]
    exact ⟨rfl, rfl, rfl, rfl, _, rfl, rfl, rfl, rfl⟩
  case unripe =>
    intro hwaits
    exact leaves_tick ((exec_prpHoldExpiry_one hk hheld).trans (by rw [hwaits, if_neg Bool.false_ne_true]))
  case duplicate =>
    intro c q e hripe htrailer hq hentry hhigh hctx
    subst hp
    have hexec := exec_prpHoldExpiry_one (t := t) hk hheld
    rw [hripe, if_pos rfl] at hexec
    generalize hv : (s.tick t).setPrp k { s.prpPair k with held := [] } = v at hexec
    have hpair : v.prpPair k = { s.prpPair k with held := [] } := hv ▸ State.prpPair_setPrp _ _ _
    have hcontexts : v.contextsOf h.frame.lane (parseEther h.frame.bytes).strip = [c] := hv ▸ hctx
    have hsame : v.ctx c = s.ctx c := hv ▸ rfl
    obtain ⟨x, w, hdropped, hempty, hdone⟩ := State.prpProcess_duplicate htrailer (by rw [hpair]; exact hentry) hhigh hcontexts
    have hleft : ((w.setPrp k x).setCtx c { v.ctx c with prpDiscards := sat 4 ((v.ctx c).prpDiscards + 1) }).prpPair k = x := State.prpPair_setPrp w k x
    refine ⟨_, hexec, ?_⟩
    beta_reduce
    rw [hdropped, ctx_of_streams (settle_streams _ _), State.prpPair_of_streams (settle_streams _ _), State.ctx_setCtx, hleft, hsame, hempty, hpair]
    exact ⟨rfl, rfl, hdone⟩
  case forget => exact fun t k mac s hk => leaves_settled (runIf_next (decide_eq_true hk) _ _ _) (.refl _)

end Sys2Proof.Machine
end

section
/-! PROOF of the claim on frames (spec/02_freshness.md R37–R64, spec/07_heads.md R206–R217): what the steps before a judgement leave of what it reads, and what the judged window's record says. -/

namespace Sys2Proof.Machine

/-! What a latch instant reads, and what Lantern's comparisons, scaler moves and the safety configuration leave of it. -/

/-- A head's place in its group is in `y` as in `x`. -/
structure Head.SamePlace (x y : Head) : Prop where
  timing : y.timing = x.timing
  own : y.own = x.own
  notBefore : y.notBefore = x.notBefore
  stopped : y.stopped = x.stopped
  nextFrame : y.nextFrame = x.nextFrame

/-- What a latch reads of a window's record is in `y` as in `x`. -/
structure Win.SameBinding (x y : Win) : Prop where
  latched : y.latched = x.latched
  badTag : y.badTag = x.badTag
  bindAt : y.bindAt = x.bindAt
  shed : y.shed = x.shed

/-- What a latch instant reads is in `b` as in `a`. -/
structure State.LatchesSame (a b : State) : Prop where
  time : b.time = a.time
  power : b.power = a.power
  sources : b.streams.src = a.streams.src
  safety : b.comp.safety = a.comp.safety
  contexts : ∀ c, (b.ctx c).state = (a.ctx c).state ∧ (b.ctx c).complete = (a.ctx c).complete
  heads : ∀ h, Head.SamePlace (a.head h) (b.head h)
  gens : ∀ g, (b.gen g).tf = (a.gen g).tf ∧ (b.gen g).lp = (a.gen g).lp
  groups : ∀ g, (b.grpC g).act.windows = (a.grpC g).act.windows ∧ (b.grpC g).next = (a.grpC g).next
  wins : ∀ w, Win.SameBinding (a.win w) (b.win w)

theorem Head.SamePlace.refl (x : Head) : Head.SamePlace x x := ⟨rfl, rfl, rfl, rfl, rfl⟩

theorem Win.SameBinding.refl (x : Win) : Win.SameBinding x x := ⟨rfl, rfl, rfl, rfl⟩

namespace State.LatchesSame

variable {a b c : State}

theorem refl (a : State) : State.LatchesSame a a :=
  ⟨rfl, rfl, rfl, rfl, fun _ => ⟨rfl, rfl⟩, fun _ => .refl _, fun _ => ⟨rfl, rfl⟩, fun _ => ⟨rfl, rfl⟩, fun _ => .refl _⟩

theorem trans (h : State.LatchesSame a b) (k : State.LatchesSame b c) : State.LatchesSame a c where
  time := k.time.trans h.time
  power := k.power.trans h.power
  sources := k.sources.trans h.sources
  safety := k.safety.trans h.safety
  contexts n := ⟨(k.contexts n).1.trans (h.contexts n).1, (k.contexts n).2.trans (h.contexts n).2⟩
  heads n := ⟨(k.heads n).timing.trans (h.heads n).timing, (k.heads n).own.trans (h.heads n).own, (k.heads n).notBefore.trans (h.heads n).notBefore, (k.heads n).stopped.trans (h.heads n).stopped,
    (k.heads n).nextFrame.trans (h.heads n).nextFrame⟩
  gens n := ⟨(k.gens n).1.trans (h.gens n).1, (k.gens n).2.trans (h.gens n).2⟩
  groups n := ⟨(k.groups n).1.trans (h.groups n).1, (k.groups n).2.trans (h.groups n).2⟩
  wins n := ⟨(k.wins n).latched.trans (h.wins n).latched, (k.wins n).badTag.trans (h.wins n).badTag, (k.wins n).bindAt.trans (h.wins n).bindAt, (k.wins n).shed.trans (h.wins n).shed⟩

theorem ite {s : State} {p : Prop} [Decidable p] (h : State.LatchesSame s a) (k : State.LatchesSame s b) : State.LatchesSame s (if p then a else b) := by
  split
  · exact h
  · exact k

theorem fold {α : Type} {f : State → α → State} (h : ∀ s x, State.LatchesSame s (f s x)) (l : List α) (s : State) : State.LatchesSame s (l.foldl f s) :=
  foldl_keeps (P := State.LatchesSame s) (fun b hb x _ => hb.trans (h b x)) (.refl s)

/-- The units that a latch reads are the same. -/
theorem of_units (htime : b.time = a.time := by rfl) (hpower : b.power = a.power := by rfl) (hstreams : b.streams = a.streams := by rfl) (hheads : b.comp.heads = a.comp.heads := by rfl)
    (hgens : b.comp.gens = a.comp.gens := by rfl) (hgroups : b.comp.groups = a.comp.groups := by rfl) (hwins : b.comp.wins = a.comp.wins := by rfl)
    (hsafety : b.comp.safety = a.comp.safety := by rfl) : State.LatchesSame a b where
  time := htime
  power := hpower
  sources := congrArg Streams.src hstreams
  safety := hsafety
  contexts n := by rw [ctx_of_streams hstreams]; exact ⟨rfl, rfl⟩
  heads n := by simp only [State.head, hheads]; exact .refl _
  gens n := by rw [State.gen, hgens]; exact ⟨rfl, rfl⟩
  groups n := by rw [State.grpC, hgroups]; exact ⟨rfl, rfl⟩
  wins n := by simp only [State.win, hwins]; exact .refl _

theorem of_same (h : State.SameUnits a b) : State.LatchesSame a b :=
  of_units h.time h.power h.streams (congrArg Comp.heads h.comp) (congrArg Comp.gens h.comp) (congrArg Comp.groups h.comp) (congrArg Comp.wins h.comp) (congrArg Comp.safety h.comp)

end State.LatchesSame

/-! One record that is set. -/

theorem State.head_setHead_other (s : State) {h k : Nat} (x : Head) (hk : k ≠ h) : (s.setHead h x).head k = s.head k := Map.get_set_other _ _ _ hk

theorem State.grpC_setGrpC_other (s : State) {g k : Nat} (x : Group) (hk : k ≠ g) : (s.setGrpC g x).grpC k = s.grpC k := Map.get_set_other _ _ _ hk

theorem State.ctx_setCtx_other (s : State) {c k : Nat} (x : Ctx) (hk : k ≠ c) : (s.setCtx c x).ctx k = s.ctx k := Map.get_set_other _ _ _ hk

section
variable (s : State)

theorem State.setHead_latchesSame (h : Nat) (x : Head) (hx : Head.SamePlace (s.head h) x := by constructor <;> rfl) : State.LatchesSame s (s.setHead h x) :=
  { State.LatchesSame.refl s with
    heads := fun k => by
      by_cases hk : k = h
      · subst hk
        rwa [State.head_setHead]
      · rw [State.head_setHead_other _ _ hk]
        exact .refl _ }

theorem State.setWin_latchesSame (w : Nat) (x : Win) (hx : Win.SameBinding (s.win w) x := by constructor <;> rfl) : State.LatchesSame s (s.setWin w x) :=
  { State.LatchesSame.refl s with
    wins := fun k => by
      by_cases hk : k = w
      · subst hk
        rwa [State.win_setWin]
      · rw [State.win_setWin_other _ _ hk]
        exact .refl _ }

theorem State.setGen_latchesSame (g : Nat) (x : Gen) (htf : x.tf = (s.gen g).tf := by rfl) (hlp : x.lp = (s.gen g).lp := by rfl) : State.LatchesSame s (s.setGen g x) :=
  { State.LatchesSame.refl s with
    gens := fun k => by
      by_cases hk : k = g
      · subst hk
        rw [State.gen_setGen]
        exact ⟨htf, hlp⟩
      · rw [State.gen_setGen_other _ _ hk]
        exact ⟨rfl, rfl⟩ }

theorem State.setGrpC_latchesSame (g : Nat) (x : Group) (hwindows : x.act.windows = (s.grpC g).act.windows := by rfl) (hnext : x.next = (s.grpC g).next := by rfl) : State.LatchesSame s (s.setGrpC g x) :=
  { State.LatchesSame.refl s with
    groups := fun k => by
      by_cases hk : k = g
      · subst hk
        rw [State.grpC_setGrpC]
        exact ⟨hwindows, hnext⟩
      · rw [State.grpC_setGrpC_other _ _ hk]
        exact ⟨rfl, rfl⟩ }

theorem State.setCtx_latchesSame (c : Nat) (x : Ctx) (hstate : x.state = (s.ctx c).state := by rfl) (hcomplete : x.complete = (s.ctx c).complete := by rfl) : State.LatchesSame s (s.setCtx c x) :=
  { State.LatchesSame.refl s with
    contexts := fun k => by
      by_cases hk : k = c
      · subst hk
        rw [State.ctx_setCtx]
        exact ⟨hstate, hcomplete⟩
      · rw [State.ctx_setCtx_other _ _ hk]
        exact ⟨rfl, rfl⟩ }

end

/-! The steps before the judgement (R47, R237, R241, R491). -/

theorem State.record_latchesSame (s : State) (ty : Nat) (v : List (Nat × Int)) : State.LatchesSame s (s.record ty v) := .of_same (s.record_same ty v)

theorem State.setHolds_latchesSame (s : State) (hs : List Hold) : State.LatchesSame s (s.setHolds hs) := by
  unfold State.setHolds
  extract_lets cs comp kept marked
  have hkept : State.LatchesSame s kept := .of_units
  have hmarked : State.LatchesSame kept marked := .fold (fun s c => .ite (.refl s) (s.setCtx_latchesSame c _)) cs kept
  exact (hkept.trans hmarked).trans { State.LatchesSame.refl marked with }

theorem State.compareLate_latchesSame (s : State) (h : Nat) (c : Compared) : State.LatchesSame s (s.compareLate h c) := by
  unfold State.compareLate
  extract_lets x told
  have htold : State.LatchesSame s told := (s.setHead_latchesSame h ((s.head h).comparedLate c)).trans (State.record_latchesSame _ _ _)
  exact htold.trans .of_units

theorem State.lanternMismatch_latchesSame (s : State) (assigns : List Assign) (w h n tile expected observed count kind : Nat) :
    State.LatchesSame s (s.lanternMismatch assigns w h n tile expected observed count kind) :=
  (s.setWin_latchesSame w { s.win w with mismatch := true, diagnose := some ((assigns.filter fun a => a.window == w).flatMap Assign.scalers) }).trans (State.record_latchesSame _ _ _)

theorem State.concludeWindow_latchesSame (s : State) (fs : List Finding) (d : WindowDesc) : State.LatchesSame s (s.concludeWindow fs d) := by
  unfold State.concludeWindow
  dsimp only
  split
  · exact s.lanternMismatch_latchesSame _ _ _ _ _ _ _ _ _
  · split
    · exact s.lanternMismatch_latchesSame _ _ _ _ _ _ _ _ _
    · exact s.lanternMismatch_latchesSame _ _ _ _ _ _ _ _ _
    · exact .ite (s.setWin_latchesSame _ _) (.refl s)

theorem State.concludeFrame_latchesSame (s : State) (r : TimingRec) (h tf : Nat) : State.LatchesSame s (s.concludeFrame r h tf) := by
  unfold State.concludeFrame
  extract_lets hs open_ fs ws comp kept
  have hkept : State.LatchesSame s kept := .of_units
  exact .ite (.refl s) (hkept.trans (.fold (fun s d => s.concludeWindow_latchesSame fs d) ws kept))

theorem State.lateHead_latchesSame (s : State) (h : Nat) : State.LatchesSame s (s.lateHead h) :=
  .fold (fun s c => ((s.compareLate_latchesSame h c).trans (State.concludeFrame_latchesSame _ _ _ _)).trans (State.setHolds_latchesSame _ _)) _ s

theorem State.moveScalers_latchesSame (s : State) (g : Nat) : State.LatchesSame s (s.moveScalers g) := by
  unfold State.moveScalers
  extract_lets moved
  have hmoved : State.LatchesSame s moved := .fold (fun s x => .fold (fun s e => .ite (.refl s) .of_units) _ s) _ s
  exact hmoved.trans .of_units

theorem State.takeSafety_latchesSame (s : State) (g : Nat) : State.LatchesSame s (s.takeSafety g) := by
  unfold State.takeSafety
  extract_lets x taken
  have htaken : State.LatchesSame s taken := s.setGrpC_latchesSame g _
  exact .ite (.refl s) (htaken.trans (.fold (fun s d => .ite (.refl s) (s.setWin_latchesSame _ _)) _ taken))

theorem State.takeCopies_latchesSame (s : State) (g : Nat) (flipped took : Bool) (bad : List LanternCopy) : State.LatchesSame s (s.takeCopies g flipped took bad) :=
  s.setGrpC_latchesSame g _

theorem State.resetCoefs_latchesSame (s : State) (g : Nat) : State.LatchesSame s (s.resetCoefs g) := by
  unfold State.resetCoefs
  extract_lets x act lan reset
  have hreset : State.LatchesSame s reset := s.setGrpC_latchesSame g _
  exact hreset.trans .of_units

theorem State.compLatch_latchesSame (s : State) (g : Nat) : State.LatchesSame s (s.compLatch g) := by
  unfold State.compLatch
  split
  · exact .refl s
  · extract_lets hs reset
    have hreset : State.LatchesSame s reset := .ite (.refl s) (s.resetCoefs_latchesSame g)
    exact hreset.trans .of_units

/-! What a latch reads, of such states. -/

section
variable {a b : State} (h : State.LatchesSame a b)
include h

theorem State.LatchesSame.headsOf (g : Nat) : b.headsOf g = a.headsOf g := by
  have hdom : ∀ d, b.domOn d = a.domOn d := fun d => by simp only [State.domOn, State.dom, State.pastFail, h.power, h.time]
  have hon : ∀ k, b.headOn k = a.headOn k := fun k => by simp only [State.headOn, (h.heads k).timing, hdom]
  unfold State.headsOf
  refine List.filter_congr fun k _ => ?_
  rw [hon, (h.heads k).stopped, (h.heads k).timing]

theorem State.LatchesSame.takers (g : Nat) : b.takers g = a.takers g := by
  unfold State.takers
  rw [h.headsOf]
  refine List.filter_congr fun k _ => ?_
  rw [(h.heads k).own, (h.heads k).notBefore, (h.gens g).1]

theorem State.LatchesSame.groupWindows (g : Nat) : b.groupWindows g = a.groupWindows g := by
  have hgroup : ∀ d, b.groupOf d = a.groupOf d := fun d => by simp only [State.groupOf, (h.heads d.head).timing]
  have hown : ∀ k, b.ownWindows k = a.ownWindows k := fun k => by simp only [State.ownWindows, Settings.listed, (h.groups k).1, hgroup]
  simp only [State.groupWindows, hown]

theorem State.LatchesSame.shows (src : Nat) : b.shows src = a.shows src := by
  simp only [State.shows, State.src, (h.contexts src).1, h.sources]

theorem State.LatchesSame.latchOf (at_ : Time) (d : WindowDesc) : b.latchOf at_ d = a.latchOf at_ d := by
  simp only [State.latchOf, State.pictures, h.shows, (h.contexts d.source).2, State.src, h.sources, (h.wins d.window).bindAt]

theorem State.LatchesSame.latchedFor (f : FrameCtx) (d : WindowDesc) : b.latchedFor f d = a.latchedFor f d := by
  simp only [State.latchedFor, (h.wins d.window).badTag, (h.wins d.window).latched, h.shows, h.latchOf]

theorem State.LatchesSame.surface (k : Nat) : b.surface k = a.surface k := by
  simp only [State.surface, (h.heads k).timing]

theorem State.LatchesSame.frameOf (k : Nat) : b.frameOf k = a.frameOf k := by
  simp only [State.frameOf, (h.heads k).nextFrame]

theorem State.LatchesSame.trusted : b.trusted = a.trusted := by
  simp only [State.trusted, State.followsLocked, State.base, h.time]

theorem State.LatchesSame.clkOf (dt : Nat) : b.clkOf dt = a.clkOf dt := by
  simp only [State.clkOf, State.clk, State.now, h.time]

end

/-! The record of a judged window (R37, R49–R61, R217, R243, R501). -/

/-- A window's latched picture, its frame, where it is off and whether it is shed are in `v` as in `w`. -/
structure Win.SameLatch (w v : Win) : Prop where
  latched : v.latched = w.latched
  frame : v.frame = w.frame
  offAt : v.offAt = w.offAt
  shed : v.shed = w.shed

theorem Win.SameLatch.refl (w : Win) : Win.SameLatch w w := ⟨rfl, rfl, rfl, rfl⟩

theorem Win.SameLatch.trans {u v w : Win} (h : Win.SameLatch u v) (k : Win.SameLatch v w) : Win.SameLatch u w :=
  ⟨k.latched.trans h.latched, k.frame.trans h.frame, k.offAt.trans h.offAt, k.shed.trans h.shed⟩

theorem Win.SameLatch.ite {w u v : Win} {p : Prop} [Decidable p] (h : Win.SameLatch w u) (k : Win.SameLatch w v) : Win.SameLatch w (if p then u else v) := by
  split
  · exact h
  · exact k

theorem Win.check_sameLatch (w : Win) (code i recover : Nat) (fails : Bool) : Win.SameLatch w (w.check code i recover fails) :=
  .ite ⟨rfl, rfl, rfl, rfl⟩ (.ite ⟨rfl, rfl, rfl, rfl⟩ ⟨rfl, rfl, rfl, rfl⟩)

theorem Win.aged_sameLatch (w : Win) (d : WindowDesc) (f : FrameCtx) (p : Picture) : Win.SameLatch w (w.aged d f p) := by
  have hheard : Win.SameLatch w (w.heartbeat d p) := .ite (.refl w) (.ite ⟨rfl, rfl, rfl, rfl⟩ (.ite ⟨rfl, rfl, rfl, rfl⟩ (.refl w)))
  exact hheard.trans ⟨rfl, rfl, rfl, rfl⟩

theorem Win.judge_sameLatch (w : Win) (d : WindowDesc) (pol : Policy) (f : FrameCtx) (p : Picture) : Win.SameLatch w (w.judge d pol f p) := by
  rw [Win.judge_eq]
  exact ((((w.aged_sameLatch d f p).trans (Win.check_sameLatch _ _ _ _ _)).trans (Win.check_sameLatch _ _ _ _ _)).trans (Win.check_sameLatch _ _ _ _ _)).trans
    (.ite (Win.check_sameLatch _ _ _ _ _) ⟨rfl, rfl, rfl, rfl⟩)

/-- UNDERRUN is about bit 8 alone. -/
theorem Win.underrun_leaves (w : Win) (recover : Nat) : Win.SameLatch w (w.underrun recover) ∧ (w.underrun recover).ageUs = w.ageUs ∧ ∀ k, k ≠ 8 → bit (w.underrun recover).active k = bit w.active k := by
  unfold Win.underrun
  split
  · exact ⟨⟨rfl, rfl, rfl, rfl⟩, rfl, fun k hk => bit_setBit_other _ _ hk⟩
  · split
    · exact ⟨⟨rfl, rfl, rfl, rfl⟩, rfl, fun k hk => bit_setBit_other _ _ hk⟩
    · exact ⟨.refl w, rfl, fun _ _ => rfl⟩

/-- LANTERN is about bit 7 alone. -/
theorem Win.lantern_leaves (w : Win) (safety deviceFault : Bool) (tf : Nat) : Win.SameLatch w (w.lantern safety deviceFault tf).1 ∧ (w.lantern safety deviceFault tf).1.ageUs = w.ageUs ∧
    ∀ k, k ≠ 7 → bit (w.lantern safety deviceFault tf).1.active k = bit w.active k := by
  unfold Win.lantern
  dsimp only
  split
  · exact ⟨⟨rfl, rfl, rfl, rfl⟩, rfl, fun k hk => bit_setBit_other _ _ hk⟩
  · split
    · split
      · exact ⟨⟨rfl, rfl, rfl, rfl⟩, rfl, fun _ _ => rfl⟩
      · exact ⟨⟨rfl, rfl, rfl, rfl⟩, rfl, fun k hk => bit_setBit_other _ _ hk⟩
    · split
      · exact ⟨⟨rfl, rfl, rfl, rfl⟩, rfl, fun k hk => bit_setBit_other _ _ hk⟩
      · exact ⟨⟨rfl, rfl, rfl, rfl⟩, rfl, fun _ _ => rfl⟩

section
variable (s : State) (grp : Group) (f : FrameCtx) (d : WindowDesc)

theorem State.checkedWin_sameLatch : Win.SameLatch (s.latchedWin f d) (s.checkedWin grp f d) := by
  unfold State.checkedWin
  split
  · exact Win.judge_sameLatch _ _ _ _ _
  · exact ⟨rfl, rfl, rfl, rfl⟩

/-- The supervision of a checked window leaves its latch, its age and the other reasons. -/
theorem State.supervisedWin_leaves : Win.SameLatch (s.latchedWin f d) (s.supervisedWin grp f d).1 ∧ (s.supervisedWin grp f d).1.ageUs = (s.checkedWin grp f d).ageUs ∧
    ∀ k, k ≠ 7 → k ≠ 8 → bit (s.supervisedWin grp f d).1.active k = bit (s.checkedWin grp f d).active k := by
  obtain ⟨hunder, hage, hothers⟩ := (s.checkedWin grp f d).underrun_leaves (grp.safety.policy d.policy).recoverFrames
  obtain ⟨hlantern, hage', hothers'⟩ := ((s.checkedWin grp f d).underrun (grp.safety.policy d.policy).recoverFrames).lantern_leaves (d.kind == 2) (s.comp.selftestFail || s.comp.domainLost) f.tf
  exact ⟨((s.checkedWin_sameLatch grp f d).trans hunder).trans hlantern, hage'.trans hage, fun k h7 h8 => (hothers' k h7).trans (hothers k h8)⟩

/-- Of the reasons of a judged window, those of the checks stand as they were decided. -/
theorem State.reasonsFor_bit {k : Nat} (hk : k = 1 ∨ k = 2 ∨ k = 5) : bit (s.reasonsFor grp f d) k = bit (s.checkedWin grp f d).active k := by
  obtain ⟨-, -, hothers⟩ := s.supervisedWin_leaves grp f d
  rw [State.reasonsFor, bit_setBit_other _ _ (by omega), bit_setBit_other _ _ (by omega), bit_setBit_other _ _ (by omega)]
  exact hothers k (by omega) (by omega)

theorem State.reasonsFor_noSource : bit (s.reasonsFor grp f d) 3 = (s.latchedFor f d).isNone := by
  rw [State.reasonsFor, bit_setBit_other _ _ (by decide), bit_setBit_other _ _ (by decide), bit_setBit_same]

theorem State.reasonsFor_shed : bit (s.reasonsFor grp f d) 12 = (s.win d.window).shed := by
  obtain ⟨hlatch, -, -⟩ := s.supervisedWin_leaves grp f d
  rw [State.reasonsFor, bit_setBit_same]
  exact hlatch.shed

theorem State.judgedWin_latched : (s.judgedWin grp f d).latched = s.latchedFor f d := (s.supervisedWin_leaves grp f d).1.latched

theorem State.judgedWin_frame : (s.judgedWin grp f d).frame = f.frame := (s.supervisedWin_leaves grp f d).1.frame

theorem State.judgedWin_offAt : (s.judgedWin grp f d).offAt = [] := (s.supervisedWin_leaves grp f d).1.offAt

/-- A window with a picture: its age, and what STALE, FROZEN and TIME follow from (R49, R50, R56). -/
theorem State.judgedWin_checks {p : Picture} {pol : Policy} (hp : s.latchedFor f d = some p) (hpol : grp.safety.policy d.policy = pol) :
    (s.judgedWin grp f d).ageUs = ageUs p.tag (f.instant d) f.u ∧ (pol.ageLimit < ageUs p.tag (f.instant d) f.u → bit (s.judgedWin grp f d).active 1 = true) ∧
    (pol.freezeLimit * 1000000 < f.instant d - p.tag.advance → bit (s.judgedWin grp f d).active 2 = true) ∧
    (bit pol.control 0 = true → p.tag.trusted f.trusted = false → bit (s.judgedWin grp f d).active 5 = true) ∧ (bit pol.control 0 = false → bit (s.judgedWin grp f d).active 5 = false) := by
  have hchecked : s.checkedWin grp f d = (s.latchedWin f d).judge d pol f p := by rw [State.checkedWin, hp, hpol]
  have hbit {k : Nat} (hk : k = 1 ∨ k = 2 ∨ k = 5) : bit (s.judgedWin grp f d).active k = bit ((s.latchedWin f d).judge d pol f p).active k := hchecked ▸ s.reasonsFor_bit grp f d hk
  have hage : (s.judgedWin grp f d).ageUs = ageUs p.tag (f.instant d) f.u := by
    rw [← Win.judge_ageUs (s.latchedWin f d) d pol f p, ← hchecked]
    exact (s.supervisedWin_leaves grp f d).2.1
  rw [hbit (.inl rfl), hbit (.inr (.inl rfl)), hbit (.inr (.inr rfl))]
  exact ⟨hage, fun h => (Win.judge_stale_of_lt _ _ _ _ _ h).1, fun h => (Win.judge_frozen_of_lt _ _ _ _ _ h).1, fun hc h => (Win.judge_time_fails _ _ _ _ _ hc h).1, Win.judge_time_off _ _ _ _ _⟩

end

end Sys2Proof.Machine
end

section
/-! PROOF of the claim on frames, continued (spec/02_freshness.md R37–R64, spec/07_heads.md R206–R217): LATCH_INSTANT. -/

namespace Sys2Proof.Machine

/-! A group latches (R37, R41, R220). -/

/-- U(n) of the frame that latches (R41). -/
def State.frameU (s : State) (g : Nat) : Nat := max (s.uDt s.now) (s.uDt (s.frameEnds g))

/-- A generator's record once its frame has latched. -/
def State.latchedGen (s : State) (g : Nat) : Gen :=
  { s.gen g with
    latched := true, endAt := s.frameEnds g, u := s.frameU g, locked := bitsOf ([0, 1].map fun b => ((s.formatLatched g).base b).state == .locked), trusted := (s.formatLatched g).trusted
    uBases := [0, 1].map fun b => if (s.formatLatched g).time.state = .following b then 0 else (s.formatLatched g).uB b (s.formatLatched g).now }

/-- A head takes part in the next frame. -/
def State.takes (s : State) (h : Nat) : State := s.setHead h { s.head h with due := true }

/-- A group whose frame has latched, its windows not yet judged. -/
def State.latchReady (s : State) (g : Nat) : State :=
  let v := (s.formatLatched g).setGen g (s.latchedGen g)
  ((v.takers g).foldl State.takes v).compLatch g

/-- One window of a group is judged for the frame of generator `x`. -/
def State.judgeFrame (grp : Group) (latch : Time) (x : Gen) (u : Nat) (s : State) (d : WindowDesc) : State :=
  match (s.head d.head).timing with
  | some r => s.evaluate grp { latch := latch, rec_ := r, heads := s.surface d.head, tf := x.tf, lp := x.lp, u := u, frame := s.frameOf d.head, trusted := s.trusted } d
  | none => s

/-- The windows of a group are judged, from the state in which it has latched. -/
def State.judgeGroup (s : State) (g : Nat) : State :=
  let v := s.latchReady g
  (sortBy WindowDesc.window (v.groupWindows g)).foldl (State.judgeFrame (v.grpC g) (v.clkOf ((s.gen g).tf - 500000)) (s.gen g) (s.frameU g)) v

theorem State.latchGroup_eq (s : State) (g : Nat) : ∃ hs, s.latchGroup g = (s.judgeGroup g).setHolds hs := by
  unfold State.latchGroup
  extract_lets x endAt u formatted latched started ready grp latch ws judged new
  have hjudged : judged = s.judgeGroup g := rfl
  exact ⟨judged.comp.holds ++ new, congrArg (State.setHolds · (judged.comp.holds ++ new)) hjudged⟩

/-- The generators and the groups are in `b` as in `a`, and so is which heads take part in a frame. -/
structure State.SameFrame (a b : State) : Prop where
  gens : b.comp.gens = a.comp.gens
  groups : b.comp.groups = a.comp.groups
  due : ∀ h, (b.head h).due = (a.head h).due

theorem State.SameFrame.of_comp {a b : State} (h : b.comp = a.comp) : State.SameFrame a b := ⟨congrArg Comp.gens h, congrArg Comp.groups h, fun k => by rw [State.head_of_comp h]⟩

theorem State.SameFrame.trans {a b c : State} (h : State.SameFrame a b) (k : State.SameFrame b c) : State.SameFrame a c :=
  ⟨k.gens.trans h.gens, k.groups.trans h.groups, fun n => (k.due n).trans (h.due n)⟩

theorem State.evaluate_sameFrame (s : State) (grp : Group) (f : FrameCtx) (d : WindowDesc) : State.SameFrame s (s.evaluate grp f d) := by
  obtain ⟨b, hb, hsame⟩ := s.evaluate_same grp f d
  have hjudged : State.SameFrame s (s.judged grp f d) := by
    unfold State.judged
    split <;> exact ⟨rfl, rfl, fun _ => rfl⟩
  refine State.SameFrame.trans ?_ (.of_comp hsame.comp)
  rcases hb with rfl | rfl
  · exact hjudged
  · refine hjudged.trans ⟨rfl, rfl, fun k => ?_⟩
    by_cases hk : k = d.head
    · subst hk
      rw [State.head_setHead, hjudged.due]
    · rw [State.head_setHead_other _ _ hk]

theorem State.judgeFrame_sameFrame (grp : Group) (latch : Time) (x : Gen) (u : Nat) (s : State) (d : WindowDesc) : State.SameFrame s (s.judgeFrame grp latch x u d) := by
  unfold State.judgeFrame
  split
  · exact s.evaluate_sameFrame _ _ _
  · exact .of_comp rfl

theorem State.judgeGroup_sameFrame (s : State) (g : Nat) : State.SameFrame (s.latchReady g) (s.judgeGroup g) :=
  foldl_keeps (P := State.SameFrame (s.latchReady g)) (fun b hb d _ => hb.trans (b.judgeFrame_sameFrame _ _ _ _ d)) (.of_comp rfl)

/-! The state in which a group has latched. -/

theorem State.takes_latchesSame (s : State) (h : Nat) : State.LatchesSame s (s.takes h) := s.setHead_latchesSame h _

theorem State.formatLatched_latchesSame (s : State) (g : Nat) : State.LatchesSame s (s.formatLatched g) := .ite .of_units (.refl s)

theorem State.latchReady_latchesSame (s : State) (g : Nat) : State.LatchesSame s (s.latchReady g) := by
  have hgen : State.LatchesSame (s.formatLatched g) ((s.formatLatched g).setGen g (s.latchedGen g)) :=
    State.setGen_latchesSame _ g _ ((s.formatLatched_latchesSame g).gens g).1.symm ((s.formatLatched_latchesSame g).gens g).2.symm
  exact (((s.formatLatched_latchesSame g).trans hgen).trans (.fold State.takes_latchesSame _ _)).trans (State.compLatch_latchesSame _ g)

theorem State.resetCoefs_keeps (s : State) (g : Nat) :
    (s.resetCoefs g).comp.gens = s.comp.gens ∧ (s.resetCoefs g).comp.heads = s.comp.heads ∧ ∀ k, ((s.resetCoefs g).grpC k).safety = (s.grpC k).safety := by
  unfold State.resetCoefs
  extract_lets x act lan reset
  refine ⟨rfl, rfl, fun k => ?_⟩
  show (reset.grpC k).safety = _
  by_cases hk : k = g
  · subst hk
    rw [State.grpC_setGrpC]
  · rw [State.grpC_setGrpC_other _ _ hk]

theorem State.compLatch_keeps (s : State) (g : Nat) : (s.compLatch g).comp.gens = s.comp.gens ∧ (s.compLatch g).comp.heads = s.comp.heads ∧ ∀ k, ((s.compLatch g).grpC k).safety = (s.grpC k).safety := by
  unfold State.compLatch
  split
  · exact ⟨rfl, rfl, fun _ => rfl⟩
  · extract_lets hs reset
    have hreset : reset.comp.gens = s.comp.gens ∧ reset.comp.heads = s.comp.heads ∧ ∀ k, (reset.grpC k).safety = (s.grpC k).safety := by
      simp only [reset]
      split
      · exact ⟨rfl, rfl, fun _ => rfl⟩
      · exact s.resetCoefs_keeps g
    exact hreset

theorem State.formatLatched_keeps (s : State) (g : Nat) : (s.formatLatched g).comp.groups = s.comp.groups := by
  unfold State.formatLatched
  split <;> rfl

/-- Heads that take part in a frame change their own record alone. -/
theorem State.takes_keeps (l : List Nat) (s : State) : (l.foldl State.takes s).comp.gens = s.comp.gens ∧ (l.foldl State.takes s).comp.groups = s.comp.groups :=
  foldl_keeps (f := State.takes) (P := fun b : State => b.comp.gens = s.comp.gens ∧ b.comp.groups = s.comp.groups) (fun _ hb _ _ => hb) ⟨rfl, rfl⟩

theorem State.takes_due {l : List Nat} {h : Nat} (hh : h ∈ l) (s : State) : ((l.foldl State.takes s).head h).due = true := by
  have htakes : ∀ b : State, ((b.takes h).head h).due = true := fun b => by rw [State.takes, State.head_setHead]
  refine foldl_turns (P := fun _ => True) (Q := fun b : State => (b.head h).due = true) hh (fun _ _ _ _ _ => trivial) (fun b _ => htakes b) (fun b hb k _ => ?_) trivial
  by_cases hk : h = k
  · exact hk ▸ htakes b
  · rw [State.takes, State.head_setHead_other _ _ hk]
    exact hb

theorem State.latchReady_gen (s : State) (g : Nat) : (s.latchReady g).gen g = s.latchedGen g := by
  rw [State.latchReady, State.gen, (State.compLatch_keeps _ g).1, (State.takes_keeps _ _).1]
  exact State.gen_setGen _ _ _

theorem State.latchReady_safety (s : State) (g k : Nat) : ((s.latchReady g).grpC k).safety = (s.grpC k).safety := by
  rw [State.latchReady, (State.compLatch_keeps _ g).2.2, State.grpC, (State.takes_keeps _ _).2]
  exact congrArg (fun m : Map Group => (Map.get {} m k).safety) (s.formatLatched_keeps g)

theorem State.latchReady_due (s : State) (g : Nat) {h : Nat} (hh : h ∈ s.takers g) : ((s.latchReady g).head h).due = true := by
  have hgen : State.LatchesSame (s.formatLatched g) ((s.formatLatched g).setGen g (s.latchedGen g)) :=
    State.setGen_latchesSame _ g _ ((s.formatLatched_latchesSame g).gens g).1.symm ((s.formatLatched_latchesSame g).gens g).2.symm
  have htakers : ((s.formatLatched g).setGen g (s.latchedGen g)).takers g = s.takers g := ((s.formatLatched_latchesSame g).trans hgen).takers g
  rw [State.latchReady, State.head, (State.compLatch_keeps _ g).2.1]
  exact State.takes_due (htakers ▸ hh) _

/-! LATCH_INSTANT (R37, R47, R237). -/

theorem State.takeSafety_takes (s : State) (g : Nat) : ((s.takeSafety g).grpC g).safety = s.comp.safety := by
  unfold State.takeSafety
  extract_lets x taken
  split
  · assumption
  · have hkept := foldl_keeps (P := fun b : State => b.comp.groups = taken.comp.groups) (l := s.groupWindows g)
      (f := fun s' d => if x.safety.policy d.policy = s.comp.safety.policy d.policy then s' else s'.setWin d.window { s'.win d.window with passes := [] }) (fun b hb d _ => by split <;> exact hb) (b := taken) rfl
    rw [State.grpC, hkept]
    exact congrArg Group.safety (State.grpC_setGrpC _ _ _)

/-- The group before it latches: Lantern's late comparisons are concluded, failed scalers have handed over, and the safety configuration is taken. -/
theorem exec_latchInstant {t : Time} {g : Nat} {bad : List LanternCopy} {s : State} (hg : g < 4) (hrunning : (s.gen g).running = true) (hfree : (s.gen g).latched = false)
    (hdue : (s.gen g).tf ≤ (s.tick t).now + 500000) (htakers : (s.tick t).takers g ≠ []) (hready : ∀ h ∈ (s.tick t).headsOf g, (s.head h).own ≠ none ∨ ((s.head h).scanning = false ∧ (s.head h).due = false))
    (hnext : (s.grpC g).next = none) :
    ∃ v, exec (.latchInstant t { sg := g, bad := bad }) s = .next (settle (s.tick t) (v.latchGroup g)) ∧ State.LatchesSame (s.tick t) v ∧ (v.grpC g).safety = s.comp.safety := by
  have hheads : (s.tick t).headsOf g ≠ [] := fun h => htakers (by rw [State.takers, h]; rfl)
  have hall : ((s.tick t).headsOf g).all (fun h => !(((s.tick t).head h).own.isNone && (((s.tick t).head h).scanning || ((s.tick t).head h).due))) = true := by
    refine List.all_eq_true.mpr fun h hh => ?_
    rw [State.tick_head]
    rcases hready h hh with hown | ⟨hscan, hidle⟩
    · rw [Option.isNone_eq_false_iff.mpr (Option.isSome_iff_ne_none.mpr hown)]
      rfl
    · rw [hscan, hidle, Bool.or_self, Bool.and_false]
      rfl
  have hlatches : (((s.tick t).gen g).running && !((s.tick t).gen g).latched && decide (((s.tick t).gen g).tf ≤ (s.tick t).now + 500000) && !((s.tick t).headsOf g).isEmpty &&
      ((s.tick t).headsOf g).all (fun h => !(((s.tick t).head h).own.isNone && (((s.tick t).head h).scanning || ((s.tick t).head h).due)))) = true := by
    rw [hall, State.tick_gen, hrunning, hfree, decide_eq_true hdue, List.isEmpty_eq_false_iff.mpr hheads]
    rfl
  have hsome : ¬ ((s.tick t).takers g).isEmpty = true := by
    rw [List.isEmpty_iff]
    exact htakers
  generalize hlate : ((s.tick t).takers g).foldl State.lateHead (s.tick t) = late
  have hconcluded : State.LatchesSame (s.tick t) late := hlate ▸ .fold State.lateHead_latchesSame _ _
  have hmoved : State.LatchesSame (s.tick t) (late.moveScalers g) := hconcluded.trans (late.moveScalers_latchesSame g)
  have hflips : (late.moveScalers g).flipDue g = late.moveScalers g := by
    rw [State.flipDue, ((hmoved.groups g).2.trans hnext)]
  generalize htaken : (late.moveScalers g).takeSafety g = taken
  have hsame : State.LatchesSame (s.tick t) taken := htaken ▸ hmoved.trans (State.takeSafety_latchesSame _ g)
  have hsafety : (taken.grpC g).safety = s.comp.safety := htaken ▸ (State.takeSafety_takes _ g).trans hmoved.safety
  generalize hcopies : taken.takeCopies g ((late.grpC g).next.isSome && (taken.grpC g).next.isNone) ((taken.grpC g).safety != (late.grpC g).safety) bad = v
  refine ⟨v, ?_, hcopies ▸ hsame.trans (State.takeCopies_latchesSame _ _ _ _ _), hcopies ▸ (congrArg Group.safety (State.grpC_setGrpC _ _ _)).trans hsafety⟩
  show execLatchInstant t { sg := g, bad := bad } s = _
  rw [execLatchInstant, runIf_next (decide_eq_true hg)]
  dsimp only
  rw [if_pos hlatches, if_neg hsome, hlate, hflips, htaken, hcopies]

/-- Of the group's own, what its latch leaves: the generator's record, the safety configuration, and the heads that take part. -/
theorem State.latchGroup_leaves (v : State) (g : Nat) : (v.latchGroup g).gen g = v.latchedGen g ∧ ((v.latchGroup g).grpC g).safety = (v.grpC g).safety ∧
    (∀ h ∈ v.takers g, ((v.latchGroup g).head h).due = true) ∧ ∀ w, (v.latchGroup g).win w = (v.judgeGroup g).win w := by
  obtain ⟨hs, hlatched⟩ := v.latchGroup_eq g
  have hcomp : (v.latchGroup g).comp = { (v.judgeGroup g).comp with holds := hs } := by
    rw [hlatched]
    exact (State.setHolds_marks _ hs).1
  obtain ⟨hgens, hgroups, hdue⟩ := v.judgeGroup_sameFrame g
  have hgen : ∀ k, (v.latchGroup g).gen k = (v.latchReady g).gen k := fun k => by simp only [State.gen, hcomp, hgens]
  have hgroup : ∀ k, (v.latchGroup g).grpC k = (v.latchReady g).grpC k := fun k => by simp only [State.grpC, hcomp, hgroups]
  have hhead : ∀ k, (v.latchGroup g).head k = (v.judgeGroup g).head k := fun k => by simp only [State.head, hcomp]
  refine ⟨(hgen g).trans (v.latchReady_gen g), ?_, fun h hh => ?_, fun w => by simp only [State.win, hcomp]⟩
  · rw [hgroup, v.latchReady_safety]
  · rw [hhead, hdue, v.latchReady_due g hh]

/-- The frame for which the only window of a group is judged. -/
def State.latchFrame (s : State) (g u : Nat) (d : WindowDesc) (r : TimingRec) : FrameCtx :=
  { latch := s.clkOf ((s.gen g).tf - 500000), rec_ := r, heads := s.surface d.head, tf := (s.gen g).tf, lp := (s.gen g).lp, u := u, frame := s.frameOf d.head, trusted := s.trusted }

/-- The only window of a group is judged from the state in which the group has latched. -/
theorem State.judgeGroup_one {a v : State} {g : Nat} {d : WindowDesc} {r : TimingRec} (h : State.LatchesSame a v) (hone : a.groupWindows g = [d]) (htiming : (a.head d.head).timing = some r) :
    State.LatchesSame a (v.latchReady g) ∧ (v.judgeGroup g).win d.window = (v.latchReady g).judgedWin ((v.latchReady g).grpC g) (a.latchFrame g (v.frameU g) d r) d := by
  have hready : State.LatchesSame a (v.latchReady g) := h.trans (v.latchReady_latchesSame g)
  have hwindows : sortBy WindowDesc.window ((v.latchReady g).groupWindows g) = [d] := by
    rw [hready.groupWindows, hone]
    rfl
  have hframe : a.latchFrame g (v.frameU g) d r =
      { latch := (v.latchReady g).clkOf ((v.gen g).tf - 500000), rec_ := r, heads := (v.latchReady g).surface d.head, tf := (v.gen g).tf, lp := (v.gen g).lp
        u := v.frameU g, frame := (v.latchReady g).frameOf d.head, trusted := (v.latchReady g).trusted } := by
    rw [State.latchFrame, hready.clkOf, hready.surface, hready.frameOf, hready.trusted, (h.gens g).1, (h.gens g).2]
  refine ⟨hready, ?_⟩
  rw [State.judgeGroup, hwindows, List.foldl_cons, List.foldl_nil, hframe, ← State.evaluate_win]
  unfold State.judgeFrame
  rw [(hready.heads d.head).timing, htiming]

/-- A latch instant: the group's frame, its configuration and its heads, and the record of its only window (R37, R47, R49, R50, R57, R59, R61). -/
theorem latchInstant_judges {t : Time} {g : Nat} {bad : List LanternCopy} {s : State} (hg : g < 4) (hrunning : (s.gen g).running = true) (hfree : (s.gen g).latched = false)
    (hdue : (s.gen g).tf ≤ (s.tick t).now + 500000) (htakers : (s.tick t).takers g ≠ []) (hready : ∀ h ∈ (s.tick t).headsOf g, (s.head h).own ≠ none ∨ ((s.head h).scanning = false ∧ (s.head h).due = false))
    (hnext : (s.grpC g).next = none) :
    ∃ v, State.LatchesSame (s.tick t) v ∧ (v.grpC g).safety = s.comp.safety ∧ Completes (.latchInstant t { sg := g, bad := bad }) s fun u =>
      u.gen g = v.latchedGen g ∧ (u.grpC g).safety = s.comp.safety ∧ (∀ h ∈ (s.tick t).takers g, (u.head h).due = true) ∧
      ∀ (d : WindowDesc) (r : TimingRec), (s.tick t).groupWindows g = [d] → (s.head d.head).timing = some r →
        u.win d.window = (v.latchReady g).judgedWin ((v.latchReady g).grpC g) ((s.tick t).latchFrame g (v.frameU g) d r) d := by
  obtain ⟨v, hexec, hsame, hsafety⟩ := exec_latchInstant (bad := bad) hg hrunning hfree hdue htakers hready hnext
  obtain ⟨hgen, hgroup, hheads, hwins⟩ := v.latchGroup_leaves g
  refine ⟨v, hsame, hsafety, completes_comp hexec fun u hu => ⟨?_, ?_, fun h hh => ?_, fun d r hone htiming => ?_⟩⟩
  · rw [State.gen_of_comp hu, hgen]
  · rw [State.grpC, hu]
    exact hgroup.trans hsafety
  · rw [State.head_of_comp hu]
    exact hheads h (hsame.takers g ▸ hh)
  · rw [State.win_of_comp hu, hwins, (State.judgeGroup_one hsame hone htiming).2]

end Sys2Proof.Machine
end

section
/-! PROOF of the claim on frames, continued (spec/07_heads.md R206–R220): FRAME_START and FRAME_END. -/

namespace Sys2Proof.Machine

/-! What the parts of a frame's start and end leave of the heads and of the held pictures. -/

/-- The heads and the held pictures are in `b` as in `a`. -/
structure State.SameHeads (a b : State) : Prop where
  heads : b.comp.heads = a.comp.heads
  holds : b.comp.holds = a.comp.holds

namespace State.SameHeads

variable {a b c : State}

theorem refl (a : State) : State.SameHeads a a := ⟨rfl, rfl⟩

theorem trans (h : State.SameHeads a b) (k : State.SameHeads b c) : State.SameHeads a c := ⟨k.heads.trans h.heads, k.holds.trans h.holds⟩

theorem of_comp (h : b.comp = a.comp) : State.SameHeads a b := ⟨congrArg Comp.heads h, congrArg Comp.holds h⟩

theorem ite {s : State} {p : Prop} [Decidable p] (h : State.SameHeads s a) (k : State.SameHeads s b) : State.SameHeads s (if p then a else b) := by
  split
  · exact h
  · exact k

theorem fold {α : Type} {f : State → α → State} (h : ∀ s x, State.SameHeads s (f s x)) (l : List α) (s : State) : State.SameHeads s (l.foldl f s) :=
  foldl_keeps (P := State.SameHeads s) (fun b hb x _ => hb.trans (h b x)) (.refl s)

theorem head (h : State.SameHeads a b) (k : Nat) : b.head k = a.head k := by rw [State.head, h.heads]; rfl

end State.SameHeads

section
variable (s : State)

theorem State.setGen_sameHeads (g : Nat) (x : Gen) : State.SameHeads s (s.setGen g x) := ⟨rfl, rfl⟩

theorem State.genTo_sameHeads (g : Nat) (st : SyncState) : State.SameHeads s (s.genTo g st) := by
  unfold State.genTo
  extract_lets x
  exact .ite (.refl s) ((s.setGen_sameHeads g { x with state := st, bigRun := 0 }).trans (.of_comp (State.record_comp _ _ _)))

theorem State.reErr_sameHeads (g : Nat) : State.SameHeads s (s.reErr g) := by
  unfold State.reErr
  extract_lets x
  split
  · exact s.setGen_sameHeads g _
  · exact s.setGen_sameHeads g _

theorem State.reportLock_sameHeads (g : Nat) : State.SameHeads s (s.reportLock g) := by
  unfold State.reportLock
  extract_lets x reported
  have hreported : State.SameHeads s reported := .ite (s.genTo_sameHeads g .locked) (.refl s)
  exact .ite (.refl s) (hreported.trans (reported.setGen_sameHeads g _))

theorem State.beginFrame_sameHeads (g : Nat) : State.SameHeads s (s.beginFrame g) := by
  unfold State.beginFrame
  extract_lets x began
  have hbegan : State.SameHeads s ((s.setGen g began).reErr g) := (s.setGen_sameHeads g began).trans (State.reErr_sameHeads _ g)
  exact .ite (.refl s) (hbegan.trans (State.reportLock_sameHeads _ g))

theorem State.compShown_sameHeads (h tf : Nat) : State.SameHeads s (s.compShown h tf) := ⟨rfl, rfl⟩

end

/-! FRAME_START (R206, R207). -/

/-- What a frame's start fixes of a head's record is in `y` as in `x`. -/
structure Head.SameScan (x y : Head) : Prop where
  scanning : y.scanning = x.scanning
  due : y.due = x.due
  nextFrame : y.nextFrame = x.nextFrame
  tf : y.tf = x.tf
  broken : y.broken = x.broken
  disc : y.disc = x.disc

theorem Head.SameScan.refl (x : Head) : Head.SameScan x x := ⟨rfl, rfl, rfl, rfl, rfl, rfl⟩

/-- What a frame's start fixes of each head is in `b` as in `a`. -/
def State.SameScans (a b : State) : Prop := ∀ k, Head.SameScan (a.head k) (b.head k)

theorem State.SameScans.trans {a b c : State} (h : State.SameScans a b) (k : State.SameScans b c) : State.SameScans a c := fun n =>
  ⟨(k n).scanning.trans (h n).scanning, (k n).due.trans (h n).due, (k n).nextFrame.trans (h n).nextFrame, (k n).tf.trans (h n).tf, (k n).broken.trans (h n).broken, (k n).disc.trans (h n).disc⟩

theorem State.SameHeads.scans {a b : State} (h : State.SameHeads a b) : State.SameScans a b := fun k => h.head k ▸ .refl _

theorem State.setHead_sameScans (s : State) (h : Nat) (x : Head) (hx : Head.SameScan (s.head h) x := by constructor <;> rfl) : State.SameScans s (s.setHead h x) := fun k => by
  by_cases hk : k = h
  · subst hk
    rwa [State.head_setHead]
  · rw [State.head_setHead_other _ _ hk]
    exact .refl _

theorem State.headReasons_sameScans (s : State) (h : Nat) (retime : Bool) (tf n : Nat) : State.SameScans s (s.headReasons h retime tf n) :=
  (s.setHead_sameScans h { s.reasonedHead h retime tf with reason := topReason (s.reasonedHead h retime tf).mask }).trans (State.SameHeads.of_comp (s.headReasons_same h retime tf n).comp).scans

theorem State.aligned_sameScans (s : State) (h g : Nat) : State.SameScans s (s.aligned h g) := by
  unfold State.aligned
  extract_lets hd
  split
  · exact fun _ => .refl _
  · exact s.setHead_sameScans h _
  · exact (s.setHead_sameScans h { hd with realigned := none }).trans (State.SameHeads.of_comp (State.record_comp _ _ _)).scans

theorem State.leaderStarts_sameScans (s : State) (h : Nat) (r : TimingRec) : State.SameScans s (s.leaderStarts h r) := by
  unfold State.leaderStarts
  split
  · exact fun _ => .refl _
  · refine foldl_keeps (P := State.SameScans s) (fun b hb k _ => ?_) (fun _ => .refl _)
    split
    · exact hb.trans (b.setHead_sameScans k _)
    · exact hb

/-- The head's record once it starts the frame of its group, but for its reasons and its alignment. -/
def State.startedHead (s : State) (h : Nat) (r : TimingRec) : Head :=
  let x := s.head h
  let g := s.gen r.sg
  { x with
    due := false, scanning := true, early := false, nextFrame := (x.nextFrame + 1) % 281474976710656, tf := g.tf, lp := g.lp, e := 0
    dBases := [s.dB 0, s.dB 1], broken := false, first := false, reformat := s.reformats h r.sg
    disc := if x.broken then some x.nextFrame else x.disc, sending := x.hpd && x.link.isSome && x.training.isNone }

theorem State.startFrame_scans {s : State} {h : Nat} (r : TimingRec) (hown : (s.head h).own = none) : State.SameScans (s.setHead h (s.startedHead h r)) (s.startFrame h r) := by
  unfold State.startFrame
  extract_lets x lost g tf n retime ref started told done comp formatted shown
  have hlost : ¬ lost = true := by simp only [lost, x, hown]; exact Bool.false_ne_true
  have hstarted : started = s.setHead h (s.startedHead h r) := by
    have htf : tf = g.tf := by simp only [tf, x, hown]; rfl
    simp only [started, htf, if_neg hlost]
    rfl
  have htold : State.SameHeads started told := .ite (.of_comp (State.recordAt_comp _ _ _ _)) (.refl _)
  have hformatted : State.SameHeads told formatted := ⟨rfl, rfl⟩
  have hshown : State.SameScans started shown :=
    ((htold.trans hformatted).scans.trans (formatted.headReasons_sameScans h retime tf n)).trans (State.compShown_sameHeads _ h tf).scans
  rw [if_neg hlost, ← hstarted]
  exact ((hshown.trans (shown.aligned_sameScans h r.sg)).trans (State.beginFrame_sameHeads _ r.sg).scans).trans (State.leaderStarts_sameScans _ h r)

theorem exec_frameStart {t : Time} {h : Nat} {r : TimingRec} {s : State} (hh : h < 16) (htiming : (s.head h).timing = some r) (hon : (s.tick t).headOn h = true) (hidle : (s.head h).scanning = false)
    (hdue : (s.head h).due = true) (hown : (s.head h).own = none) (hat : (s.gen r.sg).tf ≤ (s.tick t).now) : exec (.frameStart t h) s = .next (settle (s.tick t) ((s.tick t).startFrame h r)) := by
  have hstarts : ((s.tick t).headOn h && !((s.tick t).head h).scanning && (((s.tick t).head h).due || ((s.tick t).head h).own.isSome) &&
      decide (((s.tick t).head h).own.getD ((s.tick t).gen r.sg).tf ≤ (s.tick t).now)) = true := by
    rw [hon, State.tick_head, State.tick_gen, hidle, hdue, hown]
    exact decide_eq_true hat
  show execFrameStart t h s = _
  rw [execFrameStart, runIf_next (decide_eq_true hh)]
  dsimp only
  rw [State.tick_head, htiming]
  dsimp only
  rw [← State.tick_head s t, if_pos hstarts]

/-- A head starts a due frame at the t_f of its group, with the next number (R206, R207). -/
theorem frameStart_starts {t : Time} {h : Nat} {r : TimingRec} {s : State} (hh : h < 16) (htiming : (s.head h).timing = some r) (hon : (s.tick t).headOn h = true) (hidle : (s.head h).scanning = false)
    (hdue : (s.head h).due = true) (hown : (s.head h).own = none) (hat : (s.gen r.sg).tf ≤ (s.tick t).now) : Completes (.frameStart t h) s fun u =>
      (u.head h).scanning = true ∧ (u.head h).due = false ∧ (u.head h).nextFrame = ((s.head h).nextFrame + 1) % 281474976710656 ∧ (u.head h).tf = (s.gen r.sg).tf ∧ (u.head h).broken = false ∧
      (u.head h).disc = (if (s.head h).broken then some (s.head h).nextFrame else (s.head h).disc) := by
  refine completes_comp (exec_frameStart hh htiming hon hidle hdue hown hat) fun u hu => ?_
  have hscan := (s.tick t).startFrame_scans (h := h) r hown h
  rw [State.head_setHead] at hscan
  rw [State.head_of_comp hu]
  exact ⟨hscan.scanning, hscan.due, hscan.nextFrame, hscan.tf, hscan.broken, hscan.disc⟩

/-! FRAME_END (R44, R206, R213, R217, R219). -/

/-- Of a head that has ended its frame, its number and its ring are in `y` as in `x`, and it scans no frame. -/
structure Head.StaysEnded (x y : Head) : Prop where
  nextFrame : y.nextFrame = x.nextFrame
  ring : y.ring = x.ring
  scanning : x.scanning = false → y.scanning = false

theorem Head.StaysEnded.refl (x : Head) : Head.StaysEnded x x := ⟨rfl, rfl, id⟩

/-- Heads that have ended their frames stay so, and the same pictures are held. -/
structure State.StaysEnded (a b : State) : Prop where
  heads : ∀ k, Head.StaysEnded (a.head k) (b.head k)
  holds : b.comp.holds = a.comp.holds

theorem State.SameHeads.ended {a b : State} (h : State.SameHeads a b) : State.StaysEnded a b := ⟨fun k => h.head k ▸ .refl _, h.holds⟩

namespace State.StaysEnded

variable {a b c : State}

theorem refl (a : State) : State.StaysEnded a a := (State.SameHeads.refl a).ended

theorem trans (h : State.StaysEnded a b) (k : State.StaysEnded b c) : State.StaysEnded a c :=
  ⟨fun n => ⟨(k.heads n).nextFrame.trans (h.heads n).nextFrame, (k.heads n).ring.trans (h.heads n).ring, fun hn => (k.heads n).scanning ((h.heads n).scanning hn)⟩, k.holds.trans h.holds⟩

theorem ite {s : State} {p : Prop} [Decidable p] (h : State.StaysEnded s a) (k : State.StaysEnded s b) : State.StaysEnded s (if p then a else b) := by
  split
  · exact h
  · exact k

theorem fold {α : Type} {f : State → α → State} (h : ∀ s x, State.StaysEnded s (f s x)) (l : List α) (s : State) : State.StaysEnded s (l.foldl f s) :=
  foldl_keeps (P := State.StaysEnded s) (fun b hb x _ => hb.trans (h b x)) (.refl s)

end State.StaysEnded

section
variable (s : State)

theorem State.setHead_staysEnded (h : Nat) (x : Head) (hnext : x.nextFrame = (s.head h).nextFrame := by rfl) (hring : x.ring = (s.head h).ring := by rfl)
    (hscan : (s.head h).scanning = false → x.scanning = false := by exact id) : State.StaysEnded s (s.setHead h x) where
  heads k := by
    by_cases hk : k = h
    · subst hk
      rw [State.head_setHead]
      exact ⟨hnext, hring, hscan⟩
    · rw [State.head_setHead_other _ _ hk]
      exact .refl _
  holds := rfl

theorem State.endOwn_staysEnded (h end_ : Nat) : State.StaysEnded s (s.endOwn h end_) := by
  unfold State.endOwn
  extract_lets x
  split
  · exact .refl s
  · exact .ite (s.setHead_staysEnded h _) (s.setHead_staysEnded h _)

theorem State.jump_staysEnded (g : Nat) (r : TimingRec) : State.StaysEnded s (s.jump g r) := by
  unfold State.jump
  extract_lets x
  split
  · extract_lets jumped
    exact (s.setGen_sameHeads g _).ended.trans (.fold (fun s h => .ite (s.setHead_staysEnded h _) (.refl s)) _ jumped)
  · exact .refl s

/-- A steered generator ends its frame with a jump or takes its next t_f. -/
theorem State.steerEnd_staysEnded {s v : State} {g : Nat} {r : TimingRec} {y : Gen} {p : Prop} [Decidable p] (hv : State.SameHeads s v) : State.StaysEnded s (if p then v.jump g r else v.setGen g y) :=
  .ite (hv.ended.trans (v.jump_staysEnded g r)) (hv.trans (v.setGen_sameHeads g y)).ended

theorem State.steer_staysEnded (g : Nat) (r : TimingRec) : State.StaysEnded s (s.steer g r) := by
  unfold State.steer
  dsimp only
  cases (s.gen g).state with
  | free => exact State.steerEnd_staysEnded (.refl s)
  | acquiring => exact State.steerEnd_staysEnded (.ite (s.genTo_sameHeads _ _) (.refl s))
  | locked => exact State.steerEnd_staysEnded (.ite (s.genTo_sameHeads _ _) (s.setGen_sameHeads _ _))
  | hold => exact State.steerEnd_staysEnded (.ite (s.setGen_sameHeads _ _) (.refl s))

theorem State.groupEnd_staysEnded (g : Nat) : State.StaysEnded s (s.groupEnd g) := by
  unfold State.groupEnd
  extract_lets x busy
  split
  · exact .ite (s.steer_staysEnded g _) (.refl s)
  · exact (s.setGen_sameHeads g _).ended

theorem State.loseAlignment_staysEnded (h : Nat) (r : TimingRec) : State.StaysEnded s (s.loseAlignment h r) := by
  unfold State.loseAlignment
  extract_lets x g next
  exact .ite (.refl s) ((s.setHead_staysEnded h _).trans (State.SameHeads.of_comp (State.record_comp _ _ _)).ended)

theorem State.leaderStops_staysEnded (h : Nat) (out : List Nat) : State.StaysEnded s (s.leaderStops h out) := by
  unfold State.leaderStops
  split
  · refine .ite (.refl s) (.fold (fun s k => ?_) _ s)
    split
    · exact .ite (s.loseAlignment_staysEnded _ _) (.refl s)
    · exact .refl s
  · exact .refl s

theorem State.withFormats_sameHeads (l : List FormatSet) : State.SameHeads s { s with comp := { s.comp with formats := l } } := ⟨rfl, rfl⟩

theorem State.endOldFormat_staysEnded (h : Nat) : State.StaysEnded s (s.endOldFormat h) := by
  unfold State.endOldFormat
  split
  · exact .refl s
  · extract_lets stopped x new train ended f'
    have hstopped : State.StaysEnded s stopped := s.leaderStops_staysEnded h _
    have hended : State.StaysEnded stopped (stopped.setHead h ended) := stopped.setHead_staysEnded h ended
    exact .ite (.refl s) ((hstopped.trans hended).trans (State.withFormats_sameHeads _ _).ended)

theorem State.restartGroup_sameHeads (f : FormatSet) (tr at_ g : Nat) : State.SameHeads s (s.restartGroup f tr at_ g) := by
  unfold State.restartGroup
  split
  · exact s.setGen_sameHeads g _
  · extract_lets x y tf restarted
    have hrestarted : State.SameHeads s restarted := (s.setGen_sameHeads g _).trans (State.genTo_sameHeads _ g _)
    exact .ite (.refl s) (hrestarted.trans (restarted.setGen_sameHeads g _))

theorem State.reassign_sameHeads (g : Nat) : State.SameHeads s (s.reassign g) := by
  unfold State.reassign
  extract_lets ws needs crop keep comp kept
  have hkept : State.SameHeads s kept := ⟨rfl, rfl⟩
  refine hkept.trans (.fold (fun s e => .ite (.refl s) ?_) _ kept)
  exact ⟨rfl, rfl⟩

theorem State.regroup_sameHeads (g : Nat) : State.SameHeads s (s.regroup g) := by
  unfold State.regroup
  extract_lets x grouped
  have hgrouped : State.SameHeads s grouped := .ite (.refl s) ⟨rfl, rfl⟩
  exact hgrouped.trans (grouped.reassign_sameHeads g)

theorem State.restartFormats_staysEnded : State.StaysEnded s s.restartFormats := by
  unfold State.restartFormats
  refine .fold (fun s f => ?_) _ s
  extract_lets hs tr at_ headed grouped live
  have hheaded : State.StaysEnded s headed := .fold (fun s q => s.setHead_staysEnded q.head _ (hscan := fun _ => rfl)) f.recs s
  have hgrouped : State.SameHeads headed grouped := .fold (fun s g => (s.restartGroup_sameHeads f tr at_ g).trans (State.regroup_sameHeads _ g)) f.groups headed
  exact .ite (.refl s) ((hheaded.trans hgrouped.ended).trans (State.withFormats_sameHeads _ _).ended)

/-- What follows a frame that has ended: the next frame of an unaligned follower, the group's next t_f, and a format change. -/
theorem State.afterFrame_staysEnded (h end_ g : Nat) : State.StaysEnded s (((s.endOwn h end_).groupEnd g).endOldFormat h).restartFormats :=
  (((s.endOwn_staysEnded h end_).trans (State.groupEnd_staysEnded _ g)).trans (State.endOldFormat_staysEnded _ h)).trans (State.restartFormats_staysEnded _)

end

/-! What a head writes, and whom it hands its frame to. -/

section
variable (s : State)

theorem State.issueSource_sameHeads (i : Nat) (p : Picture) (capture : Int) : State.SameHeads s (s.issueSource i p capture) := by
  unfold State.issueSource
  extract_lets x alive slot g
  exact .of_comp (State.recordTagged_same _ g).comp

theorem State.loopback_sameHeads (r : TimingRec) (h : Nat) (recs : List TileRec) : State.SameHeads s (s.loopback r h recs) := by
  unfold State.loopback
  extract_lets hd px caps cap
  exact .fold (fun s i => .ite (s.issueSource_sameHeads i _ _) (.refl s)) _ s

theorem State.endWindows_sameHeads (r : TimingRec) (h : Nat) : State.SameHeads s (s.endWindows r h) := by
  unfold State.endWindows
  refine .fold (fun b d => ?_) _ s
  exact ⟨rfl, rfl⟩

theorem State.boundQp_comp (c : Nat) : (s.boundQp c).comp = s.comp := by
  unfold State.boundQp
  extract_lets x top bounded
  split
  · split
    · rfl
    · exact State.record_comp _ _ _
  · split <;> rfl

theorem State.startCoding_comp (e : Nat) : (s.startCoding e).comp = s.comp := by
  unfold State.startCoding
  split
  · rfl
  · extract_lets ready
    split
    · exact s.boundQp_comp _
    · rfl

theorem State.countDrop_comp (c : Nat) : (s.countDrop c).comp = s.comp := State.record_comp _ _ _

theorem State.takeCopy_comp (c : Nat) (w : Copy) : (s.takeCopy c w).comp = s.comp := by
  unfold State.takeCopy
  extract_lets x dropped
  have hdropped : dropped.comp = s.comp := by
    simp only [dropped]
    split
    · exact s.countDrop_comp c
    · rfl
  exact (State.startCoding_comp _ _).trans hdropped

theorem State.copyFrame_comp (h : Nat) (r : TimingRec) : (s.copyFrame h r).comp = s.comp := by
  unfold State.copyFrame
  extract_lets lead
  split
  · rfl
  · refine foldl_keeps (P := fun b : State => b.comp = s.comp) (fun b hb c _ => ?_) rfl
    extract_lets x
    split
    · split
      · exact (b.takeCopy_comp _ _).trans hb
      · exact hb
    · exact hb

end

/-- A head that has written its frame scans none, and the frame's tile records are the newest of its ring (R44, R206). -/
theorem State.writeFrame_head (s : State) (r : TimingRec) (h : Nat) :
    ((s.writeFrame r h).head h).scanning = false ∧ ((s.writeFrame r h).head h).nextFrame = (s.head h).nextFrame ∧ ((s.writeFrame r h).head h).ring.getLast?.map (·.1) = some ((s.head h).nextFrame - 1) := by
  unfold State.writeFrame
  extract_lets recs x cmp under out sent written
  have hwritten : (written.loopback r h recs).head h = written.head h := (written.loopback_sameHeads r h recs).head h
  rw [hwritten, State.head_setHead]
  refine ⟨rfl, rfl, ?_⟩
  rw [List.drop_append_of_le_length (by omega), List.getLast?_append]
  rfl

theorem State.releaseHolds_comp (s : State) (h n : Nat) : (s.releaseHolds h n).comp = { s.comp with holds := s.comp.holds.filter fun e => e.head != h || (e.safety && decide (n ≤ e.frame)) } := (s.setHolds_marks _).1

theorem State.releaseHolds_head (s : State) (h n k : Nat) : (s.releaseHolds h n).head k = s.head k := by
  simp only [State.head, s.releaseHolds_comp h n]

theorem State.mem_releaseHolds {s : State} {h n : Nat} {e : Hold} (he : e ∈ (s.releaseHolds h n).comp.holds) (heq : e.head = h) : e.safety = true ∧ n ≤ e.frame := by
  rw [s.releaseHolds_comp h n] at he
  simpa [heq] using (List.mem_filter.mp he).2

/-- The windows of the head's surface where it is the last to end the frame. -/
def State.windowsEnd (s : State) (r : TimingRec) (h : Nat) : State := if s.surfaceEnds r h then s.endWindows r (r.leader h) else s

/-- A head that has written its frame and released its pictures. -/
def State.frameLeft (s : State) (h : Nat) (r : TimingRec) : State := ((s.writeFrame r h).windowsEnd r h).releaseHolds h ((s.head h).nextFrame - 1)

theorem State.finishFrame_eq (s : State) (h : Nat) (r : TimingRec) :
    s.finishFrame h r = ((((s.frameLeft h r).endOwn h (frameEnd r (s.head h).tf (s.head h).lp)).groupEnd r.sg).endOldFormat h).restartFormats := rfl

theorem State.windowsEnd_sameHeads (s : State) (r : TimingRec) (h : Nat) : State.SameHeads s (s.windowsEnd r h) := .ite (s.endWindows_sameHeads r _) (.refl s)

theorem State.frameLeft_head (s : State) (h : Nat) (r : TimingRec) : (s.frameLeft h r).head h = (s.writeFrame r h).head h :=
  (State.releaseHolds_head _ h _ h).trans (((s.writeFrame r h).windowsEnd_sameHeads r h).head h)

/-- A head's frame ends into its ring, with its holds released but for Lantern's of the frame (R44, R206, Table 5-5). -/
theorem State.finishFrame_ends (s : State) (h : Nat) (r : TimingRec) :
    ((s.finishFrame h r).head h).scanning = false ∧ ((s.finishFrame h r).head h).nextFrame = (s.head h).nextFrame ∧
    ((s.finishFrame h r).head h).ring.getLast?.map (·.1) = some ((s.head h).nextFrame - 1) ∧
    ∀ e ∈ (s.finishFrame h r).comp.holds, e.head = h → e.safety = true ∧ (s.head h).nextFrame - 1 ≤ e.frame := by
  obtain ⟨hscanning, hnext, hring⟩ := s.writeFrame_head r h
  have hended := (s.frameLeft h r).afterFrame_staysEnded h (frameEnd r (s.head h).tf (s.head h).lp) r.sg
  rw [← s.finishFrame_eq h r] at hended
  have hhead := hended.heads h
  rw [s.frameLeft_head h r] at hhead
  refine ⟨hhead.scanning hscanning, hhead.nextFrame.trans hnext, ?_, fun e he => ?_⟩
  · rw [hhead.ring]
    exact hring
  · rw [hended.holds] at he
    exact State.mem_releaseHolds he

theorem exec_frameEnd {t : Time} {h : Nat} {r : TimingRec} {s : State} (hh : h < 16) (htiming : (s.head h).timing = some r) (hon : (s.tick t).headOn h = true) (hscan : (s.head h).scanning = true)
    (hat : frameEnd r (s.head h).tf (s.head h).lp ≤ (s.tick t).now) : exec (.frameEnd t h) s = .next (settle (s.tick t) (((s.tick t).copyFrame h r).finishFrame h r)) := by
  have hends : ((s.tick t).headOn h && ((s.tick t).head h).scanning && decide (frameEnd r ((s.tick t).head h).tf ((s.tick t).head h).lp ≤ (s.tick t).now)) = true := by
    rw [hon, State.tick_head, hscan]
    exact decide_eq_true hat
  show execFrameEnd t h s = _
  rw [execFrameEnd, runIf_next (decide_eq_true hh)]
  rw [State.tick_head, htiming]
  dsimp only
  rw [← State.tick_head s t, if_pos hends]

/-- A head ends its frame (R44, R206, Table 5-5). -/
theorem frameEnd_ends {t : Time} {h : Nat} {r : TimingRec} {s : State} (hh : h < 16) (htiming : (s.head h).timing = some r) (hon : (s.tick t).headOn h = true) (hscan : (s.head h).scanning = true)
    (hat : frameEnd r (s.head h).tf (s.head h).lp ≤ (s.tick t).now) : Completes (.frameEnd t h) s fun u =>
      (u.head h).scanning = false ∧ (u.head h).nextFrame = (s.head h).nextFrame ∧ (u.head h).ring.getLast?.map (·.1) = some ((s.head h).nextFrame - 1) ∧
      ∀ e ∈ u.comp.holds, e.head = h → e.safety = true ∧ (s.head h).nextFrame - 1 ≤ e.frame := by
  refine completes_comp (exec_frameEnd hh htiming hon hscan hat) fun u hu => ?_
  have hcopied : ((s.tick t).copyFrame h r).head h = s.head h := State.head_of_comp ((s.tick t).copyFrame_comp h r) h
  rw [State.head_of_comp hu, hu, ← hcopied]
  exact State.finishFrame_ends _ h r

end Sys2Proof.Machine
end

section
/-! PROOF of the claim on frames, concluded (spec/02_freshness.md R37–R64, spec/07_heads.md R206–R217): LINE_DEADLINE, HEAD_PANIC and the claim. -/

namespace Sys2Proof.Machine

/-! LINE_DEADLINE (R215, R216). -/

/-- A window is off from a line of head `h` on. -/
def State.offFrom (s : State) (h line : Nat) (late : List Nat) (r : TimingRec) (d : WindowDesc) : Bool :=
  !(d.head != r.leader h || (s.win d.window).latched.isNone || !(late.contains d.window || s.starved d r || (s.win d.window).refused || s.prot.halted.contains (18 + h / 2)) || rectEmpty (onHead d r h) ||
    !((onHead d r h).2.1 ≤ (line : Int) && (line : Int) < (onHead d r h).2.2.2))

/-- What a line's deadline does to one window. -/
def State.lineWindow (h line : Nat) (late : List Nat) (r : TimingRec) (s : State) (d : WindowDesc) : State := if s.offFrom h line late r d then s.switchOff h line d else s

/-- A window that is on in the frame is switched off: from its first line on one head, with its run counted and its condition set. -/
theorem State.switchOff_first (s : State) (h line : Nat) {d : WindowDesc} (hfirst : (s.win d.window).offAt = []) :
    (((s.switchOff h line d).win d.window).offAt = [(h, line)] ∧ ((s.switchOff h line d).win d.window).run = (s.win d.window).run + 1) ∧ bit (s.switchOff h line d).health.conditions 0 = true := by
  unfold State.switchOff
  extract_lets w first run due w' set health off
  have hempty : first = true := by simp only [first, w, hfirst, List.isEmpty_nil]
  have hoff : w'.offAt = [(h, line)] := by
    simp only [w', w, hfirst]
    rfl
  have hrun : w'.run = (s.win d.window).run + 1 := by
    simp only [w', run, if_pos hempty]
    rfl
  have hcomp : off.win d.window = w' := State.win_setWin s d.window w'
  have hbit : bit off.health.conditions 0 = true := bit_setBit_same _ _ _
  split
  · rw [State.win_of_comp (State.record_comp _ _ _), State.record_health, hcomp]
    exact ⟨⟨hoff, hrun⟩, hbit⟩
  · rw [hcomp]
    exact ⟨⟨hoff, hrun⟩, hbit⟩

section
variable {t : Time} {h line : Nat} {late : List Nat} {r : TimingRec} {s : State} (hh : h < 16) (htiming : (s.head h).timing = some r) (hon : (s.tick t).headOn h = true)
include hh htiming hon

theorem exec_lineDeadline : exec (.lineDeadline t h line late) s = .next (settle (s.tick t) (match (s.tick t).frameTimes h r with
    | none => s.tick t
    | some (tf, lp) => if (s.tick t).now < Machine.lineDeadline tf lp line then s.tick t else ((s.tick t).groupWindows r.sg).foldl (State.lineWindow h line late r) (s.tick t))) := by
  show execLineDeadline t h line late s = _
  rw [execLineDeadline, runIf_next (decide_eq_true hh)]
  dsimp only
  rw [State.tick_head, htiming]
  dsimp only
  cases (s.tick t).frameTimes h r with
  | none => rfl
  | some times =>
    have hlate : (!(s.tick t).headOn h || decide ((s.tick t).now < Machine.lineDeadline times.1 times.2 line)) = decide ((s.tick t).now < Machine.lineDeadline times.1 times.2 line) := by rw [hon, Bool.not_true, Bool.false_or]
    have hstep : (fun (s : State) (d : WindowDesc) =>
        if d.head != r.leader h || (s.win d.window).latched.isNone || !(late.contains d.window || s.starved d r || (s.win d.window).refused || s.prot.halted.contains (18 + h / 2)) || rectEmpty (onHead d r h) ||
          !((onHead d r h).2.1 ≤ (line : Int) && (line : Int) < (onHead d r h).2.2.2) then s else s.switchOff h line d) = State.lineWindow h line late r := by
      funext v d
      unfold State.lineWindow State.offFrom
      cases (_ || _ : Bool) <;> rfl
    dsimp only
    simp only [hlate, hstep, decide_eq_true_eq]

/-- A line for which no window is late, starved, refused or halted. -/
theorem lineDeadline_quiet (hfed : ∀ d ∈ (s.tick t).groupWindows r.sg, (s.tick t).starved d r = false ∧ (s.win d.window).refused = false) (hhalted : s.prot.halted.contains (18 + h / 2) = false) :
    Leaves (.lineDeadline t h line []) s (s.tick t) := by
  have hnone : ((s.tick t).groupWindows r.sg).foldl (State.lineWindow h line [] r) (s.tick t) = s.tick t := by
    refine foldl_keeps (P := (· = s.tick t)) (fun b hb d hd => ?_) rfl
    obtain ⟨hscaled, hread⟩ := hfed d hd
    subst hb
    have hstays : (s.tick t).offFrom h line [] r d = false := by
      have hread' : ((s.tick t).win d.window).refused = false := hread
      have hhalted' : (s.tick t).prot.halted.contains (18 + h / 2) = false := hhalted
      rw [State.offFrom, hscaled, hread', hhalted']
      simp
    rw [State.lineWindow, hstays]
    rfl
  refine leaves_tick ((exec_lineDeadline hh htiming hon).trans ?_)
  rw [hnone]
  split
  · rfl
  · rw [ite_self]

/-- A window late for a line of the frame is off from it (R216). -/
theorem lineDeadline_late {d : WindowDesc} (hone : (s.tick t).groupWindows r.sg = [d]) (hscan : (s.head h).scanning = true) (hat : Machine.lineDeadline (s.head h).tf (s.head h).lp line ≤ (s.tick t).now)
    (hlead : d.head = r.leader h) (hlatched : (s.win d.window).latched ≠ none) (hlate : d.window ∈ late) (harea : rectEmpty (onHead d r h) = false) (htop : (onHead d r h).2.1 ≤ (line : Int))
    (hbottom : (line : Int) < (onHead d r h).2.2.2) (hfirst : (s.win d.window).offAt = []) : Completes (.lineDeadline t h line late) s fun u =>
      (u.win d.window).offAt = [(h, line)] ∧ (u.win d.window).run = (s.win d.window).run + 1 ∧ bit u.health.conditions 0 = true := by
  have htimes : (s.tick t).frameTimes h r = some ((s.head h).tf, (s.head h).lp) := by
    rw [State.frameTimes, State.tick_head, hscan]
    rfl
  have hoff : (s.tick t).offFrom h line late r d = true := by
    have hlatched' : ((s.tick t).win d.window).latched.isNone = false := Option.isNone_eq_false_iff.mpr (Option.isSome_iff_ne_none.mpr hlatched)
    rw [State.offFrom, hlead, bne_self_eq_false, hlatched', List.contains_iff_mem.mpr hlate, harea, decide_eq_true htop, decide_eq_true hbottom]
    rfl
  have hexec : exec (.lineDeadline t h line late) s = .next (settle (s.tick t) ((s.tick t).switchOff h line d)) := by
    rw [exec_lineDeadline hh htiming hon, htimes, hone]
    dsimp only
    rw [if_neg (Nat.not_lt.mpr hat), List.foldl_cons, List.foldl_nil, State.lineWindow, if_pos hoff]
  obtain ⟨hwin, hhealth⟩ := (s.tick t).switchOff_first h line hfirst
  refine ⟨_, hexec, ?_⟩
  beta_reduce
  rw [State.win_of_comp (settle_comp _ _), settle_health]
  exact ⟨hwin.1, hwin.2, hhealth⟩

end

/-! HEAD_PANIC (R215). -/

section
variable {t : Time} {h : Nat} {line : Option Nat} {r : TimingRec} {s : State} (hh : h < 16) (htiming : (s.head h).timing = some r) (hon : (s.tick t).headOn h = true)
include hh htiming hon

theorem exec_headPanic : exec (.headPanic t h line) s = .next (settle (s.tick t)
    (if !(s.head h).panic && ((s.tick t).lead h r line).any (fun n => decide (n < 50000)) then
      (s.tick t).setHead h { s.head h with panic := true, panics := sat 4 ((s.head h).panics + 1) }
    else if (s.head h).panic && ((s.tick t).lead h r line).all (fun n => decide (150000 ≤ n)) then (s.tick t).setHead h { s.head h with panic := false }
    else s.tick t)) := by
  have hhead : ¬ (!(s.tick t).headOn h) = true := by rw [hon]; exact Bool.false_ne_true
  show execHeadPanic t h line s = _
  rw [execHeadPanic, runIf_next (decide_eq_true hh)]
  dsimp only
  rw [State.tick_head, htiming]
  dsimp only
  rw [if_neg hhead]
  cases (s.tick t).lead h r line <;> rfl

/-- Panic is raised below a lead of 50 µs. -/
theorem headPanic_raised {l : Int} (hcalm : (s.head h).panic = false) (hlead : (s.tick t).lead h r line = some l) (hlow : l < 50000) :
    Leaves (.headPanic t h line) s ((s.tick t).setHead h { s.head h with panic := true, panics := sat 4 ((s.head h).panics + 1) }) := by
  refine leaves_settled (exec_headPanic hh htiming hon) ?_
  have hraises : ((s.tick t).lead h r line).any (fun n => decide (n < 50000)) = true := by
    rw [hlead]
    exact decide_eq_true hlow
  rw [hcalm, hraises, Bool.not_false, Bool.and_self, if_pos rfl]
  exact .refl _

/-- Panic is lowered at a lead of 150 µs. -/
theorem headPanic_lowered (hpanic : (s.head h).panic = true) (hhigh : ∀ l, (s.tick t).lead h r line = some l → 150000 ≤ l) :
    Leaves (.headPanic t h line) s ((s.tick t).setHead h { s.head h with panic := false }) := by
  refine leaves_settled (exec_headPanic hh htiming hon) ?_
  have hends : ((s.tick t).lead h r line).all (fun n => decide (150000 ≤ n)) = true := by simpa [Option.all_eq_true] using hhigh
  rw [hpanic, Bool.not_true, Bool.false_and, if_neg Bool.false_ne_true, hends, Bool.and_self, if_pos rfl]
  exact .refl _

/-- A head with a lead of 50 µs or more stays calm. -/
theorem headPanic_calm (hcalm : (s.head h).panic = false) (hhigh : ∀ l, (s.tick t).lead h r line = some l → 50000 ≤ l) : Leaves (.headPanic t h line) s (s.tick t) := by
  refine leaves_settled (exec_headPanic hh htiming hon) ?_
  have hstays : ((s.tick t).lead h r line).any (fun n => decide (n < 50000)) = false := by simpa [Option.any_eq_false] using hhigh
  rw [hcalm, hstays, Bool.and_false, Bool.false_and, if_neg Bool.false_ne_true, if_neg Bool.false_ne_true]
  exact .refl _

end

/-! The claim. -/

/-- The judged window of a group that latches (R37, R47, R49, R50, R57, R59). -/
theorem State.LatchesSame.judges {a v : State} {g : Nat} {d : WindowDesc} {r : TimingRec} (h : State.LatchesSame a (v.latchReady g)) {pol : Policy} (hpol : ((v.latchReady g).grpC g).safety.policy d.policy = pol)
    {w : Win} (hw : w = (v.latchReady g).judgedWin ((v.latchReady g).grpC g) (a.latchFrame g (v.frameU g) d r) d) :
    w.latched = (if (a.win d.window).badTag then (a.win d.window).latched.filter fun p => p.tag.source == d.source && a.shows d.source else a.latchOf (a.clkOf ((a.gen g).tf - 500000)) d) ∧
    w.frame = a.frameOf d.head ∧ w.offAt = [] ∧ w.shown = topReason w.active ∧ bit w.active 3 = w.latched.isNone ∧ bit w.active 12 = (a.win d.window).shed ∧
    ∀ p tw, w.latched = some p → tw = rowInstant (a.gen g).tf (a.gen g).lp (evalRow d r (a.surface d.head)) → w.ageUs = ageUs p.tag tw (v.frameU g) ∧
      (pol.ageLimit < ageUs p.tag tw (v.frameU g) → bit w.active 1 = true) ∧ (pol.freezeLimit * 1000000 < tw - p.tag.advance → bit w.active 2 = true) ∧
      (bit pol.control 0 = true → p.tag.trusted a.trusted = false → bit w.active 5 = true) ∧ (bit pol.control 0 = false → bit w.active 5 = false) := by
  have hlatched : w.latched = a.latchedFor (a.latchFrame g (v.frameU g) d r) d := by rw [hw, State.judgedWin_latched, h.latchedFor]
  subst hw
  refine ⟨hlatched, State.judgedWin_frame _ _ _ _, State.judgedWin_offAt _ _ _ _, rfl, ?_, ?_, fun p tw hp htw => ?_⟩
  · rw [State.judgedWin_latched]
    exact State.reasonsFor_noSource _ _ _ _
  · exact (State.reasonsFor_shed _ _ _ _).trans (h.wins d.window).shed
  · rw [State.judgedWin_latched] at hp
    subst htw
    exact State.judgedWin_checks _ _ _ _ hp hpol

/-- Settles O53: a latch instant judges its window from the configuration it takes, a frame's start and end fix the head's record, and lines and leads decide on underruns and panic. -/
theorem frameEventsComplete : Obligations.FrameEventsComplete := by
  unfold Obligations.FrameEventsComplete
  refine ⟨fun t g bad s hg hrunning hfree hdue htakers hready hnext => ?_, fun t h r s hh htiming hon => ⟨frameStart_starts hh htiming hon, frameEnd_ends hh htiming hon, fun line => ?_, fun line late d => ?_⟩,
    fun t h r line s hh htiming hon => ⟨fun l => headPanic_raised hh htiming hon, headPanic_lowered hh htiming hon, headPanic_calm hh htiming hon⟩⟩
  · obtain ⟨v, hsame, hsafety, u, hu, hgen, hgroup, hheads, hwins⟩ := latchInstant_judges (bad := bad) hg hrunning hfree hdue htakers hready hnext
    have hframe : (u.gen g).u = v.frameU g := congrArg Gen.u hgen
    refine ⟨u, hu, congrArg Gen.latched hgen, (congrArg Gen.tf hgen).trans (hsame.gens g).1, hgroup, fun h hh hown hat => hheads h ?_, fun d r w pol hone htiming hw hpol => ?_⟩
    · exact List.mem_filter.mpr ⟨hh, by rw [State.tick_head, State.tick_gen, hown]; exact decide_eq_true hat⟩
    · rw [hframe]
      refine State.LatchesSame.judges (a := s.tick t) (hsame.trans (v.latchReady_latchesSame g)) (r := r) ?_ (hw.trans (hwins d r hone htiming))
      rw [v.latchReady_safety, hsafety, hpol]
  · exact lineDeadline_quiet hh htiming hon
  · exact fun hone hscan hat hlead hlatched hlate harea htop hbottom hfirst => lineDeadline_late hh htiming hon hone hscan hat hlead hlatched hlate harea htop hbottom hfirst

end Sys2Proof.Machine
end
